-- ==== Sys2Proof/Word.lean ====
section
/-! DEFINITION. The word types of the device (R15: little-endian bytes, 32-bit and 64-bit words). -/
namespace Sys2Proof

/-- A byte of memory. -/
abbrev Byte := BitVec 8

/-- A 32-bit word: a scalar register, a vector lane, an FP32 pattern. -/
abbrev Word := BitVec 32

/-- A 64-bit word: a page register, a predicate, an INT64. -/
abbrev DWord := BitVec 64

end Sys2Proof
end

