-- ==== Sys2Proof/Syntax.lean ====
section
/-! DEFINITION. The commands of the block: one constructor of `Instr` per row of the opcode table, and the operand records
they carry. A core is named by its physical ID, a partition and a tenant by their IDs, a port by its instance number. -/
namespace Sys2Proof

/-- Who makes a register access or gives a partition command (R379, R467): the device key, a tenant key, code of a
physical core, or the firmware. -/
inductive Requester where
  | deviceKey
  | tenantKey (tenant : Nat)
  | coreCode (core : Nat)
  | firmware
  deriving DecidableEq, Repr

/-- The fields of a matrix slot but its op (Table 4.2). -/
structure MFields where
  ad : BitVec 3
  acc : Bool
  fmt : BitVec 4
  blk : Bool
  mm : BitVec 6
  rs : BitVec 5
  rstr : BitVec 5
  off : BitVec 24
  rsc : BitVec 5
  deriving DecidableEq, Repr

/-- The fields of a vector slot but its op (Table 4.4). -/
structure VFields where
  vd : BitVec 6
  va : BitVec 6
  vb : BitVec 6
  vc : BitVec 6
  psel : BitVec 3
  pinv : Bool
  rs : BitVec 5
  fmt : BitVec 4
  func : BitVec 4
  imm : BitVec 16
  deriving DecidableEq, Repr

/-- The fields of a special-function slot but its op (Table 4.6). -/
structure SfFields where
  vd : BitVec 6
  va : BitVec 6
  vb : BitVec 6
  vc : BitVec 6
  psel : BitVec 3
  pinv : Bool
  fid : BitVec 6
  tver : BitVec 8
  deriving DecidableEq, Repr

/-- The fields of a move slot but its op, mode and ATOM function (Table 4.9). -/
structure MvFields where
  psel : BitVec 3
  pinv : Bool
  grp : BitVec 3
  rsrc : BitVec 5
  rdst : BitVec 5
  rshp : BitVec 5
  sfmt : BitVec 4
  dfmt : BitVec 4
  rsc : BitVec 5
  afv : Bool
  af : BitVec 6
  tile : BitVec 3
  deriving DecidableEq, Repr

/-- The fields of a sync slot but its op (R124). -/
structure SyFields where
  rd : BitVec 5
  rs : BitVec 5
  imm : BitVec 16
  deriving DecidableEq, Repr

/-- What the firmware sets before the device is ready (the registers whose After cold entry is "firmware", R429): the
attached T2 bytes, the fabric device ID, the PORT.CFG value of each optical port, each tenant's QP quota, the twin store,
the time sources and the device key (R379); the lanes with which each optical port has trained; the slices that the T0 self-test failed. -/
structure FirmwareSetup where
  t2Bytes : Nat
  fabricId : Nat
  portCfg : List (Nat × Nat)
  quotas : List (Nat × Nat)
  storeBase : Nat
  storeChannels : Nat
  slotLen : Nat
  sources : Nat
  deviceKey : Word
  lanes : List (Nat × Nat)
  t0Failed : List Nat
  deriving DecidableEq, Repr

/-- A time word as received (R440), times in 1/8 ticks of fabric time: the sender's count at its sending, this device's count at
its arrival, this device's count at the sending of the opposite word and the other side's count at its arrival; the sender's
depth and lock state. -/
structure TimeWordIn where
  sent : Nat
  arrived : Nat
  backSent : Nat
  backArrived : Nat
  depth : Nat
  state : Nat
  deriving DecidableEq, Repr

/-- Where a page of a request lies (Table 10.3). -/
inductive PageLoc where
  | frame (f : Nat)
  | spill (k : Nat)
  deriving DecidableEq, Repr

/-- A prefix handle (R224): its frames, its positions, its variant. -/
structure Handle where
  frames : List Nat
  n : Nat
  variant : Option Nat
  deriving DecidableEq, Repr

/-- One change of the KV plan that a launch carries (R220). -/
inductive KvAct where
  /-- Page `page` of member `m` of a group is a frame whose count rises by one. -/
  | share (g m page f : Nat)
  /-- Page `page` of member `m` gets a new frame. -/
  | alloc (g m page f : Nat)
  /-- Copy on write (R225): the page moves from frame `old` to a new frame `f` that holds a copy. -/
  | copy (g m page old f : Nat)
  /-- The page's reference or spill slot is released. -/
  | drop (g m page : Nat) (loc : PageLoc)
  /-- The page's frame is moved into a spill slot (R230). -/
  | spill (g m page f k : Nat)
  /-- The page's spill slot is moved back into a frame (R230). -/
  | fill (g m page k f : Nat)
  /-- A variant's stored pages are loaded into frames (R226). -/
  | variant (g slot v : Nat) (frames : List Nat)
  /-- The group drops its reference on a variant (R226). -/
  | dropVariant (g slot v : Nat)
  /-- A handle is made over frames (R224). -/
  | handle (g h : Nat) (x : Handle)
  /-- A handle is released (R224). -/
  | dropHandle (g h : Nat)
  deriving DecidableEq, Repr

/-- A step launch message as a device of the instance receives it (R220, R240): step_seq, the stamped pennant, the KV plan,
and the leader's frames and spill slots of each KV group (group, frames, spill slots). -/
structure LaunchMsg where
  seq : Nat
  pennant : Nat
  plan : List KvAct
  groups : List (Nat × Nat × Nat)
  deriving DecidableEq, Repr

/-- The final stage's results for one batch slot (R241, R242, R244): the main head's logits of each row, by vocabulary shard
and by block of R176; each row's fox-head logits; the page of the request in whose frame attention met an uncorrectable
error (R232). -/
structure SlotResult where
  rows : List (List (List (List Word)))
  fox : List (List (List Word))
  lost : Option Nat
  deriving DecidableEq, Repr

/-- What a frame on a host port carries (R371). An ARP request or a neighbour solicitation says whether it is for the port's
own address. -/
inductive FrameKind where
  | udp (port : Nat)
  | arp (own : Bool)
  | neighbour (own : Bool)
  | echo
  | ptp
  | lldp
  | pfc
  | other
  deriving DecidableEq, Repr

/-- A frame on a host port (R371): what it carries, its 802.1Q tags, the bytes of its IP packet, its priority, and the bytes
that the receive buffer of that priority then holds (R374). -/
structure HostFrame where
  kind : FrameKind
  tags : Nat
  ipBytes : Nat
  priority : Nat
  backlog : Nat
  deriving DecidableEq, Repr

/-- A heartbeat of the den link (Table 20.2); `state` is its state byte. -/
structure Heartbeat where
  sendTime : DWord
  seq : Word
  state : Nat
  device : Nat
  serial : DWord
  fwCount : Word
  deriving DecidableEq, Repr

/-- What a scan of a channel finds in a slot (R425): its step (-1 where the slot is not valid) and its manifest's pennant. -/
structure SlotScan where
  step : Int
  pennant : Nat
  deriving DecidableEq, Repr

/-- A checkpoint message of the den link (R422, R425, R426). To the holder: zero the manifest of a slot for a writing partition;
bytes of the slot; a scan of a channel for a run; a pull of a slot. To the writer: the zeroing is acknowledged, or refused for
BUSY; every data byte is acknowledged; the scan's two slots. -/
inductive CkptMsg where
  | clear (channel slot writer : Nat)
  | data (channel slot off : Nat) (bytes : List Byte)
  | scan (channel pid : Nat) (runId : DWord)
  | pull (channel slot pid : Nat)
  | cleared (pid : Nat) (busy : Bool)
  | dataAcked (pid : Nat)
  | scanned (pid : Nat) (a b : SlotScan)
  deriving DecidableEq, Repr

/-- The end of a checkpoint (R422): its manifest at the holder, or the holder's answer at the writer. -/
inductive CkptEnd where
  | manifest (channel slot : Nat) (bytes : List Byte)
  | answer (pid : Nat) (ok : Bool)
  deriving DecidableEq, Repr

/-- A fabric packet (Table 15.1): the fields of its header, what its reserved bits hold, its payload blocks without their
padding. -/
structure Packet where
  dst : Nat
  src : Nat
  core : Nat
  vc : Nat
  cls : Nat
  tenant : Nat
  subch : Nat
  reserved : Nat
  tag : Nat
  pennant : Nat
  seq : Nat
  length : Nat
  poison : Nat
  last : Bool
  ackReq : Bool
  arg : Nat
  blocks : List (List Byte)
  deriving DecidableEq, Repr

/-- A hare MSG as delivered (R334): a shard digest for the publish leader's slot, or a message whose type the spec does not
state. -/
inductive HareMsg where
  | digest (pid slot shard : Nat) (d : DWord)
  | other (pkt : Packet)
  deriving DecidableEq, Repr

/-- A control word of a link (R307): units up to `unit` have arrived; `units` credits of a channel and sub-channel; a replay
from `unit` is asked for. -/
inductive LinkCtl where
  | ack (unit : Nat)
  | credit (vc subch units : Nat)
  | replay (unit : Nat)
  deriving DecidableEq, Repr

/-- What a loop has counted when it ends (R482): symbols checked and corrected, uncorrectable codewords, test frames checked
and those with a bad FCS on a host port; whether the light was lost, whether the partner refused a far-end loop. -/
structure LoopCounts where
  symbols : Nat
  corrected : Nat
  uncorr : Nat
  frames : Nat
  badFcs : Nat
  dark : Bool
  refused : Bool
  deriving DecidableEq, Repr

/-- The commands: one constructor per row of the opcode table, in its order. -/
inductive Instr where
  /-- COLD_BOOT (R429): Release of reset starts the mask ROM boot: self-digest, fuse read, host-port and T1
      training, then the boot responder opens. -/
  | coldBoot (channels t1 : Nat)
  /-- BOOT_GO (R431): A write to BOOT.GO names the image length, locks the staging area and starts verification, or
      starts recovery listening's warm reset. -/
  | bootGo (port len : Nat)
  /-- IMAGE_VERIFIED (R433): The verification of the staged image ends with OK or with the first failing check,
      which returns the device to LISTENING. -/
  | imageVerified (sigOk : Bool)
  /-- BOOT_KEYS_DERIVED (R436): The attestation key is derived, the boot certificate signed, the secret locked and
      the firmware started. -/
  | bootKeysDerived (setup : FirmwareSetup)
  /-- COMMIT_SVN (R434): A device-key write of BOOT.CTRL.commit_svn blows fuses until min_svn equals the running
      svn. -/
  | commitSvn (r : Requester)
  /-- QUOTE (R438): A QUOTE written to ATTEST.CTRL latches the nonce and measurements and starts signing. -/
  | quote (r : Requester) (tenant : Nat)
  /-- QUOTE_DONE (R438): The signed quote is written to ATTEST.QUOTE, state becomes done and ATTEST_DONE is raised. -/
  | quoteDone (tenant : Nat)
  /-- WARM_RESET (R457): A warm reset from DEVICE.CMD, a recovery GO or the firmware quiesces partitions, verifies
      the retained image and restarts the firmware. -/
  | warmReset (r : Requester)
  /-- COMMIT_ROUTES (R309): A write of 2 to DEVICE.CMD hands the shadow route table to the firmware, which checks it
      and installs or discards it. -/
  | commitRoutes (r : Requester)
  /-- ROUTE_DATA_WRITE (R309): An 8-byte write to DEVICE.ROUTE_DATA stores two shadow route entries and adds 2 to
      ROUTE_SEL. -/
  | routeDataWrite (r : Requester) (v : DWord)
  /-- REGISTER_WRITE (R17): A write to a register that has no row of its own takes effect under its access type,
      adjustments and busy rules. -/
  | registerWrite (r : Requester) (off : Nat) (wide : Bool) (v : DWord)
  /-- LOCK_SET (R469): A write of 1 to LOCK.lock from the device key fixes every RWL field of the page; from any
      other requester it is dropped with LOCK_VIOLATION. -/
  | lockSet (r : Requester) (page : Nat)
  /-- FAULT_CLEAR (R464): A W1C of FAULT.valid clears every field of FAULT and FAULT_ADDR. -/
  | faultClear (r : Requester) (page : Nat)
  /-- EVENT_STATUS_CLEAR (R465): A W1C of EVENT_STATUS bits clears them unless the event is raised in the same
      cycle. -/
  | eventStatusClear (r : Requester) (page : Nat) (bits raisedNow : DWord)
  /-- CREATE (R475): The CREATE command has the firmware build a partition from CFG, ALLOT, CORE_SET and SLICE_SET
      and place its allotments. -/
  | create (r : Requester) (pid : Nat)
  /-- DESTROY (R475): DESTROY resets the partition and returns its cores, slices and allotments to the device. -/
  | destroy (r : Requester) (pid : Nat)
  /-- RESET (R454): A partition reset ends tasks, requests and steps, empties setts and KV state and resets rings
      and counters. -/
  | reset (r : Requester) (pid : Nat)
  /-- TENANT_RESET (R455): A tenant reset runs the partition reset on every partition of the tenant, errors its QPs,
      issues a new key and restarts its rings. -/
  | tenantReset (r : Requester) (pid : Nat)
  /-- KEY_ROLL (R379): KEY_ROLL issues a new tenant key and stops accepting the old one. -/
  | keyRoll (r : Requester) (pid : Nat)
  /-- PARK_REQUEST (R447): A write of 1 to PARTITION.POWER.park power-gates the partition's cores unless it holds
      work. -/
  | parkRequest (r : Requester) (pid : Nat)
  /-- WAKE_REQUEST (R448): A write of 0 to PARTITION.POWER.park wakes a parked partition. -/
  | wakeRequest (r : Requester) (pid : Nat)
  /-- PARK_PLAN_WAKE (R448): A parked partition wakes 25 µs before a plan entry's fabric time. -/
  | parkPlanWake (pid : Nat)
  /-- IDLE_ENTRY (R446): A partition with no running task, step or stamped descriptor for 10 µs enters Idle. -/
  | idleEntry (pid : Nat)
  /-- ENTER_DEEP (R447): GOV.CMD 1 takes the device into Deep unless a partition is not parked, a context is saved
      or a region is homed in T0. -/
  | enterDeep (r : Requester)
  /-- EXIT_DEEP (R449): GOV.CMD 2 brings the device out of Deep with T0 and near stores zero and KV state released. -/
  | exitDeep (r : Requester)
  /-- GOVERNOR_TICK (R450): The governor chooses frequency and VCORE within its bounds, at most once per 100 µs. -/
  | governorTick (j powerW : Nat) (temps : List Nat)
  /-- VCORE_SETTLED (R494): After READ_VOUT reports the new set point or 60 µs pass, the device raises the
      frequency. -/
  | vcoreSettled (readMv : Nat) (timedOut : Bool)
  /-- THERMAL_TRIP (R452): A junction at 105 °C sets 0.55 GHz, suspends floors, halves ceilings and raises
      THERMAL_TRIP. -/
  | thermalTrip (die temp : Nat)
  /-- THERMAL_TRIP_RELEASE (R452): Ten milliseconds at or below 95 °C releases the thermal trip. -/
  | thermalTripRelease
  /-- THERMAL_SHUTDOWN (R498): A junction at 115 °C raises DEVICE_FAULT, sends FAULT heartbeats and drives
      THERMTRIP_N low. -/
  | thermalShutdown
  /-- RAIL_FAULT (R496): A rail out of tolerance for 20 µs makes the carrier drive RESET_N low and remove the rails,
      a cold reset. -/
  | railFault (rail : Nat)
  /-- PMBUS_POLL (R500): Every 1 ms the device reads voltage, current, temperature and status of every rail into
      GOV.RAIL. -/
  | pmbusPoll (rail mv ma stageC statusWord : Nat) (ok : Bool)
  /-- PMBUS_ALERT (R500): A falling ALERT_N makes the device read STATUS_WORD on that segment. -/
  | pmbusAlert (segment rail statusWord : Nat)
  /-- TIME_WORD_SEND (R440): Every 4,096 ticks each fabric and twin port sends a time word with count, depth and
      lock state. -/
  | timeWordSend
  /-- TIME_WORD (R440): A received time word is timestamped and updates link delay, offset, source selection and
      lock state. -/
  | timeWord (port : Nat) (w : TimeWordIn)
  /-- HOLDOVER_EXPIRY (R442): After holdover_ms without a source the fabric time unit enters FREE. -/
  | holdoverExpiry
  /-- FORCE_STEP (R443): TIME.CMD FORCE_STEP steps the count back to the source while no plan entry, task or WAITFT
      exists. -/
  | forceStep (r : Requester)
  /-- ROLE_GENERATE (R30): A due ROLE_GENERATE entry enters the generate phase at a learn-phase boundary and resumes
      paused requests. -/
  | roleGenerate (pid : Nat)
  /-- ROLE_LEARN (R31): A due ROLE_LEARN entry enters the learn phase at a decode-step boundary, pausing running
      requests. -/
  | roleLearn (pid : Nat)
  /-- SWAP (R29): A due SWAP entry makes the named STAGED pennant the swap target at the next decode-step boundary,
      or fails. -/
  | swap (pid : Nat)
  /-- CHECKPOINT (R420): A due CHECKPOINT entry starts a buddy checkpoint into the named slot at a learner-step
      boundary. -/
  | checkpoint (pid : Nat)
  /-- LAUNCH (R323): A due LAUNCH entry starts the collective named by its guidon. -/
  | launch (pid : Nat)
  /-- PLAN (R29): A PLAN command checks a phase-plan entry and enters it into the partition's plan or refuses it. -/
  | plan (pid : Nat) (cmdId : DWord) (entry : List Byte)
  /-- REQUEST (R235): A REQUEST command checks a request block and queues the request or refuses it with a terminal
      entry. -/
  | request (pid : Nat) (cmdId : DWord) (block : List Byte)
  /-- CANCEL (R249): A CANCEL command is taken by the request arbiter and fixes the request's terminal status. -/
  | cancel (pid : Nat) (cmdId reqId : DWord)
  /-- PREFIX_CREATE (R224): PREFIX_CREATE makes a prefix handle over the first n positions of a prefilled request. -/
  | prefixCreate (pid : Nat) (cmdId reqId : DWord) (n handle group : Nat)
  /-- PREFIX_RELEASE (R224): PREFIX_RELEASE releases a prefix handle and its frame references. -/
  | prefixRelease (pid : Nat) (cmdId : DWord) (handle group : Nat)
  /-- NOP (R385): A NOP command completes with COMPLETE. -/
  | nop (pid : Nat) (cmdId : DWord)
  /-- DECODE_STEP_LAUNCH (R240): At a decode-step boundary the step leader releases leavers, handles page pressure
      and admission, checks room, applies the fill rule, chooses the pennant and launches. -/
  | decodeStepLaunch (pid : Nat)
  /-- FILL_HOLD_EXPIRY (R144): A held launch is released fill_hold µs after the boundary. -/
  | fillHoldExpiry (pid : Nat)
  /-- JOIN_DURING_HOLD (R144): A join arriving during a fill hold runs the admission loop and may release the
      launch. -/
  | joinDuringHold (pid : Nat)
  /-- STEP_LAUNCH_MESSAGE (R341): A device receiving a launch message applies its KV plan and runs the step on the
      stamped pennant, taking the swap if new. -/
  | stepLaunchMessage (pid : Nat) (msg : LaunchMsg)
  /-- SLOT_COMMIT (R249): When the final stage's results reach the step leader, each slot commits its tokens,
      records and terminal decisions in ascending order. -/
  | slotCommit (pid : Nat) (seq slot : Nat) (res : SlotResult)
  /-- STEP_ABORT (R252): A STEP_ABORT received by the step leader ends every unfinished request of the step with
      TIER_LATE. -/
  | stepAbort (pid : Nat) (seq : Nat)
  /-- STREAM_LOST (R247): A streamer queue pair entering error ends its request with CANCELLED. -/
  | streamLost (pid : Nat) (reqId : DWord)
  /-- STEP_RING_LOST (R248): A step_qp entering error loses the step ring until its configuration is written again. -/
  | stepRingLost (pid : Nat)
  /-- STEP_RING_RESTART (R248): A write of REQ.STEP_RING_ADDR or STEP_RING_CFG restarts the step ring at unit 0. -/
  | stepRingRestart (r : Requester) (pid : Nat) (cfg : Bool) (v : DWord)
  /-- SPILL_READ_DONE (R230): When every frame moved for a pause has been read, the held launch proceeds. -/
  | spillReadDone (pid : Nat)
  /-- RESUME_PAGES_LANDED (R230): When all spilled pages of a resumed request have landed, it runs again from the
      next boundary. -/
  | resumePagesLanded (pid : Nat) (reqId : DWord) (ok : Bool)
  /-- EXP_HEADER_WRITE (R45): A whole write of reader_count or a consumer_index into an experience ring header is
      clamped and stored. -/
  | expHeaderWrite (pid : Nat) (off : Nat) (v : DWord)
  /-- LEARNER_COMMIT (R32): The hare-path AND of the step's pass bits forms; with 1 the STAGED buffer becomes ACTIVE
      and the version is published, with 0 the step fails. -/
  | learnerCommit (pid : Nat) (othersAnd : Bool)
  /-- PUBLICATION_RECORD (R337): A receiving device takes a publication record, checks its version and starts a fill
      or keeps it pending. -/
  | publicationRecord (pid : Nat) (rec : List Byte)
  /-- RELAY_CHUNK_PACKET (R339): A relay data packet is checked, written into the FILLING buffer, folded into the
      digest and forwarded to children. -/
  | relayChunkPacket (pid : Nat) (pkt : Packet)
  /-- RELAY_DIGEST_PACKET (R35): The shard digest packet completes the digest check; a match makes the buffer
      STAGED, a mismatch counts a failed fetch. -/
  | relayDigestPacket (pid : Nat) (pkt : Packet)
  /-- RELAY_RESTART_PACKET (R339): A restart packet makes a child discard its chunks and restart its own children. -/
  | relayRestartPacket (pid : Nat) (pkt : Packet)
  /-- RELAY_STALL (R339): A FILLING buffer without a landed chunk for stall_us counts a failed fetch and raises
      RELAY_STALLED. -/
  | relayStall (pid : Nat) (slot : Nat)
  /-- READINESS_RESULT (R36): The readiness AND forms at the step leader with its formed time. -/
  | readinessResult (pid : Nat) (slot : Nat) (ready : Bool) (formed : DWord)
  /-- BUFFER_DRAINED (R26): A DRAINING buffer with no step or relay reading it becomes EMPTY and starts any pending
      record. -/
  | bufferDrained (pid : Nat) (slot : Nat)
  /-- LOAD_BEGIN (R335): PUB.LOAD LOAD_BEGIN makes an EMPTY buffer FILLING with the given pennant. -/
  | loadBegin (r : Requester) (pid : Nat) (pennant : Word)
  /-- LOAD_END (R335): PUB.LOAD LOAD_END checks the buffer's digest and makes it STAGED, ACTIVE or EMPTY. -/
  | loadEnd (r : Requester) (pid : Nat) (pennant : Word)
  /-- UNLOAD (R335): PUB.LOAD UNLOAD empties both buffers of the slot. -/
  | unload (r : Requester) (pid : Nat) (pennant : Word)
  /-- LIST_GO (R204): A write to TIER.LIST_GO arms the list's flags and starts its descriptors. -/
  | listGo (r : Requester) (pid : Nat)
  /-- STREAM (R205): A STREAM descriptor copies source bytes into the same offset of each destination slice. -/
  | stream (pid : Nat) (list : Nat)
  /-- STREAM_LANDED (R207): When every byte for a destination core is written, the STREAM lands its flag there. -/
  | streamLanded (pid : Nat) (list desc core : Nat)
  /-- MOVE (R209): A MOVE descriptor relocates a whole region to a new home granule by granule. -/
  | moveRegion (pid : Nat) (list : Nat)
  /-- MOVE_REGION_DONE (R209): A MOVE completes when the last granule's home has changed. -/
  | moveRegionDone (pid : Nat) (region : Nat)
  /-- GATE (R208): A GATE passes once the named flag on every core of its span has been cleared by a WAITARR. -/
  | gate (pid : Nat) (list : Nat)
  /-- END (R204): An END descriptor ends the list. -/
  | endList (pid : Nat) (list : Nat)
  /-- MIGRATION_EPOCH (R202): At the end of each epoch every region's use count is halved. -/
  | migrationEpoch (pid : Nat)
  /-- MIGRATION_EVICT (R202): When T1 use exceeds high_pct the badger moves NONE regions to T2 until low_pct. -/
  | migrationEvict (pid : Nat)
  /-- MIGRATION_PROMOTE (R202): A NONE region in T2 reaching promote_uses is moved to T1 if use stays at or below
      low_pct. -/
  | migrationPromote (pid : Nat)
  /-- REGION_HINT_WRITE (R203): A hint write sets a region's hint and moves granules to the hinted tier. -/
  | regionHintWrite (r : Requester) (pid : Nat) (hint : Nat)
  /-- REGION_DEFINE (R214): A define command creates a region from base, length and hint or fails with
      REGION_INVALID. -/
  | regionDefine (r : Requester) (pid : Nat) (hint : Nat)
  /-- REGION_DELETE (R214): A delete command frees a region unless it is FREE, moving, migrating or named by a
      running list. -/
  | regionDelete (r : Requester) (pid : Nat)
  /-- TIER_WATCHDOG_EXPIRY (R210): A waited or covered wait on a tier arrival or slow-tier move passes W and raises
      TIER_LATE. -/
  | tierWatchdogExpiry (core : Nat)
  /-- T1_UE_RETRY (R212): An uncorrectable T1 error is retried once and then delivered as poison. -/
  | t1UeRetry (addr : Nat) (failsAgain : Bool)
  /-- RNG_SEED_WRITE (R190): A write of RNG.SEEDn starts expansion of the seed slot, or is dropped while the slot is
      in use. -/
  | rngSeedWrite (r : Requester) (pid : Nat) (slot : Nat) (seed : DWord)
  /-- SEED_EXPANSION_DONE (R190): Seed expansion completes and the slot becomes valid. -/
  | seedExpansionDone (pid : Nat) (slot : Nat)
  /-- RESERVE (R259): SETT.OP RESERVE reserves a frame of L granules on a stack and arms its flag. -/
  | reserve (core : Nat) (val : Word)
  /-- PUSH (R259): SETT.OP PUSH makes the stack's reserved frame pushed and resident. -/
  | push (core : Nat) (val : Word)
  /-- FETCH (R259): SETT.OP FETCH makes the newest pushed frame resident and lands its flag. -/
  | fetch (core : Nat) (val : Word)
  /-- RELEASE (R259): SETT.OP RELEASE releases the stack's newest fetched frame. -/
  | release (core : Nat) (val : Word)
  /-- CLEAR (R259): SETT.OP CLEAR releases every frame of every stack of the core. -/
  | clear (core : Nat) (val : Word)
  /-- SETT_PLACEMENT (R260): A waiting RESERVE or FETCH is placed at the ring head once a range is free, spilling
      residents, and lands its flag. -/
  | settPlacement (pid : Nat) (lcore : Nat)
  /-- SETT_LEAD_SPILL (R261): The engine spills resident pushed frames overlapping the lead range. -/
  | settLeadSpill (pid : Nat) (lcore : Nat)
  /-- SETT_FILL (R261): The engine fills the newest spilled frame of the lowest draining stack when room allows. -/
  | settFill (pid : Nat) (lcore : Nat)
  /-- RED_OPEN (R273): A write to RED.OPEN names the step to open. -/
  | redOpen (core : Nat) (val : Word)
  /-- STEP_OPEN_DONE (R273): Once the previous step and any quiescence are done, owned results are zeroed, counts
      cleared and the step opens. -/
  | stepOpenDone (pid : Nat)
  /-- RED_CLOSE (R274): A write to RED.CLOSE closes a core's part of a bucket and arms its flag; the last close
      forms the device exponent and enters it into the MAX. -/
  | redClose (core : Nat) (val : Word)
  /-- EXPONENT_AGREED (R275): The hare MAX forms shared_exp; scale words are written to closers' mailboxes and flags
      land. -/
  | exponentAgreed (pid : Nat) (bucket : Nat) (othersMax : Int)
  /-- RED_STAGED (R278): A write to RED.STAGED makes the engine read the core's staged runs and send them to their
      owners. -/
  | redStaged (core : Nat) (val : Word)
  /-- RED_NOTIFY (R280): A write to RED.NOTIFY arms a flag landed when the owned shard of the bucket completes. -/
  | redNotify (core : Nat) (val : Word)
  /-- RACC_ARRIVAL (R279): An arriving remote-accumulate packet is added into the owner's result or discarded as
      late. -/
  | raccArrival (pid : Nat) (pkt : Packet)
  /-- RACC_ACKNOWLEDGED (R279): An adder's acknowledgement counts a half-run; the shard is whole at 2R. -/
  | raccAcknowledged (pid : Nat) (bucket halfRun : Nat)
  /-- CHECKSUM_RESULT (R280): The checksum SUM forms and is compared with the owner's result sum, completing or
      failing the bucket. -/
  | checksumResult (pid : Nat) (bucket : Nat) (othersSum : DWord)
  /-- BUCKET_DEADLINE (R281): deadline_us after E forms a missing shard or unstaged part fails the bucket with
      BURGEE_FAILED. -/
  | bucketDeadline (pid : Nat) (bucket : Nat)
  /-- AGREE_TIMEOUT (R281): E not formed agree_limit_us after entry fails the bucket. -/
  | agreeTimeout (pid : Nat) (bucket : Nat)
  /-- QUIESCENCE_DONE (R282): The quiescence AND over the combine group forms, allowing the replay's open. -/
  | quiescenceDone (pid : Nat)
  /-- NORM_RESULT (R270): The norm SUM forms and every device computes the squared norm. -/
  | normResult (pid : Nat) (othersLanes : List DWord)
  /-- UPDATE_START (R284): When the step is open, owned buckets complete, the norm formed and the write buffer
      EMPTY, the update runs the program over owned runs. -/
  | updateStart (pid : Nat)
  /-- WEIGHT_GATHER (R298): A received WEIGHT_GATHER packet writes a peer's run weights into the write buffer. -/
  | weightGather (pid : Nat) (pkt : Packet)
  /-- UPDATE_STAGED (R298): When all owned and gathered runs have landed the buffer becomes STAGED, digests form and
      update completion is reported. -/
  | updateStaged (pid : Nat)
  /-- GATHER_TIMEOUT (R300): A non-owned run not landed gather_us after the device's last run fails the update with
      GATHER_LATE. -/
  | gatherTimeout (pid : Nat)
  /-- PACKET_RECEIVE (R306): A packet arriving at a port is checked, forwarded, delivered or discarded. -/
  | packetReceive (port : Nat) (pkt : Packet)
  /-- LINK_CRC_ERROR (R307): A unit failing CRC is discarded with later units and a replay requested. -/
  | linkCrcError (port : Nat)
  /-- BRIDGE_FLIT_ERROR (R54): A bridge flit failing CRC is replayed; past the replay limit the channel is disabled. -/
  | bridgeFlitError (bridge channel replays : Nat)
  /-- SUBCREDIT_RECEIVE (R314): A received SUBCREDIT lets the sender send further packets of that group or slot. -/
  | subcreditReceive (pid : Nat) (pkt : Packet)
  /-- ACK_RECEIVE (R305): A received ACK on VC0 completes the acknowledged request. -/
  | ackReceive (pid : Nat) (pkt : Packet)
  /-- HARE_GO (R320): A core write to FAB.HARE_GO enters a hare operation and arms its flag. -/
  | hareGo (core : Nat) (val : Word)
  /-- HARE_PART_RECEIVE (R319): A HARE_PART is combined into its combine state or held until the local value is
      entered. -/
  | harePartReceive (port : Nat) (pkt : Packet)
  /-- HARE_RESULT (R318): A hare operation's result forms, is written over the payload and lands its flag. -/
  | hareResult (pkt : Packet)
  /-- HARE_MSG_RECEIVE (R334): A hare MSG, such as a shard digest to the publish leader, is delivered. -/
  | hareMsgReceive (msg : HareMsg)
  /-- COMBINE_LOAD (R321): FAB.COMBINE_CMD LOAD has the firmware check and load a list of combine-table entries. -/
  | combineLoad (r : Requester) (pid : Nat) (count : Nat)
  /-- COMBINE_REMOVE (R321): FAB.COMBINE_CMD REMOVE takes the named groups out of the combine table. -/
  | combineRemove (r : Requester) (pid : Nat) (count : Nat)
  /-- GROUP_TABLE_LOAD (R322): A write of FAB.GROUP_CFG loads every collective group entry and grants early sub-
      credits. -/
  | groupTableLoad (r : Requester) (pid : Nat) (val : DWord)
  /-- COLL_GO (R323): A write of a guidon to FAB.COLL_GO starts the collective or fails it with INVALID. -/
  | collGo (r : Requester) (pid : Nat) (guidon : Word)
  /-- COLL_DATA_RECEIVE (R324): An arriving COLL_DATA packet lands in its collective or the early-arrival pool. -/
  | collDataReceive (pid : Nat) (pkt : Packet)
  /-- COLLECTIVE_CHUNK_DONE (R326): A completed leading chunk updates the progress word; at the end the flag lands. -/
  | collectiveChunkDone (pid : Nat) (guidon : Word)
  /-- COLLECTIVE_DEADLINE (R327): A collective not done by its deadline fails with COLLECTIVE_FAILED. -/
  | collectiveDeadline (pid : Nat) (guidon : Word)
  /-- EXP_GO_READ (R328): FAB.EXP_GO READ sends EXP_READ requests for a ring range and arms its flag. -/
  | expGoRead (core : Nat) (val : Word)
  /-- EXP_GO_CREDIT (R328): FAB.EXP_GO CREDIT sends an EXP_CREDIT with a new consumer_index. -/
  | expGoCredit (core : Nat) (val : Word)
  /-- EXP_READ_SERVE (R328): A generator's device checks an EXP_READ and returns the bytes or a REFUSAL. -/
  | expReadServe (pkt : Packet)
  /-- EXP_CREDIT_RECEIVE (R328): A generator's device checks an EXP_CREDIT, writes the consumer_index and returns an
      ACK or REFUSAL. -/
  | expCreditReceive (pkt : Packet)
  /-- EXP_RESPONSE (R328): A RESPONSE, ACK or REFUSAL for an experience operation lands; when all are answered the
      status is written and the flag lands. -/
  | expResponse (pid : Nat) (pkt : Packet)
  /-- EXP_OP_TIMEOUT (R328): An experience operation not complete within W ends with TIER_LATE. -/
  | expOpTimeout (pid : Nat) (op : Nat)
  /-- LANE_FAILURE (R329): A lane failing or losing light takes the port DEGRADED or DOWN. -/
  | laneFailure (port lanes : Nat)
  /-- PORT_TRAIN_RETRY (R329): A DOWN port retries training every 10 ms and raises PORT_UP on success. -/
  | portTrainRetry (port lanes : Nat)
  /-- LINK_RESET (R456): Clearing and setting PORT.CFG.enable, or losing a port, takes it DOWN and discards its
      replay buffer. -/
  | linkReset (port : Nat)
  /-- HOST_FRAME_RECEIVE (R371): A frame on a host port is terminated or discarded into RX_DROPS. -/
  | hostFrameReceive (port : Nat) (f : HostFrame)
  /-- ARP_REQUEST (R371): An ARP request for the port's address is answered. -/
  | arpRequest (port : Nat) (target sender : Nat)
  /-- NEIGHBOUR_SOLICITATION (R371): An IPv6 neighbour solicitation for the port's address is answered. -/
  | neighbourSolicitation (port : Nat) (target sender : Nat)
  /-- ECHO_REQUEST (R371): An ICMP or ICMPv6 echo request is answered. -/
  | echoRequest (port : Nat) (v6 : Bool) (dst src : Nat) (data : List Byte)
  /-- LLDP_RECEIVE (R373): A received LLDPDU records the peer's chassis ID. -/
  | lldpReceive (port : Nat) (chassis : List Byte)
  /-- LLDP_TRANSMIT (R373): Every 30 s and at link-up the port sends an LLDPDU. -/
  | lldpTransmit (port : Nat)
  /-- PFC_FRAME (R374): A received PFC frame pauses or resumes transmission on its priorities. -/
  | pfcFrame (port enable : Nat) (pause : List Nat)
  /-- PTP_MESSAGE (R392): A PTP message on the PTP port updates HPORT.PTP_OFFSET after each Sync. -/
  | ptpMessage (port : Nat) (sync : Bool) (fabricAt ptpTicks : DWord)
  /-- CNP_RECEIVE (R375): A received CNP halves the QP's send rate at most once per 50 µs. -/
  | cnpReceive (qp : Nat)
  /-- RATE_RECOVERY (R375): Every 55 µs a throttled QP's rate rises by rate_step_mbps. -/
  | rateRecovery (qp : Nat)
  /-- CM_REQ (R377): A CM REQ is accepted or rejected on its key, partition and quota, or opens the boot responder
      QP. -/
  | cmReq (port : Nat) (priv : DWord)
  /-- CM_RTU (R376): A CM RTU completes connection of a queue pair. -/
  | cmRtu (qp : Nat)
  /-- CM_DREQ (R376): A CM DREQ disconnects a queue pair and is answered with DREP. -/
  | cmDreq (qp : Nat)
  /-- RDMA_WRITE (R381): A received RDMA WRITE is checked and placed in ascending address order, landing ring stamps
      or window registers. -/
  | rdmaWrite (qp : Nat) (addr : DWord) (rkey : Word) (data : List Byte) (ce : Bool)
  /-- RDMA_READ (R378): A received RDMA READ is checked and answered with the data. -/
  | rdmaRead (qp : Nat) (addr : DWord) (rkey : Word) (len : Nat) (ce : Bool)
  /-- COMMAND_RING_SEND (R384): A SEND on a command-bound QP writes its entries at the ring's producer position. -/
  | commandRingSend (qp : Nat) (data : List Byte) (ce : Bool)
  /-- RNR_NAK (R382): An RNR NAK on a ring write is retried seven times, then the QP is treated as in error. -/
  | rnrNak (qp : Nat)
  /-- QP_ERROR (R390): A completion- or event-ring QP entering error sets cq_lost or eq_lost. -/
  | qpError (qp : Nat)
  /-- CQ_RING_RESTART (R390): A write of HOST.CQ_CFG restarts the completion ring at index 0. -/
  | cqRingRestart (r : Requester) (tenant : Nat) (v : DWord)
  /-- EQ_RING_RESTART (R390): A write of HOST.EQ_CFG restarts the event ring at index 0. -/
  | eqRingRestart (r : Requester) (tenant : Nat) (v : DWord)
  /-- EVENTS_LOST (R389): Events dropped on a full ring are reported by an EVENTS_LOST entry when room returns. -/
  | eventsLost (tenant : Nat)
  /-- TASK_START (R354): The dispatcher starts a startable head descriptor on an idle logical core. -/
  | taskStart (pid : Nat) (queue : Nat)
  /-- PREEMPT_REQUEST (R357): The dispatcher sets PREEMPT on the lowest-priority preemptible core for a blocked
      preempting head. -/
  | preemptRequest (pid : Nat) (queue : Nat)
  /-- CHEAP_POINT_SAVE (R86): At a cheap point with a pending request, earlier operations complete and the live
      parts are saved. -/
  | cheapPointSave (core : Nat) (header : Word)
  /-- PREEMPT_GRACE_EXPIRY (R358): No cheap point within 20 µs makes the core take a full save at the first boundary
      with SEM_HELD 0. -/
  | preemptGraceExpiry (core : Nat)
  /-- FULL_SAVE (R359): The core stops, completes earlier operations and writes its whole state to a save slot. -/
  | fullSave (core : Nat)
  /-- PREEMPT_WITHDRAW (R358): SEM_HELD still non-zero 40 µs after the request withdraws it with PREEMPT_REFUSED. -/
  | preemptWithdraw (core : Nat)
  /-- CONTEXT_RESUME (R363): A saved context resumes on its core, restoring its saved parts. -/
  | contextResume (core : Nat)
  /-- SUSPEND (R367): SCHED.CTX_CMD SUSPEND stops the dispatcher, saves every task and writes the context image. -/
  | suspend (r : Requester) (pid : Nat)
  /-- SUSPEND_IMAGE_DONE (R367): The context image is complete and the partition becomes SUSPENDED. -/
  | suspendImageDone (pid : Nat)
  /-- PREEMPT_SLOW (R366): A PX8 task still running 20 µs after a suspension request raises PREEMPT_SLOW. -/
  | preemptSlow (core : Nat)
  /-- RESTORE (R368): SCHED.CTX_CMD RESTORE checks a context image and restores it onto the partition. -/
  | restore (r : Requester) (pid : Nat)
  /-- SEM_INIT_WRITE (R365): A write to a semaphore init field also sets its count unless an acquire is held. -/
  | semInitWrite (r : Requester) (pid : Nat) (v : DWord)
  /-- CORE_RETIRE (R349): The firmware retires a core, suspends its partition and remaps to a spare or leaves it
      SHORT. -/
  | coreRetire (core : Nat)
  /-- OWL_VERDICT (R400): The checker compares a sampled chain's tile with the source bit for bit and records any
      mismatch. -/
  | owlVerdict (core : Nat) (n : Word) (agree : Bool)
  /-- OWL_LATE (R400): A verdict not formed 100 µs after its chain ends counts as a mismatch. -/
  | owlLate (core : Nat) (n : Word)
  /-- DIGEST_RESULT (R403): The replica digest MAX forms; disagreement records DIGEST_MISMATCH and fails the commit
      condition. -/
  | digestResult (pid : Nat) (othersLanes : List DWord)
  /-- FAULT_RING_RESTART (R410): A write to CHECK.FAULT_RING or FAULT_CFG restarts the fault ring at sequence 0. -/
  | faultRingRestart (r : Requester) (pid : Nat) (cfg : Bool) (v : DWord)
  /-- PAIR (R411): TWIN_LINK.CMD PAIR enters PAIRING. -/
  | pair (r : Requester)
  /-- DETACH (R417): TWIN_LINK.CMD DETACH releases the twin's store and enters UNPAIRED. -/
  | detach (r : Requester)
  /-- HEARTBEAT_SEND (R412): Every 10 µs the X die sends a heartbeat with its state on each live twin port. -/
  | heartbeatSend (fwCount : Word)
  /-- HEARTBEAT_RECEIVE (R413): A received heartbeat pairs, restores, or declares the twin lost on FAULT. -/
  | heartbeatReceive (port : Nat) (hb : Heartbeat)
  /-- HEARTBEAT_MISS (R414): No heartbeat for miss_limit periods declares the twin LOST and freezes its store. -/
  | heartbeatMiss
  /-- RESET_HOLD_EXPIRY (R414): No PAIRED heartbeat within reset_hold_ms after WARM_RESET declares the twin LOST. -/
  | resetHoldExpiry
  /-- CKPT_DATA_RECEIVE (R422): The holder writes arriving checkpoint bytes into the slot and folds them into the
      digest. -/
  | ckptDataReceive (m : CkptMsg)
  /-- CKPT_MANIFEST (R422): The holder writes the manifest if its digest matches and acknowledges; the writer raises
      CKPT_DONE or CKPT_FAILED. -/
  | ckptManifest (m : CkptEnd)
  /-- CKPT_RESTORE (R424): CKPT.CMD RESTORE starts the scan of the twin's slots for the partition. -/
  | ckptRestore (r : Requester) (pid : Nat)
  /-- RESTORE_AGREEMENT (R425): The restore MAX forms and the restore chooses the complete slot with the higher
      step. -/
  | restoreAgreement (pid : Nat) (othersLanes : List DWord)
  /-- RESTORE_AGREE_TIMEOUT (R425): An agreement not formed within 100 ms ends the restore with RESTORE_INCOMPLETE. -/
  | restoreAgreeTimeout (pid : Nat)
  /-- RESTORE_PULL_DONE (R426): The chosen slot has been pulled; buffer 0 becomes ACTIVE under the restore version. -/
  | restorePullDone (pid : Nat) (data : List Byte)
  /-- T0_SELF_TEST (R484): DEVICE.TEST_CMD 1 runs March C− on every slice outside LIVE partitions. -/
  | t0SelfTest (r : Requester)
  /-- T1_CONTROLLER_LOOP (R485): DEVICE.TEST_CMD 2 runs the controller loop on all T1 interfaces for 10 ms. -/
  | t1ControllerLoop (r : Requester)
  /-- T1_PHY_LOOP (R485): DEVICE.TEST_CMD 3 runs the PHY loop on all T1 interfaces for 10 ms. -/
  | t1PhyLoop (r : Requester)
  /-- DEVICE_TEST_DONE (R484): A device self-test or T1 loop ends and records pass or fail. -/
  | deviceTestDone (t1Fail : Nat) (t0Failed : List Nat)
  /-- LOOP_START (R480): A non-zero depth written to PORT.LOOP or HPORT.LOOP link-resets the port and starts a loop. -/
  | loopStart (r : Requester) (host : Bool) (port : Nat) (via : Option Nat) (v : DWord)
  /-- LOOP_STOP (R480): Depth 0 written to PORT.LOOP or HPORT.LOOP ends the run and lets the port train. -/
  | loopStop (r : Requester) (host : Bool) (port : Nat) (v : DWord)
  /-- LOOP_END (R482): After duration_ms the loop sets pass or fail. -/
  | loopEnd (host : Bool) (port : Nat) (c : LoopCounts)
  /-- FAR_LOOP_REQUEST (R483): A far-end loop request makes an allowing partner retime its lanes. -/
  | farLoopRequest (port lanes : Nat)
  /-- RETIMING_TIMEOUT (R483): Retiming ends after 10 ms without a loop request. -/
  | retimingTimeout (port : Nat)
  /-- FAR_LOOP_NO_ANSWER (R483): A partner not answering within 10 ms fails the loop with cause 3. -/
  | farLoopNoAnswer (port : Nat)
  /-- BYPASS (R488): The TAP instruction BYPASS selects the bypass register. -/
  | bypass
  /-- IDCODE (R488): The TAP instruction IDCODE reads the part's identification code. -/
  | idcode
  /-- SAMPLE_PRELOAD (R488): The TAP instruction SAMPLE/PRELOAD samples or preloads the scan cells. -/
  | samplePreload (preload : Nat)
  /-- EXTEST (R488): The TAP instruction EXTEST drives scan cells while reset is asserted, else acts as BYPASS. -/
  | extest
  /-- CLAMP (R488): The TAP instruction CLAMP holds outputs while reset is asserted, else acts as BYPASS. -/
  | clamp
  /-- HIGHZ (R488): The TAP instruction HIGHZ floats outputs while reset is asserted, else acts as BYPASS. -/
  | highz
  /-- BUNDLE (R73): A bundle issues whole in one cycle with every valid slot, after decode and header checks. -/
  | bundle (core : Nat) (rom : Bool) (w : BitVec 512)
  /-- MOVE_COMPLETE (R122): A move completes, decrements its group count, lands its flag and delivers flags and
      poison. -/
  | moveComplete (core : Nat) (idx : Nat) (ue : List Nat)
  /-- MESSAGE_RECEIVE (R129): A SEND message reaches the destination's receive queue and its credit returns. -/
  | messageReceive (pid : Nat) (idx : Nat)
  /-- ADD (R84): ADD writes rs1 + rs2 modulo 2^32. -/
  | add (core : Nat) (rd rs1 rs2 : BitVec 5)
  /-- SUB (R84): SUB writes rs1 − rs2 modulo 2^32. -/
  | sub (core : Nat) (rd rs1 rs2 : BitVec 5)
  /-- AND (R82): AND writes the bitwise AND. -/
  | and (core : Nat) (rd rs1 rs2 : BitVec 5)
  /-- OR (R82): OR writes the bitwise OR. -/
  | or (core : Nat) (rd rs1 rs2 : BitVec 5)
  /-- XOR (R82): XOR writes the bitwise XOR. -/
  | xor (core : Nat) (rd rs1 rs2 : BitVec 5)
  /-- SLL (R84): SLL shifts left by rs2[4:0]. -/
  | sll (core : Nat) (rd rs1 rs2 : BitVec 5)
  /-- SRL (R84): SRL shifts right logically by rs2[4:0]. -/
  | srl (core : Nat) (rd rs1 rs2 : BitVec 5)
  /-- SRA (R84): SRA shifts right arithmetically by rs2[4:0]. -/
  | sra (core : Nat) (rd rs1 rs2 : BitVec 5)
  /-- SLT (R82): SLT writes 1 if rs1 is below rs2, signed. -/
  | slt (core : Nat) (rd rs1 rs2 : BitVec 5)
  /-- SLTU (R82): SLTU writes 1 if rs1 is below rs2, unsigned. -/
  | sltu (core : Nat) (rd rs1 rs2 : BitVec 5)
  /-- MIN (R82): MIN writes the signed minimum. -/
  | min (core : Nat) (rd rs1 rs2 : BitVec 5)
  /-- MAX (R82): MAX writes the signed maximum. -/
  | max (core : Nat) (rd rs1 rs2 : BitVec 5)
  /-- MINU (R82): MINU writes the unsigned minimum. -/
  | minu (core : Nat) (rd rs1 rs2 : BitVec 5)
  /-- MAXU (R82): MAXU writes the unsigned maximum. -/
  | maxu (core : Nat) (rd rs1 rs2 : BitVec 5)
  /-- CLZ (R84): CLZ counts leading zeros of rs1, 32 for zero. -/
  | clz (core : Nat) (rd rs1 rs2 : BitVec 5)
  /-- POPC (R82): POPC counts set bits of rs1. -/
  | popc (core : Nat) (rd rs1 rs2 : BitVec 5)
  /-- MUL (R84): MUL writes the low 32 bits of the product. -/
  | mul (core : Nat) (rd rs1 rs2 : BitVec 5)
  /-- MULH (R82): MULH writes the high 32 bits of the signed product. -/
  | mulh (core : Nat) (rd rs1 rs2 : BitVec 5)
  /-- MULHU (R82): MULHU writes the high 32 bits of the unsigned product. -/
  | mulhu (core : Nat) (rd rs1 rs2 : BitVec 5)
  /-- DIV (R84): DIV writes the signed quotient, with defined results for zero and overflow. -/
  | div (core : Nat) (rd rs1 rs2 : BitVec 5)
  /-- DIVU (R84): DIVU writes the unsigned quotient. -/
  | divu (core : Nat) (rd rs1 rs2 : BitVec 5)
  /-- REM (R84): REM writes the signed remainder. -/
  | rem (core : Nat) (rd rs1 rs2 : BitVec 5)
  /-- REMU (R84): REMU writes the unsigned remainder. -/
  | remu (core : Nat) (rd rs1 rs2 : BitVec 5)
  /-- ADDI (R82): ADDI adds a sign-extended immediate. -/
  | addi (core : Nat) (rd rs1 : BitVec 5) (imm : BitVec 16)
  /-- ANDI (R82): ANDI ANDs a zero-extended immediate. -/
  | andi (core : Nat) (rd rs1 : BitVec 5) (imm : BitVec 16)
  /-- ORI (R82): ORI ORs a zero-extended immediate. -/
  | ori (core : Nat) (rd rs1 : BitVec 5) (imm : BitVec 16)
  /-- XORI (R82): XORI XORs a zero-extended immediate. -/
  | xori (core : Nat) (rd rs1 : BitVec 5) (imm : BitVec 16)
  /-- SLTI (R82): SLTI compares with a sign-extended immediate, signed. -/
  | slti (core : Nat) (rd rs1 : BitVec 5) (imm : BitVec 16)
  /-- SLTIU (R82): SLTIU compares with a sign-extended immediate, unsigned. -/
  | sltiu (core : Nat) (rd rs1 : BitVec 5) (imm : BitVec 16)
  /-- SHI (R82): SHI shifts by an immediate amount in the mode imm[15:14] selects. -/
  | shi (core : Nat) (rd rs1 : BitVec 5) (imm : BitVec 16)
  /-- LUI (R82): LUI writes the immediate shifted left by 11. -/
  | lui (core : Nat) (rd : BitVec 5) (imm : BitVec 21)
  /-- LDN_W (R83): LDN.W loads a word from the own near store. -/
  | ldnW (core : Nat) (rd rs1 : BitVec 5) (imm : BitVec 16)
  /-- LDN_H (R84): LDN.H loads a sign-extended halfword from the near store. -/
  | ldnH (core : Nat) (rd rs1 : BitVec 5) (imm : BitVec 16)
  /-- LDN_HU (R84): LDN.HU loads a zero-extended halfword from the near store. -/
  | ldnHu (core : Nat) (rd rs1 : BitVec 5) (imm : BitVec 16)
  /-- LDN_B (R84): LDN.B loads a sign-extended byte from the near store. -/
  | ldnB (core : Nat) (rd rs1 : BitVec 5) (imm : BitVec 16)
  /-- LDN_BU (R84): LDN.BU loads a zero-extended byte from the near store. -/
  | ldnBu (core : Nat) (rd rs1 : BitVec 5) (imm : BitVec 16)
  /-- LDT_W (R83): LDT.W loads a word from the own T0 slice. -/
  | ldtW (core : Nat) (rd rs1 : BitVec 5) (imm : BitVec 16)
  /-- LDG_W (R83): LDG.W loads a word from a global address after the R60 checks. -/
  | ldgW (core : Nat) (rd rs1 : BitVec 5) (imm : BitVec 16)
  /-- STN_W (R83): STN.W stores a word to the near store. -/
  | stnW (core : Nat) (rs2 rs1 : BitVec 5) (imm : BitVec 16)
  /-- STN_H (R83): STN.H stores a halfword to the near store. -/
  | stnH (core : Nat) (rs2 rs1 : BitVec 5) (imm : BitVec 16)
  /-- STN_B (R83): STN.B stores a byte to the near store. -/
  | stnB (core : Nat) (rs2 rs1 : BitVec 5) (imm : BitVec 16)
  /-- STT_W (R83): STT.W stores a word to the own T0 slice. -/
  | sttW (core : Nat) (rs2 rs1 : BitVec 5) (imm : BitVec 16)
  /-- STG_W (R83): STG.W stores a word to a global address, including register writes through space 4. -/
  | stgW (core : Nat) (rs2 rs1 : BitVec 5) (imm : BitVec 16)
  /-- BEQ (R85): BEQ branches when rs1 equals rs2. -/
  | beq (core : Nat) (rs1 rs2 : BitVec 5) (off : BitVec 16)
  /-- BNE (R85): BNE branches when rs1 differs from rs2. -/
  | bne (core : Nat) (rs1 rs2 : BitVec 5) (off : BitVec 16)
  /-- BLT (R85): BLT branches when rs1 is below rs2, signed. -/
  | blt (core : Nat) (rs1 rs2 : BitVec 5) (off : BitVec 16)
  /-- BGE (R85): BGE branches when rs1 is at or above rs2, signed. -/
  | bge (core : Nat) (rs1 rs2 : BitVec 5) (off : BitVec 16)
  /-- BLTU (R85): BLTU branches when rs1 is below rs2, unsigned. -/
  | bltu (core : Nat) (rs1 rs2 : BitVec 5) (off : BitVec 16)
  /-- BGEU (R85): BGEU branches when rs1 is at or above rs2, unsigned. -/
  | bgeu (core : Nat) (rs1 rs2 : BitVec 5) (off : BitVec 16)
  /-- J (R85): J jumps by an offset. -/
  | j (core : Nat) (off : BitVec 26)
  /-- JAL (R63): JAL writes a return code pointer to s1 and jumps. -/
  | jal (core : Nat) (off : BitVec 26)
  /-- JALR (R63): JALR writes a return code pointer and jumps to a code pointer, taking the mode from bit 0. -/
  | jalr (core : Nat) (rd rs1 : BitVec 5) (imm : BitVec 16)
  /-- WIDE (R63): WIDE enters bundle mode at the target bundle. -/
  | wide (core : Nat) (off : BitVec 26)
  /-- MFS (R72): MFS reads a special register. -/
  | mfs (core : Nat) (rd : BitVec 5) (spec : BitVec 12)
  /-- MTS (R72): MTS writes a special register, raising SPECIAL_ACCESS on invalid targets or values. -/
  | mts (core : Nat) (rs1 : BitVec 5) (spec : BitVec 12)
  /-- TRAP (R94): TRAP enters the trap handler at EVEC or ends the task. -/
  | trap (core : Nat) (n : BitVec 12)
  /-- ERET (R94): ERET returns to EPC and clears in_trap. -/
  | eret (core : Nat)
  /-- HALT (R95): HALT ends the task normally once earlier operations complete. -/
  | halt (core : Nat)
  /-- MLDW (R137): MLDW loads a weight block from T0 into the shadow registers. -/
  | mldw (core : Nat) (f : MFields)
  /-- MPASS (R136): MPASS streams activation rows through the resident block into an accumulator tile. -/
  | mpass (core : Nat) (f : MFields)
  /-- MZERO (R140): MZERO sets every element of a tile to +0 after any pending pass. -/
  | mzero (core : Nat) (f : MFields)
  /-- VFADD (R110): VFADD adds lanes in FP32. -/
  | vfadd (core : Nat) (f : VFields)
  /-- VFSUB (R110): VFSUB subtracts lanes in FP32. -/
  | vfsub (core : Nat) (f : VFields)
  /-- VFMUL (R110): VFMUL multiplies lanes in FP32. -/
  | vfmul (core : Nat) (f : VFields)
  /-- VFMA (R110): VFMA fuses a multiply-add with one rounding. -/
  | vfma (core : Nat) (f : VFields)
  /-- VFMIN (R110): VFMIN takes the lane minimum. -/
  | vfmin (core : Nat) (f : VFields)
  /-- VFMAX (R110): VFMAX takes the lane maximum. -/
  | vfmax (core : Nat) (f : VFields)
  /-- VFABS (R110): VFABS clears each lane's sign. -/
  | vfabs (core : Nat) (f : VFields)
  /-- VFNEG (R110): VFNEG flips each lane's sign. -/
  | vfneg (core : Nat) (f : VFields)
  /-- VFCMP (R110): VFCMP writes a predicate from an FP comparison. -/
  | vfcmp (core : Nat) (f : VFields)
  /-- VFSCALE (R110): VFSCALE multiplies by a power of two. -/
  | vfscale (core : Nat) (f : VFields)
  /-- VIADD (R110): VIADD adds INT32 lanes wrapping. -/
  | viadd (core : Nat) (f : VFields)
  /-- VISUB (R110): VISUB subtracts INT32 lanes wrapping. -/
  | visub (core : Nat) (f : VFields)
  /-- VIMUL (R110): VIMUL multiplies INT32 lanes, low 32 bits. -/
  | vimul (core : Nat) (f : VFields)
  /-- VAND (R110): VAND ANDs lanes bitwise. -/
  | vand (core : Nat) (f : VFields)
  /-- VOR (R110): VOR ORs lanes bitwise. -/
  | vor (core : Nat) (f : VFields)
  /-- VXOR (R110): VXOR XORs lanes bitwise. -/
  | vxor (core : Nat) (f : VFields)
  /-- VSHL (R110): VSHL shifts lanes left. -/
  | vshl (core : Nat) (f : VFields)
  /-- VSHR (R110): VSHR shifts lanes right logically. -/
  | vshr (core : Nat) (f : VFields)
  /-- VSRA (R110): VSRA shifts lanes right arithmetically. -/
  | vsra (core : Nat) (f : VFields)
  /-- VIMIN (R110): VIMIN takes the integer lane minimum. -/
  | vimin (core : Nat) (f : VFields)
  /-- VIMAX (R110): VIMAX takes the integer lane maximum. -/
  | vimax (core : Nat) (f : VFields)
  /-- VICMP (R110): VICMP writes a predicate from an integer comparison. -/
  | vicmp (core : Nat) (f : VFields)
  /-- VSEL (R110): VSEL selects lanes by a predicate. -/
  | vsel (core : Nat) (f : VFields)
  /-- VBCS (R110): VBCS broadcasts a scalar register. -/
  | vbcs (core : Nat) (f : VFields)
  /-- VBCI (R110): VBCI broadcasts an immediate bit pattern. -/
  | vbci (core : Nat) (f : VFields)
  /-- VPERM (R110): VPERM permutes lanes by index. -/
  | vperm (core : Nat) (f : VFields)
  /-- VROT (R110): VROT rotates lanes by an immediate. -/
  | vrot (core : Nat) (f : VFields)
  /-- VEXT (R110): VEXT extracts a lane to a scalar register. -/
  | vext (core : Nat) (f : VFields)
  /-- VINS (R110): VINS inserts a scalar into one lane. -/
  | vins (core : Nat) (f : VFields)
  /-- VRSUM (R111): VRSUM sums enabled lanes by the fixed tree. -/
  | vrsum (core : Nat) (f : VFields)
  /-- VRMAX (R111): VRMAX takes the maximum over enabled lanes. -/
  | vrmax (core : Nat) (f : VFields)
  /-- VRMIN (R111): VRMIN takes the minimum over enabled lanes. -/
  | vrmin (core : Nat) (f : VFields)
  /-- VRISUM (R111): VRISUM sums enabled INT32 lanes wrapping. -/
  | vrisum (core : Nat) (f : VFields)
  /-- VEXPMAX (R111): VEXPMAX takes the largest binary exponent over enabled non-zero lanes. -/
  | vexpmax (core : Nat) (f : VFields)
  /-- VCVTI (R153): VCVTI converts FP32 to INT32 under ROUND. -/
  | vcvti (core : Nat) (f : VFields)
  /-- VCVTF (R153): VCVTF converts INT32 to FP32 nearest-even. -/
  | vcvtf (core : Nat) (f : VFields)
  /-- VRND (R155): VRND rounds to a format's value under a block scale, kept as FP32. -/
  | vrnd (core : Nat) (f : VFields)
  /-- VFIX (R163): VFIX converts a scaled FP32 lane to an INT64 pair under ROUND. -/
  | vfix (core : Nat) (f : VFields)
  /-- VFLT (R164): VFLT converts a scaled INT64 pair to FP32 nearest-even. -/
  | vflt (core : Nat) (f : VFields)
  /-- VADD64 (R110): VADD64 adds INT64 pairs modulo 2^64. -/
  | vadd64 (core : Nat) (f : VFields)
  /-- VRAND (R185): VRAND delivers indexed random words from the draw region. -/
  | vrand (core : Nat) (f : VFields)
  /-- VRDA (R110): VRDA reads one row of an accumulator tile. -/
  | vrda (core : Nat) (f : VFields)
  /-- VWRA (R110): VWRA writes one row of an accumulator tile. -/
  | vwra (core : Nat) (f : VFields)
  /-- VPLOG (R110): VPLOG combines two predicates. -/
  | vplog (core : Nat) (f : VFields)
  /-- VPSET (R110): VPSET sets a predicate from a scalar pair. -/
  | vpset (core : Nat) (f : VFields)
  /-- VPGET (R110): VPGET reads half of a predicate into a scalar register. -/
  | vpget (core : Nat) (f : VFields)
  /-- VLD (R112): VLD loads 256 B from the near store or own T0. -/
  | vld (core : Nat) (f : VFields)
  /-- VST (R112): VST stores 256 B. -/
  | vst (core : Nat) (f : VFields)
  /-- VLDS (R112): VLDS loads one word and broadcasts it. -/
  | vlds (core : Nat) (f : VFields)
  /-- VLDX (R112): VLDX gathers one word per lane by index. -/
  | vldx (core : Nat) (f : VFields)
  /-- SFN (R166): SFN evaluates a table function of each lane. -/
  | sfn (core : Nat) (rom : Bool) (f : SfFields)
  /-- SFNB (R174): SFNB adds a bias then evaluates the function. -/
  | sfnb (core : Nat) (rom : Bool) (f : SfFields)
  /-- SFNBS (R174): SFNBS adds a bias, evaluates and scales. -/
  | sfnbs (core : Nat) (rom : Bool) (f : SfFields)
  /-- SDER (R175): SDER multiplies an upstream gradient by the function's derivative. -/
  | sder (core : Nat) (rom : Bool) (f : SfFields)
  /-- SNORM_TABLE (R191): SNORM with tver[0] = 0 maps a uniform word to a normal variate by the table. -/
  | snormTable (core : Nat) (f : SfFields)
  /-- SNORM_BOX_MULLER (R192): SNORM with tver[0] = 1 forms a Box–Muller normal variate. -/
  | snormBoxMuller (core : Nat) (rom : Bool) (f : SfFields)
  /-- XFER_ROWS (R116): XFER ROWS copies rows of bytes between addresses. -/
  | xferRows (core : Nat) (f : MvFields)
  /-- XFER_TRANSPOSE (R117): XFER TRANSPOSE writes the exact transpose of a tile and its scales. -/
  | xferTranspose (core : Nat) (f : MvFields)
  /-- XFER_CONVERT (R152): XFER CONVERT converts rows between formats under ROUND. -/
  | xferConvert (core : Nat) (f : MvFields)
  /-- XFER_CONVERT_TRANSPOSE (R116): XFER CONVERT_TRANSPOSE transposes then converts. -/
  | xferConvertTranspose (core : Nat) (f : MvFields)
  /-- XFER_FILL (R116): XFER FILL writes a scalar into every destination word. -/
  | xferFill (core : Nat) (f : MvFields)
  /-- RACC (R119): RACC adds INT64 elements at the destination's adder. -/
  | racc (core : Nat) (f : MvFields)
  /-- ATOM_ADD32 (R120): ATOM ADD32 atomically adds 4 B and returns the old value. -/
  | atomAdd32 (core : Nat) (f : MvFields)
  /-- ATOM_ADD64 (R120): ATOM ADD64 atomically adds 8 B and returns the old value. -/
  | atomAdd64 (core : Nat) (f : MvFields)
  /-- ATOM_SWAP32 (R120): ATOM SWAP32 atomically swaps 4 B. -/
  | atomSwap32 (core : Nat) (f : MvFields)
  /-- ATOM_SWAP64 (R120): ATOM SWAP64 atomically swaps 8 B. -/
  | atomSwap64 (core : Nat) (f : MvFields)
  /-- ATOM_CAS32 (R120): ATOM CAS32 compares and swaps 4 B. -/
  | atomCas32 (core : Nat) (f : MvFields)
  /-- ATOM_CAS64 (R120): ATOM CAS64 compares and swaps 8 B. -/
  | atomCas64 (core : Nat) (f : MvFields)
  /-- ATOM_MAXS32 (R120): ATOM MAXS32 atomically stores the signed maximum. -/
  | atomMaxs32 (core : Nat) (f : MvFields)
  /-- ATOM_MINS32 (R120): ATOM MINS32 atomically stores the signed minimum. -/
  | atomMins32 (core : Nat) (f : MvFields)
  /-- ACCST (R122): ACCST writes accumulator tile rows to memory, optionally transposed or converted. -/
  | accst (core : Nat) (mode : BitVec 4) (f : MvFields)
  /-- ACCLD (R122): ACCLD loads tile rows from memory, optionally converted. -/
  | accld (core : Nat) (mode : BitVec 4) (f : MvFields)
  /-- MWAIT (R124): MWAIT stalls until a move group has at most the given count outstanding. -/
  | mwait (core : Nat) (f : SyFields)
  /-- FENCE_LOCAL (R124): A local fence holds later moves until earlier stores have landed. -/
  | fenceLocal (core : Nat) (f : SyFields)
  /-- FENCE_GLOBAL (R124): A global fence holds later accesses until earlier stores and moves are visible
      everywhere. -/
  | fenceGlobal (core : Nat) (f : SyFields)
  /-- SEND (R129): SEND sends a message to a logical core, holding while the receive queue is full. -/
  | send (core : Nat) (f : SyFields)
  /-- RECV (R124): RECV takes the oldest message on a channel into a register pair. -/
  | recv (core : Nat) (f : SyFields)
  /-- SEMACQ (R126): SEMACQ waits for a semaphore above 0 and decrements it. -/
  | semacq (core : Nat) (f : SyFields)
  /-- SEMREL (R126): SEMREL fences and increments a semaphore, saturating with SEM_OVERFLOW. -/
  | semrel (core : Nat) (f : SyFields)
  /-- WAITARR (R127): WAITARR waits until an arrival flag is LANDED and sets it IDLE. -/
  | waitarr (core : Nat) (f : SyFields)
  /-- WAITFT (R124): WAITFT waits until local fabric time reaches a value. -/
  | waitft (core : Nat) (f : SyFields)
  /-- BAR (R124): BAR arrives at a partition barrier and waits for all participants. -/
  | bar (core : Nat) (f : SyFields)
  /-- COLD_RESET (R496): RESET_N driven low, as at power-down, puts the device in cold reset, losing T0, T1 and near
      stores and clearing every LOCK and pairing. -/
  | coldReset
  /-- PARTITION_RESET_DONE (R454): Once the engines' sent packets are all acknowledged or reported lost, a partition
      or tenant reset completes within 5 ms, life returns from RESETTING to LIVE, or from DESTROYING to FREE, and
      PARTITION_RESET_DONE is raised. -/
  | partitionResetDone (pid : Nat)
  /-- REGION_MIGRATION_DONE (R203): The last granule moved by hardware migration or by a hint write reaches its new
      home, and the region leaves MIGRATING for RESIDENT. -/
  | regionMigrationDone (pid : Nat) (region : Nat)
  /-- LINK_CONTROL_WORD (R307): A received control word carrying a link acknowledgement, link credit or replay
      request frees replay-buffer space, returns credit, or makes the sender re-send from the failed unit. -/
  | linkControlWord (port : Nat) (w : LinkCtl)
  deriving DecidableEq, Repr

end Sys2Proof
end

