-- ==== Sys2Proof/Decode.lean ====
section
/-! DEFINITION. Words that spell commands: the table gives no row any bits, so no word spells one. -/
namespace Sys2Proof

/-- The command that a word spells: none, for the table gives no row a bit. -/
def decodeTableWord (_nbits _w : Nat) : Option Instr := none

end Sys2Proof
end

