-- ==== Sys2Proof/Config.lean ====
section
/-! DEFINITION. The values the spec leaves open: constants without a body, of which nothing can be proved, so a statement
holds whatever they are. The machine applies them to the counter `State.free` or to the operands named. -/
namespace Sys2Proof.Config

/-- The n-th free 32-bit value: a word drawn in loose mode (R194), the random part of a tenant key (R379), a byte of a
late move's destination (R210). Log entry 10. -/
opaque freeWord : Nat → Word

/-- Whether the n-th transposing store takes its MX source as column-blocked, where both layouts fit (R117 names none).
Log entry 14. -/
opaque freeLayout : Nat → Bool

/-- The Falcon-1024 key pair derived from a seed: private key bytes and public key bytes (R436; the external standard).
Log entry 13. -/
opaque falconKeygen : List Byte → List Byte × List Byte

/-- SHAKE256 of the mask ROM, 64 bytes (R437): the spec does not give the ROM. Log entry 13. -/
opaque romDigest : List Byte

/-- SHAKE256 of the public signing key of a ROM key slot, 64 bytes (R433). Log entry 13. -/
opaque romKeyDigest : Nat → List Byte

/-- A Falcon-1024 signature of a message under a private key (R436, R438). Log entry 13. -/
opaque falconSign : List Byte → List Byte → List Byte

/-- The T1 offset of the variant table of a model slot: R226 puts the table in T1 and names no address. Log entry 18. -/
opaque variantTable : Nat → Nat

/-- Entries of the bucket table at an address, after its first: R272 and R274 speak of its end and give no length. Log entry 22. -/
opaque bucketCount : Nat → Nat

/-- The T1 offset, in entries of 8 B, of the run map of the bucket table at an address: R272 names no base for its index. Log
entry 22. -/
opaque runMap : Nat → Nat

/-- Where in a REDUCE_SCATTER's output an owned chunk lies (chunk, members, chunk bytes): R325 does not say. Log entry 24. -/
opaque scatterPlace : Nat → Nat → Nat → Nat

/-- The device that a hare MSG entered by core code goes to: R320's block names none. Log entry 24. -/
opaque msgDevice : Nat → Nat

/-- Where a weight block lies in its preconditioned block (preconditioned block, w_off): its 64-row band and its 64-column
band. R295 speaks of d consecutive rows and does not say which block holds which. Log entry 25. -/
opaque precondPlace : Nat → Nat → Nat × Nat

/-- Update-gather packets a receiver admits at a time from one member: R298 and R314 give no number. Log entry 26. -/
opaque gatherWindow : Nat

/-- The tag of the quiescence AND of a learner step (R282): the spec names none. Log entry 28. -/
opaque quiesceTag : Nat → Nat

/-- The lowest VCORE in mV that the critical-path monitors pass at frequency code j (R450): a property of the silicon. Log
entry 29. -/
opaque criticalPath : Nat → Nat

/-- What the firmware extends M5 and M7 by at a partition command, and M4 by when it reloads the tables after a warm reset
(R437): command code, partition. The spec gives no form. Log entry 30. -/
opaque measData : Nat → Nat → List Byte

/-- The firmware's own working memory in T1 (R347): offset and bytes. Log entry 30. -/
opaque firmwareArea : Nat × Nat

/-- What a register that reports bandwidth or busy time reads: register, timer. The model has no such times. Log entry 31. -/
opaque timed : Nat → Nat → Nat

end Sys2Proof.Config
end

