-- ==== Sys2Proof/Machine/Bits.lean ====
section
/-! DEFINITION. Bit fields, sign extension and little-endian byte order (R15), used by every other file. -/
namespace Sys2Proof.Machine

/-- Bits [hi:lo] of a number. -/
def field (w hi lo : Nat) : Nat := (w >>> lo) % 2 ^ (hi + 1 - lo)

/-- The number `w` with bits [hi:lo] replaced by the low bits of `v`. -/
def setField (w hi lo v : Nat) : Nat :=
  w - (field w hi lo) * 2 ^ lo + (v % 2 ^ (hi + 1 - lo)) * 2 ^ lo

/-- Bit `i` of a number. -/
def bit (w i : Nat) : Bool := w.testBit i

/-- The number with bit `i` set to `b`. -/
def setBit (w i : Nat) (b : Bool) : Nat := setField w i i (if b then 1 else 0)

/-- Two's-complement reading of the low `n` bits of `w`. -/
def sext (n w : Nat) : Int :=
  let u := w % 2 ^ n
  if u < 2 ^ (n - 1) then (u : Int) else (u : Int) - (2 ^ n : Nat)

/-- The number 1 for true, 0 for false. -/
def ofBool (b : Bool) : Nat := if b then 1 else 0

/-- The number whose little-endian bytes are `bs` (R15). -/
def leNat : List Byte → Nat
  | [] => 0
  | b :: bs => b.toNat + 256 * leNat bs

/-- The `n` little-endian bytes of a number (R15). -/
def leBytes : Nat → Nat → List Byte
  | 0, _ => []
  | n + 1, w => BitVec.ofNat 8 w :: leBytes n (w / 256)

/-- ceil(a / b). -/
def ceilDiv (a b : Nat) : Nat := (a + b - 1) / b

/-- floor(log2 n), 0 for 0. -/
def log2 (n : Nat) : Nat := Nat.log2 n

/-- Insert before the first element that does not come earlier. -/
def insertBy {α : Type} (le : α → α → Bool) (a : α) : List α → List α
  | [] => [a]
  | b :: l => if le a b then a :: b :: l else b :: insertBy le a l

/-- A stable sort. -/
def sortBy {α : Type} (le : α → α → Bool) : List α → List α
  | [] => []
  | a :: l => insertBy le a (sortBy le l)

/-- The numbers below `n`, rising. -/
def upTo (n : Nat) : List Nat := List.range n

end Sys2Proof.Machine
end

