-- ==== Sys2Proof/Machine/RegTable.lean ====
section
/-! DEFINITION. Every register field of every page, transcribed row by row from the register tables of the spec (Tables
5.3, 7.5, 8.4, 9.6, 10.5, 11.10, 12.4, 13.5, 14.6, 15.8, 15.9, 16.5, 17.4, 18.7, 18.8, 19.4, 20.5, 20.6, 21.6, 21.7, 22.4,
23.1, 23.5, 23.6, 23.8, 23.9, 24.3): offset, bits, access, After cold, After warm. Reserved rows are left out: they read
zero and ignore writes (R16). -/
namespace Sys2Proof.Machine

/-- Access types (R17, Table 0.5). -/
inductive Acc where
  | ro | rw | w1c | wo | rwl
  deriving DecidableEq, Repr

/-- A field of `n` registers 8 bytes apart from offset `off` of a page: its bits, its access, its value after a cold reset
(0 for ROM, fuse and firmware entries, which other rules set) and after a warm reset (none: kept). -/
structure RegRow where
  off : Nat
  n : Nat
  hi : Nat
  lo : Nat
  acc : Acc
  cold : Nat
  warm : Option Nat
  deriving DecidableEq, Repr

/-- A named field of a register: class base offset plus register offset, and its bits. -/
structure Fld where
  reg : Nat
  hi : Nat
  lo : Nat
  deriving DecidableEq, Repr

/-- Rows of the DEVICE page. -/
def regRowsDevice : List RegRow :=
  [⟨0x100, 1, 39, 32, .ro, 0, none⟩,
   ⟨0x100, 1, 31, 24, .ro, 0, none⟩,
   ⟨0x100, 1, 23, 16, .ro, 0, none⟩,
   ⟨0x100, 1, 10, 0, .ro, 0, none⟩,
   ⟨0x108, 1, 42, 32, .ro, 0, none⟩,
   ⟨0x108, 1, 31, 0, .ro, 0, none⟩,
   ⟨0x110, 1, 63, 0, .ro, 0, none⟩,
   ⟨0x118, 1, 63, 0, .ro, 0, none⟩,
   ⟨0x120, 1, 63, 0, .ro, 0, none⟩,
   ⟨0x128, 1, 31, 24, .ro, 0, none⟩,
   ⟨0x128, 1, 23, 16, .ro, 0, none⟩,
   ⟨0x128, 1, 15, 8, .ro, 0, none⟩,
   ⟨0x128, 1, 7, 0, .ro, 0, none⟩,
   ⟨0x130, 1, 31, 16, .ro, 0, none⟩,
   ⟨0x130, 1, 15, 8, .ro, 0, none⟩,
   ⟨0x130, 1, 7, 0, .ro, 0, none⟩,
   ⟨0x138, 1, 63, 0, .ro, 0, none⟩,
   ⟨0x140, 16, 63, 0, .ro, 0, none⟩,
   ⟨0x1C0, 1, 63, 0, .ro, 0, none⟩,
   ⟨0x1C8, 1, 15, 0, .rwl, 0, none⟩,
   ⟨0x1D0, 1, 31, 24, .wo, 0, none⟩,
   ⟨0x1E8, 1, 15, 0, .rw, 0, some 0⟩,
   ⟨0x1F0, 1, 63, 32, .wo, 0, none⟩,
   ⟨0x1F0, 1, 31, 0, .wo, 0, none⟩] ++
  [⟨0x280, 16, 63, 0, .ro, 0, none⟩,
   ⟨0x1D8, 1, 31, 24, .wo, 0, none⟩,
   ⟨0x1E0, 1, 63, 32, .ro, 0, none⟩,
   ⟨0x1E0, 1, 31, 24, .ro, 0, none⟩,
   ⟨0x1E0, 1, 23, 22, .ro, 0, none⟩,
   ⟨0x1E0, 1, 10, 0, .ro, 0, none⟩,
   ⟨0x200, 16, 63, 0, .ro, 0, none⟩]

/-- Rows of the EVENT page. -/
def regRowsEvent : List RegRow :=
  [⟨0x100, 1, 31, 31, .rwl, 0, none⟩,
   ⟨0x100, 1, 9, 0, .rwl, 0, none⟩,
   ⟨0x108, 1, 63, 0, .ro, 0, some 0⟩,
   ⟨0x110, 1, 63, 0, .ro, 0, some 0⟩,
   ⟨0x118, 1, 63, 48, .ro, 0, some 0⟩,
   ⟨0x118, 1, 47, 0, .ro, 0, some 0⟩]

/-- Rows of the GOV page. -/
def regRowsGov : List RegRow :=
  [⟨0x100, 1, 63, 48, .rwl, 0xA28, none⟩,
   ⟨0x100, 1, 47, 40, .rwl, 0x5A, none⟩,
   ⟨0x100, 1, 39, 36, .rwl, 8, none⟩,
   ⟨0x100, 1, 35, 32, .rwl, 0, none⟩,
   ⟨0x100, 1, 31, 16, .rwl, 0x352, none⟩,
   ⟨0x100, 1, 15, 0, .rwl, 0x26C, none⟩,
   ⟨0x108, 1, 31, 24, .wo, 0, none⟩,
   ⟨0x110, 1, 63, 62, .ro, 0, some 0⟩,
   ⟨0x110, 1, 51, 48, .ro, 0, some 0⟩,
   ⟨0x110, 1, 47, 32, .ro, 0, some 0⟩,
   ⟨0x110, 1, 31, 16, .ro, 0, some 0⟩,
   ⟨0x110, 1, 15, 8, .ro, 0, some 0⟩,
   ⟨0x110, 1, 1, 0, .ro, 0, some 0⟩,
   ⟨0x118, 1, 39, 0, .ro, 0, some 0⟩,
   ⟨0x120, 1, 2, 0, .rw, 0, some 0⟩,
   ⟨0x128, 1, 63, 48, .ro, 0, some 0⟩,
   ⟨0x128, 1, 47, 24, .ro, 0, some 0⟩,
   ⟨0x128, 1, 23, 16, .ro, 0, some 0⟩,
   ⟨0x128, 1, 15, 0, .ro, 0, some 0⟩,
   ⟨0x130, 1, 63, 0, .ro, 0, none⟩,
   ⟨0x138, 1, 63, 0, .ro, 0, some 0⟩,
   ⟨0x140, 1, 63, 0, .ro, 0, none⟩]

/-- Rows of the TIME page. -/
def regRowsTime : List RegRow :=
  [⟨0x100, 1, 63, 0, .ro, 0, none⟩,
   ⟨0x108, 1, 31, 24, .ro, 0xFF, some 0xFF⟩,
   ⟨0x108, 1, 23, 16, .ro, 0xFF, some 0xFF⟩,
   ⟨0x108, 1, 2, 0, .ro, 0, some 3⟩,
   ⟨0x110, 1, 31, 0, .ro, 0, some 0⟩,
   ⟨0x118, 1, 31, 0, .rwl, 0, none⟩,
   ⟨0x120, 1, 31, 16, .rwl, 0xA, none⟩,
   ⟨0x120, 1, 7, 0, .rwl, 0x18, none⟩,
   ⟨0x128, 1, 31, 24, .wo, 0, none⟩,
   ⟨0x130, 1, 31, 0, .ro, 0, none⟩,
   ⟨0x138, 1, 63, 0, .ro, 0, some 0⟩,
   ⟨0x140, 1, 63, 0, .ro, 0, some 0⟩]

/-- Rows of the BOOT page. -/
def regRowsBoot : List RegRow :=
  [⟨0x100, 1, 31, 24, .ro, 0, some 0⟩,
   ⟨0x100, 1, 23, 20, .ro, 0, some 0⟩,
   ⟨0x100, 1, 1, 0, .ro, 0, some 0⟩,
   ⟨0x108, 1, 31, 0, .wo, 0, none⟩,
   ⟨0x110, 1, 13, 8, .ro, 0, none⟩,
   ⟨0x110, 1, 3, 0, .ro, 0, none⟩,
   ⟨0x118, 1, 31, 0, .ro, 0, some 0⟩,
   ⟨0x120, 1, 0, 0, .wo, 0, none⟩,
   ⟨0x128, 1, 63, 0, .ro, 0, none⟩,
   ⟨0x140, 8, 63, 0, .ro, 0, none⟩,
   ⟨0x200, 425, 63, 0, .ro, 0, some 0⟩]

/-- Rows of the TWIN_LINK page. -/
def regRowsTwinLink : List RegRow :=
  [⟨0x100, 1, 63, 48, .rwl, 0, none⟩,
   ⟨0x100, 1, 47, 32, .rwl, 0xA, none⟩,
   ⟨0x100, 1, 31, 16, .rwl, 0xC8, none⟩,
   ⟨0x100, 1, 7, 4, .rwl, 3, none⟩,
   ⟨0x100, 1, 3, 3, .rw, 0, none⟩,
   ⟨0x108, 1, 63, 0, .rwl, 0, none⟩,
   ⟨0x110, 1, 31, 24, .wo, 0, none⟩,
   ⟨0x118, 1, 17, 16, .ro, 0, some 0⟩,
   ⟨0x118, 1, 2, 0, .ro, 0, none⟩,
   ⟨0x120, 1, 63, 0, .ro, 0, none⟩,
   ⟨0x128, 1, 44, 40, .ro, 0, none⟩,
   ⟨0x128, 1, 39, 0, .ro, 0, none⟩,
   ⟨0x130, 1, 63, 0, .ro, 0, some 0⟩,
   ⟨0x138, 1, 63, 0, .ro, 0, some 0⟩]

/-- Rows of the PORT page. -/
def regRowsPort : List RegRow :=
  [⟨0x100, 1, 31, 24, .ro, 0, some 0⟩,
   ⟨0x100, 1, 23, 20, .ro, 0, some 0⟩,
   ⟨0x108, 1, 8, 8, .rwl, 0, none⟩,
   ⟨0x108, 1, 7, 6, .rwl, 0, none⟩,
   ⟨0x108, 1, 0, 0, .rwl, 0, none⟩,
   ⟨0x110, 1, 63, 0, .ro, 0, some 0⟩,
   ⟨0x118, 1, 63, 0, .ro, 0, some 0⟩,
   ⟨0x120, 1, 63, 0, .ro, 0, some 0⟩,
   ⟨0x128, 1, 63, 0, .ro, 0, some 0⟩,
   ⟨0x130, 1, 63, 48, .rw, 0x3E8, none⟩,
   ⟨0x130, 1, 39, 32, .rw, 0xFF, none⟩,
   ⟨0x130, 1, 15, 12, .ro, 0, some 0⟩,
   ⟨0x130, 1, 9, 9, .rwl, 0, none⟩,
   ⟨0x130, 1, 8, 8, .ro, 0, some 0⟩,
   ⟨0x130, 1, 5, 4, .ro, 0, some 0⟩,
   ⟨0x130, 1, 2, 0, .rw, 0, some 0⟩,
   ⟨0x138, 1, 63, 0, .ro, 0, some 0⟩,
   ⟨0x140, 1, 63, 0, .ro, 0, some 0⟩,
   ⟨0x148, 1, 63, 0, .ro, 0, some 0⟩]

/-- Rows of the HPORT page. -/
def regRowsHport : List RegRow :=
  [⟨0x100, 1, 23, 20, .ro, 0, some 0⟩,
   ⟨0x100, 1, 1, 0, .ro, 0, some 0⟩,
   ⟨0x108, 1, 47, 0, .ro, 0, none⟩,
   ⟨0x110, 1, 31, 0, .rwl, 0, none⟩,
   ⟨0x118, 1, 63, 0, .rwl, 0, none⟩,
   ⟨0x120, 1, 63, 0, .rwl, 0, none⟩,
   ⟨0x128, 1, 23, 21, .rwl, 3, none⟩,
   ⟨0x128, 1, 20, 15, .rwl, 0x1A, none⟩,
   ⟨0x128, 1, 12, 12, .rwl, 0, none⟩,
   ⟨0x128, 1, 11, 0, .rwl, 0, none⟩,
   ⟨0x130, 1, 31, 16, .rwl, 0x400, none⟩,
   ⟨0x130, 1, 7, 0, .rwl, 8, none⟩,
   ⟨0x138, 1, 31, 16, .rwl, 0x32, none⟩,
   ⟨0x138, 1, 15, 0, .rwl, 0x1388, none⟩,
   ⟨0x140, 1, 0, 0, .rw, 0, none⟩,
   ⟨0x148, 1, 63, 0, .ro, 0, some 0⟩,
   ⟨0x150, 1, 63, 0, .ro, 0, some 0⟩,
   ⟨0x158, 1, 63, 0, .ro, 0, some 0⟩,
   ⟨0x160, 1, 63, 48, .rw, 0x3E8, none⟩,
   ⟨0x160, 1, 39, 32, .rw, 0xFF, none⟩,
   ⟨0x160, 1, 15, 12, .ro, 0, some 0⟩,
   ⟨0x160, 1, 5, 4, .ro, 0, some 0⟩,
   ⟨0x160, 1, 2, 0, .rw, 0, some 0⟩,
   ⟨0x168, 1, 63, 0, .ro, 0, some 0⟩] ++
  [⟨0x170, 1, 63, 0, .ro, 0, some 0⟩]

/-- Rows of the HOST page. -/
def regRowsHost : List RegRow :=
  [⟨0x100, 1, 31, 31, .rw, 0, none⟩,
   ⟨0x100, 1, 30, 30, .rw, 0, none⟩,
   ⟨0x108, 1, 63, 0, .rw, 0, none⟩,
   ⟨0x110, 1, 63, 32, .rw, 0, none⟩,
   ⟨0x110, 1, 31, 20, .rw, 0, none⟩,
   ⟨0x110, 1, 4, 0, .rw, 0, none⟩,
   ⟨0x118, 1, 63, 0, .rw, 0, some 0⟩,
   ⟨0x120, 1, 63, 0, .rw, 0, none⟩,
   ⟨0x128, 1, 63, 32, .rw, 0, none⟩,
   ⟨0x128, 1, 31, 20, .rw, 0, none⟩,
   ⟨0x128, 1, 4, 0, .rw, 0, none⟩,
   ⟨0x130, 1, 63, 0, .rw, 0, some 0⟩,
   ⟨0x138, 1, 9, 0, .rw, 0, some 0⟩,
   ⟨0x140, 1, 63, 0, .rw, 0, none⟩,
   ⟨0x148, 1, 31, 31, .rw, 0, none⟩,
   ⟨0x148, 1, 30, 30, .rw, 0, none⟩,
   ⟨0x148, 1, 4, 0, .rw, 4, none⟩,
   ⟨0x150, 1, 63, 0, .ro, 0, some 0⟩,
   ⟨0x158, 1, 2, 2, .w1c, 0, some 0⟩,
   ⟨0x158, 1, 1, 1, .w1c, 0, some 0⟩,
   ⟨0x158, 1, 0, 0, .ro, 0, some 0⟩,
   ⟨0x160, 1, 63, 0, .ro, 0, some 0⟩,
   ⟨0x168, 1, 63, 0, .ro, 0, some 0⟩,
   ⟨0x170, 1, 27, 16, .ro, 0, none⟩] ++
  [⟨0x170, 1, 11, 0, .ro, 0, some 0⟩]

/-- Rows of the ATTEST page. -/
def regRowsAttest : List RegRow :=
  [⟨0x100, 1, 31, 24, .wo, 0, none⟩,
   ⟨0x108, 1, 1, 0, .ro, 0, some 0⟩,
   ⟨0x140, 8, 63, 0, .rw, 0, some 0⟩,
   ⟨0x800, 240, 63, 0, .ro, 0, some 0⟩]

/-- Rows of the PARTITION page. -/
def regRowsPartition : List RegRow :=
  [⟨0x100, 1, 63, 54, .rw, 0, none⟩,
   ⟨0x100, 1, 53, 52, .rw, 0, none⟩,
   ⟨0x100, 1, 51, 51, .rw, 0, none⟩,
   ⟨0x100, 1, 42, 32, .rw, 0, none⟩,
   ⟨0x100, 1, 4, 0, .rw, 0, none⟩,
   ⟨0x108, 1, 63, 32, .rw, 0, none⟩,
   ⟨0x108, 1, 31, 0, .rw, 0, none⟩,
   ⟨0x110, 1, 31, 24, .wo, 0, none⟩,
   ⟨0x118, 1, 23, 16, .ro, 0, none⟩,
   ⟨0x118, 1, 9, 8, .ro, 0, some 0⟩,
   ⟨0x118, 1, 2, 0, .ro, 0, none⟩,
   ⟨0x120, 1, 0, 0, .rw, 0, some 0⟩,
   ⟨0x128, 1, 10, 0, .ro, 0, none⟩,
   ⟨0x130, 1, 9, 0, .rw, 0, some 0⟩,
   ⟨0x138, 1, 9, 0, .ro, 0, none⟩,
   ⟨0x140, 16, 63, 0, .rw, 0, none⟩,
   ⟨0x1C0, 16, 63, 0, .rw, 0, none⟩,
   ⟨0x240, 16, 63, 0, .ro, 0, none⟩,
   ⟨0x2C0, 1, 63, 0, .ro, 0, some 0⟩,
   ⟨0x2C8, 1, 0, 0, .ro, 0, some 0⟩,
   ⟨0x2D0, 1, 63, 0, .ro, 0, none⟩,
   ⟨0x2D8, 1, 63, 0, .ro, 0, none⟩,
   ⟨0x300, 32, 63, 0, .ro, 0, none⟩]

/-- Rows of the SCHED page. -/
def regRowsSched : List RegRow :=
  [⟨0x100, 1, 43, 24, .rwl, 0xFFC80, none⟩,
   ⟨0x100, 1, 23, 20, .rwl, 4, none⟩,
   ⟨0x100, 1, 19, 0, .rwl, 0xB6600, none⟩,
   ⟨0x108, 1, 3, 0, .rw, 0, some 0⟩,
   ⟨0x110, 1, 63, 0, .rwl, 0, none⟩,
   ⟨0x118, 1, 31, 31, .rwl, 0, none⟩,
   ⟨0x118, 1, 30, 30, .rwl, 0, none⟩,
   ⟨0x118, 1, 29, 29, .rwl, 0, none⟩,
   ⟨0x118, 1, 10, 8, .rwl, 7, none⟩,
   ⟨0x118, 1, 4, 0, .rwl, 4, none⟩,
   ⟨0x120, 1, 63, 0, .ro, 0, none⟩,
   ⟨0x128, 1, 5, 0, .rw, 0, some 0⟩,
   ⟨0x130, 1, 31, 16, .rw, 0, none⟩,
   ⟨0x130, 1, 15, 0, .ro, 0, none⟩,
   ⟨0x138, 1, 63, 16, .rwl, 0, none⟩,
   ⟨0x138, 1, 15, 0, .rwl, 0, none⟩,
   ⟨0x140, 1, 63, 0, .rw, 0, none⟩,
   ⟨0x148, 1, 31, 24, .wo, 0, none⟩,
   ⟨0x150, 1, 15, 8, .ro, 0, none⟩,
   ⟨0x150, 1, 2, 0, .ro, 0, none⟩,
   ⟨0x158, 1, 63, 0, .ro, 0, some 0⟩,
   ⟨0x160, 1, 63, 0, .ro, 0, some 0⟩,
   ⟨0x168, 1, 63, 0, .ro, 0, some 0⟩,
   ⟨0x170, 1, 63, 0, .ro, 0, some 0⟩]

/-- Rows of the ARRAY page. -/
def regRowsArray : List RegRow :=
  [⟨0x100, 1, 31, 16, .rw, 0x64, none⟩,
   ⟨0x100, 1, 10, 0, .rw, 0x40, none⟩,
   ⟨0x108, 1, 63, 0, .ro, 0, some 0⟩,
   ⟨0x110, 1, 63, 0, .ro, 0, some 0⟩,
   ⟨0x118, 1, 63, 0, .ro, 0, some 0⟩,
   ⟨0x120, 1, 63, 32, .ro, 0, some 0⟩,
   ⟨0x120, 1, 31, 0, .ro, 0, some 0⟩]

/-- Rows of the SFTAB page. -/
def regRowsSftab : List RegRow :=
  [⟨0x100, 1, 23, 16, .ro, 0, none⟩,
   ⟨0x100, 1, 15, 8, .ro, 0, none⟩,
   ⟨0x100, 1, 7, 0, .ro, 0, none⟩,
   ⟨0x108, 1, 23, 16, .rw, 0, some 0⟩,
   ⟨0x108, 1, 13, 8, .rw, 0, some 0⟩,
   ⟨0x108, 1, 4, 0, .rw, 0, some 0⟩,
   ⟨0x110, 1, 63, 32, .ro, 0, none⟩,
   ⟨0x110, 1, 31, 0, .ro, 0, none⟩]

/-- Rows of the RNG page. -/
def regRowsRng : List RegRow :=
  [⟨0x100, 1, 31, 16, .ro, 0, none⟩,
   ⟨0x100, 1, 15, 0, .ro, 0, none⟩,
   ⟨0x108, 1, 15, 10, .rw, 0, some 0⟩,
   ⟨0x108, 1, 9, 0, .rw, 0, some 0⟩,
   ⟨0x110, 1, 31, 0, .ro, 0, none⟩,
   ⟨0x118, 1, 63, 0, .ro, 0, some 0⟩,
   ⟨0x120, 1, 63, 0, .ro, 0, some 0⟩,
   ⟨0x140, 16, 63, 0, .rw, 0, none⟩]

/-- Rows of the TIER page. -/
def regRowsTier : List RegRow :=
  [⟨0x100, 1, 19, 0, .rwl, 0x7D0, none⟩,
   ⟨0x108, 1, 63, 0, .rw, 0, some 0⟩,
   ⟨0x110, 1, 63, 0, .rw, 0, some 0⟩,
   ⟨0x118, 1, 31, 0, .wo, 0, none⟩,
   ⟨0x120, 1, 31, 24, .ro, 0, some 0⟩,
   ⟨0x120, 1, 23, 16, .ro, 0, some 0⟩,
   ⟨0x120, 1, 15, 0, .ro, 0, some 0⟩,
   ⟨0x130, 1, 63, 48, .rwl, 0xFFFF, none⟩,
   ⟨0x130, 1, 47, 32, .rwl, 0, none⟩,
   ⟨0x130, 1, 31, 16, .rwl, 0xFFFF, none⟩,
   ⟨0x130, 1, 15, 0, .rwl, 0, none⟩,
   ⟨0x138, 1, 31, 16, .rwl, 0xFFFF, none⟩,
   ⟨0x138, 1, 15, 0, .rwl, 0, none⟩,
   ⟨0x140, 1, 31, 16, .rwl, 0xFFFF, none⟩,
   ⟨0x140, 1, 15, 0, .rwl, 0, none⟩,
   ⟨0x148, 1, 63, 48, .rwl, 0x40, none⟩,
   ⟨0x148, 1, 31, 31, .rwl, 0, none⟩,
   ⟨0x148, 1, 23, 16, .rwl, 0x64, none⟩,
   ⟨0x148, 1, 15, 8, .rwl, 0x5F, none⟩,
   ⟨0x148, 1, 7, 0, .rwl, 0x55, none⟩,
   ⟨0x150, 1, 9, 8, .ro, 0, some 0⟩,
   ⟨0x150, 1, 7, 6, .ro, 0, some 0⟩,
   ⟨0x150, 1, 5, 4, .ro, 0, some 0⟩,
   ⟨0x150, 1, 3, 2, .ro, 0, some 0⟩] ++
  [⟨0x150, 1, 1, 0, .ro, 0, some 0⟩,
   ⟨0x158, 1, 63, 32, .ro, 0, none⟩,
   ⟨0x158, 1, 31, 0, .ro, 0, none⟩,
   ⟨0x160, 1, 11, 0, .rw, 0, some 0⟩,
   ⟨0x168, 1, 63, 0, .rw, 0, none⟩,
   ⟨0x170, 1, 39, 0, .rw, 0, none⟩,
   ⟨0x178, 1, 31, 24, .wo, 0, none⟩,
   ⟨0x178, 1, 15, 12, .ro, 0, none⟩,
   ⟨0x178, 1, 3, 0, .rw, 0, none⟩,
   ⟨0x180, 1, 31, 0, .ro, 0, none⟩,
   ⟨0x188, 1, 63, 0, .ro, 0, some 0⟩,
   ⟨0x190, 1, 63, 0, .ro, 0, some 0⟩,
   ⟨0x198, 1, 63, 0, .ro, 0, some 0⟩]

/-- Rows of the KV page. -/
def regRowsKv : List RegRow :=
  [⟨0x100, 1, 31, 16, .ro, 0, none⟩,
   ⟨0x100, 1, 15, 12, .rwl, 2, none⟩,
   ⟨0x100, 1, 7, 0, .rwl, 0x80, none⟩,
   ⟨0x108, 1, 63, 0, .rwl, 0, none⟩,
   ⟨0x110, 1, 63, 0, .rwl, 0, none⟩,
   ⟨0x118, 1, 63, 0, .rwl, 0, none⟩,
   ⟨0x120, 1, 7, 0, .rw, 0, some 0⟩,
   ⟨0x128, 1, 63, 48, .rwl, 0, none⟩,
   ⟨0x128, 1, 28, 16, .rwl, 0, none⟩,
   ⟨0x128, 1, 6, 0, .rwl, 0, none⟩,
   ⟨0x130, 1, 63, 48, .ro, 0, some 0⟩,
   ⟨0x130, 1, 47, 40, .ro, 0, some 0⟩,
   ⟨0x130, 1, 39, 32, .ro, 0, some 0⟩,
   ⟨0x130, 1, 31, 24, .ro, 0, some 0⟩,
   ⟨0x130, 1, 12, 0, .ro, 0, some 0⟩,
   ⟨0x138, 1, 63, 0, .ro, 0, some 0⟩,
   ⟨0x140, 1, 63, 0, .ro, 0, some 0⟩,
   ⟨0x148, 1, 63, 0, .ro, 0, some 0⟩,
   ⟨0x150, 1, 63, 0, .ro, 0, some 0⟩,
   ⟨0x158, 1, 63, 0, .ro, 0, some 0⟩,
   ⟨0x160, 1, 31, 0, .ro, 0, none⟩]

/-- Rows of the REQ page. -/
def regRowsReq : List RegRow :=
  [⟨0x100, 1, 31, 16, .rwl, 0x800, none⟩,
   ⟨0x100, 1, 2, 0, .rwl, 0, none⟩,
   ⟨0x108, 1, 63, 0, .rwl, 0, none⟩,
   ⟨0x110, 1, 63, 0, .rwl, 0, none⟩,
   ⟨0x118, 1, 63, 32, .rwl, 0, none⟩,
   ⟨0x118, 1, 31, 20, .rwl, 0, none⟩,
   ⟨0x118, 1, 4, 0, .rwl, 0, none⟩,
   ⟨0x120, 1, 63, 0, .rw, 0, some 0⟩,
   ⟨0x128, 1, 63, 0, .ro, 0, some 0⟩,
   ⟨0x130, 1, 31, 16, .ro, 0, some 0⟩,
   ⟨0x130, 1, 15, 0, .ro, 0, some 0⟩,
   ⟨0x138, 1, 63, 0, .ro, 0, some 0⟩,
   ⟨0x140, 1, 63, 0, .ro, 0, some 0⟩,
   ⟨0x148, 1, 63, 0, .ro, 0, some 0⟩,
   ⟨0x150, 1, 63, 0, .ro, 0, some 0⟩,
   ⟨0x158, 1, 63, 0, .ro, 0, some 0⟩,
   ⟨0x160, 1, 63, 0, .ro, 0, some 0⟩,
   ⟨0x168, 1, 63, 0, .ro, 0, some 0⟩,
   ⟨0x170, 1, 31, 0, .rw, 0, none⟩]

/-- Rows of the SETT page. -/
def regRowsSett : List RegRow :=
  [⟨0x100, 1, 55, 32, .rwl, 0, none⟩,
   ⟨0x100, 1, 23, 0, .rwl, 0, none⟩,
   ⟨0x108, 1, 63, 0, .rwl, 0, none⟩,
   ⟨0x110, 1, 39, 0, .rwl, 0, none⟩,
   ⟨0x118, 1, 47, 32, .rwl, 0x40, none⟩,
   ⟨0x118, 1, 21, 20, .rwl, 0, none⟩,
   ⟨0x118, 1, 19, 0, .rwl, 0xFFFE0, none⟩,
   ⟨0x120, 1, 31, 0, .wo, 0, none⟩,
   ⟨0x128, 1, 9, 0, .rw, 0, some 0⟩,
   ⟨0x130, 1, 63, 48, .ro, 0, some 0⟩,
   ⟨0x130, 1, 47, 32, .ro, 0, some 0⟩,
   ⟨0x130, 1, 31, 0, .ro, 0, some 0⟩,
   ⟨0x138, 1, 63, 0, .ro, 0, some 0⟩,
   ⟨0x140, 1, 63, 0, .ro, 0, some 0⟩,
   ⟨0x148, 1, 63, 0, .ro, 0, some 0⟩]

/-- Rows of the RED page. -/
def regRowsRed : List RegRow :=
  [⟨0x100, 1, 63, 48, .rwl, 0, none⟩,
   ⟨0x100, 1, 40, 32, .rwl, 1, none⟩,
   ⟨0x100, 1, 23, 16, .rwl, 0, none⟩,
   ⟨0x100, 1, 3, 0, .rwl, 0, none⟩,
   ⟨0x108, 1, 63, 0, .rwl, 0, none⟩,
   ⟨0x110, 1, 63, 0, .rwl, 0, none⟩,
   ⟨0x118, 1, 63, 0, .rwl, 0, none⟩,
   ⟨0x120, 1, 63, 32, .rwl, 0x7D0, none⟩,
   ⟨0x120, 1, 31, 0, .rwl, 0xC8, none⟩,
   ⟨0x128, 1, 32, 32, .rwl, 0, none⟩,
   ⟨0x128, 1, 19, 0, .rwl, 0xFFDE0, none⟩,
   ⟨0x130, 1, 31, 0, .wo, 0, none⟩,
   ⟨0x138, 1, 31, 0, .wo, 0, none⟩,
   ⟨0x140, 1, 31, 0, .wo, 0, none⟩,
   ⟨0x148, 1, 31, 0, .wo, 0, none⟩,
   ⟨0x150, 1, 63, 48, .ro, 0, some 0⟩,
   ⟨0x150, 1, 47, 32, .ro, 0, some 0⟩,
   ⟨0x150, 1, 31, 16, .ro, 0, some 0⟩,
   ⟨0x150, 1, 1, 1, .ro, 0, some 0⟩,
   ⟨0x150, 1, 0, 0, .ro, 0, some 0⟩,
   ⟨0x158, 1, 63, 48, .ro, 0, some 0⟩,
   ⟨0x158, 1, 47, 32, .ro, 0, some 0⟩,
   ⟨0x158, 1, 7, 0, .ro, 0, some 0⟩,
   ⟨0x160, 1, 63, 0, .ro, 0, some 0⟩] ++
  [⟨0x168, 1, 63, 0, .ro, 0, some 0⟩,
   ⟨0x170, 1, 63, 0, .ro, 0, some 0⟩,
   ⟨0x178, 1, 63, 0, .ro, 0, some 0⟩,
   ⟨0x180, 1, 63, 0, .ro, 0, some 0⟩]

/-- Rows of the UPD page. -/
def regRowsUpd : List RegRow :=
  [⟨0x100, 1, 63, 48, .rwl, 0, none⟩,
   ⟨0x100, 1, 47, 40, .rwl, 0, none⟩,
   ⟨0x100, 1, 39, 35, .rwl, 0xC, none⟩,
   ⟨0x100, 1, 34, 33, .rwl, 1, none⟩,
   ⟨0x100, 1, 32, 32, .rwl, 0, none⟩,
   ⟨0x100, 1, 31, 28, .rwl, 2, none⟩,
   ⟨0x100, 1, 27, 24, .rwl, 2, none⟩,
   ⟨0x100, 1, 23, 20, .rwl, 2, none⟩,
   ⟨0x100, 1, 17, 16, .rwl, 0, none⟩,
   ⟨0x100, 1, 3, 0, .rwl, 0, none⟩,
   ⟨0x108, 1, 63, 0, .rwl, 0, none⟩,
   ⟨0x110, 1, 63, 0, .rwl, 0, none⟩,
   ⟨0x118, 1, 63, 0, .rwl, 0, none⟩,
   ⟨0x120, 1, 63, 0, .rwl, 0, none⟩,
   ⟨0x128, 1, 63, 0, .rwl, 0, none⟩,
   ⟨0x130, 1, 63, 0, .rwl, 0, none⟩,
   ⟨0x138, 1, 31, 0, .rwl, 0x7F800000, none⟩,
   ⟨0x140, 1, 63, 32, .rwl, 0x3F7FBE77, none⟩,
   ⟨0x140, 1, 31, 0, .rwl, 0x3727C5AC, none⟩,
   ⟨0x148, 1, 63, 0, .rwl, 0, none⟩,
   ⟨0x150, 1, 31, 16, .rwl, 0x1388, none⟩,
   ⟨0x150, 1, 15, 0, .rwl, 0xFFFF, none⟩,
   ⟨0x180, 16, 31, 0, .rw, 0, none⟩,
   ⟨0x200, 32, 31, 0, .rwl, 0, none⟩] ++
  [⟨0x300, 1, 63, 48, .ro, 0, some 0⟩,
   ⟨0x300, 1, 47, 45, .ro, 0, some 0⟩,
   ⟨0x300, 1, 31, 0, .ro, 0, some 0⟩,
   ⟨0x308, 1, 63, 32, .ro, 0, some 0⟩,
   ⟨0x308, 1, 31, 0, .ro, 0, some 0⟩,
   ⟨0x310, 1, 63, 48, .ro, 0, some 0⟩,
   ⟨0x310, 1, 7, 0, .ro, 0, some 0⟩,
   ⟨0x318, 1, 63, 0, .ro, 0, some 0⟩,
   ⟨0x320, 1, 63, 0, .ro, 0, some 0⟩,
   ⟨0x328, 1, 63, 0, .ro, 0, some 0⟩,
   ⟨0x330, 1, 63, 0, .ro, 0, some 0⟩,
   ⟨0x338, 1, 63, 0, .ro, 0, some 0⟩,
   ⟨0x340, 1, 63, 0, .ro, 0, some 0⟩]

/-- Rows of the FAB page. -/
def regRowsFab : List RegRow :=
  [⟨0x100, 1, 31, 16, .rwl, 0xFFFF, none⟩,
   ⟨0x100, 1, 15, 0, .rwl, 0, none⟩,
   ⟨0x108, 1, 39, 32, .rwl, 0x10, none⟩,
   ⟨0x108, 1, 31, 24, .rwl, 0x10, none⟩,
   ⟨0x108, 1, 23, 16, .rwl, 0x20, none⟩,
   ⟨0x108, 1, 15, 8, .rwl, 0x20, none⟩,
   ⟨0x108, 1, 7, 0, .rwl, 0x40, none⟩,
   ⟨0x110, 1, 63, 0, .rwl, 0, none⟩,
   ⟨0x118, 1, 27, 16, .rwl, 0x40, none⟩,
   ⟨0x118, 1, 12, 0, .rwl, 0, none⟩,
   ⟨0x120, 1, 31, 0, .wo, 0, none⟩,
   ⟨0x128, 1, 25, 20, .wo, 0, none⟩,
   ⟨0x128, 1, 19, 0, .wo, 0, none⟩,
   ⟨0x130, 1, 1, 0, .ro, 0, some 0⟩,
   ⟨0x138, 1, 63, 0, .ro, 0, some 0⟩,
   ⟨0x140, 1, 63, 0, .ro, 0, some 0⟩,
   ⟨0x148, 1, 63, 0, .ro, 0, some 0⟩,
   ⟨0x150, 1, 63, 0, .ro, 0, some 0⟩,
   ⟨0x158, 1, 63, 0, .ro, 0, some 0⟩,
   ⟨0x160, 1, 63, 0, .rw, 0, none⟩,
   ⟨0x168, 1, 25, 20, .wo, 0, none⟩,
   ⟨0x168, 1, 19, 0, .wo, 0, none⟩,
   ⟨0x170, 1, 63, 0, .ro, 0, some 0⟩,
   ⟨0x178, 1, 63, 0, .rw, 0, none⟩] ++
  [⟨0x180, 1, 31, 24, .wo, 0, none⟩,
   ⟨0x180, 1, 10, 0, .wo, 0, none⟩,
   ⟨0x188, 1, 31, 24, .ro, 0, none⟩,
   ⟨0x188, 1, 10, 0, .ro, 0, none⟩]

/-- Rows of the PUB page. -/
def regRowsPub : List RegRow :=
  [⟨0x100, 1, 7, 0, .rw, 0, some 0⟩,
   ⟨0x108, 1, 63, 48, .rwl, 0, none⟩,
   ⟨0x108, 1, 47, 40, .rwl, 0, none⟩,
   ⟨0x108, 1, 39, 32, .rwl, 0, none⟩,
   ⟨0x108, 1, 31, 31, .rwl, 0, none⟩,
   ⟨0x108, 1, 30, 30, .rwl, 0, none⟩,
   ⟨0x108, 1, 29, 29, .rwl, 0, none⟩,
   ⟨0x108, 1, 27, 0, .rwl, 0, none⟩,
   ⟨0x110, 1, 39, 0, .rwl, 0, none⟩,
   ⟨0x118, 1, 27, 16, .rwl, 0, none⟩,
   ⟨0x118, 1, 11, 0, .rwl, 0, none⟩,
   ⟨0x120, 1, 63, 0, .rwl, 0, none⟩,
   ⟨0x128, 1, 31, 16, .rwl, 0x1F4, none⟩,
   ⟨0x128, 1, 15, 0, .rwl, 0xC8, none⟩,
   ⟨0x130, 1, 63, 32, .ro, 0, none⟩,
   ⟨0x130, 1, 2, 0, .ro, 0, none⟩,
   ⟨0x138, 1, 63, 32, .ro, 0, none⟩,
   ⟨0x138, 1, 2, 0, .ro, 0, none⟩,
   ⟨0x140, 1, 31, 0, .ro, 0, some 0⟩,
   ⟨0x148, 1, 63, 32, .wo, 0, none⟩,
   ⟨0x148, 1, 31, 24, .wo, 0, none⟩,
   ⟨0x150, 1, 63, 0, .rw, 0, some 0⟩,
   ⟨0x158, 1, 63, 0, .ro, 0, some 0⟩,
   ⟨0x160, 1, 63, 0, .ro, 0, some 0⟩] ++
  [⟨0x168, 1, 63, 0, .ro, 0, some 0⟩,
   ⟨0x170, 1, 63, 0, .ro, 0, some 0⟩,
   ⟨0x178, 1, 63, 0, .ro, 0, some 0⟩]

/-- Rows of the CHECK page. -/
def regRowsCheck : List RegRow :=
  [⟨0x100, 1, 63, 32, .rwl, 0, none⟩,
   ⟨0x100, 1, 31, 16, .rwl, 0x3C, none⟩,
   ⟨0x100, 1, 4, 4, .rwl, 1, none⟩,
   ⟨0x100, 1, 3, 3, .rwl, 1, none⟩,
   ⟨0x100, 1, 2, 0, .rwl, 0, none⟩,
   ⟨0x108, 1, 31, 31, .ro, 0, some 0⟩,
   ⟨0x108, 1, 30, 30, .ro, 0, some 0⟩,
   ⟨0x108, 1, 2, 0, .ro, 0, some 0⟩,
   ⟨0x110, 1, 63, 48, .rwl, 0, none⟩,
   ⟨0x110, 1, 31, 0, .rwl, 0, none⟩,
   ⟨0x118, 1, 63, 0, .ro, 0, some 0⟩,
   ⟨0x120, 1, 63, 0, .ro, 0, some 0⟩,
   ⟨0x128, 1, 63, 0, .ro, 0, some 0⟩,
   ⟨0x130, 1, 63, 0, .rwl, 0, none⟩,
   ⟨0x138, 1, 4, 0, .rwl, 6, none⟩,
   ⟨0x140, 1, 63, 0, .ro, 0, none⟩,
   ⟨0x148, 1, 63, 32, .ro, 0, some 0⟩,
   ⟨0x148, 1, 31, 24, .ro, 0, some 0⟩,
   ⟨0x148, 1, 23, 16, .ro, 0, some 0⟩,
   ⟨0x148, 1, 0, 0, .ro, 0, some 0⟩,
   ⟨0x150, 1, 19, 10, .ro, 0, none⟩,
   ⟨0x150, 1, 9, 0, .ro, 0, none⟩,
   ⟨0x158, 1, 63, 0, .ro, 0, some 0⟩,
   ⟨0x160, 1, 63, 0, .ro, 0, some 0⟩] ++
  [⟨0x168, 1, 63, 0, .ro, 0, some 0⟩,
   ⟨0x170, 1, 63, 0, .ro, 0, some 0⟩,
   ⟨0x178, 1, 63, 0, .ro, 0, some 0⟩]

/-- Rows of the CKPT page. -/
def regRowsCkpt : List RegRow :=
  [⟨0x100, 1, 63, 48, .rwl, 0, none⟩,
   ⟨0x100, 1, 47, 32, .rwl, 0, none⟩,
   ⟨0x100, 1, 31, 16, .rwl, 0xC8, none⟩,
   ⟨0x100, 1, 4, 4, .rwl, 0, none⟩,
   ⟨0x100, 1, 3, 0, .rwl, 0, none⟩,
   ⟨0x108, 1, 63, 0, .rwl, 0, none⟩,
   ⟨0x110, 1, 63, 0, .rwl, 0, none⟩,
   ⟨0x118, 1, 39, 0, .rwl, 0, none⟩,
   ⟨0x120, 1, 63, 0, .rwl, 0, none⟩,
   ⟨0x128, 1, 31, 24, .wo, 0, none⟩,
   ⟨0x130, 1, 23, 0, .rw, 0, some 0⟩,
   ⟨0x138, 1, 63, 32, .ro, 0, none⟩,
   ⟨0x138, 1, 31, 24, .ro, 0, none⟩,
   ⟨0x138, 1, 23, 20, .ro, 0, some 0⟩,
   ⟨0x138, 1, 19, 16, .ro, 0, none⟩,
   ⟨0x138, 1, 0, 0, .ro, 0, none⟩,
   ⟨0x140, 1, 63, 0, .ro, 0, some 0⟩,
   ⟨0x148, 1, 63, 0, .ro, 0, some 0⟩,
   ⟨0x150, 1, 63, 0, .ro, 0, some 0⟩,
   ⟨0x158, 1, 63, 0, .ro, 0, some 0⟩]

/-- Rows of the COMMON page. -/
def regRowsCommon : List RegRow :=
  [⟨0x000, 1, 31, 16, .ro, 0, none⟩,
   ⟨0x000, 1, 15, 0, .ro, 0, none⟩,
   ⟨0x004, 1, 31, 16, .ro, 0, none⟩,
   ⟨0x004, 1, 15, 0, .ro, 0, none⟩,
   ⟨0x008, 1, 63, 62, .ro, 0, none⟩,
   ⟨0x008, 1, 61, 52, .ro, 0, none⟩,
   ⟨0x008, 1, 41, 32, .ro, 0, none⟩,
   ⟨0x008, 1, 31, 0, .ro, 0, none⟩,
   ⟨0x010, 1, 63, 8, .ro, 0, none⟩,
   ⟨0x010, 1, 3, 3, .ro, 0, none⟩,
   ⟨0x010, 1, 2, 2, .ro, 0, some 0⟩,
   ⟨0x010, 1, 1, 1, .ro, 0, some 0⟩,
   ⟨0x010, 1, 0, 0, .ro, 1, some 1⟩,
   ⟨0x018, 1, 63, 63, .w1c, 0, some 0⟩,
   ⟨0x018, 1, 47, 32, .ro, 0, some 0⟩,
   ⟨0x018, 1, 15, 8, .ro, 0, some 0⟩,
   ⟨0x018, 1, 7, 0, .ro, 0, some 0⟩,
   ⟨0x020, 1, 63, 0, .ro, 0, some 0⟩,
   ⟨0x028, 1, 0, 0, .rw, 0, none⟩,
   ⟨0x030, 1, 63, 0, .rw, 0, none⟩,
   ⟨0x038, 1, 63, 0, .w1c, 0, some 0⟩,
   ⟨0x040, 1, 0, 0, .rwl, 0, none⟩]

namespace Reg

/-- DEVICE.COMPUTE. -/
def DEVICE.COMPUTE.reg : Fld := ⟨0x00000100, 63, 0⟩
/-- DEVICE.COMPUTE.lanes. -/
def DEVICE.COMPUTE.lanes : Fld := ⟨0x00000100, 39, 32⟩
/-- DEVICE.COMPUTE.array_cols. -/
def DEVICE.COMPUTE.array_cols : Fld := ⟨0x00000100, 31, 24⟩
/-- DEVICE.COMPUTE.array_rows. -/
def DEVICE.COMPUTE.array_rows : Fld := ⟨0x00000100, 23, 16⟩
/-- DEVICE.COMPUTE.active_cores. -/
def DEVICE.COMPUTE.active_cores : Fld := ⟨0x00000100, 10, 0⟩
/-- DEVICE.T0. -/
def DEVICE.T0.reg : Fld := ⟨0x00000108, 63, 0⟩
/-- DEVICE.T0.slices. -/
def DEVICE.T0.slices : Fld := ⟨0x00000108, 42, 32⟩
/-- DEVICE.T0.slice_bytes. -/
def DEVICE.T0.slice_bytes : Fld := ⟨0x00000108, 31, 0⟩
/-- DEVICE.T1. -/
def DEVICE.T1.reg : Fld := ⟨0x00000110, 63, 0⟩
/-- DEVICE.T1.t1_bytes. -/
def DEVICE.T1.t1_bytes : Fld := ⟨0x00000110, 63, 0⟩
/-- DEVICE.T2. -/
def DEVICE.T2.reg : Fld := ⟨0x00000118, 63, 0⟩
/-- DEVICE.T2.t2_reach. -/
def DEVICE.T2.t2_reach : Fld := ⟨0x00000118, 63, 0⟩
/-- DEVICE.T2_ATTACHED. -/
def DEVICE.T2_ATTACHED.reg : Fld := ⟨0x00000120, 63, 0⟩
/-- DEVICE.T2_ATTACHED.t2_attached. -/
def DEVICE.T2_ATTACHED.t2_attached : Fld := ⟨0x00000120, 63, 0⟩
/-- DEVICE.PORTS. -/
def DEVICE.PORTS.reg : Fld := ⟨0x00000128, 63, 0⟩
/-- DEVICE.PORTS.host. -/
def DEVICE.PORTS.host : Fld := ⟨0x00000128, 31, 24⟩
/-- DEVICE.PORTS.twin. -/
def DEVICE.PORTS.twin : Fld := ⟨0x00000128, 23, 16⟩
/-- DEVICE.PORTS.far. -/
def DEVICE.PORTS.far : Fld := ⟨0x00000128, 15, 8⟩
/-- DEVICE.PORTS.fabric. -/
def DEVICE.PORTS.fabric : Fld := ⟨0x00000128, 7, 0⟩
/-- DEVICE.PART. -/
def DEVICE.PART.reg : Fld := ⟨0x00000130, 63, 0⟩
/-- DEVICE.PART.generation. -/
def DEVICE.PART.generation : Fld := ⟨0x00000130, 31, 16⟩
/-- DEVICE.PART.form. -/
def DEVICE.PART.form : Fld := ⟨0x00000130, 15, 8⟩
/-- DEVICE.PART.cooling. -/
def DEVICE.PART.cooling : Fld := ⟨0x00000130, 7, 0⟩
/-- DEVICE.SERIAL. -/
def DEVICE.SERIAL.reg : Fld := ⟨0x00000138, 63, 0⟩
/-- DEVICE.SERIAL.serial. -/
def DEVICE.SERIAL.serial : Fld := ⟨0x00000138, 63, 0⟩
/-- DEVICE.CORE_MASK. -/
def DEVICE.CORE_MASK.reg : Fld := ⟨0x00000140, 63, 0⟩
/-- DEVICE.CORE_MASK.mask. -/
def DEVICE.CORE_MASK.mask : Fld := ⟨0x00000140, 63, 0⟩
/-- DEVICE.BRIDGE_MASK. -/
def DEVICE.BRIDGE_MASK.reg : Fld := ⟨0x000001C0, 63, 0⟩
/-- DEVICE.BRIDGE_MASK.channels. -/
def DEVICE.BRIDGE_MASK.channels : Fld := ⟨0x000001C0, 63, 0⟩
/-- DEVICE.FABRIC_ID. -/
def DEVICE.FABRIC_ID.reg : Fld := ⟨0x000001C8, 63, 0⟩
/-- DEVICE.FABRIC_ID.device. -/
def DEVICE.FABRIC_ID.device : Fld := ⟨0x000001C8, 15, 0⟩
/-- DEVICE.CMD. -/
def DEVICE.CMD.reg : Fld := ⟨0x000001D0, 63, 0⟩
/-- DEVICE.CMD.cmd. -/
def DEVICE.CMD.cmd : Fld := ⟨0x000001D0, 31, 24⟩
/-- DEVICE.ROUTE_SEL. -/
def DEVICE.ROUTE_SEL.reg : Fld := ⟨0x000001E8, 63, 0⟩
/-- DEVICE.ROUTE_SEL.entry. -/
def DEVICE.ROUTE_SEL.entry : Fld := ⟨0x000001E8, 15, 0⟩
/-- DEVICE.ROUTE_DATA. -/
def DEVICE.ROUTE_DATA.reg : Fld := ⟨0x000001F0, 63, 0⟩
/-- DEVICE.ROUTE_DATA.entry_hi. -/
def DEVICE.ROUTE_DATA.entry_hi : Fld := ⟨0x000001F0, 63, 32⟩
/-- DEVICE.ROUTE_DATA.entry_lo. -/
def DEVICE.ROUTE_DATA.entry_lo : Fld := ⟨0x000001F0, 31, 0⟩
/-- DEVICE.RETIRED. -/
def DEVICE.RETIRED.reg : Fld := ⟨0x00000280, 63, 0⟩
/-- DEVICE.RETIRED.retired. -/
def DEVICE.RETIRED.retired : Fld := ⟨0x00000280, 63, 0⟩
/-- DEVICE.TEST_CMD. -/
def DEVICE.TEST_CMD.reg : Fld := ⟨0x000001D8, 63, 0⟩
/-- DEVICE.TEST_CMD.cmd. -/
def DEVICE.TEST_CMD.cmd : Fld := ⟨0x000001D8, 31, 24⟩
/-- DEVICE.TEST_STATUS. -/
def DEVICE.TEST_STATUS.reg : Fld := ⟨0x000001E0, 63, 0⟩
/-- DEVICE.TEST_STATUS.t1_fail. -/
def DEVICE.TEST_STATUS.t1_fail : Fld := ⟨0x000001E0, 63, 32⟩
/-- DEVICE.TEST_STATUS.last_cmd. -/
def DEVICE.TEST_STATUS.last_cmd : Fld := ⟨0x000001E0, 31, 24⟩
/-- DEVICE.TEST_STATUS.state. -/
def DEVICE.TEST_STATUS.state : Fld := ⟨0x000001E0, 23, 22⟩
/-- DEVICE.TEST_STATUS.t0_failed. -/
def DEVICE.TEST_STATUS.t0_failed : Fld := ⟨0x000001E0, 10, 0⟩
/-- DEVICE.T0_BIST_FAIL. -/
def DEVICE.T0_BIST_FAIL.reg : Fld := ⟨0x00000200, 63, 0⟩
/-- DEVICE.T0_BIST_FAIL.failed. -/
def DEVICE.T0_BIST_FAIL.failed : Fld := ⟨0x00000200, 63, 0⟩
/-- EVENT.OWNER. -/
def EVENT.OWNER.reg : Fld := ⟨0x00400100, 63, 0⟩
/-- EVENT.OWNER.valid. -/
def EVENT.OWNER.valid : Fld := ⟨0x00400100, 31, 31⟩
/-- EVENT.OWNER.tenant. -/
def EVENT.OWNER.tenant : Fld := ⟨0x00400100, 9, 0⟩
/-- EVENT.UNROUTED. -/
def EVENT.UNROUTED.reg : Fld := ⟨0x00400108, 63, 0⟩
/-- EVENT.UNROUTED.unrouted. -/
def EVENT.UNROUTED.unrouted : Fld := ⟨0x00400108, 63, 0⟩
/-- EVENT.RAISED. -/
def EVENT.RAISED.reg : Fld := ⟨0x00400110, 63, 0⟩
/-- EVENT.RAISED.raised. -/
def EVENT.RAISED.raised : Fld := ⟨0x00400110, 63, 0⟩
/-- EVENT.LAST. -/
def EVENT.LAST.reg : Fld := ⟨0x00400118, 63, 0⟩
/-- EVENT.LAST.code. -/
def EVENT.LAST.code : Fld := ⟨0x00400118, 63, 48⟩
/-- EVENT.LAST.time. -/
def EVENT.LAST.time : Fld := ⟨0x00400118, 47, 0⟩
/-- GOV.BOUNDS. -/
def GOV.BOUNDS.reg : Fld := ⟨0x00800100, 63, 0⟩
/-- GOV.BOUNDS.p_cap. -/
def GOV.BOUNDS.p_cap : Fld := ⟨0x00800100, 63, 48⟩
/-- GOV.BOUNDS.t_target. -/
def GOV.BOUNDS.t_target : Fld := ⟨0x00800100, 47, 40⟩
/-- GOV.BOUNDS.f_max. -/
def GOV.BOUNDS.f_max : Fld := ⟨0x00800100, 39, 36⟩
/-- GOV.BOUNDS.f_min. -/
def GOV.BOUNDS.f_min : Fld := ⟨0x00800100, 35, 32⟩
/-- GOV.BOUNDS.v_max. -/
def GOV.BOUNDS.v_max : Fld := ⟨0x00800100, 31, 16⟩
/-- GOV.BOUNDS.v_min. -/
def GOV.BOUNDS.v_min : Fld := ⟨0x00800100, 15, 0⟩
/-- GOV.CMD. -/
def GOV.CMD.reg : Fld := ⟨0x00800108, 63, 0⟩
/-- GOV.CMD.cmd. -/
def GOV.CMD.cmd : Fld := ⟨0x00800108, 31, 24⟩
/-- GOV.STATE. -/
def GOV.STATE.reg : Fld := ⟨0x00800110, 63, 0⟩
/-- GOV.STATE.bound. -/
def GOV.STATE.bound : Fld := ⟨0x00800110, 63, 62⟩
/-- GOV.STATE.j. -/
def GOV.STATE.j : Fld := ⟨0x00800110, 51, 48⟩
/-- GOV.STATE.vcore_mv. -/
def GOV.STATE.vcore_mv : Fld := ⟨0x00800110, 47, 32⟩
/-- GOV.STATE.power_w. -/
def GOV.STATE.power_w : Fld := ⟨0x00800110, 31, 16⟩
/-- GOV.STATE.hottest. -/
def GOV.STATE.hottest : Fld := ⟨0x00800110, 15, 8⟩
/-- GOV.STATE.deep. -/
def GOV.STATE.deep : Fld := ⟨0x00800110, 1, 0⟩
/-- GOV.DIE_TEMP. -/
def GOV.DIE_TEMP.reg : Fld := ⟨0x00800118, 63, 0⟩
/-- GOV.DIE_TEMP.temps. -/
def GOV.DIE_TEMP.temps : Fld := ⟨0x00800118, 39, 0⟩
/-- GOV.RAIL_SEL. -/
def GOV.RAIL_SEL.reg : Fld := ⟨0x00800120, 63, 0⟩
/-- GOV.RAIL_SEL.rail. -/
def GOV.RAIL_SEL.rail : Fld := ⟨0x00800120, 2, 0⟩
/-- GOV.RAIL. -/
def GOV.RAIL.reg : Fld := ⟨0x00800128, 63, 0⟩
/-- GOV.RAIL.mv. -/
def GOV.RAIL.mv : Fld := ⟨0x00800128, 63, 48⟩
/-- GOV.RAIL.ma. -/
def GOV.RAIL.ma : Fld := ⟨0x00800128, 47, 24⟩
/-- GOV.RAIL.stage_c. -/
def GOV.RAIL.stage_c : Fld := ⟨0x00800128, 23, 16⟩
/-- GOV.RAIL.status_word. -/
def GOV.RAIL.status_word : Fld := ⟨0x00800128, 15, 0⟩
/-- GOV.ENERGY. -/
def GOV.ENERGY.reg : Fld := ⟨0x00800130, 63, 0⟩
/-- GOV.ENERGY.mj. -/
def GOV.ENERGY.mj : Fld := ⟨0x00800130, 63, 0⟩
/-- GOV.CHANGES. -/
def GOV.CHANGES.reg : Fld := ⟨0x00800138, 63, 0⟩
/-- GOV.CHANGES.changes. -/
def GOV.CHANGES.changes : Fld := ⟨0x00800138, 63, 0⟩
/-- GOV.TRIPS. -/
def GOV.TRIPS.reg : Fld := ⟨0x00800140, 63, 0⟩
/-- GOV.TRIPS.trips. -/
def GOV.TRIPS.trips : Fld := ⟨0x00800140, 63, 0⟩
/-- TIME.NOW. -/
def TIME.NOW.reg : Fld := ⟨0x00C00100, 63, 0⟩
/-- TIME.NOW.now. -/
def TIME.NOW.now : Fld := ⟨0x00C00100, 63, 0⟩
/-- TIME.STATUS. -/
def TIME.STATUS.reg : Fld := ⟨0x00C00108, 63, 0⟩
/-- TIME.STATUS.source. -/
def TIME.STATUS.source : Fld := ⟨0x00C00108, 31, 24⟩
/-- TIME.STATUS.depth. -/
def TIME.STATUS.depth : Fld := ⟨0x00C00108, 23, 16⟩
/-- TIME.STATUS.state. -/
def TIME.STATUS.state : Fld := ⟨0x00C00108, 2, 0⟩
/-- TIME.OFFSET. -/
def TIME.OFFSET.reg : Fld := ⟨0x00C00110, 63, 0⟩
/-- TIME.OFFSET.offset. -/
def TIME.OFFSET.offset : Fld := ⟨0x00C00110, 31, 0⟩
/-- TIME.SOURCES. -/
def TIME.SOURCES.reg : Fld := ⟨0x00C00118, 63, 0⟩
/-- TIME.SOURCES.sources. -/
def TIME.SOURCES.sources : Fld := ⟨0x00C00118, 31, 0⟩
/-- TIME.CFG. -/
def TIME.CFG.reg : Fld := ⟨0x00C00120, 63, 0⟩
/-- TIME.CFG.holdover_ms. -/
def TIME.CFG.holdover_ms : Fld := ⟨0x00C00120, 31, 16⟩
/-- TIME.CFG.max_depth. -/
def TIME.CFG.max_depth : Fld := ⟨0x00C00120, 7, 0⟩
/-- TIME.CMD. -/
def TIME.CMD.reg : Fld := ⟨0x00C00128, 63, 0⟩
/-- TIME.CMD.cmd. -/
def TIME.CMD.cmd : Fld := ⟨0x00C00128, 31, 24⟩
/-- TIME.RATE. -/
def TIME.RATE.reg : Fld := ⟨0x00C00130, 63, 0⟩
/-- TIME.RATE.rate_ppb. -/
def TIME.RATE.rate_ppb : Fld := ⟨0x00C00130, 31, 0⟩
/-- TIME.STEPS. -/
def TIME.STEPS.reg : Fld := ⟨0x00C00138, 63, 0⟩
/-- TIME.STEPS.steps. -/
def TIME.STEPS.steps : Fld := ⟨0x00C00138, 63, 0⟩
/-- TIME.HOLDS. -/
def TIME.HOLDS.reg : Fld := ⟨0x00C00140, 63, 0⟩
/-- TIME.HOLDS.held. -/
def TIME.HOLDS.held : Fld := ⟨0x00C00140, 63, 0⟩
/-- BOOT.STATUS. -/
def BOOT.STATUS.reg : Fld := ⟨0x01000100, 63, 0⟩
/-- BOOT.STATUS.result. -/
def BOOT.STATUS.result : Fld := ⟨0x01000100, 31, 24⟩
/-- BOOT.STATUS.state. -/
def BOOT.STATUS.state : Fld := ⟨0x01000100, 23, 20⟩
/-- BOOT.STATUS.go_port. -/
def BOOT.STATUS.go_port : Fld := ⟨0x01000100, 1, 0⟩
/-- BOOT.GO. -/
def BOOT.GO.reg : Fld := ⟨0x01000108, 63, 0⟩
/-- BOOT.GO.image_len. -/
def BOOT.GO.image_len : Fld := ⟨0x01000108, 31, 0⟩
/-- BOOT.FUSES. -/
def BOOT.FUSES.reg : Fld := ⟨0x01000110, 63, 0⟩
/-- BOOT.FUSES.min_svn. -/
def BOOT.FUSES.min_svn : Fld := ⟨0x01000110, 13, 8⟩
/-- BOOT.FUSES.revoked. -/
def BOOT.FUSES.revoked : Fld := ⟨0x01000110, 3, 0⟩
/-- BOOT.SVN. -/
def BOOT.SVN.reg : Fld := ⟨0x01000118, 63, 0⟩
/-- BOOT.SVN.svn. -/
def BOOT.SVN.svn : Fld := ⟨0x01000118, 31, 0⟩
/-- BOOT.CTRL. -/
def BOOT.CTRL.reg : Fld := ⟨0x01000120, 63, 0⟩
/-- BOOT.CTRL.commit_svn. -/
def BOOT.CTRL.commit_svn : Fld := ⟨0x01000120, 0, 0⟩
/-- BOOT.FAILS. -/
def BOOT.FAILS.reg : Fld := ⟨0x01000128, 63, 0⟩
/-- BOOT.FAILS.fails. -/
def BOOT.FAILS.fails : Fld := ⟨0x01000128, 63, 0⟩
/-- BOOT.DIK_DIGEST. -/
def BOOT.DIK_DIGEST.reg : Fld := ⟨0x01000140, 63, 0⟩
/-- BOOT.DIK_DIGEST.dik_digest. -/
def BOOT.DIK_DIGEST.dik_digest : Fld := ⟨0x01000140, 63, 0⟩
/-- BOOT.CERT. -/
def BOOT.CERT.reg : Fld := ⟨0x01000200, 63, 0⟩
/-- BOOT.CERT.cert. -/
def BOOT.CERT.cert : Fld := ⟨0x01000200, 63, 0⟩
/-- TWIN_LINK.CFG. -/
def TWIN_LINK.CFG.reg : Fld := ⟨0x01400100, 63, 0⟩
/-- TWIN_LINK.CFG.twin_device. -/
def TWIN_LINK.CFG.twin_device : Fld := ⟨0x01400100, 63, 48⟩
/-- TWIN_LINK.CFG.fw_stall_ms. -/
def TWIN_LINK.CFG.fw_stall_ms : Fld := ⟨0x01400100, 47, 32⟩
/-- TWIN_LINK.CFG.reset_hold_ms. -/
def TWIN_LINK.CFG.reset_hold_ms : Fld := ⟨0x01400100, 31, 16⟩
/-- TWIN_LINK.CFG.miss_limit. -/
def TWIN_LINK.CFG.miss_limit : Fld := ⟨0x01400100, 7, 4⟩
/-- TWIN_LINK.CFG.adopt. -/
def TWIN_LINK.CFG.adopt : Fld := ⟨0x01400100, 3, 3⟩
/-- TWIN_LINK.TWIN_SERIAL. -/
def TWIN_LINK.TWIN_SERIAL.reg : Fld := ⟨0x01400108, 63, 0⟩
/-- TWIN_LINK.TWIN_SERIAL.serial. -/
def TWIN_LINK.TWIN_SERIAL.serial : Fld := ⟨0x01400108, 63, 0⟩
/-- TWIN_LINK.CMD. -/
def TWIN_LINK.CMD.reg : Fld := ⟨0x01400110, 63, 0⟩
/-- TWIN_LINK.CMD.cmd. -/
def TWIN_LINK.CMD.cmd : Fld := ⟨0x01400110, 31, 24⟩
/-- TWIN_LINK.STATUS. -/
def TWIN_LINK.STATUS.reg : Fld := ⟨0x01400118, 63, 0⟩
/-- TWIN_LINK.STATUS.ports_up. -/
def TWIN_LINK.STATUS.ports_up : Fld := ⟨0x01400118, 17, 16⟩
/-- TWIN_LINK.STATUS.state. -/
def TWIN_LINK.STATUS.state : Fld := ⟨0x01400118, 2, 0⟩
/-- TWIN_LINK.STORE_BASE. -/
def TWIN_LINK.STORE_BASE.reg : Fld := ⟨0x01400120, 63, 0⟩
/-- TWIN_LINK.STORE_BASE.store_base. -/
def TWIN_LINK.STORE_BASE.store_base : Fld := ⟨0x01400120, 63, 0⟩
/-- TWIN_LINK.STORE_CFG. -/
def TWIN_LINK.STORE_CFG.reg : Fld := ⟨0x01400128, 63, 0⟩
/-- TWIN_LINK.STORE_CFG.channels. -/
def TWIN_LINK.STORE_CFG.channels : Fld := ⟨0x01400128, 44, 40⟩
/-- TWIN_LINK.STORE_CFG.slot_len. -/
def TWIN_LINK.STORE_CFG.slot_len : Fld := ⟨0x01400128, 39, 0⟩
/-- TWIN_LINK.MISSES. -/
def TWIN_LINK.MISSES.reg : Fld := ⟨0x01400130, 63, 0⟩
/-- TWIN_LINK.MISSES.misses. -/
def TWIN_LINK.MISSES.misses : Fld := ⟨0x01400130, 63, 0⟩
/-- TWIN_LINK.LAST_SEEN. -/
def TWIN_LINK.LAST_SEEN.reg : Fld := ⟨0x01400138, 63, 0⟩
/-- TWIN_LINK.LAST_SEEN.last_seen. -/
def TWIN_LINK.LAST_SEEN.last_seen : Fld := ⟨0x01400138, 63, 0⟩
/-- PORT.STATUS. -/
def PORT.STATUS.reg : Fld := ⟨0x01800100, 63, 0⟩
/-- PORT.STATUS.lanes_up. -/
def PORT.STATUS.lanes_up : Fld := ⟨0x01800100, 31, 24⟩
/-- PORT.STATUS.state. -/
def PORT.STATUS.state : Fld := ⟨0x01800100, 23, 20⟩
/-- PORT.CFG. -/
def PORT.CFG.reg : Fld := ⟨0x01800108, 63, 0⟩
/-- PORT.CFG.dateline. -/
def PORT.CFG.dateline : Fld := ⟨0x01800108, 8, 8⟩
/-- PORT.CFG.dim. -/
def PORT.CFG.dim : Fld := ⟨0x01800108, 7, 6⟩
/-- PORT.CFG.enable. -/
def PORT.CFG.enable : Fld := ⟨0x01800108, 0, 0⟩
/-- PORT.CRC_ERRORS. -/
def PORT.CRC_ERRORS.reg : Fld := ⟨0x01800110, 63, 0⟩
/-- PORT.CRC_ERRORS.crc_errors. -/
def PORT.CRC_ERRORS.crc_errors : Fld := ⟨0x01800110, 63, 0⟩
/-- PORT.REPLAYS. -/
def PORT.REPLAYS.reg : Fld := ⟨0x01800118, 63, 0⟩
/-- PORT.REPLAYS.replays. -/
def PORT.REPLAYS.replays : Fld := ⟨0x01800118, 63, 0⟩
/-- PORT.LOST. -/
def PORT.LOST.reg : Fld := ⟨0x01800120, 63, 0⟩
/-- PORT.LOST.lost. -/
def PORT.LOST.lost : Fld := ⟨0x01800120, 63, 0⟩
/-- PORT.DOWN_EVENTS. -/
def PORT.DOWN_EVENTS.reg : Fld := ⟨0x01800128, 63, 0⟩
/-- PORT.DOWN_EVENTS.downs. -/
def PORT.DOWN_EVENTS.downs : Fld := ⟨0x01800128, 63, 0⟩
/-- PORT.LOOP. -/
def PORT.LOOP.reg : Fld := ⟨0x01800130, 63, 0⟩
/-- PORT.LOOP.duration_ms. -/
def PORT.LOOP.duration_ms : Fld := ⟨0x01800130, 63, 48⟩
/-- PORT.LOOP.lanes. -/
def PORT.LOOP.lanes : Fld := ⟨0x01800130, 39, 32⟩
/-- PORT.LOOP.cause. -/
def PORT.LOOP.cause : Fld := ⟨0x01800130, 15, 12⟩
/-- PORT.LOOP.allow_far. -/
def PORT.LOOP.allow_far : Fld := ⟨0x01800130, 9, 9⟩
/-- PORT.LOOP.retiming. -/
def PORT.LOOP.retiming : Fld := ⟨0x01800130, 8, 8⟩
/-- PORT.LOOP.state. -/
def PORT.LOOP.state : Fld := ⟨0x01800130, 5, 4⟩
/-- PORT.LOOP.depth. -/
def PORT.LOOP.depth : Fld := ⟨0x01800130, 2, 0⟩
/-- PORT.LOOP_SYMBOLS. -/
def PORT.LOOP_SYMBOLS.reg : Fld := ⟨0x01800138, 63, 0⟩
/-- PORT.LOOP_SYMBOLS.symbols. -/
def PORT.LOOP_SYMBOLS.symbols : Fld := ⟨0x01800138, 63, 0⟩
/-- PORT.LOOP_CORRECTED. -/
def PORT.LOOP_CORRECTED.reg : Fld := ⟨0x01800140, 63, 0⟩
/-- PORT.LOOP_CORRECTED.corrected. -/
def PORT.LOOP_CORRECTED.corrected : Fld := ⟨0x01800140, 63, 0⟩
/-- PORT.LOOP_UNCORR. -/
def PORT.LOOP_UNCORR.reg : Fld := ⟨0x01800148, 63, 0⟩
/-- PORT.LOOP_UNCORR.uncorr. -/
def PORT.LOOP_UNCORR.uncorr : Fld := ⟨0x01800148, 63, 0⟩
/-- HPORT.STATUS. -/
def HPORT.STATUS.reg : Fld := ⟨0x01C00100, 63, 0⟩
/-- HPORT.STATUS.state. -/
def HPORT.STATUS.state : Fld := ⟨0x01C00100, 23, 20⟩
/-- HPORT.STATUS.lanes_up. -/
def HPORT.STATUS.lanes_up : Fld := ⟨0x01C00100, 1, 0⟩
/-- HPORT.MAC. -/
def HPORT.MAC.reg : Fld := ⟨0x01C00108, 63, 0⟩
/-- HPORT.MAC.mac. -/
def HPORT.MAC.mac : Fld := ⟨0x01C00108, 47, 0⟩
/-- HPORT.IPV4. -/
def HPORT.IPV4.reg : Fld := ⟨0x01C00110, 63, 0⟩
/-- HPORT.IPV4.ipv4. -/
def HPORT.IPV4.ipv4 : Fld := ⟨0x01C00110, 31, 0⟩
/-- HPORT.IPV6_HI. -/
def HPORT.IPV6_HI.reg : Fld := ⟨0x01C00118, 63, 0⟩
/-- HPORT.IPV6_HI.ipv6_hi. -/
def HPORT.IPV6_HI.ipv6_hi : Fld := ⟨0x01C00118, 63, 0⟩
/-- HPORT.IPV6_LO. -/
def HPORT.IPV6_LO.reg : Fld := ⟨0x01C00120, 63, 0⟩
/-- HPORT.IPV6_LO.ipv6_lo. -/
def HPORT.IPV6_LO.ipv6_lo : Fld := ⟨0x01C00120, 63, 0⟩
/-- HPORT.VLAN. -/
def HPORT.VLAN.reg : Fld := ⟨0x01C00128, 63, 0⟩
/-- HPORT.VLAN.priority. -/
def HPORT.VLAN.priority : Fld := ⟨0x01C00128, 23, 21⟩
/-- HPORT.VLAN.dscp. -/
def HPORT.VLAN.dscp : Fld := ⟨0x01C00128, 20, 15⟩
/-- HPORT.VLAN.tagged. -/
def HPORT.VLAN.tagged : Fld := ⟨0x01C00128, 12, 12⟩
/-- HPORT.VLAN.vid. -/
def HPORT.VLAN.vid : Fld := ⟨0x01C00128, 11, 0⟩
/-- HPORT.PFC. -/
def HPORT.PFC.reg : Fld := ⟨0x01C00130, 63, 0⟩
/-- HPORT.PFC.xoff_kib. -/
def HPORT.PFC.xoff_kib : Fld := ⟨0x01C00130, 31, 16⟩
/-- HPORT.PFC.enabled. -/
def HPORT.PFC.enabled : Fld := ⟨0x01C00130, 7, 0⟩
/-- HPORT.ECN. -/
def HPORT.ECN.reg : Fld := ⟨0x01C00138, 63, 0⟩
/-- HPORT.ECN.cnp_gap_us. -/
def HPORT.ECN.cnp_gap_us : Fld := ⟨0x01C00138, 31, 16⟩
/-- HPORT.ECN.rate_step_mbps. -/
def HPORT.ECN.rate_step_mbps : Fld := ⟨0x01C00138, 15, 0⟩
/-- HPORT.PTP. -/
def HPORT.PTP.reg : Fld := ⟨0x01C00140, 63, 0⟩
/-- HPORT.PTP.mode. -/
def HPORT.PTP.mode : Fld := ⟨0x01C00140, 0, 0⟩
/-- HPORT.PTP_OFFSET. -/
def HPORT.PTP_OFFSET.reg : Fld := ⟨0x01C00148, 63, 0⟩
/-- HPORT.PTP_OFFSET.offset. -/
def HPORT.PTP_OFFSET.offset : Fld := ⟨0x01C00148, 63, 0⟩
/-- HPORT.LLDP_PEER. -/
def HPORT.LLDP_PEER.reg : Fld := ⟨0x01C00150, 63, 0⟩
/-- HPORT.LLDP_PEER.chassis. -/
def HPORT.LLDP_PEER.chassis : Fld := ⟨0x01C00150, 63, 0⟩
/-- HPORT.RX_DROPS. -/
def HPORT.RX_DROPS.reg : Fld := ⟨0x01C00158, 63, 0⟩
/-- HPORT.RX_DROPS.drops. -/
def HPORT.RX_DROPS.drops : Fld := ⟨0x01C00158, 63, 0⟩
/-- HPORT.LOOP. -/
def HPORT.LOOP.reg : Fld := ⟨0x01C00160, 63, 0⟩
/-- HPORT.LOOP.duration_ms. -/
def HPORT.LOOP.duration_ms : Fld := ⟨0x01C00160, 63, 48⟩
/-- HPORT.LOOP.lanes. -/
def HPORT.LOOP.lanes : Fld := ⟨0x01C00160, 39, 32⟩
/-- HPORT.LOOP.cause. -/
def HPORT.LOOP.cause : Fld := ⟨0x01C00160, 15, 12⟩
/-- HPORT.LOOP.state. -/
def HPORT.LOOP.state : Fld := ⟨0x01C00160, 5, 4⟩
/-- HPORT.LOOP.depth. -/
def HPORT.LOOP.depth : Fld := ⟨0x01C00160, 2, 0⟩
/-- HPORT.LOOP_FRAMES. -/
def HPORT.LOOP_FRAMES.reg : Fld := ⟨0x01C00168, 63, 0⟩
/-- HPORT.LOOP_FRAMES.frames. -/
def HPORT.LOOP_FRAMES.frames : Fld := ⟨0x01C00168, 63, 0⟩
/-- HPORT.LOOP_ERRORS. -/
def HPORT.LOOP_ERRORS.reg : Fld := ⟨0x01C00170, 63, 0⟩
/-- HPORT.LOOP_ERRORS.errors. -/
def HPORT.LOOP_ERRORS.errors : Fld := ⟨0x01C00170, 63, 0⟩
/-- HOST.CFG. -/
def HOST.CFG.reg : Fld := ⟨0x02000100, 63, 0⟩
/-- HOST.CFG.split. -/
def HOST.CFG.split : Fld := ⟨0x02000100, 31, 31⟩
/-- HOST.CFG.imm. -/
def HOST.CFG.imm : Fld := ⟨0x02000100, 30, 30⟩
/-- HOST.CQ_ADDR. -/
def HOST.CQ_ADDR.reg : Fld := ⟨0x02000108, 63, 0⟩
/-- HOST.CQ_ADDR.cq_addr. -/
def HOST.CQ_ADDR.cq_addr : Fld := ⟨0x02000108, 63, 0⟩
/-- HOST.CQ_CFG. -/
def HOST.CQ_CFG.reg : Fld := ⟨0x02000110, 63, 0⟩
/-- HOST.CQ_CFG.cq_rkey. -/
def HOST.CQ_CFG.cq_rkey : Fld := ⟨0x02000110, 63, 32⟩
/-- HOST.CQ_CFG.cq_qp. -/
def HOST.CQ_CFG.cq_qp : Fld := ⟨0x02000110, 31, 20⟩
/-- HOST.CQ_CFG.cq_log2. -/
def HOST.CQ_CFG.cq_log2 : Fld := ⟨0x02000110, 4, 0⟩
/-- HOST.CQ_CREDIT. -/
def HOST.CQ_CREDIT.reg : Fld := ⟨0x02000118, 63, 0⟩
/-- HOST.CQ_CREDIT.consumed. -/
def HOST.CQ_CREDIT.consumed : Fld := ⟨0x02000118, 63, 0⟩
/-- HOST.EQ_ADDR. -/
def HOST.EQ_ADDR.reg : Fld := ⟨0x02000120, 63, 0⟩
/-- HOST.EQ_ADDR.eq_addr. -/
def HOST.EQ_ADDR.eq_addr : Fld := ⟨0x02000120, 63, 0⟩
/-- HOST.EQ_CFG. -/
def HOST.EQ_CFG.reg : Fld := ⟨0x02000128, 63, 0⟩
/-- HOST.EQ_CFG.eq_rkey. -/
def HOST.EQ_CFG.eq_rkey : Fld := ⟨0x02000128, 63, 32⟩
/-- HOST.EQ_CFG.eq_qp. -/
def HOST.EQ_CFG.eq_qp : Fld := ⟨0x02000128, 31, 20⟩
/-- HOST.EQ_CFG.eq_log2. -/
def HOST.EQ_CFG.eq_log2 : Fld := ⟨0x02000128, 4, 0⟩
/-- HOST.EQ_CREDIT. -/
def HOST.EQ_CREDIT.reg : Fld := ⟨0x02000130, 63, 0⟩
/-- HOST.EQ_CREDIT.consumed. -/
def HOST.EQ_CREDIT.consumed : Fld := ⟨0x02000130, 63, 0⟩
/-- HOST.RING_SEL. -/
def HOST.RING_SEL.reg : Fld := ⟨0x02000138, 63, 0⟩
/-- HOST.RING_SEL.partition. -/
def HOST.RING_SEL.partition : Fld := ⟨0x02000138, 9, 0⟩
/-- HOST.CMD_ADDR. -/
def HOST.CMD_ADDR.reg : Fld := ⟨0x02000140, 63, 0⟩
/-- HOST.CMD_ADDR.cmd_addr. -/
def HOST.CMD_ADDR.cmd_addr : Fld := ⟨0x02000140, 63, 0⟩
/-- HOST.CMD_CFG. -/
def HOST.CMD_CFG.reg : Fld := ⟨0x02000148, 63, 0⟩
/-- HOST.CMD_CFG.enable. -/
def HOST.CMD_CFG.enable : Fld := ⟨0x02000148, 31, 31⟩
/-- HOST.CMD_CFG.feed. -/
def HOST.CMD_CFG.feed : Fld := ⟨0x02000148, 30, 30⟩
/-- HOST.CMD_CFG.cmd_log2. -/
def HOST.CMD_CFG.cmd_log2 : Fld := ⟨0x02000148, 4, 0⟩
/-- HOST.CMD_HEAD. -/
def HOST.CMD_HEAD.reg : Fld := ⟨0x02000150, 63, 0⟩
/-- HOST.CMD_HEAD.head. -/
def HOST.CMD_HEAD.head : Fld := ⟨0x02000150, 63, 0⟩
/-- HOST.STATUS. -/
def HOST.STATUS.reg : Fld := ⟨0x02000158, 63, 0⟩
/-- HOST.STATUS.eq_lost. -/
def HOST.STATUS.eq_lost : Fld := ⟨0x02000158, 2, 2⟩
/-- HOST.STATUS.cq_lost. -/
def HOST.STATUS.cq_lost : Fld := ⟨0x02000158, 1, 1⟩
/-- HOST.STATUS.cq_full. -/
def HOST.STATUS.cq_full : Fld := ⟨0x02000158, 0, 0⟩
/-- HOST.EVENTS_LOST. -/
def HOST.EVENTS_LOST.reg : Fld := ⟨0x02000160, 63, 0⟩
/-- HOST.EVENTS_LOST.lost. -/
def HOST.EVENTS_LOST.lost : Fld := ⟨0x02000160, 63, 0⟩
/-- HOST.KEY_ERRORS. -/
def HOST.KEY_ERRORS.reg : Fld := ⟨0x02000168, 63, 0⟩
/-- HOST.KEY_ERRORS.errors. -/
def HOST.KEY_ERRORS.errors : Fld := ⟨0x02000168, 63, 0⟩
/-- HOST.QPS. -/
def HOST.QPS.reg : Fld := ⟨0x02000170, 63, 0⟩
/-- HOST.QPS.qp_quota. -/
def HOST.QPS.qp_quota : Fld := ⟨0x02000170, 27, 16⟩
/-- HOST.QPS.qp_used. -/
def HOST.QPS.qp_used : Fld := ⟨0x02000170, 11, 0⟩
/-- ATTEST.CTRL. -/
def ATTEST.CTRL.reg : Fld := ⟨0x02400100, 63, 0⟩
/-- ATTEST.CTRL.cmd. -/
def ATTEST.CTRL.cmd : Fld := ⟨0x02400100, 31, 24⟩
/-- ATTEST.STATUS. -/
def ATTEST.STATUS.reg : Fld := ⟨0x02400108, 63, 0⟩
/-- ATTEST.STATUS.state. -/
def ATTEST.STATUS.state : Fld := ⟨0x02400108, 1, 0⟩
/-- ATTEST.NONCE. -/
def ATTEST.NONCE.reg : Fld := ⟨0x02400140, 63, 0⟩
/-- ATTEST.NONCE.nonce. -/
def ATTEST.NONCE.nonce : Fld := ⟨0x02400140, 63, 0⟩
/-- ATTEST.QUOTE. -/
def ATTEST.QUOTE.reg : Fld := ⟨0x02400800, 63, 0⟩
/-- ATTEST.QUOTE.quote. -/
def ATTEST.QUOTE.quote : Fld := ⟨0x02400800, 63, 0⟩
/-- PARTITION.CFG. -/
def PARTITION.CFG.reg : Fld := ⟨0x02800100, 63, 0⟩
/-- PARTITION.CFG.tenant. -/
def PARTITION.CFG.tenant : Fld := ⟨0x02800100, 63, 54⟩
/-- PARTITION.CFG.role. -/
def PARTITION.CFG.role : Fld := ⟨0x02800100, 53, 52⟩
/-- PARTITION.CFG.px8. -/
def PARTITION.CFG.px8 : Fld := ⟨0x02800100, 51, 51⟩
/-- PARTITION.CFG.lcores. -/
def PARTITION.CFG.lcores : Fld := ⟨0x02800100, 42, 32⟩
/-- PARTITION.CFG.exp_log2. -/
def PARTITION.CFG.exp_log2 : Fld := ⟨0x02800100, 4, 0⟩
/-- PARTITION.ALLOT. -/
def PARTITION.ALLOT.reg : Fld := ⟨0x02800108, 63, 0⟩
/-- PARTITION.ALLOT.t2_mib. -/
def PARTITION.ALLOT.t2_mib : Fld := ⟨0x02800108, 63, 32⟩
/-- PARTITION.ALLOT.t1_mib. -/
def PARTITION.ALLOT.t1_mib : Fld := ⟨0x02800108, 31, 0⟩
/-- PARTITION.CMD. -/
def PARTITION.CMD.reg : Fld := ⟨0x02800110, 63, 0⟩
/-- PARTITION.CMD.cmd. -/
def PARTITION.CMD.cmd : Fld := ⟨0x02800110, 31, 24⟩
/-- PARTITION.STATE. -/
def PARTITION.STATE.reg : Fld := ⟨0x02800118, 63, 0⟩
/-- PARTITION.STATE.last_status. -/
def PARTITION.STATE.last_status : Fld := ⟨0x02800118, 23, 16⟩
/-- PARTITION.STATE.power. -/
def PARTITION.STATE.power : Fld := ⟨0x02800118, 9, 8⟩
/-- PARTITION.STATE.life. -/
def PARTITION.STATE.life : Fld := ⟨0x02800118, 2, 0⟩
/-- PARTITION.POWER. -/
def PARTITION.POWER.reg : Fld := ⟨0x02800120, 63, 0⟩
/-- PARTITION.POWER.park. -/
def PARTITION.POWER.park : Fld := ⟨0x02800120, 0, 0⟩
/-- PARTITION.SPARES. -/
def PARTITION.SPARES.reg : Fld := ⟨0x02800128, 63, 0⟩
/-- PARTITION.SPARES.spares. -/
def PARTITION.SPARES.spares : Fld := ⟨0x02800128, 10, 0⟩
/-- PARTITION.MAP_SEL. -/
def PARTITION.MAP_SEL.reg : Fld := ⟨0x02800130, 63, 0⟩
/-- PARTITION.MAP_SEL.lcore. -/
def PARTITION.MAP_SEL.lcore : Fld := ⟨0x02800130, 9, 0⟩
/-- PARTITION.MAP. -/
def PARTITION.MAP.reg : Fld := ⟨0x02800138, 63, 0⟩
/-- PARTITION.MAP.pcore. -/
def PARTITION.MAP.pcore : Fld := ⟨0x02800138, 9, 0⟩
/-- PARTITION.CORE_SET. -/
def PARTITION.CORE_SET.reg : Fld := ⟨0x02800140, 63, 0⟩
/-- PARTITION.CORE_SET.cores. -/
def PARTITION.CORE_SET.cores : Fld := ⟨0x02800140, 63, 0⟩
/-- PARTITION.SLICE_SET. -/
def PARTITION.SLICE_SET.reg : Fld := ⟨0x028001C0, 63, 0⟩
/-- PARTITION.SLICE_SET.slices. -/
def PARTITION.SLICE_SET.slices : Fld := ⟨0x028001C0, 63, 0⟩
/-- PARTITION.RETIRED. -/
def PARTITION.RETIRED.reg : Fld := ⟨0x02800240, 63, 0⟩
/-- PARTITION.RETIRED.retired. -/
def PARTITION.RETIRED.retired : Fld := ⟨0x02800240, 63, 0⟩
/-- PARTITION.PTP_OFFSET. -/
def PARTITION.PTP_OFFSET.reg : Fld := ⟨0x028002C0, 63, 0⟩
/-- PARTITION.PTP_OFFSET.ptp_offset. -/
def PARTITION.PTP_OFFSET.ptp_offset : Fld := ⟨0x028002C0, 63, 0⟩
/-- PARTITION.PTP_VALID. -/
def PARTITION.PTP_VALID.reg : Fld := ⟨0x028002C8, 63, 0⟩
/-- PARTITION.PTP_VALID.valid. -/
def PARTITION.PTP_VALID.valid : Fld := ⟨0x028002C8, 0, 0⟩
/-- PARTITION.T1_BASE. -/
def PARTITION.T1_BASE.reg : Fld := ⟨0x028002D0, 63, 0⟩
/-- PARTITION.T1_BASE.t1_base. -/
def PARTITION.T1_BASE.t1_base : Fld := ⟨0x028002D0, 63, 0⟩
/-- PARTITION.T2_BASE. -/
def PARTITION.T2_BASE.reg : Fld := ⟨0x028002D8, 63, 0⟩
/-- PARTITION.T2_BASE.t2_base. -/
def PARTITION.T2_BASE.t2_base : Fld := ⟨0x028002D8, 63, 0⟩
/-- PARTITION.DEV_CAPS. -/
def PARTITION.DEV_CAPS.reg : Fld := ⟨0x02800300, 63, 0⟩
/-- PARTITION.DEV_CAPS.dev_caps. -/
def PARTITION.DEV_CAPS.dev_caps : Fld := ⟨0x02800300, 63, 0⟩
/-- SCHED.SAVE. -/
def SCHED.SAVE.reg : Fld := ⟨0x02C00100, 63, 0⟩
/-- SCHED.SAVE.desc_off. -/
def SCHED.SAVE.desc_off : Fld := ⟨0x02C00100, 43, 24⟩
/-- SCHED.SAVE.save_depth. -/
def SCHED.SAVE.save_depth : Fld := ⟨0x02C00100, 23, 20⟩
/-- SCHED.SAVE.save_off. -/
def SCHED.SAVE.save_off : Fld := ⟨0x02C00100, 19, 0⟩
/-- SCHED.QUEUE_SEL. -/
def SCHED.QUEUE_SEL.reg : Fld := ⟨0x02C00108, 63, 0⟩
/-- SCHED.QUEUE_SEL.queue. -/
def SCHED.QUEUE_SEL.queue : Fld := ⟨0x02C00108, 3, 0⟩
/-- SCHED.QUEUE_ADDR. -/
def SCHED.QUEUE_ADDR.reg : Fld := ⟨0x02C00110, 63, 0⟩
/-- SCHED.QUEUE_ADDR.queue_addr. -/
def SCHED.QUEUE_ADDR.queue_addr : Fld := ⟨0x02C00110, 63, 0⟩
/-- SCHED.QUEUE_CFG. -/
def SCHED.QUEUE_CFG.reg : Fld := ⟨0x02C00118, 63, 0⟩
/-- SCHED.QUEUE_CFG.enable. -/
def SCHED.QUEUE_CFG.enable : Fld := ⟨0x02C00118, 31, 31⟩
/-- SCHED.QUEUE_CFG.preempts. -/
def SCHED.QUEUE_CFG.preempts : Fld := ⟨0x02C00118, 30, 30⟩
/-- SCHED.QUEUE_CFG.preemptible. -/
def SCHED.QUEUE_CFG.preemptible : Fld := ⟨0x02C00118, 29, 29⟩
/-- SCHED.QUEUE_CFG.priority. -/
def SCHED.QUEUE_CFG.priority : Fld := ⟨0x02C00118, 10, 8⟩
/-- SCHED.QUEUE_CFG.size_log2. -/
def SCHED.QUEUE_CFG.size_log2 : Fld := ⟨0x02C00118, 4, 0⟩
/-- SCHED.QUEUE_HEAD. -/
def SCHED.QUEUE_HEAD.reg : Fld := ⟨0x02C00120, 63, 0⟩
/-- SCHED.QUEUE_HEAD.head. -/
def SCHED.QUEUE_HEAD.head : Fld := ⟨0x02C00120, 63, 0⟩
/-- SCHED.SEM_SEL. -/
def SCHED.SEM_SEL.reg : Fld := ⟨0x02C00128, 63, 0⟩
/-- SCHED.SEM_SEL.sem. -/
def SCHED.SEM_SEL.sem : Fld := ⟨0x02C00128, 5, 0⟩
/-- SCHED.SEM. -/
def SCHED.SEM.reg : Fld := ⟨0x02C00130, 63, 0⟩
/-- SCHED.SEM.init. -/
def SCHED.SEM.init : Fld := ⟨0x02C00130, 31, 16⟩
/-- SCHED.SEM.count. -/
def SCHED.SEM.count : Fld := ⟨0x02C00130, 15, 0⟩
/-- SCHED.STEP_TASKS. -/
def SCHED.STEP_TASKS.reg : Fld := ⟨0x02C00138, 63, 0⟩
/-- SCHED.STEP_TASKS.table. -/
def SCHED.STEP_TASKS.table : Fld := ⟨0x02C00138, 63, 16⟩
/-- SCHED.STEP_TASKS.count. -/
def SCHED.STEP_TASKS.count : Fld := ⟨0x02C00138, 15, 0⟩
/-- SCHED.CTX_ADDR. -/
def SCHED.CTX_ADDR.reg : Fld := ⟨0x02C00140, 63, 0⟩
/-- SCHED.CTX_ADDR.ctx_addr. -/
def SCHED.CTX_ADDR.ctx_addr : Fld := ⟨0x02C00140, 63, 0⟩
/-- SCHED.CTX_CMD. -/
def SCHED.CTX_CMD.reg : Fld := ⟨0x02C00148, 63, 0⟩
/-- SCHED.CTX_CMD.cmd. -/
def SCHED.CTX_CMD.cmd : Fld := ⟨0x02C00148, 31, 24⟩
/-- SCHED.STATE. -/
def SCHED.STATE.reg : Fld := ⟨0x02C00150, 63, 0⟩
/-- SCHED.STATE.last_status. -/
def SCHED.STATE.last_status : Fld := ⟨0x02C00150, 15, 8⟩
/-- SCHED.STATE.state. -/
def SCHED.STATE.state : Fld := ⟨0x02C00150, 2, 0⟩
/-- SCHED.PREEMPTS. -/
def SCHED.PREEMPTS.reg : Fld := ⟨0x02C00158, 63, 0⟩
/-- SCHED.PREEMPTS.preempts. -/
def SCHED.PREEMPTS.preempts : Fld := ⟨0x02C00158, 63, 0⟩
/-- SCHED.FULL_SAVES. -/
def SCHED.FULL_SAVES.reg : Fld := ⟨0x02C00160, 63, 0⟩
/-- SCHED.FULL_SAVES.full. -/
def SCHED.FULL_SAVES.full : Fld := ⟨0x02C00160, 63, 0⟩
/-- SCHED.REFUSED. -/
def SCHED.REFUSED.reg : Fld := ⟨0x02C00168, 63, 0⟩
/-- SCHED.REFUSED.refused. -/
def SCHED.REFUSED.refused : Fld := ⟨0x02C00168, 63, 0⟩
/-- SCHED.TASKS_DONE. -/
def SCHED.TASKS_DONE.reg : Fld := ⟨0x02C00170, 63, 0⟩
/-- SCHED.TASKS_DONE.done. -/
def SCHED.TASKS_DONE.done : Fld := ⟨0x02C00170, 63, 0⟩
/-- ARRAY.FILL_CTRL. -/
def ARRAY.FILL_CTRL.reg : Fld := ⟨0x03000100, 63, 0⟩
/-- ARRAY.FILL_CTRL.fill_hold. -/
def ARRAY.FILL_CTRL.fill_hold : Fld := ⟨0x03000100, 31, 16⟩
/-- ARRAY.FILL_CTRL.fill_target. -/
def ARRAY.FILL_CTRL.fill_target : Fld := ⟨0x03000100, 10, 0⟩
/-- ARRAY.BUSY. -/
def ARRAY.BUSY.reg : Fld := ⟨0x03000108, 63, 0⟩
/-- ARRAY.BUSY.busy_cycles. -/
def ARRAY.BUSY.busy_cycles : Fld := ⟨0x03000108, 63, 0⟩
/-- ARRAY.HELD. -/
def ARRAY.HELD.reg : Fld := ⟨0x03000110, 63, 0⟩
/-- ARRAY.HELD.held_cycles. -/
def ARRAY.HELD.held_cycles : Fld := ⟨0x03000110, 63, 0⟩
/-- ARRAY.LOADS. -/
def ARRAY.LOADS.reg : Fld := ⟨0x03000118, 63, 0⟩
/-- ARRAY.LOADS.weight_loads. -/
def ARRAY.LOADS.weight_loads : Fld := ⟨0x03000118, 63, 0⟩
/-- ARRAY.FILL_HOLDS. -/
def ARRAY.FILL_HOLDS.reg : Fld := ⟨0x03000120, 63, 0⟩
/-- ARRAY.FILL_HOLDS.holds_expired. -/
def ARRAY.FILL_HOLDS.holds_expired : Fld := ⟨0x03000120, 63, 32⟩
/-- ARRAY.FILL_HOLDS.holds_begun. -/
def ARRAY.FILL_HOLDS.holds_begun : Fld := ⟨0x03000120, 31, 0⟩
/-- SFTAB.VERSIONS. -/
def SFTAB.VERSIONS.reg : Fld := ⟨0x03400100, 63, 0⟩
/-- SFTAB.VERSIONS.normal_current. -/
def SFTAB.VERSIONS.normal_current : Fld := ⟨0x03400100, 23, 16⟩
/-- SFTAB.VERSIONS.tables_held. -/
def SFTAB.VERSIONS.tables_held : Fld := ⟨0x03400100, 15, 8⟩
/-- SFTAB.VERSIONS.current. -/
def SFTAB.VERSIONS.current : Fld := ⟨0x03400100, 7, 0⟩
/-- SFTAB.READ_SEL. -/
def SFTAB.READ_SEL.reg : Fld := ⟨0x03400108, 63, 0⟩
/-- SFTAB.READ_SEL.version. -/
def SFTAB.READ_SEL.version : Fld := ⟨0x03400108, 23, 16⟩
/-- SFTAB.READ_SEL.fid. -/
def SFTAB.READ_SEL.fid : Fld := ⟨0x03400108, 13, 8⟩
/-- SFTAB.READ_SEL.index. -/
def SFTAB.READ_SEL.index : Fld := ⟨0x03400108, 4, 0⟩
/-- SFTAB.READ_DATA. -/
def SFTAB.READ_DATA.reg : Fld := ⟨0x03400110, 63, 0⟩
/-- SFTAB.READ_DATA.node_value. -/
def SFTAB.READ_DATA.node_value : Fld := ⟨0x03400110, 63, 32⟩
/-- SFTAB.READ_DATA.breakpoint. -/
def SFTAB.READ_DATA.breakpoint : Fld := ⟨0x03400110, 31, 0⟩
/-- RNG.SEED_STATUS. -/
def RNG.SEED_STATUS.reg : Fld := ⟨0x03800100, 63, 0⟩
/-- RNG.SEED_STATUS.expanding. -/
def RNG.SEED_STATUS.expanding : Fld := ⟨0x03800100, 31, 16⟩
/-- RNG.SEED_STATUS.valid. -/
def RNG.SEED_STATUS.valid : Fld := ⟨0x03800100, 15, 0⟩
/-- RNG.NTAB_SEL. -/
def RNG.NTAB_SEL.reg : Fld := ⟨0x03800108, 63, 0⟩
/-- RNG.NTAB_SEL.version. -/
def RNG.NTAB_SEL.version : Fld := ⟨0x03800108, 15, 10⟩
/-- RNG.NTAB_SEL.index. -/
def RNG.NTAB_SEL.index : Fld := ⟨0x03800108, 9, 0⟩
/-- RNG.NTAB_DATA. -/
def RNG.NTAB_DATA.reg : Fld := ⟨0x03800110, 63, 0⟩
/-- RNG.NTAB_DATA.entry. -/
def RNG.NTAB_DATA.entry : Fld := ⟨0x03800110, 31, 0⟩
/-- RNG.JUMPS. -/
def RNG.JUMPS.reg : Fld := ⟨0x03800118, 63, 0⟩
/-- RNG.JUMPS.jumps. -/
def RNG.JUMPS.jumps : Fld := ⟨0x03800118, 63, 0⟩
/-- RNG.LOOSE_TASKS. -/
def RNG.LOOSE_TASKS.reg : Fld := ⟨0x03800120, 63, 0⟩
/-- RNG.LOOSE_TASKS.loose_tasks. -/
def RNG.LOOSE_TASKS.loose_tasks : Fld := ⟨0x03800120, 63, 0⟩
/-- RNG.SEED. -/
def RNG.SEED.reg : Fld := ⟨0x03800140, 63, 0⟩
/-- RNG.SEED.seed. -/
def RNG.SEED.seed : Fld := ⟨0x03800140, 63, 0⟩
/-- TIER.WATCHDOG. -/
def TIER.WATCHDOG.reg : Fld := ⟨0x03C00100, 63, 0⟩
/-- TIER.WATCHDOG.watchdog_us. -/
def TIER.WATCHDOG.watchdog_us : Fld := ⟨0x03C00100, 19, 0⟩
/-- TIER.STEP_LIST. -/
def TIER.STEP_LIST.reg : Fld := ⟨0x03C00108, 63, 0⟩
/-- TIER.STEP_LIST.step_list. -/
def TIER.STEP_LIST.step_list : Fld := ⟨0x03C00108, 63, 0⟩
/-- TIER.LIST_ADDR. -/
def TIER.LIST_ADDR.reg : Fld := ⟨0x03C00110, 63, 0⟩
/-- TIER.LIST_ADDR.list_addr. -/
def TIER.LIST_ADDR.list_addr : Fld := ⟨0x03C00110, 63, 0⟩
/-- TIER.LIST_GO. -/
def TIER.LIST_GO.reg : Fld := ⟨0x03C00118, 63, 0⟩
/-- TIER.LIST_GO.go. -/
def TIER.LIST_GO.go : Fld := ⟨0x03C00118, 31, 0⟩
/-- TIER.LIST_STATUS. -/
def TIER.LIST_STATUS.reg : Fld := ⟨0x03C00120, 63, 0⟩
/-- TIER.LIST_STATUS.lists_active. -/
def TIER.LIST_STATUS.lists_active : Fld := ⟨0x03C00120, 31, 24⟩
/-- TIER.LIST_STATUS.fault_code. -/
def TIER.LIST_STATUS.fault_code : Fld := ⟨0x03C00120, 23, 16⟩
/-- TIER.LIST_STATUS.fault_index. -/
def TIER.LIST_STATUS.fault_index : Fld := ⟨0x03C00120, 15, 0⟩
/-- TIER.REG_T1. -/
def TIER.REG_T1.reg : Fld := ⟨0x03C00130, 63, 0⟩
/-- TIER.REG_T1.ingress_ceiling. -/
def TIER.REG_T1.ingress_ceiling : Fld := ⟨0x03C00130, 63, 48⟩
/-- TIER.REG_T1.ingress_floor. -/
def TIER.REG_T1.ingress_floor : Fld := ⟨0x03C00130, 47, 32⟩
/-- TIER.REG_T1.ceiling. -/
def TIER.REG_T1.ceiling : Fld := ⟨0x03C00130, 31, 16⟩
/-- TIER.REG_T1.floor. -/
def TIER.REG_T1.floor : Fld := ⟨0x03C00130, 15, 0⟩
/-- TIER.REG_T2. -/
def TIER.REG_T2.reg : Fld := ⟨0x03C00138, 63, 0⟩
/-- TIER.REG_T2.ceiling. -/
def TIER.REG_T2.ceiling : Fld := ⟨0x03C00138, 31, 16⟩
/-- TIER.REG_T2.floor. -/
def TIER.REG_T2.floor : Fld := ⟨0x03C00138, 15, 0⟩
/-- TIER.REG_MESH. -/
def TIER.REG_MESH.reg : Fld := ⟨0x03C00140, 63, 0⟩
/-- TIER.REG_MESH.ceiling. -/
def TIER.REG_MESH.ceiling : Fld := ⟨0x03C00140, 31, 16⟩
/-- TIER.REG_MESH.floor. -/
def TIER.REG_MESH.floor : Fld := ⟨0x03C00140, 15, 0⟩
/-- TIER.MIGRATE. -/
def TIER.MIGRATE.reg : Fld := ⟨0x03C00148, 63, 0⟩
/-- TIER.MIGRATE.promote_uses. -/
def TIER.MIGRATE.promote_uses : Fld := ⟨0x03C00148, 63, 48⟩
/-- TIER.MIGRATE.enable. -/
def TIER.MIGRATE.enable : Fld := ⟨0x03C00148, 31, 31⟩
/-- TIER.MIGRATE.epoch_ms. -/
def TIER.MIGRATE.epoch_ms : Fld := ⟨0x03C00148, 23, 16⟩
/-- TIER.MIGRATE.high_pct. -/
def TIER.MIGRATE.high_pct : Fld := ⟨0x03C00148, 15, 8⟩
/-- TIER.MIGRATE.low_pct. -/
def TIER.MIGRATE.low_pct : Fld := ⟨0x03C00148, 7, 0⟩
/-- TIER.BOUND_STATUS. -/
def TIER.BOUND_STATUS.reg : Fld := ⟨0x03C00150, 63, 0⟩
/-- TIER.BOUND_STATUS.mesh. -/
def TIER.BOUND_STATUS.mesh : Fld := ⟨0x03C00150, 9, 8⟩
/-- TIER.BOUND_STATUS.t2. -/
def TIER.BOUND_STATUS.t2 : Fld := ⟨0x03C00150, 7, 6⟩
/-- TIER.BOUND_STATUS.t1_ingress. -/
def TIER.BOUND_STATUS.t1_ingress : Fld := ⟨0x03C00150, 5, 4⟩
/-- TIER.BOUND_STATUS.t1. -/
def TIER.BOUND_STATUS.t1 : Fld := ⟨0x03C00150, 3, 2⟩
/-- TIER.BOUND_STATUS.migration. -/
def TIER.BOUND_STATUS.migration : Fld := ⟨0x03C00150, 1, 0⟩
/-- TIER.T1_USE. -/
def TIER.T1_USE.reg : Fld := ⟨0x03C00158, 63, 0⟩
/-- TIER.T1_USE.allot_mib. -/
def TIER.T1_USE.allot_mib : Fld := ⟨0x03C00158, 63, 32⟩
/-- TIER.T1_USE.used_mib. -/
def TIER.T1_USE.used_mib : Fld := ⟨0x03C00158, 31, 0⟩
/-- TIER.REGION_SEL. -/
def TIER.REGION_SEL.reg : Fld := ⟨0x03C00160, 63, 0⟩
/-- TIER.REGION_SEL.region. -/
def TIER.REGION_SEL.region : Fld := ⟨0x03C00160, 11, 0⟩
/-- TIER.REGION_BASE. -/
def TIER.REGION_BASE.reg : Fld := ⟨0x03C00168, 63, 0⟩
/-- TIER.REGION_BASE.base. -/
def TIER.REGION_BASE.base : Fld := ⟨0x03C00168, 63, 0⟩
/-- TIER.REGION_LEN. -/
def TIER.REGION_LEN.reg : Fld := ⟨0x03C00170, 63, 0⟩
/-- TIER.REGION_LEN.length. -/
def TIER.REGION_LEN.length : Fld := ⟨0x03C00170, 39, 0⟩
/-- TIER.REGION_CTRL. -/
def TIER.REGION_CTRL.reg : Fld := ⟨0x03C00178, 63, 0⟩
/-- TIER.REGION_CTRL.cmd. -/
def TIER.REGION_CTRL.cmd : Fld := ⟨0x03C00178, 31, 24⟩
/-- TIER.REGION_CTRL.state. -/
def TIER.REGION_CTRL.state : Fld := ⟨0x03C00178, 15, 12⟩
/-- TIER.REGION_CTRL.hint. -/
def TIER.REGION_CTRL.hint : Fld := ⟨0x03C00178, 3, 0⟩
/-- TIER.REGION_USE. -/
def TIER.REGION_USE.reg : Fld := ⟨0x03C00180, 63, 0⟩
/-- TIER.REGION_USE.use_count. -/
def TIER.REGION_USE.use_count : Fld := ⟨0x03C00180, 31, 0⟩
/-- TIER.LATE. -/
def TIER.LATE.reg : Fld := ⟨0x03C00188, 63, 0⟩
/-- TIER.LATE.late. -/
def TIER.LATE.late : Fld := ⟨0x03C00188, 63, 0⟩
/-- TIER.MIGRATED. -/
def TIER.MIGRATED.reg : Fld := ⟨0x03C00190, 63, 0⟩
/-- TIER.MIGRATED.migrated. -/
def TIER.MIGRATED.migrated : Fld := ⟨0x03C00190, 63, 0⟩
/-- TIER.UE. -/
def TIER.UE.reg : Fld := ⟨0x03C00198, 63, 0⟩
/-- TIER.UE.ue. -/
def TIER.UE.ue : Fld := ⟨0x03C00198, 63, 0⟩
/-- KV.FORMAT. -/
def KV.FORMAT.reg : Fld := ⟨0x04000100, 63, 0⟩
/-- KV.FORMAT.stripes. -/
def KV.FORMAT.stripes : Fld := ⟨0x04000100, 31, 16⟩
/-- KV.FORMAT.kv_fmt. -/
def KV.FORMAT.kv_fmt : Fld := ⟨0x04000100, 15, 12⟩
/-- KV.FORMAT.kv_dim. -/
def KV.FORMAT.kv_dim : Fld := ⟨0x04000100, 7, 0⟩
/-- KV.TABLE_BASE. -/
def KV.TABLE_BASE.reg : Fld := ⟨0x04000108, 63, 0⟩
/-- KV.TABLE_BASE.table_base. -/
def KV.TABLE_BASE.table_base : Fld := ⟨0x04000108, 63, 0⟩
/-- KV.HOME_MAP. -/
def KV.HOME_MAP.reg : Fld := ⟨0x04000110, 63, 0⟩
/-- KV.HOME_MAP.home_map. -/
def KV.HOME_MAP.home_map : Fld := ⟨0x04000110, 63, 0⟩
/-- KV.SPILL_BASE. -/
def KV.SPILL_BASE.reg : Fld := ⟨0x04000118, 63, 0⟩
/-- KV.SPILL_BASE.spill_base. -/
def KV.SPILL_BASE.spill_base : Fld := ⟨0x04000118, 63, 0⟩
/-- KV.GROUP_SEL. -/
def KV.GROUP_SEL.reg : Fld := ⟨0x04000120, 63, 0⟩
/-- KV.GROUP_SEL.group. -/
def KV.GROUP_SEL.group : Fld := ⟨0x04000120, 7, 0⟩
/-- KV.GROUP_CFG. -/
def KV.GROUP_CFG.reg : Fld := ⟨0x04000128, 63, 0⟩
/-- KV.GROUP_CFG.spill_slots. -/
def KV.GROUP_CFG.spill_slots : Fld := ⟨0x04000128, 63, 48⟩
/-- KV.GROUP_CFG.frames. -/
def KV.GROUP_CFG.frames : Fld := ⟨0x04000128, 28, 16⟩
/-- KV.GROUP_CFG.max_requests. -/
def KV.GROUP_CFG.max_requests : Fld := ⟨0x04000128, 6, 0⟩
/-- KV.GROUP_STATUS. -/
def KV.GROUP_STATUS.reg : Fld := ⟨0x04000130, 63, 0⟩
/-- KV.GROUP_STATUS.spill_used. -/
def KV.GROUP_STATUS.spill_used : Fld := ⟨0x04000130, 63, 48⟩
/-- KV.GROUP_STATUS.queued. -/
def KV.GROUP_STATUS.queued : Fld := ⟨0x04000130, 47, 40⟩
/-- KV.GROUP_STATUS.paused. -/
def KV.GROUP_STATUS.paused : Fld := ⟨0x04000130, 39, 32⟩
/-- KV.GROUP_STATUS.running. -/
def KV.GROUP_STATUS.running : Fld := ⟨0x04000130, 31, 24⟩
/-- KV.GROUP_STATUS.frames_used. -/
def KV.GROUP_STATUS.frames_used : Fld := ⟨0x04000130, 12, 0⟩
/-- KV.COPIES. -/
def KV.COPIES.reg : Fld := ⟨0x04000138, 63, 0⟩
/-- KV.COPIES.copies. -/
def KV.COPIES.copies : Fld := ⟨0x04000138, 63, 0⟩
/-- KV.PAUSES. -/
def KV.PAUSES.reg : Fld := ⟨0x04000140, 63, 0⟩
/-- KV.PAUSES.pauses. -/
def KV.PAUSES.pauses : Fld := ⟨0x04000140, 63, 0⟩
/-- KV.RESUMES. -/
def KV.RESUMES.reg : Fld := ⟨0x04000148, 63, 0⟩
/-- KV.RESUMES.resumes. -/
def KV.RESUMES.resumes : Fld := ⟨0x04000148, 63, 0⟩
/-- KV.STALE_SLOTS. -/
def KV.STALE_SLOTS.reg : Fld := ⟨0x04000150, 63, 0⟩
/-- KV.STALE_SLOTS.stale. -/
def KV.STALE_SLOTS.stale : Fld := ⟨0x04000150, 63, 0⟩
/-- KV.HOLD_US. -/
def KV.HOLD_US.reg : Fld := ⟨0x04000158, 63, 0⟩
/-- KV.HOLD_US.hold_us. -/
def KV.HOLD_US.hold_us : Fld := ⟨0x04000158, 63, 0⟩
/-- KV.RETIRED. -/
def KV.RETIRED.reg : Fld := ⟨0x04000160, 63, 0⟩
/-- KV.RETIRED.retired. -/
def KV.RETIRED.retired : Fld := ⟨0x04000160, 31, 0⟩
/-- REQ.CFG. -/
def REQ.CFG.reg : Fld := ⟨0x04400100, 63, 0⟩
/-- REQ.CFG.prefill_chunk. -/
def REQ.CFG.prefill_chunk : Fld := ⟨0x04400100, 31, 16⟩
/-- REQ.CFG.fox_heads. -/
def REQ.CFG.fox_heads : Fld := ⟨0x04400100, 2, 0⟩
/-- REQ.CREDIT_BASE. -/
def REQ.CREDIT_BASE.reg : Fld := ⟨0x04400108, 63, 0⟩
/-- REQ.CREDIT_BASE.credit_base. -/
def REQ.CREDIT_BASE.credit_base : Fld := ⟨0x04400108, 63, 0⟩
/-- REQ.STEP_RING_ADDR. -/
def REQ.STEP_RING_ADDR.reg : Fld := ⟨0x04400110, 63, 0⟩
/-- REQ.STEP_RING_ADDR.step_addr. -/
def REQ.STEP_RING_ADDR.step_addr : Fld := ⟨0x04400110, 63, 0⟩
/-- REQ.STEP_RING_CFG. -/
def REQ.STEP_RING_CFG.reg : Fld := ⟨0x04400118, 63, 0⟩
/-- REQ.STEP_RING_CFG.step_rkey. -/
def REQ.STEP_RING_CFG.step_rkey : Fld := ⟨0x04400118, 63, 32⟩
/-- REQ.STEP_RING_CFG.step_qp. -/
def REQ.STEP_RING_CFG.step_qp : Fld := ⟨0x04400118, 31, 20⟩
/-- REQ.STEP_RING_CFG.step_log2. -/
def REQ.STEP_RING_CFG.step_log2 : Fld := ⟨0x04400118, 4, 0⟩
/-- REQ.STEP_CREDIT. -/
def REQ.STEP_CREDIT.reg : Fld := ⟨0x04400120, 63, 0⟩
/-- REQ.STEP_CREDIT.units_consumed. -/
def REQ.STEP_CREDIT.units_consumed : Fld := ⟨0x04400120, 63, 0⟩
/-- REQ.STEP_SEQ. -/
def REQ.STEP_SEQ.reg : Fld := ⟨0x04400128, 63, 0⟩
/-- REQ.STEP_SEQ.step_seq. -/
def REQ.STEP_SEQ.step_seq : Fld := ⟨0x04400128, 63, 0⟩
/-- REQ.LIVE. -/
def REQ.LIVE.reg : Fld := ⟨0x04400130, 63, 0⟩
/-- REQ.LIVE.admitted. -/
def REQ.LIVE.admitted : Fld := ⟨0x04400130, 31, 16⟩
/-- REQ.LIVE.queued. -/
def REQ.LIVE.queued : Fld := ⟨0x04400130, 15, 0⟩
/-- REQ.ENDS_COMPLETE. -/
def REQ.ENDS_COMPLETE.reg : Fld := ⟨0x04400138, 63, 0⟩
/-- REQ.ENDS_COMPLETE.complete. -/
def REQ.ENDS_COMPLETE.complete : Fld := ⟨0x04400138, 63, 0⟩
/-- REQ.ENDS_CANCELLED. -/
def REQ.ENDS_CANCELLED.reg : Fld := ⟨0x04400140, 63, 0⟩
/-- REQ.ENDS_CANCELLED.cancelled. -/
def REQ.ENDS_CANCELLED.cancelled : Fld := ⟨0x04400140, 63, 0⟩
/-- REQ.ENDS_TIER_LATE. -/
def REQ.ENDS_TIER_LATE.reg : Fld := ⟨0x04400148, 63, 0⟩
/-- REQ.ENDS_TIER_LATE.tier_late. -/
def REQ.ENDS_TIER_LATE.tier_late : Fld := ⟨0x04400148, 63, 0⟩
/-- REQ.REFUSED. -/
def REQ.REFUSED.reg : Fld := ⟨0x04400150, 63, 0⟩
/-- REQ.REFUSED.refused. -/
def REQ.REFUSED.refused : Fld := ⟨0x04400150, 63, 0⟩
/-- REQ.SPEC_PROPOSED. -/
def REQ.SPEC_PROPOSED.reg : Fld := ⟨0x04400158, 63, 0⟩
/-- REQ.SPEC_PROPOSED.proposed. -/
def REQ.SPEC_PROPOSED.proposed : Fld := ⟨0x04400158, 63, 0⟩
/-- REQ.SPEC_ACCEPTED. -/
def REQ.SPEC_ACCEPTED.reg : Fld := ⟨0x04400160, 63, 0⟩
/-- REQ.SPEC_ACCEPTED.accepted. -/
def REQ.SPEC_ACCEPTED.accepted : Fld := ⟨0x04400160, 63, 0⟩
/-- REQ.STREAM_HELD. -/
def REQ.STREAM_HELD.reg : Fld := ⟨0x04400168, 63, 0⟩
/-- REQ.STREAM_HELD.held. -/
def REQ.STREAM_HELD.held : Fld := ⟨0x04400168, 63, 0⟩
/-- REQ.EXP_HIGH. -/
def REQ.EXP_HIGH.reg : Fld := ⟨0x04400170, 63, 0⟩
/-- REQ.EXP_HIGH.threshold. -/
def REQ.EXP_HIGH.threshold : Fld := ⟨0x04400170, 31, 0⟩
/-- SETT.T0_AREA. -/
def SETT.T0_AREA.reg : Fld := ⟨0x04800100, 63, 0⟩
/-- SETT.T0_AREA.t0_len. -/
def SETT.T0_AREA.t0_len : Fld := ⟨0x04800100, 55, 32⟩
/-- SETT.T0_AREA.t0_base. -/
def SETT.T0_AREA.t0_base : Fld := ⟨0x04800100, 23, 0⟩
/-- SETT.SPILL_BASE. -/
def SETT.SPILL_BASE.reg : Fld := ⟨0x04800108, 63, 0⟩
/-- SETT.SPILL_BASE.spill_base. -/
def SETT.SPILL_BASE.spill_base : Fld := ⟨0x04800108, 63, 0⟩
/-- SETT.SPILL_LEN. -/
def SETT.SPILL_LEN.reg : Fld := ⟨0x04800110, 63, 0⟩
/-- SETT.SPILL_LEN.spill_len. -/
def SETT.SPILL_LEN.spill_len : Fld := ⟨0x04800110, 39, 0⟩
/-- SETT.POLICY. -/
def SETT.POLICY.reg : Fld := ⟨0x04800118, 63, 0⟩
/-- SETT.POLICY.lead. -/
def SETT.POLICY.lead : Fld := ⟨0x04800118, 47, 32⟩
/-- SETT.POLICY.stacks_log2. -/
def SETT.POLICY.stacks_log2 : Fld := ⟨0x04800118, 21, 20⟩
/-- SETT.POLICY.mailbox. -/
def SETT.POLICY.mailbox : Fld := ⟨0x04800118, 19, 0⟩
/-- SETT.OP. -/
def SETT.OP.reg : Fld := ⟨0x04800120, 63, 0⟩
/-- SETT.OP.op. -/
def SETT.OP.op : Fld := ⟨0x04800120, 31, 0⟩
/-- SETT.CORE_SEL. -/
def SETT.CORE_SEL.reg : Fld := ⟨0x04800128, 63, 0⟩
/-- SETT.CORE_SEL.core. -/
def SETT.CORE_SEL.core : Fld := ⟨0x04800128, 9, 0⟩
/-- SETT.CORE_STATUS. -/
def SETT.CORE_STATUS.reg : Fld := ⟨0x04800130, 63, 0⟩
/-- SETT.CORE_STATUS.frames. -/
def SETT.CORE_STATUS.frames : Fld := ⟨0x04800130, 63, 48⟩
/-- SETT.CORE_STATUS.resident. -/
def SETT.CORE_STATUS.resident : Fld := ⟨0x04800130, 47, 32⟩
/-- SETT.CORE_STATUS.depth. -/
def SETT.CORE_STATUS.depth : Fld := ⟨0x04800130, 31, 0⟩
/-- SETT.SPILLED. -/
def SETT.SPILLED.reg : Fld := ⟨0x04800138, 63, 0⟩
/-- SETT.SPILLED.spilled. -/
def SETT.SPILLED.spilled : Fld := ⟨0x04800138, 63, 0⟩
/-- SETT.FILLED. -/
def SETT.FILLED.reg : Fld := ⟨0x04800140, 63, 0⟩
/-- SETT.FILLED.filled. -/
def SETT.FILLED.filled : Fld := ⟨0x04800140, 63, 0⟩
/-- SETT.LATE_LANDS. -/
def SETT.LATE_LANDS.reg : Fld := ⟨0x04800148, 63, 0⟩
/-- SETT.LATE_LANDS.late. -/
def SETT.LATE_LANDS.late : Fld := ⟨0x04800148, 63, 0⟩
/-- RED.GROUP_CFG. -/
def RED.GROUP_CFG.reg : Fld := ⟨0x04C00100, 63, 0⟩
/-- RED.GROUP_CFG.combine_group. -/
def RED.GROUP_CFG.combine_group : Fld := ⟨0x04C00100, 63, 48⟩
/-- RED.GROUP_CFG.members. -/
def RED.GROUP_CFG.members : Fld := ⟨0x04C00100, 40, 32⟩
/-- RED.GROUP_CFG.member_index. -/
def RED.GROUP_CFG.member_index : Fld := ⟨0x04C00100, 23, 16⟩
/-- RED.GROUP_CFG.check_log2. -/
def RED.GROUP_CFG.check_log2 : Fld := ⟨0x04C00100, 3, 0⟩
/-- RED.MEMBER_TABLE. -/
def RED.MEMBER_TABLE.reg : Fld := ⟨0x04C00108, 63, 0⟩
/-- RED.MEMBER_TABLE.members_addr. -/
def RED.MEMBER_TABLE.members_addr : Fld := ⟨0x04C00108, 63, 0⟩
/-- RED.BUCKET_TABLE. -/
def RED.BUCKET_TABLE.reg : Fld := ⟨0x04C00110, 63, 0⟩
/-- RED.BUCKET_TABLE.bucket_addr. -/
def RED.BUCKET_TABLE.bucket_addr : Fld := ⟨0x04C00110, 63, 0⟩
/-- RED.RESULT_BASE. -/
def RED.RESULT_BASE.reg : Fld := ⟨0x04C00118, 63, 0⟩
/-- RED.RESULT_BASE.result_base. -/
def RED.RESULT_BASE.result_base : Fld := ⟨0x04C00118, 63, 0⟩
/-- RED.TIMING. -/
def RED.TIMING.reg : Fld := ⟨0x04C00120, 63, 0⟩
/-- RED.TIMING.agree_limit_us. -/
def RED.TIMING.agree_limit_us : Fld := ⟨0x04C00120, 63, 32⟩
/-- RED.TIMING.deadline_us. -/
def RED.TIMING.deadline_us : Fld := ⟨0x04C00120, 31, 0⟩
/-- RED.POLICY. -/
def RED.POLICY.reg : Fld := ⟨0x04C00128, 63, 0⟩
/-- RED.POLICY.dst_space. -/
def RED.POLICY.dst_space : Fld := ⟨0x04C00128, 32, 32⟩
/-- RED.POLICY.mailbox. -/
def RED.POLICY.mailbox : Fld := ⟨0x04C00128, 19, 0⟩
/-- RED.OPEN. -/
def RED.OPEN.reg : Fld := ⟨0x04C00130, 63, 0⟩
/-- RED.OPEN.open. -/
def RED.OPEN.open_ : Fld := ⟨0x04C00130, 31, 0⟩
/-- RED.CLOSE. -/
def RED.CLOSE.reg : Fld := ⟨0x04C00138, 63, 0⟩
/-- RED.CLOSE.close. -/
def RED.CLOSE.close : Fld := ⟨0x04C00138, 31, 0⟩
/-- RED.STAGED. -/
def RED.STAGED.reg : Fld := ⟨0x04C00140, 63, 0⟩
/-- RED.STAGED.staged. -/
def RED.STAGED.staged : Fld := ⟨0x04C00140, 31, 0⟩
/-- RED.NOTIFY. -/
def RED.NOTIFY.reg : Fld := ⟨0x04C00148, 63, 0⟩
/-- RED.NOTIFY.notify. -/
def RED.NOTIFY.notify : Fld := ⟨0x04C00148, 31, 0⟩
/-- RED.STATUS. -/
def RED.STATUS.reg : Fld := ⟨0x04C00150, 63, 0⟩
/-- RED.STATUS.step. -/
def RED.STATUS.step : Fld := ⟨0x04C00150, 63, 48⟩
/-- RED.STATUS.complete. -/
def RED.STATUS.complete : Fld := ⟨0x04C00150, 47, 32⟩
/-- RED.STATUS.failed. -/
def RED.STATUS.failed : Fld := ⟨0x04C00150, 31, 16⟩
/-- RED.STATUS.quiescing. -/
def RED.STATUS.quiescing : Fld := ⟨0x04C00150, 1, 1⟩
/-- RED.STATUS.open. -/
def RED.STATUS.open_ : Fld := ⟨0x04C00150, 0, 0⟩
/-- RED.FAIL. -/
def RED.FAIL.reg : Fld := ⟨0x04C00158, 63, 0⟩
/-- RED.FAIL.bucket. -/
def RED.FAIL.bucket : Fld := ⟨0x04C00158, 63, 48⟩
/-- RED.FAIL.step. -/
def RED.FAIL.step : Fld := ⟨0x04C00158, 47, 32⟩
/-- RED.FAIL.cause. -/
def RED.FAIL.cause : Fld := ⟨0x04C00158, 7, 0⟩
/-- RED.SENT. -/
def RED.SENT.reg : Fld := ⟨0x04C00160, 63, 0⟩
/-- RED.SENT.sent. -/
def RED.SENT.sent : Fld := ⟨0x04C00160, 63, 0⟩
/-- RED.RECEIVED. -/
def RED.RECEIVED.reg : Fld := ⟨0x04C00168, 63, 0⟩
/-- RED.RECEIVED.received. -/
def RED.RECEIVED.received : Fld := ⟨0x04C00168, 63, 0⟩
/-- RED.CHECKED. -/
def RED.CHECKED.reg : Fld := ⟨0x04C00170, 63, 0⟩
/-- RED.CHECKED.checked. -/
def RED.CHECKED.checked : Fld := ⟨0x04C00170, 63, 0⟩
/-- RED.FAILED. -/
def RED.FAILED.reg : Fld := ⟨0x04C00178, 63, 0⟩
/-- RED.FAILED.failures. -/
def RED.FAILED.failures : Fld := ⟨0x04C00178, 63, 0⟩
/-- RED.LATE_DROPS. -/
def RED.LATE_DROPS.reg : Fld := ⟨0x04C00180, 63, 0⟩
/-- RED.LATE_DROPS.late_drops. -/
def RED.LATE_DROPS.late_drops : Fld := ⟨0x04C00180, 63, 0⟩
/-- UPD.CFG. -/
def UPD.CFG.reg : Fld := ⟨0x05000100, 63, 0⟩
/-- UPD.CFG.refresh_k. -/
def UPD.CFG.refresh_k : Fld := ⟨0x05000100, 63, 48⟩
/-- UPD.CFG.tver. -/
def UPD.CFG.tver : Fld := ⟨0x05000100, 47, 40⟩
/-- UPD.CFG.ns_iters. -/
def UPD.CFG.ns_iters : Fld := ⟨0x05000100, 39, 35⟩
/-- UPD.CFG.pc_mode. -/
def UPD.CFG.pc_mode : Fld := ⟨0x05000100, 34, 33⟩
/-- UPD.CFG.pc_enable. -/
def UPD.CFG.pc_enable : Fld := ⟨0x05000100, 32, 32⟩
/-- UPD.CFG.w_fmt. -/
def UPD.CFG.w_fmt : Fld := ⟨0x05000100, 31, 28⟩
/-- UPD.CFG.m_fmt. -/
def UPD.CFG.m_fmt : Fld := ⟨0x05000100, 27, 24⟩
/-- UPD.CFG.v_fmt. -/
def UPD.CFG.v_fmt : Fld := ⟨0x05000100, 23, 20⟩
/-- UPD.CFG.mv_round. -/
def UPD.CFG.mv_round : Fld := ⟨0x05000100, 17, 16⟩
/-- UPD.CFG.seed_slot. -/
def UPD.CFG.seed_slot : Fld := ⟨0x05000100, 3, 0⟩
/-- UPD.MAP_BASE. -/
def UPD.MAP_BASE.reg : Fld := ⟨0x05000108, 63, 0⟩
/-- UPD.MAP_BASE.map_base. -/
def UPD.MAP_BASE.map_base : Fld := ⟨0x05000108, 63, 0⟩
/-- UPD.PTAB_BASE. -/
def UPD.PTAB_BASE.reg : Fld := ⟨0x05000110, 63, 0⟩
/-- UPD.PTAB_BASE.ptab_base. -/
def UPD.PTAB_BASE.ptab_base : Fld := ⟨0x05000110, 63, 0⟩
/-- UPD.WBASE0. -/
def UPD.WBASE0.reg : Fld := ⟨0x05000118, 63, 0⟩
/-- UPD.WBASE0.wbase0. -/
def UPD.WBASE0.wbase0 : Fld := ⟨0x05000118, 63, 0⟩
/-- UPD.WBASE1. -/
def UPD.WBASE1.reg : Fld := ⟨0x05000120, 63, 0⟩
/-- UPD.WBASE1.wbase1. -/
def UPD.WBASE1.wbase1 : Fld := ⟨0x05000120, 63, 0⟩
/-- UPD.SBASE0. -/
def UPD.SBASE0.reg : Fld := ⟨0x05000128, 63, 0⟩
/-- UPD.SBASE0.sbase0. -/
def UPD.SBASE0.sbase0 : Fld := ⟨0x05000128, 63, 0⟩
/-- UPD.SBASE1. -/
def UPD.SBASE1.reg : Fld := ⟨0x05000130, 63, 0⟩
/-- UPD.SBASE1.sbase1. -/
def UPD.SBASE1.sbase1 : Fld := ⟨0x05000130, 63, 0⟩
/-- UPD.CLIP. -/
def UPD.CLIP.reg : Fld := ⟨0x05000138, 63, 0⟩
/-- UPD.CLIP.clip_norm. -/
def UPD.CLIP.clip_norm : Fld := ⟨0x05000138, 31, 0⟩
/-- UPD.PC_PARAM. -/
def UPD.PC_PARAM.reg : Fld := ⟨0x05000140, 63, 0⟩
/-- UPD.PC_PARAM.beta. -/
def UPD.PC_PARAM.beta : Fld := ⟨0x05000140, 63, 32⟩
/-- UPD.PC_PARAM.eps. -/
def UPD.PC_PARAM.eps : Fld := ⟨0x05000140, 31, 0⟩
/-- UPD.INDEX_BASE. -/
def UPD.INDEX_BASE.reg : Fld := ⟨0x05000148, 63, 0⟩
/-- UPD.INDEX_BASE.index_base. -/
def UPD.INDEX_BASE.index_base : Fld := ⟨0x05000148, 63, 0⟩
/-- UPD.RATE. -/
def UPD.RATE.reg : Fld := ⟨0x05000150, 63, 0⟩
/-- UPD.RATE.gather_us. -/
def UPD.RATE.gather_us : Fld := ⟨0x05000150, 31, 16⟩
/-- UPD.RATE.rate_gbs. -/
def UPD.RATE.rate_gbs : Fld := ⟨0x05000150, 15, 0⟩
/-- UPD.CONST. -/
def UPD.CONST.reg : Fld := ⟨0x05000180, 63, 0⟩
/-- UPD.CONST.c. -/
def UPD.CONST.c : Fld := ⟨0x05000180, 31, 0⟩
/-- UPD.PROG. -/
def UPD.PROG.reg : Fld := ⟨0x05000200, 63, 0⟩
/-- UPD.PROG.word. -/
def UPD.PROG.word : Fld := ⟨0x05000200, 31, 0⟩
/-- UPD.STATUS. -/
def UPD.STATUS.reg : Fld := ⟨0x05000300, 63, 0⟩
/-- UPD.STATUS.step. -/
def UPD.STATUS.step : Fld := ⟨0x05000300, 63, 48⟩
/-- UPD.STATUS.state. -/
def UPD.STATUS.state : Fld := ⟨0x05000300, 47, 45⟩
/-- UPD.STATUS.runs_done. -/
def UPD.STATUS.runs_done : Fld := ⟨0x05000300, 31, 0⟩
/-- UPD.NORM. -/
def UPD.NORM.reg : Fld := ⟨0x05000308, 63, 0⟩
/-- UPD.NORM.sq_norm. -/
def UPD.NORM.sq_norm : Fld := ⟨0x05000308, 63, 32⟩
/-- UPD.NORM.kappa. -/
def UPD.NORM.kappa : Fld := ⟨0x05000308, 31, 0⟩
/-- UPD.FAIL. -/
def UPD.FAIL.reg : Fld := ⟨0x05000310, 63, 0⟩
/-- UPD.FAIL.step. -/
def UPD.FAIL.step : Fld := ⟨0x05000310, 63, 48⟩
/-- UPD.FAIL.cause. -/
def UPD.FAIL.cause : Fld := ⟨0x05000310, 7, 0⟩
/-- UPD.ELEMENTS. -/
def UPD.ELEMENTS.reg : Fld := ⟨0x05000318, 63, 0⟩
/-- UPD.ELEMENTS.elements. -/
def UPD.ELEMENTS.elements : Fld := ⟨0x05000318, 63, 0⟩
/-- UPD.REFRESHES. -/
def UPD.REFRESHES.reg : Fld := ⟨0x05000320, 63, 0⟩
/-- UPD.REFRESHES.refreshes. -/
def UPD.REFRESHES.refreshes : Fld := ⟨0x05000320, 63, 0⟩
/-- UPD.PC_STALE. -/
def UPD.PC_STALE.reg : Fld := ⟨0x05000328, 63, 0⟩
/-- UPD.PC_STALE.stale. -/
def UPD.PC_STALE.stale : Fld := ⟨0x05000328, 63, 0⟩
/-- UPD.SATURATED. -/
def UPD.SATURATED.reg : Fld := ⟨0x05000330, 63, 0⟩
/-- UPD.SATURATED.saturated. -/
def UPD.SATURATED.saturated : Fld := ⟨0x05000330, 63, 0⟩
/-- UPD.HOLD_US. -/
def UPD.HOLD_US.reg : Fld := ⟨0x05000338, 63, 0⟩
/-- UPD.HOLD_US.hold_us. -/
def UPD.HOLD_US.hold_us : Fld := ⟨0x05000338, 63, 0⟩
/-- UPD.CLIPPED. -/
def UPD.CLIPPED.reg : Fld := ⟨0x05000340, 63, 0⟩
/-- UPD.CLIPPED.clipped. -/
def UPD.CLIPPED.clipped : Fld := ⟨0x05000340, 63, 0⟩
/-- FAB.REG_PORT. -/
def FAB.REG_PORT.reg : Fld := ⟨0x05400100, 63, 0⟩
/-- FAB.REG_PORT.ceiling. -/
def FAB.REG_PORT.ceiling : Fld := ⟨0x05400100, 31, 16⟩
/-- FAB.REG_PORT.floor. -/
def FAB.REG_PORT.floor : Fld := ⟨0x05400100, 15, 0⟩
/-- FAB.VC_WEIGHT. -/
def FAB.VC_WEIGHT.reg : Fld := ⟨0x05400108, 63, 0⟩
/-- FAB.VC_WEIGHT.vc6. -/
def FAB.VC_WEIGHT.vc6 : Fld := ⟨0x05400108, 39, 32⟩
/-- FAB.VC_WEIGHT.vc5. -/
def FAB.VC_WEIGHT.vc5 : Fld := ⟨0x05400108, 31, 24⟩
/-- FAB.VC_WEIGHT.vc4. -/
def FAB.VC_WEIGHT.vc4 : Fld := ⟨0x05400108, 23, 16⟩
/-- FAB.VC_WEIGHT.vc3. -/
def FAB.VC_WEIGHT.vc3 : Fld := ⟨0x05400108, 15, 8⟩
/-- FAB.VC_WEIGHT.vc2. -/
def FAB.VC_WEIGHT.vc2 : Fld := ⟨0x05400108, 7, 0⟩
/-- FAB.GROUP_TABLE. -/
def FAB.GROUP_TABLE.reg : Fld := ⟨0x05400110, 63, 0⟩
/-- FAB.GROUP_TABLE.group_addr. -/
def FAB.GROUP_TABLE.group_addr : Fld := ⟨0x05400110, 63, 0⟩
/-- FAB.GROUP_CFG. -/
def FAB.GROUP_CFG.reg : Fld := ⟨0x05400118, 63, 0⟩
/-- FAB.GROUP_CFG.hare_quota. -/
def FAB.GROUP_CFG.hare_quota : Fld := ⟨0x05400118, 27, 16⟩
/-- FAB.GROUP_CFG.groups. -/
def FAB.GROUP_CFG.groups : Fld := ⟨0x05400118, 12, 0⟩
/-- FAB.COLL_GO. -/
def FAB.COLL_GO.reg : Fld := ⟨0x05400120, 63, 0⟩
/-- FAB.COLL_GO.guidon. -/
def FAB.COLL_GO.guidon : Fld := ⟨0x05400120, 31, 0⟩
/-- FAB.HARE_GO. -/
def FAB.HARE_GO.reg : Fld := ⟨0x05400128, 63, 0⟩
/-- FAB.HARE_GO.flag. -/
def FAB.HARE_GO.flag : Fld := ⟨0x05400128, 25, 20⟩
/-- FAB.HARE_GO.block. -/
def FAB.HARE_GO.block : Fld := ⟨0x05400128, 19, 0⟩
/-- FAB.BOUND_STATUS. -/
def FAB.BOUND_STATUS.reg : Fld := ⟨0x05400130, 63, 0⟩
/-- FAB.BOUND_STATUS.fabric. -/
def FAB.BOUND_STATUS.fabric : Fld := ⟨0x05400130, 1, 0⟩
/-- FAB.COLL_DONE. -/
def FAB.COLL_DONE.reg : Fld := ⟨0x05400138, 63, 0⟩
/-- FAB.COLL_DONE.done. -/
def FAB.COLL_DONE.done : Fld := ⟨0x05400138, 63, 0⟩
/-- FAB.COLL_FAILED. -/
def FAB.COLL_FAILED.reg : Fld := ⟨0x05400140, 63, 0⟩
/-- FAB.COLL_FAILED.failed. -/
def FAB.COLL_FAILED.failed : Fld := ⟨0x05400140, 63, 0⟩
/-- FAB.EARLY_PACKETS. -/
def FAB.EARLY_PACKETS.reg : Fld := ⟨0x05400148, 63, 0⟩
/-- FAB.EARLY_PACKETS.early. -/
def FAB.EARLY_PACKETS.early : Fld := ⟨0x05400148, 63, 0⟩
/-- FAB.SUBCREDIT_WAIT. -/
def FAB.SUBCREDIT_WAIT.reg : Fld := ⟨0x05400150, 63, 0⟩
/-- FAB.SUBCREDIT_WAIT.wait_ns. -/
def FAB.SUBCREDIT_WAIT.wait_ns : Fld := ⟨0x05400150, 63, 0⟩
/-- FAB.HARE_OPS. -/
def FAB.HARE_OPS.reg : Fld := ⟨0x05400158, 63, 0⟩
/-- FAB.HARE_OPS.hare_ops. -/
def FAB.HARE_OPS.hare_ops : Fld := ⟨0x05400158, 63, 0⟩
/-- FAB.EXP_TABLE. -/
def FAB.EXP_TABLE.reg : Fld := ⟨0x05400160, 63, 0⟩
/-- FAB.EXP_TABLE.exp_table. -/
def FAB.EXP_TABLE.exp_table : Fld := ⟨0x05400160, 63, 0⟩
/-- FAB.EXP_GO. -/
def FAB.EXP_GO.reg : Fld := ⟨0x05400168, 63, 0⟩
/-- FAB.EXP_GO.flag. -/
def FAB.EXP_GO.flag : Fld := ⟨0x05400168, 25, 20⟩
/-- FAB.EXP_GO.block. -/
def FAB.EXP_GO.block : Fld := ⟨0x05400168, 19, 0⟩
/-- FAB.EXP_BYTES. -/
def FAB.EXP_BYTES.reg : Fld := ⟨0x05400170, 63, 0⟩
/-- FAB.EXP_BYTES.exp_bytes. -/
def FAB.EXP_BYTES.exp_bytes : Fld := ⟨0x05400170, 63, 0⟩
/-- FAB.COMBINE_ADDR. -/
def FAB.COMBINE_ADDR.reg : Fld := ⟨0x05400178, 63, 0⟩
/-- FAB.COMBINE_ADDR.combine_addr. -/
def FAB.COMBINE_ADDR.combine_addr : Fld := ⟨0x05400178, 63, 0⟩
/-- FAB.COMBINE_CMD. -/
def FAB.COMBINE_CMD.reg : Fld := ⟨0x05400180, 63, 0⟩
/-- FAB.COMBINE_CMD.cmd. -/
def FAB.COMBINE_CMD.cmd : Fld := ⟨0x05400180, 31, 24⟩
/-- FAB.COMBINE_CMD.count. -/
def FAB.COMBINE_CMD.count : Fld := ⟨0x05400180, 10, 0⟩
/-- FAB.COMBINE_STATUS. -/
def FAB.COMBINE_STATUS.reg : Fld := ⟨0x05400188, 63, 0⟩
/-- FAB.COMBINE_STATUS.last_status. -/
def FAB.COMBINE_STATUS.last_status : Fld := ⟨0x05400188, 31, 24⟩
/-- FAB.COMBINE_STATUS.groups. -/
def FAB.COMBINE_STATUS.groups : Fld := ⟨0x05400188, 10, 0⟩
/-- PUB.SLOT_SEL. -/
def PUB.SLOT_SEL.reg : Fld := ⟨0x05800100, 63, 0⟩
/-- PUB.SLOT_SEL.slot. -/
def PUB.SLOT_SEL.slot : Fld := ⟨0x05800100, 7, 0⟩
/-- PUB.SLOT_CFG. -/
def PUB.SLOT_CFG.reg : Fld := ⟨0x05800108, 63, 0⟩
/-- PUB.SLOT_CFG.publish_group. -/
def PUB.SLOT_CFG.publish_group : Fld := ⟨0x05800108, 63, 48⟩
/-- PUB.SLOT_CFG.shard. -/
def PUB.SLOT_CFG.shard : Fld := ⟨0x05800108, 47, 40⟩
/-- PUB.SLOT_CFG.shards. -/
def PUB.SLOT_CFG.shards : Fld := ⟨0x05800108, 39, 32⟩
/-- PUB.SLOT_CFG.leader. -/
def PUB.SLOT_CFG.leader : Fld := ⟨0x05800108, 31, 31⟩
/-- PUB.SLOT_CFG.source. -/
def PUB.SLOT_CFG.source : Fld := ⟨0x05800108, 30, 30⟩
/-- PUB.SLOT_CFG.report_digest. -/
def PUB.SLOT_CFG.report_digest : Fld := ⟨0x05800108, 29, 29⟩
/-- PUB.SLOT_CFG.swap_offset. -/
def PUB.SLOT_CFG.swap_offset : Fld := ⟨0x05800108, 27, 0⟩
/-- PUB.SHARD_LEN. -/
def PUB.SHARD_LEN.reg : Fld := ⟨0x05800110, 63, 0⟩
/-- PUB.SHARD_LEN.shard_len. -/
def PUB.SHARD_LEN.shard_len : Fld := ⟨0x05800110, 39, 0⟩
/-- PUB.BUFFERS. -/
def PUB.BUFFERS.reg : Fld := ⟨0x05800118, 63, 0⟩
/-- PUB.BUFFERS.region1. -/
def PUB.BUFFERS.region1 : Fld := ⟨0x05800118, 27, 16⟩
/-- PUB.BUFFERS.region0. -/
def PUB.BUFFERS.region0 : Fld := ⟨0x05800118, 11, 0⟩
/-- PUB.EDGE_ADDR. -/
def PUB.EDGE_ADDR.reg : Fld := ⟨0x05800120, 63, 0⟩
/-- PUB.EDGE_ADDR.edge_addr. -/
def PUB.EDGE_ADDR.edge_addr : Fld := ⟨0x05800120, 63, 0⟩
/-- PUB.RELAY. -/
def PUB.RELAY.reg : Fld := ⟨0x05800128, 63, 0⟩
/-- PUB.RELAY.stall_us. -/
def PUB.RELAY.stall_us : Fld := ⟨0x05800128, 31, 16⟩
/-- PUB.RELAY.relay_gbs. -/
def PUB.RELAY.relay_gbs : Fld := ⟨0x05800128, 15, 0⟩
/-- PUB.BUF0_STATE. -/
def PUB.BUF0_STATE.reg : Fld := ⟨0x05800130, 63, 0⟩
/-- PUB.BUF0_STATE.pennant. -/
def PUB.BUF0_STATE.pennant : Fld := ⟨0x05800130, 63, 32⟩
/-- PUB.BUF0_STATE.state. -/
def PUB.BUF0_STATE.state : Fld := ⟨0x05800130, 2, 0⟩
/-- PUB.BUF1_STATE. -/
def PUB.BUF1_STATE.reg : Fld := ⟨0x05800138, 63, 0⟩
/-- PUB.BUF1_STATE.pennant. -/
def PUB.BUF1_STATE.pennant : Fld := ⟨0x05800138, 63, 32⟩
/-- PUB.BUF1_STATE.state. -/
def PUB.BUF1_STATE.state : Fld := ⟨0x05800138, 2, 0⟩
/-- PUB.PENDING. -/
def PUB.PENDING.reg : Fld := ⟨0x05800140, 63, 0⟩
/-- PUB.PENDING.pending. -/
def PUB.PENDING.pending : Fld := ⟨0x05800140, 31, 0⟩
/-- PUB.LOAD. -/
def PUB.LOAD.reg : Fld := ⟨0x05800148, 63, 0⟩
/-- PUB.LOAD.pennant. -/
def PUB.LOAD.pennant : Fld := ⟨0x05800148, 63, 32⟩
/-- PUB.LOAD.cmd. -/
def PUB.LOAD.cmd : Fld := ⟨0x05800148, 31, 24⟩
/-- PUB.LOAD_DIGEST. -/
def PUB.LOAD_DIGEST.reg : Fld := ⟨0x05800150, 63, 0⟩
/-- PUB.LOAD_DIGEST.digest. -/
def PUB.LOAD_DIGEST.digest : Fld := ⟨0x05800150, 63, 0⟩
/-- PUB.LAST_LAG. -/
def PUB.LAST_LAG.reg : Fld := ⟨0x05800158, 63, 0⟩
/-- PUB.LAST_LAG.lag. -/
def PUB.LAST_LAG.lag : Fld := ⟨0x05800158, 63, 0⟩
/-- PUB.CHUNKS_IN. -/
def PUB.CHUNKS_IN.reg : Fld := ⟨0x05800160, 63, 0⟩
/-- PUB.CHUNKS_IN.chunks_in. -/
def PUB.CHUNKS_IN.chunks_in : Fld := ⟨0x05800160, 63, 0⟩
/-- PUB.CHUNKS_OUT. -/
def PUB.CHUNKS_OUT.reg : Fld := ⟨0x05800168, 63, 0⟩
/-- PUB.CHUNKS_OUT.chunks_out. -/
def PUB.CHUNKS_OUT.chunks_out : Fld := ⟨0x05800168, 63, 0⟩
/-- PUB.REFETCHES. -/
def PUB.REFETCHES.reg : Fld := ⟨0x05800170, 63, 0⟩
/-- PUB.REFETCHES.refetches. -/
def PUB.REFETCHES.refetches : Fld := ⟨0x05800170, 63, 0⟩
/-- PUB.SWAPS_DEFERRED. -/
def PUB.SWAPS_DEFERRED.reg : Fld := ⟨0x05800178, 63, 0⟩
/-- PUB.SWAPS_DEFERRED.deferred. -/
def PUB.SWAPS_DEFERRED.deferred : Fld := ⟨0x05800178, 63, 0⟩
/-- CHECK.OWL. -/
def CHECK.OWL.reg : Fld := ⟨0x05C00100, 63, 0⟩
/-- CHECK.OWL.salt. -/
def CHECK.OWL.salt : Fld := ⟨0x05C00100, 63, 32⟩
/-- CHECK.OWL.window_ms. -/
def CHECK.OWL.window_ms : Fld := ⟨0x05C00100, 31, 16⟩
/-- CHECK.OWL.auto_retire. -/
def CHECK.OWL.auto_retire : Fld := ⟨0x05C00100, 4, 4⟩
/-- CHECK.OWL.gen_check. -/
def CHECK.OWL.gen_check : Fld := ⟨0x05C00100, 3, 3⟩
/-- CHECK.OWL.fraction. -/
def CHECK.OWL.fraction : Fld := ⟨0x05C00100, 2, 0⟩
/-- CHECK.OWL_STATUS. -/
def CHECK.OWL_STATUS.reg : Fld := ⟨0x05C00108, 63, 0⟩
/-- CHECK.OWL_STATUS.no_partner. -/
def CHECK.OWL_STATUS.no_partner : Fld := ⟨0x05C00108, 31, 31⟩
/-- CHECK.OWL_STATUS.boosted. -/
def CHECK.OWL_STATUS.boosted : Fld := ⟨0x05C00108, 30, 30⟩
/-- CHECK.OWL_STATUS.in_force. -/
def CHECK.OWL_STATUS.in_force : Fld := ⟨0x05C00108, 2, 0⟩
/-- CHECK.DIGEST. -/
def CHECK.DIGEST.reg : Fld := ⟨0x05C00110, 63, 0⟩
/-- CHECK.DIGEST.combine_group. -/
def CHECK.DIGEST.combine_group : Fld := ⟨0x05C00110, 63, 48⟩
/-- CHECK.DIGEST.interval. -/
def CHECK.DIGEST.interval : Fld := ⟨0x05C00110, 31, 0⟩
/-- CHECK.DIGEST_LAST. -/
def CHECK.DIGEST_LAST.reg : Fld := ⟨0x05C00118, 63, 0⟩
/-- CHECK.DIGEST_LAST.own. -/
def CHECK.DIGEST_LAST.own : Fld := ⟨0x05C00118, 63, 0⟩
/-- CHECK.DIGEST_MAX. -/
def CHECK.DIGEST_MAX.reg : Fld := ⟨0x05C00120, 63, 0⟩
/-- CHECK.DIGEST_MAX.max. -/
def CHECK.DIGEST_MAX.max : Fld := ⟨0x05C00120, 63, 0⟩
/-- CHECK.DIGEST_MIN. -/
def CHECK.DIGEST_MIN.reg : Fld := ⟨0x05C00128, 63, 0⟩
/-- CHECK.DIGEST_MIN.min. -/
def CHECK.DIGEST_MIN.min : Fld := ⟨0x05C00128, 63, 0⟩
/-- CHECK.FAULT_RING. -/
def CHECK.FAULT_RING.reg : Fld := ⟨0x05C00130, 63, 0⟩
/-- CHECK.FAULT_RING.ring_addr. -/
def CHECK.FAULT_RING.ring_addr : Fld := ⟨0x05C00130, 63, 0⟩
/-- CHECK.FAULT_CFG. -/
def CHECK.FAULT_CFG.reg : Fld := ⟨0x05C00138, 63, 0⟩
/-- CHECK.FAULT_CFG.fault_log2. -/
def CHECK.FAULT_CFG.fault_log2 : Fld := ⟨0x05C00138, 4, 0⟩
/-- CHECK.FAULT_SEQ. -/
def CHECK.FAULT_SEQ.reg : Fld := ⟨0x05C00140, 63, 0⟩
/-- CHECK.FAULT_SEQ.next_seq. -/
def CHECK.FAULT_SEQ.next_seq : Fld := ⟨0x05C00140, 63, 0⟩
/-- CHECK.STEP_FAIL. -/
def CHECK.STEP_FAIL.reg : Fld := ⟨0x05C00148, 63, 0⟩
/-- CHECK.STEP_FAIL.step. -/
def CHECK.STEP_FAIL.step : Fld := ⟨0x05C00148, 63, 32⟩
/-- CHECK.STEP_FAIL.cause. -/
def CHECK.STEP_FAIL.cause : Fld := ⟨0x05C00148, 31, 24⟩
/-- CHECK.STEP_FAIL.attempts. -/
def CHECK.STEP_FAIL.attempts : Fld := ⟨0x05C00148, 23, 16⟩
/-- CHECK.STEP_FAIL.blocked. -/
def CHECK.STEP_FAIL.blocked : Fld := ⟨0x05C00148, 0, 0⟩
/-- CHECK.SUSPECT. -/
def CHECK.SUSPECT.reg : Fld := ⟨0x05C00150, 63, 0⟩
/-- CHECK.SUSPECT.partner. -/
def CHECK.SUSPECT.partner : Fld := ⟨0x05C00150, 19, 10⟩
/-- CHECK.SUSPECT.core. -/
def CHECK.SUSPECT.core : Fld := ⟨0x05C00150, 9, 0⟩
/-- CHECK.OWL_SAMPLED. -/
def CHECK.OWL_SAMPLED.reg : Fld := ⟨0x05C00158, 63, 0⟩
/-- CHECK.OWL_SAMPLED.sampled. -/
def CHECK.OWL_SAMPLED.sampled : Fld := ⟨0x05C00158, 63, 0⟩
/-- CHECK.OWL_MISMATCH. -/
def CHECK.OWL_MISMATCH.reg : Fld := ⟨0x05C00160, 63, 0⟩
/-- CHECK.OWL_MISMATCH.mismatches. -/
def CHECK.OWL_MISMATCH.mismatches : Fld := ⟨0x05C00160, 63, 0⟩
/-- CHECK.OWL_DROPPED. -/
def CHECK.OWL_DROPPED.reg : Fld := ⟨0x05C00168, 63, 0⟩
/-- CHECK.OWL_DROPPED.dropped. -/
def CHECK.OWL_DROPPED.dropped : Fld := ⟨0x05C00168, 63, 0⟩
/-- CHECK.DIGEST_CHECKS. -/
def CHECK.DIGEST_CHECKS.reg : Fld := ⟨0x05C00170, 63, 0⟩
/-- CHECK.DIGEST_CHECKS.checks. -/
def CHECK.DIGEST_CHECKS.checks : Fld := ⟨0x05C00170, 63, 0⟩
/-- CHECK.DIGEST_MISMATCH. -/
def CHECK.DIGEST_MISMATCH.reg : Fld := ⟨0x05C00178, 63, 0⟩
/-- CHECK.DIGEST_MISMATCH.mismatches. -/
def CHECK.DIGEST_MISMATCH.mismatches : Fld := ⟨0x05C00178, 63, 0⟩
/-- CKPT.CFG. -/
def CKPT.CFG.reg : Fld := ⟨0x06000100, 63, 0⟩
/-- CKPT.CFG.combine_group. -/
def CKPT.CFG.combine_group : Fld := ⟨0x06000100, 63, 48⟩
/-- CKPT.CFG.every_steps. -/
def CKPT.CFG.every_steps : Fld := ⟨0x06000100, 47, 32⟩
/-- CKPT.CFG.rate_gbs. -/
def CKPT.CFG.rate_gbs : Fld := ⟨0x06000100, 31, 16⟩
/-- CKPT.CFG.enable. -/
def CKPT.CFG.enable : Fld := ⟨0x06000100, 4, 4⟩
/-- CKPT.CFG.channel. -/
def CKPT.CFG.channel : Fld := ⟨0x06000100, 3, 0⟩
/-- CKPT.PERIOD. -/
def CKPT.PERIOD.reg : Fld := ⟨0x06000108, 63, 0⟩
/-- CKPT.PERIOD.period. -/
def CKPT.PERIOD.period : Fld := ⟨0x06000108, 63, 0⟩
/-- CKPT.RUN_ID. -/
def CKPT.RUN_ID.reg : Fld := ⟨0x06000110, 63, 0⟩
/-- CKPT.RUN_ID.run_id. -/
def CKPT.RUN_ID.run_id : Fld := ⟨0x06000110, 63, 0⟩
/-- CKPT.STATE_LEN. -/
def CKPT.STATE_LEN.reg : Fld := ⟨0x06000118, 63, 0⟩
/-- CKPT.STATE_LEN.state_len. -/
def CKPT.STATE_LEN.state_len : Fld := ⟨0x06000118, 39, 0⟩
/-- CKPT.DATA_POS. -/
def CKPT.DATA_POS.reg : Fld := ⟨0x06000120, 63, 0⟩
/-- CKPT.DATA_POS.data_pos. -/
def CKPT.DATA_POS.data_pos : Fld := ⟨0x06000120, 63, 0⟩
/-- CKPT.CMD. -/
def CKPT.CMD.reg : Fld := ⟨0x06000128, 63, 0⟩
/-- CKPT.CMD.cmd. -/
def CKPT.CMD.cmd : Fld := ⟨0x06000128, 31, 24⟩
/-- CKPT.RESTORE_VERSION. -/
def CKPT.RESTORE_VERSION.reg : Fld := ⟨0x06000130, 63, 0⟩
/-- CKPT.RESTORE_VERSION.version. -/
def CKPT.RESTORE_VERSION.version : Fld := ⟨0x06000130, 23, 0⟩
/-- CKPT.STATUS. -/
def CKPT.STATUS.reg : Fld := ⟨0x06000138, 63, 0⟩
/-- CKPT.STATUS.last_step. -/
def CKPT.STATUS.last_step : Fld := ⟨0x06000138, 63, 32⟩
/-- CKPT.STATUS.last_status. -/
def CKPT.STATUS.last_status : Fld := ⟨0x06000138, 31, 24⟩
/-- CKPT.STATUS.state. -/
def CKPT.STATUS.state : Fld := ⟨0x06000138, 23, 20⟩
/-- CKPT.STATUS.fail_cause. -/
def CKPT.STATUS.fail_cause : Fld := ⟨0x06000138, 19, 16⟩
/-- CKPT.STATUS.last_slot. -/
def CKPT.STATUS.last_slot : Fld := ⟨0x06000138, 0, 0⟩
/-- CKPT.TAKEN. -/
def CKPT.TAKEN.reg : Fld := ⟨0x06000140, 63, 0⟩
/-- CKPT.TAKEN.taken. -/
def CKPT.TAKEN.taken : Fld := ⟨0x06000140, 63, 0⟩
/-- CKPT.FAILED. -/
def CKPT.FAILED.reg : Fld := ⟨0x06000148, 63, 0⟩
/-- CKPT.FAILED.failed. -/
def CKPT.FAILED.failed : Fld := ⟨0x06000148, 63, 0⟩
/-- CKPT.SKIPPED. -/
def CKPT.SKIPPED.reg : Fld := ⟨0x06000150, 63, 0⟩
/-- CKPT.SKIPPED.skipped. -/
def CKPT.SKIPPED.skipped : Fld := ⟨0x06000150, 63, 0⟩
/-- CKPT.BYTES. -/
def CKPT.BYTES.reg : Fld := ⟨0x06000158, 63, 0⟩
/-- CKPT.BYTES.bytes. -/
def CKPT.BYTES.bytes : Fld := ⟨0x06000158, 63, 0⟩
/-- PAGE.ID. -/
def PAGE.ID.reg : Fld := ⟨0x00000000, 63, 0⟩
/-- PAGE.ID.class. -/
def PAGE.ID.class : Fld := ⟨0x00000000, 31, 16⟩
/-- PAGE.ID.instance. -/
def PAGE.ID.inst : Fld := ⟨0x00000000, 15, 0⟩
/-- PAGE.VERSION. -/
def PAGE.VERSION.reg : Fld := ⟨0x00000004, 63, 0⟩
/-- PAGE.VERSION.major. -/
def PAGE.VERSION.major : Fld := ⟨0x00000004, 31, 16⟩
/-- PAGE.VERSION.minor. -/
def PAGE.VERSION.minor : Fld := ⟨0x00000004, 15, 0⟩
/-- PAGE.CAPS. -/
def PAGE.CAPS.reg : Fld := ⟨0x00000008, 63, 0⟩
/-- PAGE.CAPS.scope. -/
def PAGE.CAPS.scope : Fld := ⟨0x00000008, 63, 62⟩
/-- PAGE.CAPS.owner. -/
def PAGE.CAPS.owner : Fld := ⟨0x00000008, 61, 52⟩
/-- PAGE.CAPS.instances. -/
def PAGE.CAPS.instances : Fld := ⟨0x00000008, 41, 32⟩
/-- PAGE.CAPS.block_caps. -/
def PAGE.CAPS.block_caps : Fld := ⟨0x00000008, 31, 0⟩
/-- PAGE.STATUS. -/
def PAGE.STATUS.reg : Fld := ⟨0x00000010, 63, 0⟩
/-- PAGE.STATUS.block. -/
def PAGE.STATUS.block : Fld := ⟨0x00000010, 63, 8⟩
/-- PAGE.STATUS.locked. -/
def PAGE.STATUS.locked : Fld := ⟨0x00000010, 3, 3⟩
/-- PAGE.STATUS.event. -/
def PAGE.STATUS.event : Fld := ⟨0x00000010, 2, 2⟩
/-- PAGE.STATUS.fault. -/
def PAGE.STATUS.fault : Fld := ⟨0x00000010, 1, 1⟩
/-- PAGE.STATUS.present. -/
def PAGE.STATUS.present : Fld := ⟨0x00000010, 0, 0⟩
/-- PAGE.FAULT. -/
def PAGE.FAULT.reg : Fld := ⟨0x00000018, 63, 0⟩
/-- PAGE.FAULT.valid. -/
def PAGE.FAULT.valid : Fld := ⟨0x00000018, 63, 63⟩
/-- PAGE.FAULT.count. -/
def PAGE.FAULT.count : Fld := ⟨0x00000018, 47, 32⟩
/-- PAGE.FAULT.last_code. -/
def PAGE.FAULT.last_code : Fld := ⟨0x00000018, 15, 8⟩
/-- PAGE.FAULT.first_code. -/
def PAGE.FAULT.first_code : Fld := ⟨0x00000018, 7, 0⟩
/-- PAGE.FAULT_ADDR. -/
def PAGE.FAULT_ADDR.reg : Fld := ⟨0x00000020, 63, 0⟩
/-- PAGE.FAULT_ADDR.addr. -/
def PAGE.FAULT_ADDR.addr : Fld := ⟨0x00000020, 63, 0⟩
/-- PAGE.CTRL. -/
def PAGE.CTRL.reg : Fld := ⟨0x00000028, 63, 0⟩
/-- PAGE.CTRL.fault_event. -/
def PAGE.CTRL.fault_event : Fld := ⟨0x00000028, 0, 0⟩
/-- PAGE.EVENT_MASK. -/
def PAGE.EVENT_MASK.reg : Fld := ⟨0x00000030, 63, 0⟩
/-- PAGE.EVENT_MASK.mask. -/
def PAGE.EVENT_MASK.mask : Fld := ⟨0x00000030, 63, 0⟩
/-- PAGE.EVENT_STATUS. -/
def PAGE.EVENT_STATUS.reg : Fld := ⟨0x00000038, 63, 0⟩
/-- PAGE.EVENT_STATUS.raised. -/
def PAGE.EVENT_STATUS.raised : Fld := ⟨0x00000038, 63, 0⟩
/-- PAGE.LOCK. -/
def PAGE.LOCK.reg : Fld := ⟨0x00000040, 63, 0⟩
/-- PAGE.LOCK.lock. -/
def PAGE.LOCK.lock : Fld := ⟨0x00000040, 0, 0⟩

end Reg

end Sys2Proof.Machine
end

