-- ==== Sys2Proof/Machine/Maps.lean ====
section
/-! DEFINITION. Sparse data by number: lists of (key, value) pairs with strictly rising keys. `Mem` is the canonical
form of memory (no entry equal to the value an unlisted address reads as); `Map` keeps every entry that was put. -/
namespace Sys2Proof.Machine

/-- A sparse table: (key, value) pairs with strictly rising keys. -/
abbrev Map (α : Type) := List (Nat × α)

/-- The entry of key `k`, if any. -/
def Map.find {α : Type} : Map α → Nat → Option α
  | [], _ => none
  | (j, a) :: m, k => if k = j then some a else Map.find m k

/-- The entry of key `k`, or `d`. -/
def Map.getD {α : Type} (m : Map α) (k : Nat) (d : α) : α := (Map.find m k).getD d

/-- Put `a` at key `k`, keeping the keys in order. -/
def Map.put {α : Type} : Map α → Nat → α → Map α
  | [], k, a => [(k, a)]
  | (j, b) :: m, k, a =>
    if k < j then (k, a) :: (j, b) :: m
    else if k = j then (k, a) :: m
    else (j, b) :: Map.put m k a

/-- Drop the entry of key `k`. -/
def Map.del {α : Type} : Map α → Nat → Map α
  | [], _ => []
  | (j, b) :: m, k => if k = j then Map.del m k else (j, b) :: Map.del m k

/-- Put or drop. -/
def Map.putOpt {α : Type} (m : Map α) (k : Nat) : Option α → Map α
  | none => Map.del m k
  | some a => Map.put m k a

/-- Is there an entry of key `k`? -/
def Map.has {α : Type} (m : Map α) (k : Nat) : Bool := (Map.find m k).isSome

/-- Replace the entry of key `k` (or `d` where there is none) by its image. -/
def Map.adjust {α : Type} (m : Map α) (k : Nat) (d : α) (f : α → α) : Map α := Map.put m k (f (Map.getD m k d))

/-- The keys, rising. -/
def Map.keys {α : Type} (m : Map α) : List Nat := m.map Prod.fst

/-- Every value replaced by its image. -/
def Map.mapVal {α : Type} (f : Nat → α → α) (m : Map α) : Map α := m.map (fun (k, a) => (k, f k a))

/-- Keep the entries that pass. -/
def Map.keep {α : Type} (f : Nat → α → Bool) (m : Map α) : Map α := m.filter (fun (k, a) => f k a)

/-- Memory: (address, byte) pairs with strictly rising addresses, none equal to 0x00, which is what an unlisted
address reads as (log entry 3). -/
abbrev Mem := List (Nat × BitVec 8)

/-- What an unlisted address reads as. DESIGN CHOICE (log entry 3): the spec gives no contents after power-on. -/
def Mem.blank : BitVec 8 := 0

/-- The byte at address `a`. -/
def Mem.read (m : Mem) (a : Nat) : BitVec 8 := Map.getD m a Mem.blank

/-- Write byte `b` at address `a`, keeping the canonical form: writing the blank byte removes the entry. -/
def Mem.write : Mem → Nat → BitVec 8 → Mem
  | [], a, b => if b = Mem.blank then [] else [(a, b)]
  | (j, c) :: m, a, b =>
    if a < j then (if b = Mem.blank then (j, c) :: m else (a, b) :: (j, c) :: m)
    else if a = j then (if b = Mem.blank then m else (a, b) :: m)
    else (j, c) :: Mem.write m a b

/-- The canonical form: addresses strictly rising from above `lo`, and no blank entry. -/
def Mem.wfFrom : Nat → Mem → Bool
  | _, [] => true
  | lo, (j, c) :: m => decide (lo ≤ j) && decide (c ≠ Mem.blank) && Mem.wfFrom (j + 1) m

/-- The canonical form of memory. -/
def Mem.wf (m : Mem) : Bool := Mem.wfFrom 0 m

/-- The `n` bytes from address `a` upward. -/
def Mem.readBytes (m : Mem) (a : Nat) : Nat → List (BitVec 8)
  | 0 => []
  | n + 1 => Mem.read m a :: Mem.readBytes m (a + 1) n

/-- Write bytes from address `a` upward. -/
def Mem.writeBytes (m : Mem) (a : Nat) : List (BitVec 8) → Mem
  | [] => m
  | b :: bs => Mem.writeBytes (Mem.write m a b) (a + 1) bs

end Sys2Proof.Machine
end

