-- ==== Sys2Proof/Machine/State.lean ====
section
/-! DEFINITION. The state of the block as plain data, its faults and refusals, and the state after reset. -/
namespace Sys2Proof.Machine

/-! ## A core (chapter 03) -/

/-- A vector register: 64 lanes of 32 bits (R70). -/
abbrev VReg := Vector Word 64
/-- An accumulator tile: 64 rows of 64 FP32 elements (R70). -/
abbrev Tile := Vector VReg 64

/-- The vector register of zeros. -/
def VReg.zero : VReg := Vector.replicate 64 0
/-- The tile of zeros. -/
def Tile.zero : Tile := Vector.replicate 64 VReg.zero

/-- The register files of Table 3.3. -/
structure RegFile where
  s : Vector Word 32
  v : Vector VReg 64
  a : Vector Tile 8
  p : Vector DWord 8
  deriving DecidableEq, Repr

/-- All registers zero. -/
def RegFile.zero : RegFile :=
  ⟨Vector.replicate 32 0, Vector.replicate 64 VReg.zero, Vector.replicate 8 Tile.zero, Vector.replicate 8 0⟩

/-- The special registers of Table 3.4 that a core holds, and the rounding counter (R184). -/
structure Special where
  pc : BitVec 20
  bundleMode : Bool
  inTrap : Bool
  px8 : Bool
  cycleHi : Word
  ftimeHi : Word
  cause : Word
  epc : Word
  faddr : DWord
  evec : Word
  scratch : Word
  pennant : Word
  round : Word
  fpflags : Word
  rngCtl : Word
  edgeRows : Word
  edgeCols : Word
  rc : BitVec 40
  deriving DecidableEq, Repr

/-- Special registers of an idle core: Table 3.4's task-start values where it gives a number, else 0 (log entry 2). -/
def Special.zero : Special :=
  { pc := 0, bundleMode := false, inTrap := false, px8 := false, cycleHi := 0, ftimeHi := 0, cause := 0, epc := 0,
    faddr := 0, evec := 0, scratch := 0, pennant := 0, round := 0, fpflags := 0, rngCtl := 0, edgeRows := 64,
    edgeCols := 64, rc := 0 }

/-- An arrival flag (R127). -/
inductive FlagState where
  | idle | armed | landed
  deriving DecidableEq, Repr

/-- A message in a receive queue (R129): the sender's logical core, the channel, the payload. -/
structure Msg where
  sender : Nat
  chan : Nat
  payload : Word
  deriving DecidableEq, Repr

/-- The wait at which a core stands (R78, R130): the sync operation that has not been satisfied; a BAR that stands has
already arrived. `drain`: a marked bundle that waits for its preemption (R86). -/
inductive Wait where
  | moves (group limit : Nat)
  | fence
  | sendCredit (dest : Nat)
  | recv
  | sem (n : Nat)
  | semRel (n : Nat)
  | arrival (flag : Nat)
  | ftime (t : DWord)
  | barrier (b : Nat)
  | drain
  deriving DecidableEq, Repr

/-- The operation of a queued move (Table 4.10). -/
inductive MvOp where
  | rows | transpose | convert | convertTranspose | fill | racc
  | atom (func : Nat)
  | accst (mode : Nat)
  | accld (mode : Nat)
  deriving DecidableEq, Repr

/-- A move in the queue with the operands it captured at issue (R115, R122). -/
structure MoveRec where
  op : MvOp
  grp : Nat
  rows : Nat
  len : Nat
  sstr : Nat
  dstr : Nat
  src : DWord
  dst : DWord
  ssc : Nat
  dsc : Nat
  sfmt : Nat
  dfmt : Nat
  mask : DWord
  near : Nat
  cmp : DWord
  opnd : DWord
  tile : Nat
  data : Tile
  flag : Option Nat
  round : Word
  rcBase : DWord
  seed : DWord
  loose : Bool
  freeBase : Nat
  colBlocked : Bool
  deriving DecidableEq, Repr

/-- An error of a completed move that no wait has covered yet (R93, R121, R210): its group, its flag, the exception it
raises, the address. -/
structure MoveErr where
  grp : Nat
  flag : Option Nat
  code : Nat
  addr : DWord
  deriving DecidableEq, Repr

/-- The sync unit of a core: arrival flags, receive queue, moves outstanding, errors that wait for a covering wait
(R93, R121), semaphores held (R126), the wait stood at. -/
structure SyncUnit where
  flags : Vector FlagState 64
  rxq : List Msg
  moves : List MoveRec
  errs : List MoveErr
  sems : List Nat
  stall : Option Wait
  deriving DecidableEq, Repr

/-- The sync unit at task start. -/
def SyncUnit.zero : SyncUnit := ⟨Vector.replicate 64 .idle, [], [], [], [], none⟩

/-- The resident weight block as loaded (R132, R137): its format and scale layout, EDGE_ROWS and EDGE_COLS at its MLDW, the
element patterns row by row, the bytes of its scale plane. -/
structure WBlock where
  fmt : Nat
  blk : Bool
  er : Nat
  ec : Nat
  elems : List (List Nat)
  scales : List Nat
  deriving DecidableEq, Repr

/-- A running task (R350): its descriptor's 64 bytes, the queue it came from (none: a step task), its place in starting
order, whether it has made a loose draw (R195). -/
structure TaskRec where
  desc : List Byte
  queue : Option Nat
  order : Nat
  loose : Bool
  deriving DecidableEq, Repr

/-- An open owl chain of a tile (R396, R397): its number and whether it is selected. -/
structure Chain where
  number : Word
  selected : Bool
  deriving DecidableEq, Repr

/-- A saved context on a core (R360): its slot, the task it belongs to, the semaphores it holds, and what its record has no
room for: the addresses of its poison marks, the errors no wait has covered, its open owl chains. -/
structure Saved where
  slot : Nat
  task : TaskRec
  sems : List Nat
  poison : Map DWord
  errs : List MoveErr
  chains : Map Chain
  deriving DecidableEq, Repr

/-- A pending preemption (R357, R358): the queue whose head asked (none: a suspension), and whether the 20 µs of grace are
over. -/
structure Preempt where
  queue : Option Nat
  graceOver : Bool
  deriving DecidableEq, Repr

/-- A selected chain that has ended and awaits its verdict (R400): its number, the task and pennant it served. -/
structure Verdict where
  number : Word
  taskId : Nat
  pennant : Nat
  stepTask : Bool
  deriving DecidableEq, Repr

/-- A physical core. -/
structure Core where
  file : RegFile
  spec : Special
  sync : SyncUnit
  block : Option WBlock
  poison : Map DWord
  rset : Option Nat
  dset : Option Nat
  task : Option TaskRec
  saved : List Saved
  preempt : Option Preempt
  chains : Map Chain
  verdicts : List Verdict
  chainCount : Word
  deriving DecidableEq, Repr

/-- A core that runs nothing. -/
def Core.idle : Core :=
  { file := RegFile.zero, spec := Special.zero, sync := SyncUnit.zero, block := none, poison := [], rset := none,
    dset := none, task := none, saved := [], preempt := none, chains := [], verdicts := [], chainCount := 0 }

/-! ## A partition (chapters 09, 17, 19) -/

/-- A partition barrier (R126): the participant count of the first arrival, and the starting orders of the tasks
that have arrived. -/
structure Barrier where
  count : Nat
  arrived : List Nat
  deriving DecidableEq, Repr

/-- A message on its way to a receive queue (R129): the destination's logical core, the message. -/
structure Flight where
  dest : Nat
  msg : Msg
  deriving DecidableEq, Repr

/-- The states of a region (R214). -/
inductive RegionState where
  | free | resident | migrating | moving | failed
  deriving DecidableEq, Repr

/-- A region of the tier storage (R200): home base (a global address), length, hint, state, use count, and where it is
being moved to. -/
structure Region where
  base : Nat
  len : Nat
  hint : Nat
  state : RegionState
  use : Nat
  dst : Nat
  dstHint : Nat
  deriving DecidableEq, Repr

/-- A running list of the badger (R204): where its descriptors lie, the index of the next, whether a step started it, the
descriptor whose flag was busy when the list armed it (R206), STREAM arrivals still to land (descriptor index, logical core,
flag), and the flags set IDLE by a WAITARR since it started (logical core, flag). -/
structure TierList where
  addr : Nat
  next : Nat
  step : Bool
  busy : Option Nat
  landing : List (Nat × Nat × Nat)
  consumed : List (Nat × Nat)
  deriving DecidableEq, Repr

/-- Who asked for a reset in progress, and its scope (R454, R455): 1 partition, 2 tenant, 3 warm; 4 a DESTROY. -/
structure ResetJob where
  scope : Nat
  byDevice : Bool
  deriving DecidableEq, Repr

/-- The scheduling side of a partition (chapter 17): logical cores in order of their numbers, spares, core-less slices,
barriers, messages in flight, tasks started, step tasks that wait, the reset in progress, a completion-ring wait, the phase of
a mixed partition, retired cores that wait for the suspension (R349). -/
structure Sched where
  cores : List Nat
  spares : List Nat
  slices : List Nat
  barriers : Map Barrier
  barPassed : List (Nat × Nat)
  flights : List Flight
  starts : Nat
  stepHeads : List (List Byte)
  resetting : Option ResetJob
  cqWait : Bool
  learnPhase : Bool
  retiring : List Nat
  deriving DecidableEq, Repr

/-- The scheduling side of a partition that does not exist. -/
def Sched.zero : Sched :=
  { cores := [], spares := [], slices := [], barriers := [], barPassed := [], flights := [], starts := 0, stepHeads := [],
    resetting := none, cqWait := false, learnPhase := false, retiring := [] }

/-- The tier side of a partition: its region table and its running lists. -/
structure Tiers where
  regions : Map Region
  lists : Map TierList
  nextList : Nat
  deriving DecidableEq, Repr

/-- No region, no list. -/
def Tiers.zero : Tiers := ⟨[], [], 0⟩

/-! ## Requests, KV groups, decode steps (chapters 01, 10, 11) -/

/-- The states of a request (Table 11.3). -/
inductive ReqState where
  | queued | prefill | running | held | paused | ended
  deriving DecidableEq, Repr

/-- A request (R234, R236): its 96-byte block, its state, batch slot and member number, prompt tokens prefilled, tokens of its
sequence so far (prompt and delivered), its guesses (R244), its last delivered token, streamer entries written, its admission order, its
terminal status, the pennant of the last step that served it and of its last token, the step it is in, whether its BIND is
written, the boundary at which it was paused, whether its resumed pages are still to land, whether it is paused by a learn
phase (R31), the positions it shares through a handle, and whether its streamer is lost (R247). -/
structure Req where
  block : List Byte
  state : ReqState
  slot : Nat
  member : Nat
  prefilled : Nat
  len : Nat
  guesses : List Nat
  lastTok : Nat
  written : Nat
  order : Nat
  status : Option Nat
  pennant : Nat
  tokPennant : Nat
  step : Option Nat
  bound : Bool
  pausedAt : Nat
  landing : Bool
  learnPaused : Bool
  shared : Nat
  lost : Bool
  deriving DecidableEq, Repr

/-- An END record that waits for the partition's next launched step (R253). -/
structure PendEnd where
  slot : Nat
  status : Nat
  pennant : Nat
  len : Nat
  bind : Option (DWord × Nat)
  deriving DecidableEq, Repr

/-- A KV group (R218, R223, R226): reference counts of its frames, retired frames, failures of frames (R232), spill slots in
use, handles, variant loads, frames reserved at this boundary. -/
structure KvGroup where
  refs : Map Nat
  retired : List Nat
  failed : List Nat
  spills : List Nat
  handles : Map Handle
  variants : Map (List Nat)
  reserved : Nat
  deriving DecidableEq, Repr

/-- A group that holds nothing. -/
def KvGroup.zero : KvGroup := ⟨[], [], [], [], [], [], 0⟩

/-- A request's rows in a step: its batch slot, its ID, prompt rows run (0 for a decode), whether it has committed. -/
structure StepRow where
  slot : Nat
  id : DWord
  rows : Nat
  done : Bool
  deriving DecidableEq, Repr

/-- A record of a step as it will become visible (R42, R43): its batch slot, the experience record, the step-record entries. -/
structure SRec where
  slot : Nat
  exp : List Byte
  ents : List Byte
  deriving DecidableEq, Repr

/-- A decode step in flight (R239): its rows, the records formed so far, the frames lost in it (group, frame; R232). -/
structure StepRec where
  seq : Nat
  pennant : Nat
  launch : Nat
  rows : List StepRow
  recs : List SRec
  lost : List (Nat × Nat)
  deriving DecidableEq, Repr

/-- Why a launch waits at its boundary: the fill rule (R144), spill reads (R230), ring space (R44, R248). -/
inductive Hold where
  | fill | spill | ring
  deriving DecidableEq, Repr

/-- A phase-plan entry (Table 1.3) as accepted: 32 bytes and its order of acceptance. -/
structure PlanEntry where
  bytes : List Byte
  order : Nat
  deriving DecidableEq, Repr

/-- The generator side of a partition: its requests, KV groups, KV page tables by group and member, steps in flight, pending
ENDs, the launch held at the boundary and since when, boundaries passed, waits raised, the events armed, the step ring, the model slot
launched last, the order counter, the KV plan of the step being prepared, the step that this device follows. -/
structure Gen where
  reqs : List Req
  groups : Map KvGroup
  tables : Map (Map PageLoc)
  steps : List StepRec
  ends : List PendEnd
  hold : Option Hold
  holdAt : Nat
  filled : Bool
  boundary : Nat
  expWait : Bool
  stepWait : Bool
  expLow : Bool
  units : Nat
  ringLost : Bool
  lastSlot : Nat
  order : Nat
  plan : List KvAct
  follow : Option (Nat × Nat)
  deriving DecidableEq, Repr

/-- No request, no step. -/
def Gen.zero : Gen :=
  { reqs := [], groups := [], tables := [], steps := [], ends := [], hold := none, holdAt := 0, filled := false, boundary := 0,
    expWait := false, stepWait := false, expLow := false, units := 0, ringLost := false, lastSlot := 255, order := 0,
    plan := [], follow := none }

/-! ## Weight slots (chapters 01, 16) -/

/-- A swap time held for a pennant (R36, R341): from a publication record or a SWAP entry, the time its lag is counted from
(R46), whether a launch at or after it has been tried. -/
structure SwapRec where
  pennant : Nat
  time : Nat
  base : Nat
  entry : Bool
  tried : Bool
  deriving DecidableEq, Repr

/-- The readiness of a pennant on this device (R36, R340): its own 1 entered, the result with the time its root formed it. -/
structure ReadyRec where
  own : Bool
  formed : Option (Nat × Bool)
  deriving DecidableEq, Repr

/-- A FILLING buffer: which, by relay or by LOAD_BEGIN, the holder granted (its place among the holders), the chunk in
progress and its bytes landed, failed fetches (R35, R339). -/
structure Fill where
  buf : Nat
  relay : Bool
  holder : Nat
  chunk : Nat
  got : Nat
  fails : Nat
  deriving DecidableEq, Repr

/-- An outgoing relay to a child (R338): sub-credits held, the pennant of the shard being sent (0: none begun), the packet to
send next, whether its digest packet is sent. -/
structure Child where
  credits : Nat
  pennant : Nat
  next : Nat
  sent : Bool
  deriving DecidableEq, Repr

/-- A model slot of a partition (R333): swap times held, readiness, its fill, its pending record, the highest version whose
fill failed (R38), the pennant last stamped by the leader, the pennant named by the record last emitted or accepted (0: none),
the digest of the version it relays, its children. -/
structure WSlot where
  swaps : List SwapRec
  ready : Map ReadyRec
  fill : Option Fill
  pending : Option (List Byte)
  failedTop : Nat
  lead : Nat
  named : Nat
  digest : Option DWord
  children : Map Child
  deriving DecidableEq, Repr

/-- A slot that holds nothing. -/
def WSlot.zero : WSlot :=
  { swaps := [], ready := [], fill := none, pending := none, failedTop := 0, lead := 0, named := 0, digest := none,
    children := [] }

/-- The weight side of a partition: its slots, the shard digests a publish leader has received (slot, shard). -/
structure Pub where
  slots : Map WSlot
  digests : Map (Map DWord)
  deriving DecidableEq, Repr

/-- No slot. -/
def Pub.zero : Pub := ⟨[], []⟩

/-! ## The sett (chapter 12) -/

/-- What has become of a frame of a sett (R258); a released frame is no longer listed. -/
inductive FrameState where
  | reserved | pushed | fetched
  deriving DecidableEq, Repr

/-- A RESERVE or FETCH that waits for its placement (R260): its flag, its place in order, the cycle of its write. -/
structure SettWait where
  flag : Nat
  order : Nat
  cycle : Nat
  deriving DecidableEq, Repr

/-- A frame (R258): its stack, its length and its first granule in the T0 area (a pushed frame with none is spilled), its T1
home within the stack's part, its age from its PUSH, the operation that waits for it. -/
structure SettFrame where
  stack : Nat
  len : Nat
  state : FrameState
  place : Option Nat
  home : Nat
  age : Nat
  wait : Option SettWait
  deriving DecidableEq, Repr

/-- The sett of a logical core: the ring head in granules of the area, its frames in order of reservation, the draining
stacks (R261), the counter of orders and ages. -/
structure Sett where
  head : Nat
  frames : List SettFrame
  draining : List Nat
  count : Nat
  deriving DecidableEq, Repr

/-- An empty sett. -/
def Sett.zero : Sett := ⟨0, [], [], 0⟩

/-! ## The learner step (chapters 13, 14, 19) -/

/-- What has become of a bucket (R280, R281). -/
inductive BucketState where
  | running | complete | failed
  deriving DecidableEq, Repr

/-- A core's close of a bucket (R274): its logical number, its flag, its exponent (none: empty). -/
structure Close where
  lcore : Nat
  flag : Nat
  exp : Option Int
  deriving DecidableEq, Repr

/-- A bucket of the open step: its closes, the device exponent entered, the shared exponent, the cores that have staged, the
checksum of each owner's runs read here, whether the checksums are entered, this owner's agreed checksum, half-runs
counted, half-runs added and not yet acknowledged by their adder, the notifies, its end. -/
structure Bucket where
  closes : List Close
  entered : Option Int
  shared : Option Int
  staged : List Nat
  sums : Map DWord
  summed : Bool
  agreed : Option DWord
  counted : Nat
  unacked : List Nat
  notifies : List (Nat × Nat)
  state : BucketState
  deriving DecidableEq, Repr

/-- A bucket that nothing has touched. -/
def Bucket.zero : Bucket :=
  { closes := [], entered := none, shared := none, staged := [], sums := [], summed := false, agreed := none, counted := 0,
    unacked := [], notifies := [], state := .running }

/-- The reduction engine (chapter 13): the step open or last, whether one is open, the step whose open is held, whether the
last one failed and the group has not yet quiesced (R282), its buckets, the summed norm lanes. -/
structure Red where
  step : Nat
  isOpen : Bool
  want : Option Nat
  noisy : Bool
  buckets : Map Bucket
  norm : Option Word
  deriving DecidableEq, Repr

/-- A reduction engine that has opened no step. -/
def Red.zero : Red := ⟨0, false, none, false, [], none⟩

/-- A run's weights on their way to a member (R298): the block offset, the part number, the burgee, the bytes. -/
structure GatherItem where
  woff : Nat
  part : Nat
  burgee : Nat
  bytes : List Byte
  deriving DecidableEq, Repr

/-- The update sequencer (chapter 14): the UPD registers latched at the open (R301), the first failure, since when it holds
(R284), whether its own runs are written, the runs of other owners that have landed (block offset, part), what is to be
sent to each member, update sub-credits held from it, packets granted to each member in this step, whether the buffer is
complete. -/
structure Upd where
  latch : Map Nat
  cause : Option Nat
  heldFrom : Option Nat
  ran : Bool
  landed : List (Nat × Nat)
  queues : Map (List GatherItem)
  credits : Map Nat
  granted : Map Nat
  complete : Bool
  deriving DecidableEq, Repr

/-- An update sequencer at rest. -/
def Upd.zero : Upd := ⟨[], none, none, false, [], [], [], [], false⟩

/-- The checks of the open step (R32, R405-R407): the first failed condition, the digest agreement of a digest step, whether
the attempt is a check replay, whether the next open of the step will be one, the step that is blocked while STEP_FAIL.blocked stands (R407), the mismatches of each core still inside the
window (core, partner, timer; R402). -/
structure Checks where
  fail : Option Nat
  digest : Option Bool
  replay : Bool
  owed : Bool
  blockedStep : Nat
  recent : List (Nat × Nat × Nat)
  deriving DecidableEq, Repr

/-- No check made. -/
def Checks.zero : Checks := ⟨none, none, false, false, 0, []⟩

/-! ## Collectives and experience reads (chapter 15) -/

/-- A loaded group entry (Table 15.5) with its members' devices, and the sequence of its last start on this device. -/
structure CollGroup where
  entry : List Byte
  devices : List Nat
  last : Option Nat
  deriving DecidableEq, Repr

/-- A packet of a collective still to be sent to a member: its chunk, its place in the chunk, its bytes with the bits of its
poisoned blocks. -/
structure CollItem where
  chunk : Nat
  index : Nat
  last : Bool
  bytes : List Byte
  poison : Nat
  deriving DecidableEq, Repr

/-- Bytes landed in a collective: the member they come from, the chunk, the place. -/
structure CollPart where
  member : Nat
  chunk : Nat
  index : Nat
  bytes : List Byte
  deriving DecidableEq, Repr

/-- A running collective (R323-R327): its guidon, its descriptor, what it still has to send to each member, the
contributions that have landed, the packets of the output that are in place (chunk of the output, place), its state (0
running, 1 done, 2 failed; one that is done may still have packets to send). -/
structure Coll where
  guidon : Nat
  desc : List Byte
  queues : Map (List CollItem)
  parts : List CollPart
  done : List (Nat × Nat)
  state : Nat
  deriving DecidableEq, Repr

/-- A request of an experience operation that is still to be answered (R328): its sequence, the generator's device, the ring's
partition, the ring offset and bytes, where its bytes go. -/
structure ExpReq where
  seq : Nat
  device : Nat
  ring : Nat
  off : Nat
  len : Nat
  dst : Nat
  deriving DecidableEq, Repr

/-- An experience operation: its core, flag and block, whether it reads, its requests still to be answered, the statuses that
refusals have returned. -/
structure ExpOp where
  core : Nat
  flag : Nat
  block : Nat
  read : Bool
  reqs : List ExpReq
  codes : List Nat
  deriving DecidableEq, Repr

/-- The fabric side of a partition: its group table as loaded, running collectives, pooled early packets, sub-credits held
from members (group × 2^16 + member), sub-credits granted to members and not yet used, withheld ones, experience operations,
and the next number of one. -/
structure Bulk where
  groups : Map CollGroup
  colls : List Coll
  pool : List Packet
  credits : Map Nat
  granted : Map Nat
  owed : Map Nat
  exps : Map ExpOp
  nextExp : Nat
  deriving DecidableEq, Repr

/-- No group, no collective. -/
def Bulk.zero : Bulk := ⟨[], [], [], [], [], [], [], 0⟩

/-! ## Checkpoints and restore (chapter 20) -/

/-- A checkpoint being written to the twin (R420-R422): its slot (0 A, 1 B), its step, the model slot and buffer that it reads,
their pennant, the fabric time of the commit, the state area's base and slot bytes 0x0100 to 0x0FFF at the boundary, and how far
it has come: 0 the zeroing is asked for, 1 the data is sent, 2 the manifest is sent, 3 it waits for the twin (R457). -/
structure CkptJob where
  slot : Nat
  step : Nat
  model : Nat
  buf : Nat
  pennant : Nat
  time : Nat
  sbase : Nat
  head : List Byte
  phase : Nat
  deriving DecidableEq, Repr

/-- A restore (R424-R426): what the scan found in slots A and B, and the slot chosen with its step. -/
structure Restore where
  a : SlotScan
  b : SlotScan
  chosen : Option (Nat × Nat)
  deriving DecidableEq, Repr

/-- The checkpoint side of a partition: the checkpoint being written, the restore that runs, the last committed step and the
fabric time of its commit (0: none since the reset). -/
structure Ckpt where
  job : Option CkptJob
  restore : Option Restore
  step : Nat
  time : Nat
  deriving DecidableEq, Repr

/-- No checkpoint. -/
def Ckpt.zero : Ckpt := ⟨none, none, 0, 0⟩

/-- A partition (R346). -/
structure Part where
  sched : Sched
  tiers : Tiers
  gen : Gen
  pub : Pub
  plan : List PlanEntry
  setts : Map Sett
  red : Red
  upd : Upd
  checks : Checks
  bulk : Bulk
  ckpt : Ckpt
  deriving DecidableEq, Repr

/-- A partition that holds nothing. -/
def Part.zero : Part :=
  { sched := Sched.zero, tiers := Tiers.zero, gen := Gen.zero, pub := Pub.zero, plan := [], setts := [], red := Red.zero,
    upd := Upd.zero, checks := Checks.zero, bulk := Bulk.zero, ckpt := Ckpt.zero }

/-! ## The fabric of the device (chapter 15) -/

/-- A ring of a spread group (Table 15.11). -/
structure Ring where
  plus : Nat
  minus : Nat
  len : Nat
  pos : Nat
  deriving DecidableEq, Repr

/-- How a combine group combines (R316): round rings, or up a tree to the parent (none: the root). -/
inductive CombineMode where
  | spread (rings : List Ring)
  | tree (parent : Option Nat) (children : Nat)
  deriving DecidableEq, Repr

/-- An entry of the combine table. -/
structure Combine where
  pid : Nat
  mode : CombineMode
  deriving DecidableEq, Repr

/-- Who entered a hare operation: code of a core (its block and flag, R320), or an engine (R275, R280, R282, R403, R425). -/
inductive HareUser where
  | code (core flag block : Nat)
  | exponent (bucket : Nat)
  | checksum (bucket message : Nat)
  | quiesce
  | digest
  | restore
  deriving DecidableEq, Repr

/-- A neighbour's part (R318): the port it came by, its ring, hops it had left, its payload. -/
structure HarePart where
  port : Nat
  ring : Nat
  hops : Nat
  payload : List Byte
  deriving DecidableEq, Repr

/-- A combine state (R319): group and tag, the operation, the local user with the value it has reached (none until the device
enters its own), the ring it is on, parts that wait, whether the partial has gone to the parent, a root's payload that came
before the local entry. -/
structure HareOp where
  group : Nat
  tag : Nat
  op : Nat
  pid : Nat
  own : Option (HareUser × List Byte)
  ring : Nat
  parts : List HarePart
  sentUp : Bool
  early : Option (List Byte × Nat)
  deriving DecidableEq, Repr

/-- An engine's hare operation that has formed and is still to be taken: its partition, its user, the result, formed_time. -/
structure Formed where
  pid : Nat
  user : HareUser
  payload : List Byte
  time : Nat
  deriving DecidableEq, Repr

/-- One direction pair of a port's link (R307): next unit to send and to receive, units sent and not acknowledged, failed
receptions of the unit in progress, credits of each channel and sub-channel, lanes that have failed (R329). -/
structure Link where
  tx : Nat
  rx : Nat
  replay : List Nat
  fails : Nat
  credits : Map Nat
  failed : Nat
  deriving DecidableEq, Repr

/-- A link that has carried nothing. -/
def Link.zero : Link := ⟨0, 0, [], 0, [], 0⟩

/-- The device's fabric: route table in force and its shadow (R308, R309), combine table, combine states, parts withheld at a
group's quota, packets sent to each device on each channel, the links, messages delivered to the management core and hare
messages of an unstated type, the engine operations that have formed, and tree results that came before the device entered its
own value (R319). -/
structure Fabric where
  routes : Map Nat
  shadow : Map Nat
  groups : Map Combine
  ops : List HareOp
  held : List (Nat × Packet)
  sent : Map Nat
  links : Map Link
  inbox : List Packet
  formed : List Formed
  results : List Packet
  deriving DecidableEq, Repr

/-- A fabric that holds nothing. -/
def Fabric.zero : Fabric := ⟨[], [], [], [], [], [], [], [], [], []⟩

/-! ## The device -/

/-- What the manufacture fuses hold (R436, Table 23.5). -/
structure Fuses where
  coreMask : Nat
  serial : DWord
  macs : List Nat
  minSvn : Nat
  revoked : Nat
  secret : List Byte
  deriving DecidableEq, Repr

/-- A tenant: its key, the indices of its rings in host memory, reserved completion entries, lost events not yet
reported (R379, R388, R389). -/
structure Tenant where
  key : Option Word
  cqIndex : Nat
  cqReserved : Nat
  eqIndex : Nat
  eqUnreported : Nat
  deriving DecidableEq, Repr

/-- A tenant with no key. -/
def Tenant.zero : Tenant := ⟨none, 0, 0, 0, 0⟩

/-- Boot and attestation (chapter 21): the measurement registers (0 to 6, and 16 + t for M7 of tenant t), whether any pair of
bridge channels failed (R55), the staged image's length, whether the verification follows a warm reset (R435), the identity
key pair (none once erased), the attestation private key, the quotes being signed, quotes signed since cold reset, whether the
device has stopped accepting work (R55, R498). -/
structure Boot where
  meas : Map (List Byte)
  bridgeFailed : Bool
  image : Nat
  warm : Bool
  dik : Option (List Byte × List Byte)
  ak : Option (List Byte)
  latched : Map (List Byte)
  quotes : Nat
  stopped : Bool
  deriving DecidableEq, Repr

/-- Nothing booted. -/
def Boot.zero : Boot := ⟨[], false, 0, false, none, none, [], 0, false⟩

/-- A slot of the twin's store here that is being written (R422): the slot, the twin's partition that writes it, the offset up to
which its bytes have landed. -/
structure Writing where
  slot : Nat
  writer : Nat
  upTo : Nat
  deriving DecidableEq, Repr

/-- Pairing (R411-R417): heartbeats sent since cold reset, the firmware's liveness counter with the timer at its last
change, the device and serial paired with (after a loss, those lost), whether loss detection is suspended by the twin's warm
reset, whether the twin's part of the store is frozen, the channels being written here. -/
structure Twin where
  seq : Nat
  fwCount : Word
  fwAt : Nat
  peer : Option (Nat × DWord)
  hold : Bool
  frozen : Bool
  writers : Map Writing
  deriving DecidableEq, Repr

/-- A device that has never paired. -/
def Twin.zero : Twin := ⟨0, 0, 0, none, false, false, []⟩

/-- The clocks: cycles (core) since cold reset (R72) with the part of the next one in 2^-34, the fabric time count (R440), and
the timer of R445 in units of 2^-30 s, which no step or hold of the count moves. -/
structure Clock where
  cycles : DWord
  frac : Nat
  ftime : DWord
  timer : Nat
  deriving DecidableEq, Repr

/-- What the last time word of a port said of its sender (R440, R441): depth and lock state; and the link delay formed. -/
structure TimePeer where
  depth : Nat
  state : Nat
  delay : Int
  deriving DecidableEq, Repr

/-- The fabric time unit (R440-R443): the senders heard on each port, the last offset to the source in 1/8 ticks, consecutive
words within one tick, whether the source selected has been stepped or held to, ticks still to hold. -/
structure TimeUnit where
  peers : Map TimePeer
  offset : Int
  good : Nat
  aligned : Bool
  hold : Nat
  deriving DecidableEq, Repr

/-- A time unit that has heard nothing. -/
def TimeUnit.zero : TimeUnit := ⟨[], 0, 0, false, 0⟩

/-- A rise of the frequency that waits for VCORE (R494): the frequency code, whether READ_VOUT has reported the set point,
whether 60 µs have passed. -/
structure Rise where
  j : Nat
  seen : Bool
  timed : Bool
  deriving DecidableEq, Repr

/-- The governor (R450-R452): a rise that waits, the time of the last change of frequency, whether the thermal trip is in force,
the package energy in W × 2^-30 s with the time up to which it is counted. -/
structure Gov where
  rise : Option Rise
  changed : Option Nat
  trip : Bool
  energy : Nat
  energyAt : Nat
  deriving DecidableEq, Repr

/-- A governor that has not started. -/
def Gov.zero : Gov := ⟨none, none, false, 0, 0⟩

/-- The signal lands that the device drives or reads (Table 25.3): RESET_N low, THERMTRIP_N low. -/
structure Pins where
  resetLow : Bool
  thermtripLow : Bool
  deriving DecidableEq, Repr

/-- The instructions of the test access port (R488). -/
inductive TapOp where
  | bypass | idcode | samplePreload | extest | clamp | highz
  deriving DecidableEq, Repr

/-- The test access port: the instruction in force, the value last captured for TDO, the cells as preloaded. -/
structure Tap where
  op : TapOp
  captured : Nat
  cells : Nat
  deriving DecidableEq, Repr

/-- Loops and tests (chapter 24): ports that retime for their partner, with the lanes. -/
structure Bench where
  retiming : Map Nat
  deriving DecidableEq, Repr

/-- What has become of a queue pair (R376): the REP is sent, the connection stands, or it has failed. -/
inductive QpState where
  | connecting | connected | error
  deriving DecidableEq, Repr

/-- A queue pair (R376, R377): its host port, its tenant (none: the device owner), whether it is a boot responder's (R430), its
partition and command binding, its state, its send rate in Mbit/s with the time of the last halving, the time of the last CNP
sent on it (R375), the RNR NAKs of the write that is being retried (R382). -/
structure Qp where
  port : Nat
  tenant : Option Nat
  boot : Bool
  part : Nat
  bound : Bool
  state : QpState
  rate : Nat
  cutAt : Option Nat
  cnpAt : Option Nat
  rnr : Nat
  deriving DecidableEq, Repr

/-- The host domain (R391): the device key (R379), the queue pairs, priorities that a partner has paused (port × 8 + priority,
pause quanta) and those that the device has paused (R374), the producer index of each SEND-fed ring (R384). -/
structure HostIf where
  deviceKey : Option Word
  qps : Map Qp
  paused : Map Nat
  xoff : List Nat
  producers : Map Nat
  deriving DecidableEq, Repr

/-- No key, no queue pair. -/
def HostIf.zero : HostIf := ⟨none, [], [], [], []⟩

/-- Why a request of a host program is turned away. -/
inductive NakKind where
  | access | invalid | rnr
  deriving DecidableEq, Repr

/-- What the device has sent and nobody has taken away. -/
inductive Out where
  /-- An RDMA WRITE into host memory (R382). -/
  | hostWrite (qp : Nat) (addr : Nat) (rkey : Word) (data : List Byte) (imm : Option Nat)
  /-- The launch message of a decode step (R240): step_seq, pennant, the KV plan, the input tokens of every row. -/
  | launch (pid seq pennant : Nat) (plan : List KvAct) (tokens : List (Nat × List Nat))
  /-- STEP_ABORT to the step leader (R252). -/
  | stepAbort (pid seq : Nat)
  /-- A packet at an egress port, or to this device itself (R305). -/
  | packet (port : Option Nat) (pkt : Packet)
  /-- A control word of a link (R307). -/
  | control (port : Nat) (w : LinkCtl)
  /-- The units of a port from `unit` on, sent again from its replay buffer (R307). -/
  | resend (port unit : Nat)
  /-- A publication record broadcast to the publish group (R34). -/
  | publication (pid : Nat) (record : List Byte)
  /-- A shard digest sent to the publish leader (R334). -/
  | shardDigest (pid slot shard : Nat) (digest : DWord)
  /-- This device's lanes entered into the norm SUM (R269), whose combine group the spec does not state. -/
  | normEntered (pid : Nat) (lanes : List DWord)
  /-- Its pass bit entered into the commit AND (R32). -/
  | commitEntered (pid step : Nat) (pass : Bool)
  /-- Its 1 entered into the readiness AND of a pennant (R36). -/
  | readyEntered (pid pennant : Nat)
  /-- A heartbeat at a twin port (R412): the 64 bytes of its payload. -/
  | heartbeat (port : Nat) (payload : List Byte)
  /-- A checkpoint message at the den link (R422, R425, R426). -/
  | ckpt (m : CkptMsg)
  /-- A manifest, or the answer to one (R422). -/
  | ckptEnd (m : CkptEnd)
  /-- A time word in the control words of a port (R440): the count in 1/8 ticks, the depth, the lock state. -/
  | timeWord (port count depth state : Nat)
  /-- A VOUT_COMMAND to the VCORE stage (R494), in mV. -/
  | voutCommand (mv : Nat)
  /-- The answer to an ARP request or a neighbour solicitation (R371): the port's MAC address. -/
  | neighbourReply (port target sender mac : Nat)
  /-- The answer to an echo request (R371). -/
  | echoReply (port : Nat) (v6 : Bool) (dst src : Nat) (data : List Byte)
  /-- An LLDPDU (R373): chassis ID, and in the Tafort TLV the device's fabric ID and its twin's. -/
  | lldp (port : Nat) (chassis : DWord) (device twin : Nat)
  /-- A PFC frame (R374) that stops or restarts a priority. -/
  | pfc (port priority : Nat) (xoff : Bool)
  /-- A CNP to the sending queue pair (R375). -/
  | cnp (qp : Nat)
  /-- A REP, with the queue pair accepted (R377). -/
  | cmRep (port qp : Nat)
  /-- A REJ with the reason consumer reject. -/
  | cmRej (port : Nat)
  /-- A DREP. -/
  | cmDrep (qp : Nat)
  /-- An acknowledged WRITE or SEND. -/
  | rdmaAck (qp : Nat)
  /-- The data of a READ. -/
  | readResponse (qp : Nat) (data : List Byte)
  /-- A NAK: remote access error, invalid request, or RNR (R378, R380, R384). -/
  | nak (qp : Nat) (kind : NakKind)
  /-- The write that met RNR NAK is sent again (R382). -/
  | rnrRetry (qp : Nat)
  /-- A far-end loop request to the partner, or its end (R483). -/
  | farLoop (port lanes : Nat)
  /-- The answer to a far-end loop request: it is refused where allow_far is 0. -/
  | farLoopAnswer (port : Nat) (accept : Bool)
  /-- A slot's bytes that a pull of the twin's partition reads (R426), and whether they could be read. -/
  | ckptPulled (pid : Nat) (bytes : List Byte) (poison : Bool)
  deriving DecidableEq, Repr

/-- The state of the block. -/
structure State where
  fuses : Fuses
  clock : Clock
  regs : Map Nat
  mem : Mem
  poison : Map Unit
  cores : Map Core
  parts : Map Part
  tenants : Map Tenant
  fab : Fabric
  boot : Boot
  twin : Twin
  host : HostIf
  time : TimeUnit
  gov : Gov
  pins : Pins
  tap : Tap
  bench : Bench
  out : List Out
  free : Nat
  pending : List Instr
  deriving DecidableEq, Repr

/-! ## Faults, refusals, reset -/

/-- Why a step stops. Each is safe: no hardware takes such a command. -/
inductive Fault where
  /-- Raised by every command that names a core at or above 1,024 (R2): the part has no such core. Safe. -/
  | noSuchCore
  /-- Raised by every command that names a partition at or above 1,024 (R346): the device has none. Safe. -/
  | noSuchPartition
  /-- Raised by every command that names a tenant at or above 1,024 (R346). Safe. -/
  | noSuchTenant
  /-- Raised by every command of a port that the device does not have (R332: 38 optical ports; R371: 4 host ports). Safe. -/
  | noSuchPort
  /-- Raised by every command that names a queue pair at or above 4,096 (Table 18.1). Safe. -/
  | noSuchQp
  deriving DecidableEq, Repr

/-- Why a command is turned away by the model. -/
inductive Refusal where
  /-- Raised by an arm of `exec` for a command that has no meaning yet. Safe. -/
  | notModelled (mnemonic : String)
  deriving DecidableEq, Repr

/-- The outcome of a command. -/
abbrev Res := Host.Outcome State Fault Refusal

/-- What the fuses of the part hold (log entry 5): all 1,024 cores, and zero elsewhere. -/
def Fuses.asMade : Fuses := { coreMask := 2 ^ 1024 - 1, serial := 0, macs := [0, 0, 0, 0], minSvn := 0, revoked := 0, secret := [] }

/-- The block in cold reset (R453): no register written, so each reads its After cold value; memory with nothing listed;
no core, partition or tenant holds anything. -/
def State.reset : State :=
  { fuses := Fuses.asMade, clock := ⟨0, 0, 0, 0⟩, regs := [], mem := [], poison := [], cores := [], parts := [], tenants := [],
    fab := Fabric.zero, boot := Boot.zero, twin := Twin.zero, host := HostIf.zero, time := TimeUnit.zero, gov := Gov.zero,
    pins := ⟨true, false⟩, tap := ⟨.idcode, 0, 0⟩, bench := ⟨[]⟩, out := [], free := 0, pending := [] }

end Sys2Proof.Machine
end

