-- ==== Sys2Proof/Machine/Status.lean ====
section
/-! DEFINITION. The status and fault codes of Table 18.6 (and Table 3.8 for 0x01 to 0x0D). -/
namespace Sys2Proof.Machine

/-- COMPLETE. -/
def stComplete : Nat := 0x00
/-- CANCELLED. -/
def stCancelled : Nat := 0x10
/-- REQUEST_INVALID. -/
def stRequestInvalid : Nat := 0x11
/-- RNG_SEED_INVALID. -/
def stSeedInvalid : Nat := 0x12
/-- PREFIX_INVALID. -/
def stPrefixInvalid : Nat := 0x13
/-- SLOT_EMPTY. -/
def stSlotEmpty : Nat := 0x14
/-- COMMAND_INVALID. -/
def stCommandInvalid : Nat := 0x16
/-- PLAN_FULL. -/
def stPlanFull : Nat := 0x18
/-- PLAN_INVALID. -/
def stPlanInvalid : Nat := 0x19
/-- PLAN_LATE. -/
def stPlanLate : Nat := 0x1A
/-- TIER_LATE. -/
def stTierLate : Nat := 0x0A
/-- ILLEGAL_OP. -/
def stIllegalOp : Nat := 0x01
/-- BURGEE_FAILED. -/
def stBurgeeFailed : Nat := 0x20
/-- UPDATE_FAILED. -/
def stUpdateFailed : Nat := 0x21
/-- PENNANT_EXHAUSTED. -/
def stPennantExhausted : Nat := 0x22
/-- HARE_INVALID. -/
def stHareInvalid : Nat := 0x23
/-- BRIDGE_FAILED. -/
def stBridgeFailed : Nat := 0x24
/-- RESTORE_INCOMPLETE. -/
def stRestoreIncomplete : Nat := 0x2A
/-- LOCK_VIOLATION. -/
def stLockViolation : Nat := 0x40
/-- REG_OVERCOMMIT. -/
def stRegOvercommit : Nat := 0x41
/-- FLAG_BUSY. -/
def stFlagBusy : Nat := 0x42
/-- LIST_BUSY. -/
def stListBusy : Nat := 0x43
/-- REGION_INVALID. -/
def stRegionInvalid : Nat := 0x44
/-- REGION_BUSY. -/
def stRegionBusy : Nat := 0x45
/-- RNG_SEED_BUSY. -/
def stSeedBusy : Nat := 0x46
/-- KV_BUSY. -/
def stKvBusy : Nat := 0x47
/-- REQ_BUSY. -/
def stReqBusy : Nat := 0x48
/-- SETT_OP_INVALID. -/
def stSettInvalid : Nat := 0x49
/-- SETT_OVERFLOW. -/
def stSettOverflow : Nat := 0x4A
/-- SETT_BUSY. -/
def stSettBusy : Nat := 0x4B
/-- RED_OP_INVALID. -/
def stRedInvalid : Nat := 0x4C
/-- RED_BUSY. -/
def stRedBusy : Nat := 0x4D
/-- FAB_BUSY. -/
def stFabBusy : Nat := 0x4E
/-- SLOT_BUSY. -/
def stSlotBusy : Nat := 0x4F
/-- PUB_INVALID. -/
def stPubInvalid : Nat := 0x50
/-- SCHED_BUSY. -/
def stSchedBusy : Nat := 0x51

end Sys2Proof.Machine
end

