-- ==== Sys2Proof/Machine/Ops.lean ====
section
/-! DEFINITION. The operations every family shares: page registers, memory and poison, cores and partitions, events,
page faults, completion entries and fault records. -/
namespace Sys2Proof.Machine

/-! ## Page registers (R459, R463, R506) -/

/-- Rows of the register table of a block class. -/
def classRows (cls : Nat) : List RegRow :=
  match cls with
  | 0x0000 => regRowsDevice
  | 0x0040 => regRowsEvent
  | 0x0080 => regRowsGov
  | 0x00C0 => regRowsTime
  | 0x0100 => regRowsBoot
  | 0x0140 => regRowsTwinLink
  | 0x0180 => regRowsPort
  | 0x01C0 => regRowsHport
  | 0x0200 => regRowsHost
  | 0x0240 => regRowsAttest
  | 0x0280 => regRowsPartition
  | 0x02C0 => regRowsSched
  | 0x0300 => regRowsArray
  | 0x0340 => regRowsSftab
  | 0x0380 => regRowsRng
  | 0x03C0 => regRowsTier
  | 0x0400 => regRowsKv
  | 0x0440 => regRowsReq
  | 0x0480 => regRowsSett
  | 0x04C0 => regRowsRed
  | 0x0500 => regRowsUpd
  | 0x0540 => regRowsFab
  | 0x0580 => regRowsPub
  | 0x05C0 => regRowsCheck
  | 0x0600 => regRowsCkpt
  | _ => []

/-- The class of a window offset (R459). -/
def classOf (off : Nat) : Nat := off / 0x400000 * 0x40

/-- The instance of a window offset. -/
def instOf (off : Nat) : Nat := off / 0x1000 % 0x400

/-- The register offset inside the page. -/
def pageOff (off : Nat) : Nat := off % 0x1000

/-- The page of a window offset. -/
def pageOf (off : Nat) : Nat := off - off % 0x1000

/-- The page of instance `i` of class `cls`. -/
def page (cls i : Nat) : Nat := cls * 0x10000 + i * 0x1000

/-- Does a table row hold the 8-byte register at page offset `o`? -/
def RegRow.covers (r : RegRow) (o : Nat) : Bool :=
  decide (r.off ≤ o) && decide (o < r.off + 8 * r.n) && (o - r.off) % 8 == 0

/-- The rows of the register at a window offset, common registers included. -/
def rowsAt (off : Nat) : List RegRow :=
  (regRowsCommon ++ classRows (classOf off)).filter (fun r => r.covers (pageOff off))

/-- The value of the register at a window offset after a cold reset (R18). -/
def coldValue (off : Nat) : Nat := (rowsAt off).foldl (fun acc r => acc + r.cold * 2 ^ r.lo) 0

/-- The key of a register in the store: window offset and bank (the value of the page's selector register). -/
def regKey (f : Fld) (inst bank : Nat) : Nat := bank * 2 ^ 32 + f.reg + inst * 0x1000

/-- The 8-byte register at a store key. -/
def State.regAt (s : State) (key : Nat) : Nat := Map.getD s.regs key (coldValue (key % 2 ^ 32))

/-- Set the 8-byte register at a store key. -/
def State.setRegAt (s : State) (key v : Nat) : State := { s with regs := Map.put s.regs key (v % 2 ^ 64) }

/-- A field of a banked register of page instance `inst`. -/
def State.getB (s : State) (f : Fld) (inst bank : Nat) : Nat := field (s.regAt (regKey f inst bank)) f.hi f.lo

/-- A field of a register of page instance `inst`. -/
def State.get (s : State) (f : Fld) (inst : Nat) : Nat := s.getB f inst 0

/-- A one-bit field. -/
def State.getBit (s : State) (f : Fld) (inst : Nat) : Bool := s.get f inst == 1

/-- Set a field of a banked register. -/
def State.setB (s : State) (f : Fld) (inst bank v : Nat) : State :=
  s.setRegAt (regKey f inst bank) (setField (s.regAt (regKey f inst bank)) f.hi f.lo v)

/-- Set a field of a register. -/
def State.set (s : State) (f : Fld) (inst v : Nat) : State := s.setB f inst 0 v

/-- Add to a field, wrapping at its width. -/
def State.bump (s : State) (f : Fld) (inst n : Nat) : State := s.set f inst (s.get f inst + n)

/-- Add to a banked field, wrapping at its width. -/
def State.bumpB (s : State) (f : Fld) (inst bank n : Nat) : State := s.setB f inst bank (s.getB f inst bank + n)

/-! ## Cores, partitions, tenants -/

/-- A physical core. -/
def State.core (s : State) (c : Nat) : Core := Map.getD s.cores c Core.idle

/-- Replace a physical core. -/
def State.setCore (s : State) (c : Nat) (k : Core) : State := { s with cores := Map.put s.cores c k }

/-- Change a physical core. -/
def State.onCore (s : State) (c : Nat) (f : Core → Core) : State := s.setCore c (f (s.core c))

/-- A partition. -/
def State.part (s : State) (p : Nat) : Part := Map.getD s.parts p Part.zero

/-- Replace a partition. -/
def State.setPart (s : State) (p : Nat) (k : Part) : State := { s with parts := Map.put s.parts p k }

/-- Change a partition. -/
def State.onPart (s : State) (p : Nat) (f : Part → Part) : State := s.setPart p (f (s.part p))

/-- Change the scheduling side of a partition. -/
def State.onSched (s : State) (p : Nat) (f : Sched → Sched) : State :=
  s.onPart p (fun k => { k with sched := f k.sched })

/-- Change the tier side of a partition. -/
def State.onTiers (s : State) (p : Nat) (f : Tiers → Tiers) : State :=
  s.onPart p (fun k => { k with tiers := f k.tiers })

/-- Change the generator side of a partition. -/
def State.onGen (s : State) (p : Nat) (f : Gen → Gen) : State := s.onPart p (fun k => { k with gen := f k.gen })

/-- The generator side of a partition. -/
def State.gen (s : State) (p : Nat) : Gen := (s.part p).gen

/-- A model slot of a partition. -/
def State.wslot (s : State) (p n : Nat) : WSlot := Map.getD (s.part p).pub.slots n WSlot.zero

/-- Change a model slot of a partition. -/
def State.onWslot (s : State) (p n : Nat) (f : WSlot → WSlot) : State :=
  s.onPart p (fun k => { k with pub := { k.pub with slots := Map.put k.pub.slots n (f (Map.getD k.pub.slots n WSlot.zero)) } })

/-- The reduction engine of a partition. -/
def State.red (s : State) (p : Nat) : Red := (s.part p).red

/-- Change the reduction engine. -/
def State.onRed (s : State) (p : Nat) (f : Red → Red) : State := s.onPart p (fun k => { k with red := f k.red })

/-- The update sequencer of a partition. -/
def State.upd (s : State) (p : Nat) : Upd := (s.part p).upd

/-- Change the update sequencer. -/
def State.onUpd (s : State) (p : Nat) (f : Upd → Upd) : State := s.onPart p (fun k => { k with upd := f k.upd })

/-- The checks of a partition's learner step. -/
def State.checks (s : State) (p : Nat) : Checks := (s.part p).checks

/-- Change the checks. -/
def State.onChecks (s : State) (p : Nat) (f : Checks → Checks) : State := s.onPart p (fun k => { k with checks := f k.checks })

/-- The fabric side of a partition. -/
def State.bulk (s : State) (p : Nat) : Bulk := (s.part p).bulk

/-- Change the fabric side. -/
def State.onBulk (s : State) (p : Nat) (f : Bulk → Bulk) : State := s.onPart p (fun k => { k with bulk := f k.bulk })

/-- The checkpoint side of a partition. -/
def State.ckpt (s : State) (p : Nat) : Ckpt := (s.part p).ckpt

/-- Change the checkpoint side. -/
def State.onCkpt (s : State) (p : Nat) (f : Ckpt → Ckpt) : State := s.onPart p (fun k => { k with ckpt := f k.ckpt })

/-- Change the pairing. -/
def State.onTwin (s : State) (f : Twin → Twin) : State := { s with twin := f s.twin }

/-- The open learner step fails a condition of R32; the first one counts (R405). -/
def State.stepFails (s : State) (p code : Nat) : State :=
  if (s.red p).isOpen then s.onChecks p (fun c => { c with fail := if c.fail.isNone then some code else c.fail }) else s

/-- Change the fabric of the device. -/
def State.onFab (s : State) (f : Fabric → Fabric) : State := { s with fab := f s.fab }

/-- The link of a port. -/
def State.link (s : State) (port : Nat) : Link := Map.getD s.fab.links port Link.zero

/-- Change the link of a port. -/
def State.onLink (s : State) (port : Nat) (f : Link → Link) : State :=
  s.onFab (fun x => { x with links := Map.put x.links port (f (Map.getD x.links port Link.zero)) })

/-- Change boot and attestation. -/
def State.onBoot (s : State) (f : Boot → Boot) : State := { s with boot := f s.boot }

/-- Is a decode step of the partition in flight? -/
def State.stepsInFlight (s : State) (p : Nat) : Bool := !(s.gen p).steps.isEmpty

/-- A tenant. -/
def State.tenant (s : State) (t : Nat) : Tenant := Map.getD s.tenants t Tenant.zero

/-- Replace a tenant. -/
def State.setTenant (s : State) (t : Nat) (k : Tenant) : State := { s with tenants := Map.put s.tenants t k }

/-- The life of a partition (Table 23.6). -/
def State.life (s : State) (p : Nat) : Nat := s.get Reg.PARTITION.STATE.life p

/-- Is the partition LIVE? -/
def State.live (s : State) (p : Nat) : Bool := s.life p == 2

/-- The tenant that owns a partition. -/
def State.owner (s : State) (p : Nat) : Nat := s.get Reg.PARTITION.CFG.tenant p

/-- The role of a partition: 0 generator, 1 learner, 2 mixed (R21). -/
def State.role (s : State) (p : Nat) : Nat := s.get Reg.PARTITION.CFG.role p

/-- Is the partition a generator, or a mixed one in its generate phase (R21)? A mixed partition starts there (log entry
12). -/
def State.generating (s : State) (p : Nat) : Bool := s.role p == 0 || (s.role p == 2 && !(s.part p).sched.learnPhase)

/-- The logical core count of a partition. -/
def State.lcores (s : State) (p : Nat) : Nat := (s.part p).sched.cores.length

/-- The partition whose core map holds a physical core (R346: at most one). -/
def State.partOf (s : State) (c : Nat) : Option Nat :=
  (s.parts.find? (fun k => k.2.sched.cores.contains c)).map Prod.fst

/-- The logical number of a physical core in a partition. -/
def State.logical (s : State) (p c : Nat) : Nat := (s.part p).sched.cores.idxOf c

/-- The physical core of a logical number. -/
def State.physical (s : State) (p l : Nat) : Option Nat := (s.part p).sched.cores[l]?

/-- Draw a free value: its number, and the counter advanced (log entry 10). -/
def State.drawFree (s : State) : Nat × State := (s.free, { s with free := s.free + 1 })

/-- Emit. -/
def State.emit (s : State) (o : Out) : State := { s with out := s.out ++ [o] }

/-! ## Memory and poison (R56, R93, R212) -/

/-- The physical address of an offset in a core's T0 slice. -/
def t0Addr (core off : Nat) : Nat := core * 2 ^ 24 + off

/-- The physical address of a T1 offset. -/
def t1Addr (off : Nat) : Nat := 2 ^ 52 + off

/-- An arrival flag lands (R127, R207): an ARMED flag of the running task becomes LANDED. -/
def Core.landFlag (k : Core) (n : Nat) : Core :=
  let u := k.sync
  if u.flags.toList.getD n .idle = .armed then { k with sync := { u with flags := u.flags.set! n .landed } } else k

/-- The physical address of a near-store offset. -/
def nearAddr (core off : Nat) : Nat := 3 * 2 ^ 52 + core * 2 ^ 20 + off

/-- Own-slice size: 12 MiB (R56). -/
def sliceBytes : Nat := 0xC00000

/-- Read `n` bytes as a little-endian number. -/
def State.readN (s : State) (a n : Nat) : Nat := leNat (Mem.readBytes s.mem a n)

/-- Read `n` bytes. -/
def State.readBytes (s : State) (a n : Nat) : List Byte := Mem.readBytes s.mem a n

/-- The 8-byte words that a range touches. -/
def wordsOf (a n : Nat) : List Nat := if n = 0 then [] else (upTo ((a + n - 1) / 8 + 1 - a / 8)).map (fun i => a / 8 + i)

/-- Does a range touch a word with an uncorrectable error? -/
def State.poisoned (s : State) (a n : Nat) : Bool := (wordsOf a n).any (fun w => Map.has s.poison w)

/-- The words wholly inside a range. -/
def wholeWords (a n : Nat) : List Nat := (wordsOf a n).filter (fun w => decide (a ≤ 8 * w) && decide (8 * w + 8 ≤ a + n))

/-- Write bytes; a word rewritten whole loses its poison mark. -/
def State.writeBytes (s : State) (a : Nat) (bs : List Byte) : State :=
  { s with mem := Mem.writeBytes s.mem a bs,
           poison := (wholeWords a bs.length).foldl (fun m w => Map.del m w) s.poison }

/-- Write the low `n` bytes of a number, little-endian. -/
def State.writeN (s : State) (a n v : Nat) : State := s.writeBytes a (leBytes n v)

/-- Mark the words of a range as poisoned. -/
def State.poisonRange (s : State) (a n : Nat) : State :=
  { s with poison := (wordsOf a n).foldl (fun m w => Map.put m w ()) s.poison }

/-- Zero a range, dropping its poison marks. -/
def State.zeroRange (s : State) (a n : Nat) : State :=
  { s with mem := Map.keep (fun k _ => !(decide (a ≤ k) && decide (k < a + n))) s.mem,
           poison := Map.keep (fun k _ => !(decide (a ≤ 8 * k) && decide (8 * k < a + n))) s.poison }

/-- Copy `n` bytes from `a` to `b`, poison marks with them (R93). -/
def State.copyRange (s : State) (a b n : Nat) : State :=
  let bad := (wordsOf a n).filter (fun w => Map.has s.poison w)
  bad.foldl (fun t w => let lo := max (8 * w) a - a; t.poisonRange (b + lo) (min (8 * w + 8) (a + n) - a - lo))
    (s.writeBytes b (s.readBytes a n))

/-- Add to an aligned 8-byte word, modulo 2^64; a poisoned word stays poisoned. -/
def State.addWord (s : State) (a v : Nat) : State :=
  let t := s.writeN a 8 (s.readN a 8 + v)
  if s.poisoned a 8 then t.poisonRange a 8 else t

/-- `n` free bytes. -/
def State.freeBytes (s : State) (n : Nat) : List Byte × State :=
  (((upTo ((n + 3) / 4)).flatMap (fun i => leBytes 4 (Config.freeWord (s.free + i)).toNat)).take n,
   { s with free := s.free + (n + 3) / 4 })

/-! ## Time -/

/-- The local fabric time count (R440). -/
def State.now (s : State) : Nat := s.clock.ftime.toNat

/-- The timer of R445, in units of 2^-30 s. -/
def State.timer (s : State) : Nat := s.clock.timer

/-! ## Host rings (R382, R388, R389) -/

/-- The phase bit of entry `j` of a ring of 2^n entries. -/
def phaseBit (n j : Nat) : Nat := 1 - j / 2 ^ n % 2

/-- Entries written and not yet consumed, a credit above the entries written taken as equal to them (R388). -/
def unconsumed (written credit : Nat) : Nat := written - min credit written

/-- A queue pair. -/
def State.qp (s : State) (q : Nat) : Option Qp := Map.find s.host.qps q

/-- Change the host domain. -/
def State.onHost (s : State) (f : HostIf → HostIf) : State := { s with host := f s.host }

/-- An RDMA WRITE of a tenant's data on a queue pair (R382): one of the tenant's or of the device owner's that is connected. A
write on another tenant's is dropped by the message gate and counted (R391). -/
def State.hostSend (s : State) (tenant q addr : Nat) (rkey : Word) (bs : List Byte) (imm : Option Nat) : State :=
  match s.qp q with
  | none => s
  | some k =>
    if k.tenant.getD tenant ≠ tenant then s.bump Reg.HOST.KEY_ERRORS.errors tenant 1
    else if k.state = .connected then
      (s.onHost (fun h => { h with qps := Map.put h.qps q { k with rnr := 0 } })).emit (.hostWrite q addr rkey bs imm)
    else s

/-- Write a ring entry into host memory under a tenant's split and imm settings (R382). -/
def State.hostEntry (s : State) (tenant qp addr : Nat) (rkey : Word) (bs : List Byte) (immIdx : Option Nat) : State :=
  let imm := if s.getBit Reg.HOST.CFG.imm tenant then immIdx else none
  if s.getBit Reg.HOST.CFG.split tenant then
    let k := bs.length - 8
    (s.hostSend tenant qp addr rkey (bs.take k) none).hostSend tenant qp (addr + k) rkey (bs.drop k) imm
  else s.hostSend tenant qp addr rkey bs imm

/-- Room for a new event entry on a tenant's ring. -/
def State.eqRoom (s : State) (t : Nat) : Bool :=
  let n := s.get Reg.HOST.EQ_CFG.eq_log2 t
  decide (unconsumed (s.tenant t).eqIndex (s.get Reg.HOST.EQ_CREDIT.consumed t) < 2 ^ n)

/-- The bytes of an event entry (Table 18.5). -/
def eventBytes (code : Nat) (device : Bool) (part arg time phase : Nat) : List Byte :=
  leBytes 4 (code * 2 ^ 16 + ofBool device * 2 ^ 15 + part) ++ leBytes 4 0 ++ leBytes 8 arg ++ leBytes 8 time ++ leBytes 8 phase

/-- Write one event entry at the tenant's next index. -/
def State.putEvent (s : State) (t code : Nat) (device : Bool) (part arg : Nat) : State :=
  let n := s.get Reg.HOST.EQ_CFG.eq_log2 t
  let k := s.tenant t
  let j := k.eqIndex
  let s1 := s.setTenant t { k with eqIndex := j + 1 }
  s1.hostEntry t (s.get Reg.HOST.EQ_CFG.eq_qp t) (s.get Reg.HOST.EQ_ADDR.eq_addr t + 32 * (j % 2 ^ n))
    (BitVec.ofNat 32 (s.get Reg.HOST.EQ_CFG.eq_rkey t)) (eventBytes code device part arg s.now (phaseBit n j)) (some j)

/-- Count an event that could not be written (R389). -/
def State.loseEvent (s : State) (t : Nat) : State :=
  let k := s.tenant t
  (s.bump Reg.HOST.EVENTS_LOST.lost t 1).setTenant t { k with eqUnreported := k.eqUnreported + 1 }

/-- Report the lost events once room has returned: the event EVENTS_LOST with their count (R389). -/
def State.reportLost (s : State) (t : Nat) : State :=
  let k := s.tenant t
  if k.eqUnreported = 0 ∨ s.get Reg.HOST.EQ_CFG.eq_log2 t = 0 ∨ s.getBit Reg.HOST.STATUS.eq_lost t ∨ !(s.eqRoom t) then s
  else
    let pg : Nat := t
    let s1 := s.set Reg.PAGE.EVENT_STATUS.raised (0x0200 * 16 + pg)
      (s.get Reg.PAGE.EVENT_STATUS.raised (0x0200 * 16 + pg) ||| 4)
    let s2 := (s1.bump Reg.EVENT.RAISED.raised 0 1).setTenant t { k with eqUnreported := 0 }
    if (s.get Reg.PAGE.EVENT_MASK.mask (0x0200 * 16 + pg)).testBit 2 then s2
    else s2.putEvent t 0x0202 false 0 k.eqUnreported

/-- Deliver an event to a tenant's ring, or count it lost (R389, R390). -/
def State.deliverEvent (s : State) (t code : Nat) (device : Bool) (part arg : Nat) : State :=
  if s.get Reg.HOST.EQ_CFG.eq_log2 t = 0 then s
  else if s.getBit Reg.HOST.STATUS.eq_lost t then s.loseEvent t
  else
    let s1 := s.reportLost t
    if s1.eqRoom t then s1.putEvent t code device part arg else s1.loseEvent t

/-! ## Events and page faults (R464, R470, R471) -/

/-- The instance number that reaches a page's common registers: class and instance folded into one (R459). -/
def pageInst (cls i : Nat) : Nat := cls * 16 + i

/-- Route a device-level event (R471). -/
def State.routeDevice (s : State) (code arg : Nat) : State :=
  if s.getBit Reg.EVENT.OWNER.valid 0 then s.deliverEvent (s.get Reg.EVENT.OWNER.tenant 0) code true 0 arg
  else s.bump Reg.EVENT.UNROUTED.unrouted 0 1

/-- Is an event of instance `i` of class `cls` a device-level event (R471)? -/
def State.deviceLevel (s : State) (cls i : Nat) : Bool :=
  decide (cls < 0x0200) || (decide (cls = 0x0280) && s.life i == 0)

/-- What every raise does first (R471): the status bit, the count, and for a device event EVENT.LAST. -/
def State.markEvent (s : State) (cls i n : Nat) : State :=
  let pi := pageInst cls i
  let s1 := (s.set Reg.PAGE.EVENT_STATUS.raised pi (s.get Reg.PAGE.EVENT_STATUS.raised pi ||| 2 ^ n)).bump
    Reg.EVENT.RAISED.raised 0 1
  if s.deviceLevel cls i then (s1.set Reg.EVENT.LAST.code 0 (cls + n)).set Reg.EVENT.LAST.time 0 s.now else s1

/-- Raise local event `n` of instance `i` of class `cls` (R471): the status bit, then the ring entry unless masked. -/
def State.raise (s : State) (cls i n arg : Nat) : State :=
  let s1 := s.markEvent cls i n
  if (s.get Reg.PAGE.EVENT_MASK.mask (pageInst cls i)).testBit n then s1
  else if s.deviceLevel cls i then s1.routeDevice (cls + n) arg
  else if cls < 0x0280 then s1.deliverEvent i (cls + n) false 0 arg
  else s1.deliverEvent (s.owner i) (cls + n) false i arg

/-- Record a fault in a page (R464): the first fault sets valid, first code and address, a later one the last code and the
count; the one that sets valid raises PAGE_FAULT where CTRL asks for it. `addr` is the global address of the access. -/
def State.pageFault (s : State) (pg code addr regOff : Nat) : State :=
  let pi := pg / 0x1000
  if s.getBit Reg.PAGE.FAULT.valid pi then
    (s.set Reg.PAGE.FAULT.last_code pi code).set Reg.PAGE.FAULT.count pi (min 0xFFFF (s.get Reg.PAGE.FAULT.count pi + 1))
  else
    let s1 := (((s.set Reg.PAGE.FAULT.valid pi 1).set Reg.PAGE.FAULT.first_code pi code).set
      Reg.PAGE.FAULT.last_code pi code).set Reg.PAGE.FAULT.count pi 1
    let s2 := s1.set Reg.PAGE.FAULT_ADDR.addr pi addr
    if s2.getBit Reg.PAGE.CTRL.fault_event pi then
      s2.raise (classOf pg) (instOf pg) 63 (regOff * 2 ^ 16 + code)
    else s2

/-- The window base (R459). -/
def windowBase : Nat := 0x0040000000000000

/-- The window offset of a register of page instance `i`. -/
def regOff (f : Fld) (i : Nat) : Nat := f.reg + i * 0x1000

/-- Record a fault in the page of the register at window offset `off`, naming that register's address. -/
def State.regFault (s : State) (off code : Nat) : State := s.pageFault (pageOf off) code (windowBase + off) (pageOff off)

/-! ## Completion entries (R388) -/

/-- Can a completion entry be reserved on the tenant's ring? Always, where there is no ring. -/
def State.cqRoom (s : State) (t : Nat) : Bool :=
  let n := s.get Reg.HOST.CQ_CFG.cq_log2 t
  let k := s.tenant t
  n == 0 || decide (unconsumed k.cqIndex (s.get Reg.HOST.CQ_CREDIT.consumed t) + k.cqReserved < 2 ^ n)

/-- Reserve a completion entry (R385, R388). -/
def State.cqReserve (s : State) (t : Nat) : State :=
  if s.get Reg.HOST.CQ_CFG.cq_log2 t = 0 then s
  else
    let k := s.tenant t
    s.setTenant t { k with cqReserved := k.cqReserved + 1 }

/-- The bytes of a completion entry (Table 18.4). -/
def completionBytes (id status kind part detail time phase : Nat) : List Byte :=
  leBytes 8 id ++ leBytes 4 (status * 2 ^ 24 + kind * 2 ^ 16 + part) ++ leBytes 4 detail ++ leBytes 8 time ++ leBytes 8 phase

/-- Write the reserved completion entry of a command or task of partition `p` (R388): none without a ring; counted but not
written while cq_lost is set (R390). -/
def State.complete (s : State) (p id status kind detail : Nat) : State :=
  let t := s.owner p
  let n := s.get Reg.HOST.CQ_CFG.cq_log2 t
  if n = 0 then s
  else
    let k := s.tenant t
    let j := k.cqIndex
    let s1 := s.setTenant t { k with cqIndex := j + 1, cqReserved := k.cqReserved - 1 }
    if s.getBit Reg.HOST.STATUS.cq_lost t then s1
    else
      s1.hostEntry t (s.get Reg.HOST.CQ_CFG.cq_qp t) (s.get Reg.HOST.CQ_ADDR.cq_addr t + 32 * (j % 2 ^ n))
        (BitVec.ofNat 32 (s.get Reg.HOST.CQ_CFG.cq_rkey t))
        (completionBytes id status kind p detail s.now (phaseBit n j)) (some j)

/-! ## Fault records (R408, R409) -/

/-- What a fault record says (Table 19.3). -/
structure FaultRec where
  source : Nat
  code : Nat
  addr : Nat
  id : Nat
  pennant : Nat
  lcore : Nat
  pcore : Nat
  epc : Nat
  cause : Nat
  detail : Nat
  deriving DecidableEq, Repr

/-- A record that names no core. -/
def FaultRec.plain (source code id pennant detail : Nat) : FaultRec := ⟨source, code, 0, id, pennant, 0, 0, 0, 0, detail⟩

/-- The 64 bytes of a fault record (Table 19.3); `detail` fills bytes 63:52. -/
def faultBytes (r : FaultRec) (seq time tenant part : Nat) : List Byte :=
  leBytes 8 seq ++ leBytes 8 time ++ leBytes 8 r.addr ++ leBytes 8 r.id ++ leBytes 4 r.pennant ++
  leBytes 4 (r.code * 2 ^ 24 + r.source * 2 ^ 20 + tenant * 2 ^ 10 + part) ++
  leBytes 4 (r.lcore * 2 ^ 22 + r.pcore * 2 ^ 12) ++ leBytes 4 r.epc ++ leBytes 4 r.cause ++ leBytes 12 r.detail

/-- The space of a global address (R56). -/
def spaceOf (a : Nat) : Nat := field a 55 52

/-- Write a fault record of partition `p` at the ring's next place and raise FAULT_RECORDED (R408). A ring address outside
space 1 names no ring, and only the sequence and the event are kept. -/
def State.faultRecord (s : State) (p : Nat) (r : FaultRec) : State :=
  let seq := s.get Reg.CHECK.FAULT_SEQ.next_seq p
  let k := max 6 (min 16 (s.get Reg.CHECK.FAULT_CFG.fault_log2 p))
  let base := s.get Reg.CHECK.FAULT_RING.ring_addr p
  let s1 := if base / 2 ^ 52 = 1
    then s.writeBytes (base + 64 * (seq % 2 ^ k)) (faultBytes r seq s.now (s.owner p) p) else s
  (s1.bump Reg.CHECK.FAULT_SEQ.next_seq p 1).raise 0x05C0 p 5 seq

end Sys2Proof.Machine
end

