-- ==== Sys2Proof/Machine/Clock.lean ====
section
/-! DEFINITION. The passing of time on an empty queue (log entry 4), and the wrappers that bound a command's operands. -/
namespace Sys2Proof.Machine

/-- Units of 2^-30 s in `n` microseconds, rounded up (R445). -/
def usTicks (n : Nat) : Nat := ceilDiv (n * 2 ^ 30) 1000000

/-- TIME.STATUS.state: 0 FREE, 1 ACQUIRING, 2 LOCKED, 3 HOLDOVER, 4 FAULT (Table 22.1). -/
def State.timeState (s : State) : Nat := s.get Reg.TIME.STATUS.state 0

/-- Is the device in Deep (R447)? -/
def State.deep (s : State) : Bool := s.get Reg.GOV.STATE.deep 0 != 0

/-- The core clock over one tick of 2^-30 s: (8 + j)/16 × 1.1 GHz (R450), in 2^-34 cycles; none while the compute dies are
off. -/
def State.cycleStep (s : State) : Nat := if s.deep then 0 else (8 + s.get Reg.GOV.STATE.j 0) * 1100000000

/-- The local fabric time count advances by one tick (R440), unless it is held (R443). -/
def State.countTick (s : State) : State :=
  if s.timeState = 4 ∨ s.time.hold ≠ 0 then
    ({ s with time := { s.time with hold := s.time.hold - 1 } }).bump Reg.TIME.HOLDS.held 0 1
  else { s with clock := { s.clock with ftime := s.clock.ftime + 1 } }

/-- 2^-30 s pass: the timer, the cores' cycles, the count. -/
def State.tick (s : State) : State :=
  let f := s.clock.frac + s.cycleStep
  ({ s with clock := { s.clock with timer := s.clock.timer + 1, frac := f % 2 ^ 34,
                                    cycles := s.clock.cycles + BitVec.ofNat 64 (f / 2 ^ 34) } }).countTick

/-- A partition with work is Active (R448): an Idle one wakes on a descriptor, a step launch, a plan entry or a message, a
Parked one on a stamp, before a plan entry, or on a write. -/
def State.wakeUp (s : State) (p : Nat) : State := s.set Reg.PARTITION.STATE.power p 0

/-- Run a command of core `c`. -/
def onCoreId (c : Nat) (r : Res) : Res := if c < 1024 then r else .fault .noSuchCore
/-- Run a command of partition `p`. -/
def onPid (p : Nat) (r : Res) : Res := if p < 1024 then r else .fault .noSuchPartition
/-- Run a command of tenant `t`. -/
def onTid (t : Nat) (r : Res) : Res := if t < 1024 then r else .fault .noSuchTenant
/-- Run a command of an optical port (R332). -/
def onPort (p : Nat) (r : Res) : Res := if p < 38 then r else .fault .noSuchPort
/-- Run a command of a host port. -/
def onHport (p : Nat) (r : Res) : Res := if p < 4 then r else .fault .noSuchPort
/-- Run a command of a queue pair. -/
def onQp (q : Nat) (r : Res) : Res := if q < 4096 then r else .fault .noSuchQp

end Sys2Proof.Machine
end

