-- ==== Sys2Proof/Machine/Addr.lean ====
section
/-! DEFINITION. Global addresses: the checks of R60 with the region rules of R200, the page index of R466, and the
translation of logical core numbers (R58) and experience rings (R59). -/
namespace Sys2Proof.Machine

/-- Who makes a memory access (R58, R60, R200): code or an engine of a partition, a tenant key, or the device key and the
firmware. -/
inductive Who where
  | part (p : Nat)
  | tenant (t : Nat)
  | device
  deriving DecidableEq, Repr

/-- ADDR_UNMAPPED (Table 3.8). -/
def codeUnmapped : Nat := 0x05
/-- PARTITION_VIOLATION (Table 3.8). -/
def codeViolation : Nat := 0x06

/-- The lowest bit that must be zero in a space's address, bits [51:n] (Table 2.4); none for a reserved space. -/
def mbzFrom (sp : Nat) : Option Nat :=
  match sp with
  | 0 => some 34 | 1 => some 39 | 2 => some 42 | 3 => some 30 | 4 => some 32 | 5 => some 46
  | _ => none

/-- Check 1 of R60: bits [63:56] and the space's unused bits are zero, and the space is not reserved. -/
def wellPlaced (a : Nat) : Bool :=
  match mbzFrom (spaceOf a) with
  | none => false
  | some n => field a 63 56 == 0 && field a 51 n == 0

/-- Is a physical core active by the fuses (R3)? -/
def State.active (s : State) (c : Nat) : Bool := s.fuses.coreMask.testBit c

/-- Has the firmware retired the core (R7)? -/
def State.retired (s : State) (c : Nat) : Bool :=
  (s.get ⟨Reg.DEVICE.RETIRED.reg.reg + 8 * (c / 64), 63, 0⟩ 0).testBit (c % 64)

/-- The physical slice or core that a number in a space-0 address means: a logical number of the partition, core-less
slices from L upward (R58), or the physical ID itself. -/
def State.slicePhys (s : State) (w : Who) (n : Nat) : Option Nat :=
  match w with
  | .part p => ((s.part p).sched.cores ++ (s.part p).sched.slices)[n]?
  | _ => some n

/-- The physical core that a number in a space-3 address means. -/
def State.nearPhys (s : State) (w : Who) (n : Nat) : Option Nat :=
  match w with
  | .part p => (s.part p).sched.cores[n]?
  | _ => if s.active n then some n else none

/-- Bytes of a partition's experience ring; 0 for a partition that has none (R59, Table 1.9). -/
def State.expRingBytes (s : State) (p : Nat) : Nat :=
  if s.life p = 0 ∨ s.life p = 1 ∨ s.role p = 1 then 0 else 64 + 16 * 2 ^ s.get Reg.PARTITION.CFG.exp_log2 p

/-- The T1 range an experience ring occupies, rounded up to 2 KiB (R59). -/
def State.expRingSpan (s : State) (p : Nat) : Nat × Nat :=
  let b := s.get Reg.PARTITION.T1_BASE.t1_base p
  (b, b + (s.expRingBytes p + 2047) / 2048 * 2048)

/-- Does a physical T1 range touch the storage of any experience ring? -/
def State.touchesExpRing (s : State) (a n : Nat) : Bool :=
  s.parts.any (fun k => let r := s.expRingSpan k.1; decide (a < r.2) && decide (r.1 < a + n))

/-- Do regions of one table with a hint other than NONE cover [a, a+n)? Fuel: a region per step. -/
def regionsCover (rs : Map Region) : Nat → Nat → Nat → Bool
  | 0, _, n => n == 0
  | k + 1, a, n =>
    if n = 0 then true
    else
      match rs.find? (fun r => decide (r.2.base ≤ a) && decide (a < r.2.base + r.2.len)) with
      | none => false
      | some r =>
        if r.2.hint = 0 then false
        else
          let t := min n (r.2.base + r.2.len - a)
          regionsCover rs k (a + t) (n - t)

/-- Is a T1 or T2 range inside the regions that bind the requester (R200)? The device key and the firmware are not held
to regions. -/
def State.inRegions (s : State) (w : Who) (a n : Nat) : Bool :=
  match w with
  | .device => true
  | .part p => regionsCover (s.part p).tiers.regions ((s.part p).tiers.regions.length + 1) a n
  | .tenant t =>
    let rs := (s.parts.filter (fun k => s.owner k.1 == t && s.life k.1 != 0)).flatMap (fun k => k.2.tiers.regions)
    regionsCover rs (rs.length + 1) a n

/-- Does a partition belong to the requester? -/
def State.ownsPart (s : State) (w : Who) (p : Nat) : Bool :=
  match w with
  | .device => true
  | .part q => p == q
  | .tenant t => s.owner p == t && s.life p != 0

/-- The partition that holds a physical slice: by its core map, its spares, or its core-less slices. -/
def State.sliceOwner (s : State) (c : Nat) : Option Nat :=
  (s.parts.find? (fun k => k.2.sched.cores.contains c || k.2.sched.spares.contains c || k.2.sched.slices.contains c)).map
    Prod.fst

/-- Check 3 of R60 for a slice or near store. -/
def State.mayReachCore (s : State) (w : Who) (c : Nat) : Bool :=
  match w with
  | .device => true
  | _ => match s.sliceOwner c with
    | none => false
    | some p => s.ownsPart w p

/-- The physical address of an access, or the first check of R60 that fails. `n` bytes from global address `a`; spaces
0 to 3 and, for reading, 5. Space 4 is the register pages' own. -/
def State.resolve (s : State) (w : Who) (a n : Nat) : Except Nat Nat :=
  if !(wellPlaced a) then .error codeUnmapped
  else
    let sp := spaceOf a
    if sp = 0 then
      let off := field a 23 0
      if sliceBytes < off + n then .error codeUnmapped
      else match s.slicePhys w (field a 33 24) with
        | none => .error codeUnmapped
        | some c => if s.mayReachCore w c then .ok (t0Addr c off) else .error codeViolation
    else if sp = 3 then
      let off := field a 19 0
      if 2 ^ 20 < off + n then .error codeUnmapped
      else match s.nearPhys w (field a 29 20) with
        | none => .error codeUnmapped
        | some c => if s.mayReachCore w c then .ok (nearAddr c off) else .error codeViolation
    else if sp = 1 then
      if 2 ^ 39 < field a 38 0 + n ∨ s.touchesExpRing a n ∨ !(s.inRegions w a n) then .error codeUnmapped else .ok a
    else if sp = 2 then
      if 0x38000000000 < field a 41 0 + n ∨ s.get Reg.DEVICE.T2_ATTACHED.t2_attached 0 < field a 41 0 + n ∨
          !(s.inRegions w a n) then .error codeUnmapped
      else .ok a
    else if sp = 5 then
      let p := field a 45 36
      let off := field a 35 0
      if s.expRingBytes p < off + n then .error codeUnmapped
      else if s.ownsPart w p then .ok (s.get Reg.PARTITION.T1_BASE.t1_base p + off) else .error codeViolation
    else .error codeUnmapped

/-! ## The page index (R460, R466, R467) -/

/-- Instances of a class and its scope: 0 device, 1 tenant, 2 partition (Table 23.2); none for no class. -/
def classInfo (cls : Nat) : Option (Nat × Nat) :=
  match cls with
  | 0x0000 => some (1, 0) | 0x0040 => some (1, 0) | 0x0080 => some (1, 0) | 0x00C0 => some (1, 0)
  | 0x0100 => some (1, 0) | 0x0140 => some (1, 0) | 0x0180 => some (38, 0) | 0x01C0 => some (4, 0)
  | 0x0200 => some (1024, 1) | 0x0240 => some (1024, 1)
  | 0x0280 => some (1024, 2) | 0x02C0 => some (1024, 2) | 0x0300 => some (1024, 2) | 0x0340 => some (1024, 2)
  | 0x0380 => some (1024, 2) | 0x03C0 => some (1024, 2) | 0x0400 => some (1024, 2) | 0x0440 => some (1024, 2)
  | 0x0480 => some (1024, 2) | 0x04C0 => some (1024, 2) | 0x0500 => some (1024, 2) | 0x0540 => some (1024, 2)
  | 0x0580 => some (1024, 2) | 0x05C0 => some (1024, 2) | 0x0600 => some (1024, 2)
  | _ => none

/-- Does the page exist (R466)? A partition page other than PARTITION needs a LIVE partition whose role has the block. -/
def State.pageExists (s : State) (off : Nat) : Bool :=
  let cls := classOf off
  let i := instOf off
  match classInfo cls with
  | none => false
  | some (n, scope) =>
    decide (off < 2 ^ 32) && decide (i < n) &&
    (if scope ≠ 2 ∨ cls = 0x0280 then true
     else s.life i == 2) &&
    (if cls = 0x0400 ∨ cls = 0x0440 then s.role i != 1
     else if cls = 0x0480 ∨ cls = 0x04C0 ∨ cls = 0x0500 ∨ cls = 0x0600 then s.role i != 0
     else true)

/-- May the requester reach the page (R467, Table 23.3)? A FREE partition's PARTITION page answers to the device key
alone. -/
def State.mayReachPage (s : State) (r : Requester) (off : Nat) : Bool :=
  let cls := classOf off
  let i := instOf off
  let scope := ((classInfo cls).getD (0, 0)).2
  match r with
  | .deviceKey => true
  | .firmware => true
  | .tenantKey t =>
    if scope = 0 then false
    else if scope = 1 then i == t
    else s.life i != 0 && s.owner i == t
  | .coreCode c => scope == 2 && (s.partOf c == some i)

/-- May the requester access the register at a window offset at all (R466, R467)? -/
def State.reach (s : State) (r : Requester) (off : Nat) : Bool := s.pageExists off && s.mayReachPage r off

/-- An access that R467 turns away changes nothing. -/
def State.guard (s : State) (r : Requester) (off : Nat) (t : State) : State := if s.reach r off then t else s

/-- Is the requester core code? -/
def isCoreCode : Requester → Bool
  | .coreCode _ => true
  | _ => false

/-- Is a write to an RWL field of the page dropped (R17, R468, R469)? -/
def State.rwlClosed (s : State) (r : Requester) (off : Nat) : Bool :=
  isCoreCode r || s.getBit Reg.PAGE.LOCK.lock (pageInst (classOf off) (instOf off))

/-- The bits of an 8-byte register that a write of `wide` bytes covers: all, or one half (R461). -/
def halfMask (off : Nat) (wide : Bool) : Nat :=
  if wide then 2 ^ 64 - 1 else if off % 8 = 0 then 2 ^ 32 - 1 else (2 ^ 32 - 1) * 2 ^ 32

/-- `old` with the bits of `mask` taken from `v`. -/
def mergeBits (old mask v : Nat) : Nat := (old &&& (mask ^^^ (2 ^ 64 - 1))) ||| (v &&& mask)

/-- Does a table row's field meet a mask? -/
def RegRow.inMask (r : RegRow) (mask : Nat) : Bool := field mask r.hi r.lo != 0

/-- Bits of a row's field. -/
def RegRow.bits (r : RegRow) : Nat := (2 ^ (r.hi + 1 - r.lo) - 1) * 2 ^ r.lo

/-- The new value of a register whose old value is `old`, each field under its access type (R17): RO and WO fields keep
theirs, RWL fields too where `closed`. -/
def fieldWrite (rows : List RegRow) (closed : Bool) (old mask v : Nat) : Nat :=
  rows.foldl (fun acc r =>
    match r.acc with
    | .rw => mergeBits acc (mask &&& r.bits) v
    | .rwl => if closed then acc else mergeBits acc (mask &&& r.bits) v
    | .w1c => acc ^^^ (acc &&& v &&& mask &&& r.bits)
    | _ => acc) old

/-- Write the register at a window offset (aligned to 8) in a bank; a write that meets a closed RWL field is dropped there
and LOCK_VIOLATION is recorded (R17, R468, R469). -/
def State.writeReg (s : State) (r : Requester) (off bank mask v : Nat) : State :=
  let rows := rowsAt off
  let closed := s.rwlClosed r off
  let key := bank * 2 ^ 32 + off
  let s1 := s.setRegAt key (fieldWrite rows closed (s.regAt key) mask v)
  if closed ∧ rows.any (fun x => x.acc == .rwl && x.inMask mask) then s1.regFault off stLockViolation else s1

end Sys2Proof.Machine
end

