-- ==== Sys2Proof/Machine/Keccak.lean ====
section
/-! DEFINITION. SHAKE256 (FIPS 202), which the spec names for the generator origin (R181), digests and measurements. -/
namespace Sys2Proof.Machine

/-- Rotate a 64-bit lane left. -/
def rot64 (x n : Nat) : Nat := ((x <<< n) ||| (x >>> (64 - n))) % 2 ^ 64

/-- Lane (x, y) of a 25-lane state held as a list. -/
def lane (a : List Nat) (x y : Nat) : Nat := a.getD (x % 5 + 5 * (y % 5)) 0

/-- Rotation offsets of the rho step, lane x + 5y. -/
def keccakRot : List Nat :=
  [0, 1, 62, 28, 27, 36, 44, 6, 55, 20, 3, 10, 43, 25, 39, 41, 45, 15, 21, 8, 18, 2, 61, 56, 14]

/-- Round constants of the iota step. -/
def keccakRC : List Nat :=
  [0x0000000000000001, 0x0000000000008082, 0x800000000000808A, 0x8000000080008000,
   0x000000000000808B, 0x0000000080000001, 0x8000000080008081, 0x8000000000008009,
   0x000000000000008A, 0x0000000000000088, 0x0000000080008009, 0x000000008000000A,
   0x000000008000808B, 0x800000000000008B, 0x8000000000008089, 0x8000000000008003,
   0x8000000000008002, 0x8000000000000080, 0x000000000000800A, 0x800000008000000A,
   0x8000000080008081, 0x8000000000008080, 0x0000000080000001, 0x8000000080008008]

/-- One round. -/
def keccakRound (a : List Nat) (rc : Nat) : List Nat :=
  let c := (upTo 5).map (fun x => lane a x 0 ^^^ lane a x 1 ^^^ lane a x 2 ^^^ lane a x 3 ^^^ lane a x 4)
  let d := (upTo 5).map (fun x => c.getD ((x + 4) % 5) 0 ^^^ rot64 (c.getD ((x + 1) % 5) 0) 1)
  let t := (upTo 25).map (fun i => rot64 (a.getD i 0 ^^^ d.getD (i % 5) 0) (keccakRot.getD i 0))
  -- pi: B[y, 2x+3y] = t[x, y], so B[x', y'] takes x = x' + 3y', y = x'
  let b := (upTo 25).map (fun i => lane t (i % 5 + 3 * (i / 5)) (i % 5))
  let s := (upTo 25).map (fun i =>
    lane b (i % 5) (i / 5) ^^^ ((2 ^ 64 - 1 - lane b (i % 5 + 1) (i / 5)) &&& lane b (i % 5 + 2) (i / 5)))
  s.set 0 (s.getD 0 0 ^^^ rc)

/-- The permutation. -/
def keccakF (a : List Nat) : List Nat := keccakRC.foldl keccakRound a

/-- XOR a 136-byte block into the state. -/
def keccakAbsorb (a : List Nat) (blk : List Byte) : List Nat :=
  (upTo 25).map (fun i => a.getD i 0 ^^^ leNat ((blk.drop (8 * i)).take 8))

/-- Squeeze `n` blocks of 136 bytes. -/
def keccakSqueeze : Nat → List Nat → List Byte
  | 0, _ => []
  | n + 1, a => (a.take 17).flatMap (leBytes 8) ++ keccakSqueeze n (keccakF a)

/-- Cut into 136-byte blocks (fuel). -/
def blocks136 : Nat → List Byte → List (List Byte)
  | 0, _ => []
  | k + 1, l => if l.isEmpty then [] else l.take 136 :: blocks136 k (l.drop 136)

/-- The padded message of SHAKE256. -/
def shakePad (m : List Byte) : List Byte :=
  let z := 135 - m.length % 136
  if z = 0 then m ++ [0x9F]
  else m ++ [0x1F] ++ List.replicate (z - 1) 0 ++ [0x80]

/-- `n` bytes of SHAKE256 of a message. -/
def shake256 (m : List Byte) (n : Nat) : List Byte :=
  let p := shakePad m
  let a := (blocks136 (p.length / 136) p).foldl (fun a b => keccakF (keccakAbsorb a b)) (List.replicate 25 0)
  (keccakSqueeze (ceilDiv n 136) a).take n

/-- The bytes of an ASCII text. -/
def ascii (s : String) : List Byte := s.toList.map (fun c => BitVec.ofNat 8 c.toNat)

end Sys2Proof.Machine
end

