-- ==== Sys2Proof/Machine/Boot.lean ====
section
/-! DEFINITION. Boot, identity and attestation (chapter 21). Commands COLD_BOOT to QUOTE_DONE. -/
namespace Sys2Proof.Machine

/-! ## Measurements (R437) -/

/-- A measurement register: 64 bytes, zero until formed. -/
def State.meas (s : State) (i : Nat) : List Byte := Map.getD s.boot.meas i (List.replicate 64 0)

/-- M7 of a tenant is register 16 + t. -/
def measTenant (t : Nat) : Nat := 16 + t

/-- Set a measurement register. -/
def State.setMeas (s : State) (i : Nat) (m : List Byte) : State := s.onBoot (fun b => { b with meas := Map.put b.meas i m })

/-- Extend a measurement register. -/
def State.extendMeas (s : State) (i : Nat) (data : List Byte) : State := s.setMeas i (shake256 (s.meas i ++ data) 64)

/-- Put bytes into consecutive registers from a window offset, eight each. -/
def State.setRegBytes (s : State) (off : Nat) : Nat → List Byte → State
  | 0, _ => s
  | n + 1, bs => if bs.isEmpty then s else (s.setRegAt off (leNat (bs.take 8))).setRegBytes (off + 8) n (bs.drop 8)

/-- Eight bytes of each of `n` registers from a window offset. -/
def State.regBytes (s : State) (off n : Nat) : List Byte := (upTo n).flatMap (fun i => leBytes 8 (s.regAt (off + 8 * i)))

/-! ## The boot responder (R430, R431) -/

/-- State of the boot (Table 21.6): 0 INIT, 1 LISTENING, 2 VERIFYING, 3 KEYING, 4 RUNNING. -/
def State.bootState (s : State) : Nat := s.get Reg.BOOT.STATUS.state 0

/-- Move the boot to a state. -/
def State.setBootState (s : State) (v : Nat) : State := s.set Reg.BOOT.STATUS.state 0 v

/-- The staging area's address in T1 (R430). -/
def stagingBase : Nat := t1Addr 0x7FFC000000

/-- Bytes of the staging area. -/
def stagingBytes : Nat := 0x4000000

/-- Has some bridge lost both channels of a pair? `mask` has bit 8g + k for each channel in service (R54, R55). -/
def pairLost (mask : Nat) : Bool := (upTo 32).any (fun i => field mask (2 * i + 1) (2 * i) == 0)

/-- The fuse words that M3 measures. -/
def fuseWords (f : Fuses) : List Byte := leBytes 128 f.coreMask ++ leBytes 8 f.minSvn ++ leBytes 8 f.revoked

/-- The identity key pair (R436). -/
def State.identityKey (s : State) : List Byte × List Byte :=
  Config.falconKeygen (shake256 (ascii "PLX-DIK1" ++ s.fuses.secret) 48)

/-- COLD_BOOT (release of RESET_N) up to the open responder (R429): `channels` are the bridge channels and `t1` the T1 interfaces that trained.
With a pair of channels lost the responder serves reads alone (R55). -/
def State.coldBoot (s : State) (channels t1 : Nat) : State :=
  if !s.pins.resetLow then s
  else
    let s1 := (({ s with pins := { s.pins with resetLow := false } }.setMeas 0 Config.romDigest).setMeas 3 (shake256 (fuseWords s.fuses) 64)).set Reg.DEVICE.BRIDGE_MASK.channels 0 channels
    let s2 := (upTo 4).foldl (fun u p => (u.set Reg.HPORT.STATUS.state p 2).set Reg.HPORT.STATUS.lanes_up p 3) s1
    let s3 := if field t1 31 0 = 2 ^ 32 - 1 then s2.set Reg.DEVICE.T1.t1_bytes 0 (2 ^ 39) else s2
    if pairLost channels then
      (((s3.onBoot (fun b => { b with bridgeFailed := true })).pageFault 0 stBridgeFailed 0 0).set Reg.PAGE.STATUS.block 0 2).set
        Reg.BOOT.STATUS.result 0 9
    else
      let k := s3.identityKey
      ((((s3.zeroRange stagingBase stagingBytes).onBoot (fun b => { b with dik := some k })).setRegBytes
        Reg.BOOT.DIK_DIGEST.reg.reg 8 (shake256 k.2 64))).setBootState 1

/-- COLD_BOOT. -/
def execColdBoot (channels t1 : Nat) (s : State) : Res := .next (s.coldBoot channels t1)

/-- Begin the verification of a staged image of `len` bytes. -/
def State.beginVerify (s : State) (len : Nat) (warm : Bool) : State :=
  (s.onBoot (fun b => { b with image := len, warm := warm })).setBootState 2

/-! ## The image (R432, R433) -/

/-- A field of the staged header. -/
def State.imgN (s : State) (off n : Nat) : Nat := s.readN (stagingBase + off) n

/-- Are `n` staged bytes zero? -/
def State.imgZero (s : State) (off n : Nat) : Bool := (s.readBytes (stagingBase + off) n).all (fun b => b == 0)

/-- Check 1: FORMAT. -/
def State.imgFormatBad (s : State) (len : Nat) : Bool :=
  let code := s.imgN 0x14 4
  let cfg := s.imgN 0x18 4
  let entry := s.imgN 0x1C 4
  s.readBytes stagingBase 8 != ascii "PLXFWIM1" || s.imgN 8 4 != 1 ||
  decide (code < 4096) || decide (8 * 2 ^ 20 < code) || code % 4096 != 0 || decide (2 ^ 20 < cfg) || cfg % 4096 != 0 ||
  entry % 4 != 0 || decide (code ≤ entry) || !(s.imgZero 0x20 32) || !(s.imgZero 0x781 127) || !(s.imgZero 0xD00 768) ||
  len != 4096 + code + cfg

/-- Code and configuration block. -/
def State.imgBody (s : State) : List Byte := s.readBytes (stagingBase + 4096) (s.imgN 0x14 4 + s.imgN 0x18 4)

/-- The result of the verification (Table 21.3): 1 OK, or the first check that fails; the signature check's outcome is the
command's. A poisoned read replaces the checks not yet made. -/
def State.verifyResult (s : State) (sigOk : Bool) : Nat :=
  if s.poisoned stagingBase 4096 then 8
  else if s.imgFormatBad s.boot.image then 2
  else
    let slot := s.imgN 0x10 4
    if 3 < slot ∨ shake256 (s.readBytes (stagingBase + 0x80) 1793) 64 ≠ Config.romKeyDigest slot then 3
    else if s.fuses.revoked.testBit slot then 4
    else if s.imgN 0xC 4 < s.fuses.minSvn then 5
    else if s.poisoned (stagingBase + 4096) (s.imgN 0x14 4 + s.imgN 0x18 4) then 8
    else if shake256 s.imgBody 64 ≠ s.readBytes (stagingBase + 0x40) 64 then 6
    else if sigOk then 1 else 7

/-- The verification ends (R433). -/
def State.imageVerified (s : State) (sigOk : Bool) : State :=
  if s.bootState ≠ 2 then s
  else
    let r := s.verifyResult sigOk
    let s1 := s.set Reg.BOOT.STATUS.result 0 r
    if r = 1 then
      let s2 := (s1.setMeas 1 (shake256 (s.readBytes stagingBase 0x80 ++ s.readBytes (stagingBase + 0x80) 1793) 64)).setMeas 2
        (shake256 (s.readBytes (stagingBase + 4096 + s.imgN 0x14 4) (s.imgN 0x18 4)) 64)
      s2.setBootState 3
    else (s1.bump Reg.BOOT.FAILS.fails 0 1).setBootState 1

/-- IMAGE_VERIFIED. -/
def execImageVerified (sigOk : Bool) (s : State) : Res := .next (s.imageVerified sigOk)

/-! ## Keys (R436) and the start of the firmware (R429) -/

/-- M0 to M3. -/
def State.bootMeas (s : State) : List Byte := s.meas 0 ++ s.meas 1 ++ s.meas 2 ++ s.meas 3

/-- The attestation key pair. -/
def State.attestKey (s : State) : List Byte × List Byte :=
  Config.falconKeygen (shake256 (ascii "PLX-AK1" ++ s.fuses.secret ++ s.bootMeas) 48)

/-- The boot certificate. -/
def State.bootCert (s : State) : List Byte :=
  let body := ascii "PLXBCRT1" ++ leBytes 8 s.fuses.serial.toNat ++ leBytes 4 (s.imgN 0xC 4) ++ leBytes 44 0 ++
    s.attestKey.2.take 1793 ++ leBytes 7 0 ++ s.bootMeas
  body ++ Config.falconSign s.identityKey.1 body

/-- What the firmware sets after a cold boot. -/
def State.firmwareSets (s : State) (x : FirmwareSetup) : State :=
  let s1 := ((s.set Reg.DEVICE.T2_ATTACHED.t2_attached 0 x.t2Bytes).set Reg.DEVICE.FABRIC_ID.device 0 x.fabricId)
  let s2 := x.portCfg.foldl (fun u p => if p.1 < 38 then u.setRegAt (regOff Reg.PORT.CFG.reg p.1) (p.2 &&& 0x1C1) else u) s1
  let s3 := x.quotas.foldl (fun u q => u.set Reg.HOST.QPS.qp_quota (q.1 % 1024) q.2) s2
  let s4 := ((s3.set Reg.TWIN_LINK.STORE_BASE.store_base 0 x.storeBase).set Reg.TWIN_LINK.STORE_CFG.channels 0
    (min 16 x.storeChannels)).set Reg.TWIN_LINK.STORE_CFG.slot_len 0 (x.slotLen / 4096 * 4096)
  (s4.set Reg.TIME.SOURCES.sources 0 x.sources).onHost (fun h => { h with deviceKey := some x.deviceKey })

/-- A port trained on `lanes` (R329): UP on all eight, DEGRADED on one half. -/
def State.portTrained (s : State) (port lanes : Nat) : State :=
  if lanes % 256 = 0 ∨ !(s.getBit Reg.PORT.CFG.enable port) then s
  else (s.set Reg.PORT.STATUS.lanes_up port lanes).set Reg.PORT.STATUS.state port (if lanes % 256 = 255 then 2 else 3)

/-- Record the slices that failed a T0 self-test (R484, R429). -/
def State.t0Results (s : State) (failed : List Nat) : State :=
  let m := failed.foldl (fun acc c => acc ||| 2 ^ (c % 1024)) 0
  ((upTo 16).foldl (fun u i => u.setRegAt (Reg.DEVICE.T0_BIST_FAIL.reg.reg + 8 * i) (field m (64 * i + 63) (64 * i))) s).set
    Reg.DEVICE.TEST_STATUS.t0_failed 0 ((upTo 1024).filter (fun c => m.testBit c)).length

/-- A slice is overwritten by the test: R484 does not say with what, so its bytes are free values. -/
def State.overwriteSlice (s : State) (c : Nat) : State :=
  let x := s.freeBytes sliceBytes
  x.2.writeBytes (t0Addr c 0) x.1

/-- The core above each failing slice is retired (R7, R484). -/
def State.t0Retire (s : State) (failed : List Nat) : State :=
  failed.foldl (fun t c =>
    let f : Fld := ⟨Reg.DEVICE.RETIRED.reg.reg + 8 * (c % 1024 / 64), 63, 0⟩
    t.set f 0 (t.get f 0 ||| 2 ^ (c % 64))) s

/-- The T0 self-test of a cold boot (R484): every slice is overwritten, its results recorded, the failing slices' cores retired. -/
def State.t0Boot (s : State) (failed : List Nat) : State :=
  (upTo 1024).foldl (fun t c => t.overwriteSlice c) ((s.t0Results failed).t0Retire failed)

/-- Set a bit of DEVICE.STATUS: 0 ready, 1 fault, 2 deep of the block field. -/
def State.deviceStatus (s : State) (i : Nat) (b : Bool) : State :=
  s.set Reg.PAGE.STATUS.block 0 (setBit (s.get Reg.PAGE.STATUS.block 0) i b)

/-- BOOT_KEYS_DERIVED: the keys and the certificate, then the firmware runs. After a warm reset the firmware's registers are
kept, and only the trained ports are the command's. -/
def State.keysDerived (s : State) (x : FirmwareSetup) : State :=
  if s.bootState ≠ 3 then s
  else
    let k := s.attestKey
    let s1 := (s.setRegBytes Reg.BOOT.CERT.reg.reg 425 s.bootCert).set Reg.BOOT.SVN.svn 0 (s.imgN 0xC 4)
    let s2 := ((s1.onBoot (fun b => { b with ak := some k.1, dik := none })).onTwin (fun t => { t with fwAt := s.timer })).setBootState 4
    let s3 := if s.boot.warm then s2 else (s2.firmwareSets x).t0Boot x.t0Failed
    (x.lanes.foldl (fun u p => if p.1 < 38 then u.portTrained p.1 p.2 else u) s3).deviceStatus 0 true

/-- BOOT_KEYS_DERIVED. -/
def execBootKeysDerived (setup : FirmwareSetup) (s : State) : Res := .next (s.keysDerived setup)

/-- Blow fuses until min_svn is the running svn (R434). -/
def State.commitSvn (s : State) : State :=
  let v := min 63 (s.get Reg.BOOT.SVN.svn 0)
  if s.fuses.minSvn < v then { s with fuses := { s.fuses with minSvn := v } } else s

/-- COMMIT_SVN. -/
def execCommitSvn (r : Requester) (s : State) : Res := .next (s.guard r Reg.BOOT.CTRL.commit_svn.reg s.commitSvn)

/-! ## Quotes (R438) -/

/-- QUOTE of a tenant's ATTEST page: latch the nonce, the measurements and the fabric time. -/
def State.quote (s : State) (t : Nat) : State :=
  if s.get Reg.ATTEST.STATUS.state t = 1 then s.regFault (regOff Reg.ATTEST.CTRL.cmd t) stSchedBusy
  else
    let m := (upTo 7).flatMap (fun i => s.meas i) ++ s.meas (measTenant t)
    let l := leBytes 8 s.now ++ s.regBytes (regOff Reg.ATTEST.NONCE.reg t) 8 ++ m
    (s.onBoot (fun b => { b with latched := Map.put b.latched t l })).set Reg.ATTEST.STATUS.state t 1

/-- QUOTE. -/
def execQuote (r : Requester) (tenant : Nat) (s : State) : Res :=
  onTid tenant (.next (s.guard r (regOff Reg.ATTEST.CTRL.cmd tenant) (s.quote tenant)))

/-- The quote is signed and written (Table 21.5). -/
def State.quoteDone (s : State) (t : Nat) : State :=
  match Map.find s.boot.latched t with
  | none => s
  | some l =>
    if s.get Reg.ATTEST.STATUS.state t ≠ 1 then s
    else
      let n := s.boot.quotes + 1
      let body := ascii "PLXQUOT1" ++ leBytes 8 s.fuses.serial.toNat ++ l.take 8 ++ leBytes 4 n ++ leBytes 2 t ++
        leBytes 2 (s.get Reg.DEVICE.FABRIC_ID.device 0) ++ leBytes 32 0 ++ l.drop 8
      let s1 := s.setRegBytes (regOff Reg.ATTEST.QUOTE.reg t) 240 (body ++ Config.falconSign (s.boot.ak.getD []) body)
      ((s1.onBoot (fun b => { b with latched := Map.del b.latched t, quotes := n })).set Reg.ATTEST.STATUS.state t 2).raise
        0x0240 t 0 (n % 2 ^ 32)

/-- QUOTE_DONE. -/
def execQuoteDone (tenant : Nat) (s : State) : Res := onTid tenant (.next (s.quoteDone tenant))

end Sys2Proof.Machine
end

