-- ==== Sys2Proof/Machine/Fp.lean ====
section
/-! DEFINITION. Exact binary numbers, the element formats of Table 6.1, and the one rounding step every operation
shares (R146, R156-R160). A number is an integer times a power of two; nothing is rounded but by `roundMag`. -/
namespace Sys2Proof.Machine

/-- The exact number m × 2^e. -/
structure Dy where
  m : Int
  e : Int
  deriving DecidableEq, Repr

/-- m shifted left by the non-negative difference of two exponents. -/
def Dy.alignTo (d : Dy) (e : Int) : Int := d.m * (2 ^ (d.e - e).toNat : Nat)

/-- Exact sum. -/
def Dy.add (a b : Dy) : Dy :=
  let e := min a.e b.e
  ⟨a.alignTo e + b.alignTo e, e⟩

/-- Exact negation. -/
def Dy.neg (a : Dy) : Dy := ⟨-a.m, a.e⟩

/-- Exact difference. -/
def Dy.sub (a b : Dy) : Dy := Dy.add a (Dy.neg b)

/-- Exact product. -/
def Dy.mul (a b : Dy) : Dy := ⟨a.m * b.m, a.e + b.e⟩

/-- Exact product with 2^k. -/
def Dy.scale (a : Dy) (k : Int) : Dy := ⟨a.m, a.e + k⟩

/-- Exact comparison. -/
def Dy.lt (a b : Dy) : Bool :=
  let e := min a.e b.e
  decide (a.alignTo e < b.alignTo e)

/-- Exact comparison, or equal. -/
def Dy.le (a b : Dy) : Bool := !(Dy.lt b a)

/-- The largest integer not above. -/
def Dy.floor (a : Dy) : Int :=
  if 0 ≤ a.e then a.m * (2 ^ a.e.toNat : Nat) else Int.fdiv a.m (2 ^ (-a.e).toNat : Nat)

/-- An integer as an exact number. -/
def Dy.int (n : Int) : Dy := ⟨n, 0⟩

/-- floor(log2 |a|) of a non-zero number. -/
def Dy.ilog (a : Dy) : Int := (a.m.natAbs.log2 : Int) + a.e

/-- A floating-point datum: NaN, an infinity, or a signed magnitude m × 2^e (m = 0 is a signed zero). -/
inductive Val where
  | nan
  | inf (neg : Bool)
  | num (neg : Bool) (m : Nat) (e : Int)
  deriving DecidableEq, Repr

/-- The exact number of a finite datum (0 for the others, which callers exclude). -/
def Val.dy : Val → Dy
  | .num n m e => ⟨if n then -(m : Int) else m, e⟩
  | _ => ⟨0, 0⟩

/-- A signed magnitude from an exact number; `zneg` is the sign of a zero. -/
def Dy.val (zneg : Bool) (d : Dy) : Val :=
  if d.m = 0 then .num zneg 0 0 else .num (decide (d.m < 0)) d.m.natAbs d.e

/-- The sticky flags of FPFLAGS (Table 6.6): saturate, inexact, underflow, overflow, invalid. -/
abbrev Flags := BitVec 5

/-- invalid, bit 0 of FPFLAGS. -/
def flInvalid : Flags := 0b00001#5
/-- overflow, bit 1 of FPFLAGS. -/
def flOverflow : Flags := 0b00010#5
/-- underflow, bit 2 of FPFLAGS. -/
def flUnderflow : Flags := 0b00100#5
/-- inexact, bit 3 of FPFLAGS. -/
def flInexact : Flags := 0b01000#5
/-- saturate, bit 4 of FPFLAGS. -/
def flSaturate : Flags := 0b10000#5
/-- The flag `f` when `b`, else none. -/
def flIf (b : Bool) (f : Flags) : Flags := if b then f else 0

/-- How a value is rounded (R158, R160): to nearest-even, or stochastically with r bits taken from the top of a random
word. -/
inductive Rounding where
  | nearest
  | stochastic (r : Nat) (word : Word)
  deriving DecidableEq, Repr

/-- Does the magnitude lo + (rem / 2^sh) units round up (R160 steps 3 to 5; nearest-even otherwise)? -/
def roundsUp (rnd : Rounding) (lo rem sh : Nat) : Bool :=
  match rnd with
  | .nearest => decide (2 ^ sh < 2 * rem) || (decide (2 * rem = 2 ^ sh) && lo % 2 == 1)
  | .stochastic r w => decide (2 ^ r ≤ rem * 2 ^ r / 2 ^ sh + w.toNat / 2 ^ (32 - r)) && decide (rem ≠ 0)

/-- Round the magnitude m × 2^e to a multiple of 2^k: the multiple, and whether it is inexact. -/
def roundAt (rnd : Rounding) (m : Nat) (e k : Int) : Nat × Bool :=
  if k ≤ e then (m * 2 ^ (e - k).toNat, false)
  else
    let sh := (k - e).toNat
    let lo := m / 2 ^ sh
    let rem := m % 2 ^ sh
    (if roundsUp rnd lo rem sh then lo + 1 else lo, decide (rem ≠ 0))

/-- A binary format: p significand bits (with the leading one), the exponent `qmin` of its smallest subnormal, and the
largest exponent `emax` of a normal number (R146, Table 6.1). -/
structure FpFmt where
  p : Nat
  qmin : Int
  emax : Int
  deriving DecidableEq, Repr

/-- FP32 (Table 6.1). -/
def fmtFP32 : FpFmt := ⟨24, -149, 127⟩
/-- BF16 (Table 6.1). -/
def fmtBF16 : FpFmt := ⟨8, -133, 127⟩

/-- The smallest normal exponent of a format. -/
def FpFmt.emin (f : FpFmt) : Int := f.qmin + (f.p : Int) - 1

/-- The exponent of the unit in the last place at magnitude m × 2^e, the subnormal spacing included (R160 step 1). -/
def FpFmt.ulp (f : FpFmt) (m : Nat) (e : Int) : Int :=
  max ((m.log2 : Int) + e - ((f.p : Int) - 1)) f.qmin

/-- The result of rounding a magnitude: q × 2^k with inexact, or beyond the format's range. -/
structure Rounded where
  q : Nat
  k : Int
  inexact : Bool
  deriving DecidableEq, Repr

/-- Round a magnitude to a format, its range unbounded above. -/
def FpFmt.round (f : FpFmt) (rnd : Rounding) (m : Nat) (e : Int) : Rounded :=
  if m = 0 then ⟨0, f.qmin, false⟩
  else
    let k := f.ulp m e
    let r := roundAt rnd m e k
    ⟨r.1, k, r.2⟩

/-- Is the rounded magnitude at or above 2^(emax+1)? -/
def FpFmt.beyond (f : FpFmt) (r : Rounded) : Bool := r.q ≠ 0 && decide (f.emax < (r.q.log2 : Int) + r.k)

/-- Is the rounded magnitude of a non-zero value below the smallest normal (R157)? A value rounded to zero is (R169). -/
def FpFmt.tiny (f : FpFmt) (r : Rounded) : Bool := decide ((r.q.log2 : Int) + r.k < f.emin)

/-- Pack a rounded in-range magnitude into exponent and fraction fields of a format with IEEE encoding. -/
def FpFmt.pack (f : FpFmt) (r : Rounded) : Nat :=
  -- a multiple q of 2^k; normal when q has p bits
  if r.q < 2 ^ (f.p - 1) then r.q
  else
    let l := r.q.log2
    let ex := (l : Int) + r.k - f.emin + 1
    let frac := if l + 1 = f.p then r.q - 2 ^ (f.p - 1) else r.q / 2 ^ (l + 1 - f.p) - 2 ^ (f.p - 1)
    ex.toNat * 2 ^ (f.p - 1) + frac

/-- The canonical NaN (R131). -/
def canonNaN : Word := 0x7FC00000#32
/-- ±∞ in FP32. -/
def infW (neg : Bool) : Word := if neg then 0xFF800000#32 else 0x7F800000#32
/-- ±0 in FP32. -/
def zeroW (neg : Bool) : Word := if neg then 0x80000000#32 else 0#32

/-- Decode an FP32 pattern (R146). -/
def decF32 (w : Word) : Val :=
  let n := w.toNat
  let neg := n.testBit 31
  let ex := field n 30 23
  let fr := field n 22 0
  if ex = 255 then (if fr = 0 then .inf neg else .nan)
  else if ex = 0 then .num neg fr (-149)
  else .num neg (fr + 2 ^ 23) ((ex : Int) - 150)

/-- Decode a BF16 pattern: the upper half of an FP32 pattern (R156). -/
def decBF16 (h : Nat) : Val := decF32 (BitVec.ofNat 32 (h * 65536))

/-- Round a finite datum to FP32: ±∞ with overflow and inexact beyond the range, underflow under R157. -/
def roundF32 (rnd : Rounding) (neg : Bool) (m : Nat) (e : Int) : Word × Flags :=
  let r := fmtFP32.round rnd m e
  if fmtFP32.beyond r then (infW neg, flOverflow ||| flInexact)
  else (BitVec.ofNat 32 (ofBool neg * 2 ^ 31 + fmtFP32.pack r),
        flIf r.inexact flInexact ||| flIf (r.inexact && fmtFP32.tiny r) flUnderflow)

/-- Encode any datum as FP32, rounding a finite one. -/
def encF32 (rnd : Rounding) : Val → Word × Flags
  | .nan => (canonNaN, 0)
  | .inf n => (infW n, 0)
  | .num n m e => roundF32 rnd n m e

/-- Round an exact number to FP32 nearest-even; `zneg` is the sign of an exact zero. -/
def dyF32 (zneg : Bool) (d : Dy) : Word × Flags := encF32 .nearest (d.val zneg)

/-- Is the pattern a NaN? -/
def isNaN32 (w : Word) : Bool := decF32 w == .nan

/-- Exact sum of two data with the IEEE sign of zero, and invalid for ∞ − ∞ (R131). -/
def Val.add : Val → Val → Val × Flags
  | .nan, _ => (.nan, 0)
  | _, .nan => (.nan, 0)
  | .inf a, .inf b => if a = b then (.inf a, 0) else (.nan, flInvalid)
  | .inf a, .num .. => (.inf a, 0)
  | .num .., .inf b => (.inf b, 0)
  | .num a m e, .num b n f =>
    let d := Dy.add (Val.dy (.num a m e)) (Val.dy (.num b n f))
    (d.val (a && b), 0)

/-- Exact product, and invalid for 0 × ∞ (R131). -/
def Val.mul : Val → Val → Val × Flags
  | .nan, _ => (.nan, 0)
  | _, .nan => (.nan, 0)
  | .inf a, .inf b => (.inf (a != b), 0)
  | .inf a, .num b m _ => if m = 0 then (.nan, flInvalid) else (.inf (a != b), 0)
  | .num a m _, .inf b => if m = 0 then (.nan, flInvalid) else (.inf (a != b), 0)
  | .num a m e, .num b n f => (.num (a != b) (m * n) (e + f), 0)

/-- Sign flipped. -/
def Val.neg : Val → Val
  | .nan => .nan
  | .inf a => .inf (!a)
  | .num a m e => .num (!a) m e

/-- FP32 sum, rounded once to nearest-even. -/
def fadd (x y : Word) : Word × Flags :=
  let (v, f) := Val.add (decF32 x) (decF32 y)
  let (w, g) := encF32 .nearest v
  (w, f ||| g)

/-- FP32 difference. -/
def fsub (x y : Word) : Word × Flags := 
  let (v, f) := Val.add (decF32 x) (Val.neg (decF32 y))
  let (w, g) := encF32 .nearest v
  (w, f ||| g)

/-- FP32 product. -/
def fmul (x y : Word) : Word × Flags :=
  let (v, f) := Val.mul (decF32 x) (decF32 y)
  let (w, g) := encF32 .nearest v
  (w, f ||| g)

/-- FP32 x × y + z with one rounding (R156). -/
def ffma (x y z : Word) : Word × Flags :=
  let (v, f) := Val.mul (decF32 x) (decF32 y)
  let (u, g) := Val.add v (decF32 z)
  let (w, h) := encF32 .nearest u
  (w, f ||| g ||| h)

/-- Compare two non-NaN data as numbers: less. -/
def Val.ltNum : Val → Val → Bool
  | .inf a, .inf b => a && !b
  | .inf a, _ => a
  | _, .inf b => !b
  | x, y => Dy.lt (Val.dy x) (Val.dy y)

/-- The quiet comparisons of VFCMP: EQ, LT, LE, UNORD, NE (R110, R156). -/
def fcmp (func : Nat) (x y : Word) : Bool :=
  let a := decF32 x
  let b := decF32 y
  let un := a == .nan || b == .nan
  let lt := !un && Val.ltNum a b
  let gt := !un && Val.ltNum b a
  let eq := !un && !lt && !gt
  match func with
  | 0 => eq
  | 1 => lt
  | 2 => lt || eq
  | 3 => un
  | _ => !eq

/-- minimumNumber: −0 below +0, a NaN beside a number gives the number (R110). -/
def fmin (x y : Word) : Word :=
  match decF32 x, decF32 y with
  | .nan, .nan => canonNaN
  | .nan, _ => y
  | _, .nan => x
  | a, b => if Val.ltNum a b then x else if Val.ltNum b a then y else if x.msb then x else y

/-- maximumNumber. -/
def fmax (x y : Word) : Word :=
  match decF32 x, decF32 y with
  | .nan, .nan => canonNaN
  | .nan, _ => y
  | _, .nan => x
  | a, b => if Val.ltNum a b then y else if Val.ltNum b a then x else if x.msb then y else x

/-- An exponent no further out than ±1,000, which changes no rounded FP32 or INT64 result of an FP32 operand. -/
def clampExp (n : Int) : Int := max (-1000) (min 1000 n)

/-- scaleB: x × 2^n rounded once (R110, R156). -/
def fscale (x : Word) (n : Int) : Word × Flags :=
  match decF32 x with
  | .num s m e => roundF32 .nearest s m (e + clampExp n)
  | v => encF32 .nearest v

/-- Round a datum to an integer of `n` bits, two's complement: NaN gives 0 with invalid; beyond the range the nearest
end of it, with the flag `ofl` (Table 4.13). -/
def toIntRnd (rnd : Rounding) (n : Nat) (ofl : Flags) : Val → Int × Flags
  | .nan => (0, flInvalid)
  | .inf s => (if s then -(2 ^ (n - 1) : Nat) else (2 ^ (n - 1) : Nat) - 1, ofl)
  | .num s m e =>
    let (q, ix) := roundAt rnd m e 0
    let v : Int := if s then -(q : Int) else q
    if v < -(2 ^ (n - 1) : Nat) then (-(2 ^ (n - 1) : Nat), ofl)
    else if ((2 ^ (n - 1) : Nat) : Int) ≤ v then ((2 ^ (n - 1) : Nat) - 1, ofl)
    else (v, flIf ix flInexact)

/-- VCVTI: FP32 to INT32 (Table 4.13: range invalid). -/
def cvtI32 (rnd : Rounding) (x : Word) : Word × Flags :=
  let (v, f) := toIntRnd rnd 32 flInvalid (decF32 x)
  (BitVec.ofInt 32 v, f)

/-- VCVTF: INT32 to FP32, nearest-even. -/
def cvtF32 (x : Word) : Word × Flags := dyF32 false (Dy.int x.toInt)

/-- VFIX: x × 2^n to INT64 (Table 4.13: range overflow). -/
def fix64 (rnd : Rounding) (x : Word) (n : Int) : DWord × Flags :=
  let v := match decF32 x with
    | .num s m e => Val.num s m (e + clampExp n)
    | v => v
  let (q, f) := toIntRnd rnd 64 flOverflow v
  (BitVec.ofInt 64 q, f)

/-- VFLT: FP32 of x × 2^−n, nearest-even. -/
def flt64 (x : DWord) (n : Int) : Word × Flags := dyF32 false ⟨x.toInt, -(clampExp n)⟩

/-- floor(log2 |x|) of a lane as VEXPMAX takes it: none for a zero, 128 for a NaN or an infinity (R111). -/
def expOf (x : Word) : Option Int :=
  match decF32 x with
  | .num _ m e => if m = 0 then none else some ((m.log2 : Int) + e)
  | _ => some 128

end Sys2Proof.Machine
end

