-- ==== Sys2Proof/Machine/Formats.lean ====
section
/-! DEFINITION. The element formats of Table 4.1 and 6.1, the element plane (R148), block scales (R149), reading an MX
operand (R150, R151) and converting into a format (R152, R155). -/
namespace Sys2Proof.Machine

/-- Element width in bits by format code (Table 4.1); 0 for a reserved code. -/
def elemBits (code : Nat) : Nat :=
  match code with
  | 0 => 32 | 1 => 16 | 2 => 8 | 3 => 8 | 4 => 6 | 5 => 6 | 6 => 4 | 7 => 8 | 8 => 32 | 9 => 64 | 10 => 8
  | _ => 0

/-- Is the code an MX format (0x2 to 0x7)? -/
def isMX (code : Nat) : Bool := decide (2 ≤ code) && decide (code ≤ 7)

/-- Is the code FP32, BF16 or an MX format? -/
def isFloatFmt (code : Nat) : Bool := decide (code ≤ 7)

/-- Exponent and mantissa widths and bias of an MX floating-point element (Table 6.1). -/
def mxLayout (code : Nat) : Nat × Nat × Nat :=
  match code with
  | 2 => (4, 3, 7)
  | 3 => (5, 2, 15)
  | 4 => (2, 3, 1)
  | 5 => (3, 2, 3)
  | _ => (2, 1, 1)

/-- emax of the element format as the scale rule takes it (Table 6.1; 0 for MXINT8). -/
def mxEmax (code : Nat) : Int :=
  match code with
  | 2 => 8 | 3 => 15 | 4 => 2 | 5 => 4 | 6 => 2 | _ => 0

/-- The encoding of the largest finite magnitude of an MX element (Table 6.1, R147). -/
def mxMaxBits (code : Nat) : Nat :=
  match code with
  | 2 => 0x7E | 3 => 0x7B | 4 => 0x1F | 5 => 0x1F | 6 => 0x7 | _ => 0x7F

/-- The value of an element pattern without its block scale. An MX subnormal is zero of the same sign (R150). -/
def decElem (code bits : Nat) : Val :=
  match code with
  | 0 => decF32 (BitVec.ofNat 32 bits)
  | 1 => decBF16 bits
  | 7 =>
    let i := sext 8 bits
    .num (decide (i < 0)) i.natAbs (-6)
  | 8 => Dy.val false (Dy.int (sext 32 bits))
  | _ =>
    let (eb, mb, bias) := mxLayout code
    let neg := bits.testBit (eb + mb)
    let ex := field bits (eb + mb - 1) mb
    let fr := bits % 2 ^ mb
    if code = 2 ∧ ex = 15 ∧ fr = 7 then .nan
    else if code = 3 ∧ ex = 31 then (if fr = 0 then .inf neg else .nan)
    else if ex = 0 then .num neg 0 0
    else .num neg (fr + 2 ^ mb) ((ex : Int) - bias - mb)

/-- The value of an MX element under its block scale byte (R149): scale 0xFF is NaN. -/
def scaleVal (scale : Nat) : Val → Val
  | .num s m e => if scale = 255 then .nan else .num s m (e + (scale : Int) - 127)
  | v => if scale = 255 then .nan else v

/-- An element read as a conversion's source: its exact value, its sign bit, and whether it came from an MX operand, whose
NaN elements set no flag (R151). -/
structure SrcEl where
  v : Val
  sign : Bool
  mx : Bool
  deriving DecidableEq, Repr

/-- Read one element as a conversion's source: the value, and invalid for a block scale of 0xFF (R151). -/
def srcElem (code bits scale : Nat) : SrcEl × Flags :=
  let sign := bits.testBit (elemBits code - 1)
  if isMX code then
    (⟨scaleVal scale (decElem code bits), sign && scale ≠ 255, true⟩, flIf (scale = 255) flInvalid)
  else (⟨decElem code bits, sign, false⟩, 0)

/-- Round a finite magnitude to an MX element (R152 steps 3 and 4): the pattern without sign, and the flags. -/
def roundElem (code : Nat) (rnd : Rounding) (m : Nat) (e : Int) : Nat × Flags :=
  if code = 7 then
    let (q, ix) := roundAt rnd m e (-6)
    if 127 < q then (127, flSaturate ||| flInexact) else (q, flIf ix flInexact)
  else
    let (_, mb, bias) := mxLayout code
    let f : FpFmt := ⟨mb + 1, 1 - (bias : Int) - mb, mxEmax code⟩
    let r := f.round rnd m e
    let big := f.beyond r || decide (mxMaxBits code < f.pack r)
    if big then (mxMaxBits code, flSaturate ||| flInexact)
    else (f.pack r, flIf r.inexact flInexact ||| flIf (r.inexact && f.tiny r) flUnderflow)

/-- Give a magnitude pattern its sign: two's complement for MXINT8, a sign bit otherwise. -/
def signElem (code : Nat) (neg : Bool) (q : Nat) : Nat :=
  if neg then (if code = 7 then (256 - q) % 256 else q + 2 ^ (elemBits code - 1)) else q

/-- Is the element non-finite for this destination (R152 step 1): a NaN, or an infinity unless the format is E5M2? -/
def nonFiniteFor (code : Nat) (v : Val) : Bool :=
  match v with
  | .nan => true
  | .inf _ => code ≠ 3
  | .num .. => false

/-- The scale exponent of a block (R152 step 2); none where no value is finite and non-zero. A scale above 0xFE (only an
MX source reaches it) is held at 0xFE, and step 4 saturates. -/
def blockScale (code : Nat) (vs : List Val) : Option Int :=
  let logs := vs.filterMap (fun v => match v with
    | .num _ m e => if m = 0 then none else some ((m.log2 : Int) + e)
    | _ => none)
  match logs with
  | [] => none
  | l :: ls => some (min 127 (max (-127) (ls.foldl max l - mxEmax code)))

/-- One element of a block with its scale exponent fixed (R152 steps 1, 3 and 4). -/
def convElem (code : Nat) (k : Int) (rnd : Rounding) (x : SrcEl) : Nat × Flags :=
  match x.v with
  | .nan =>
    let c := if code = 3 then 0x7E else 0x7F
    if x.mx then (c, 0) else (signElem code x.sign c, flInvalid)
  | .inf s => if code = 3 then (signElem code s 0x7C, 0) else (signElem code s 0x7F, flInvalid)
  | .num s m e =>
    let (q, f) := roundElem code rnd m (e - k)
    (signElem code s q, f)

/-- Convert one block of values into an MX format (R152): the scale byte, the element patterns, the flags. -/
def convBlock (code : Nat) (xs : List (SrcEl × Rounding)) : Nat × List Nat × Flags :=
  let bad := xs.any (fun x => nonFiniteFor code x.1.v)
  if (code ≠ 2 ∧ code ≠ 3) ∧ bad then (255, xs.map (fun _ => 0), flInvalid)
  else
    let k := (blockScale code (xs.map (fun x => x.1.v))).getD (-127)
    let es := xs.map (fun x => convElem code k x.2 x.1)
    ((k + 127).toNat, es.map Prod.fst, (es.map Prod.snd).foldl (· ||| ·) 0)

/-- Convert one value into FP32 or BF16 (R151): one rounding from the exact value, ±∞ with overflow beyond the range. -/
def convFloat (code : Nat) (rnd : Rounding) (x : SrcEl) : Nat × Flags :=
  if code = 0 then
    let (w, f) := encF32 rnd x.v
    (w.toNat, f)
  else
    match x.v with
    | .nan => (0x7FC0, 0)
    | .inf s => ((infW s).toNat / 65536, 0)
    | .num s m e =>
      let r := fmtBF16.round rnd m e
      if fmtBF16.beyond r then ((infW s).toNat / 65536, flOverflow ||| flInexact)
      else (ofBool s * 2 ^ 15 + fmtBF16.pack r,
            flIf r.inexact flInexact ||| flIf (r.inexact && fmtBF16.tiny r) flUnderflow)

/-- Cut a list into blocks of `n` (fuel `k` blocks). -/
def chunks {α : Type} (n : Nat) : Nat → List α → List (List α)
  | 0, _ => []
  | k + 1, l => if l.isEmpty then [] else l.take n :: chunks n k (l.drop n)

/-- Convert a row into a destination format, row-blocked (R154): element patterns, scale bytes, flags. -/
def convRow (code : Nat) (xs : List (SrcEl × Rounding)) : List Nat × List Nat × Flags :=
  if isMX code then
    let bs := (chunks 32 xs.length xs).map (convBlock code)
    ((bs.map (fun b => b.2.1)).flatten, bs.map (fun b => b.1), (bs.map (fun b => b.2.2)).foldl (· ||| ·) 0)
  else
    let es := xs.map (fun x => convFloat code x.2 x.1)
    (es.map Prod.fst, [], (es.map Prod.snd).foldl (· ||| ·) 0)

/-- Element `j` of a row's element plane, elements of `w` bits, least significant first (R148). -/
def planeElem (w row j : Nat) : Nat := (row >>> (j * w)) % 2 ^ w

/-- A row's element plane from its element patterns (R148). -/
def packPlane (w : Nat) : List Nat → Nat
  | [] => 0
  | x :: xs => x % 2 ^ w + 2 ^ w * packPlane w xs

/-- VRND (R155): an FP32 lane rounded to a value of a BF16 or MX format under a scale byte, kept as FP32. -/
def vrnd (code : Nat) (rnd : Rounding) (x : Word) (scale : Nat) : Word × Flags :=
  let v := decF32 x
  if code = 1 then
    let (b, f) := convFloat 1 rnd ⟨v, x.msb, false⟩
    (BitVec.ofNat 32 (b * 65536), f)
  else if scale = 255 then (canonNaN, flInvalid)
  else
    let k : Int := (scale : Int) - 127
    if nonFiniteFor code v then
      (canonNaN, flInvalid)
    else
      match v with
      | .num s m e =>
        let (q, f) := roundElem code rnd m (e - k)
        let back : Val := match code with
          | 7 => .num s q (-6 + k)
          | _ =>
            let (_, mb, bias) := mxLayout code
            let ex := q / 2 ^ mb
            let fr := q % 2 ^ mb
            if ex = 0 then .num s fr (1 - (bias : Int) - mb + k)
            else .num s (fr + 2 ^ mb) ((ex : Int) - bias - mb + k)
        ((encF32 .nearest back).1, f)
      | w => encF32 .nearest w

end Sys2Proof.Machine
end

