-- ==== Sys2Proof/Machine/Rng.lean ====
section
/-! DEFINITION. The generator of R181 and R182: X[n] = X[n − 607] + X[n − 273] modulo 2^32, read at any index through
x^n modulo x^607 − x^334 − 1. A polynomial is one number with a coefficient in each 80-bit slot. -/
namespace Sys2Proof.Machine

/-- Slot width of a packed polynomial: 607 products of two 32-bit words fit. -/
def slotW : Nat := 80

/-- 2^32 − 1 in each of the low 607 slots. -/
def coefMask : Nat := (2 ^ 32 - 1) * ((2 ^ (slotW * 607) - 1) / (2 ^ slotW - 1))

/-- 2^32 − 1 in each of the low 1,213 slots. -/
def coefMask2 : Nat := (2 ^ 32 - 1) * ((2 ^ (slotW * 1213) - 1) / (2 ^ slotW - 1))

/-- Fold the slots from 607 upward down by x^607 = x^334 + 1, once. -/
def foldOnce (p : Nat) : Nat :=
  let lo := p % 2 ^ (slotW * 607)
  let hi := p >>> (slotW * 607)
  lo + hi + hi <<< (slotW * 334)

/-- Reduce a product modulo the trinomial and its coefficients modulo 2^32. -/
def polyRed (p : Nat) : Nat := (foldOnce (foldOnce (foldOnce (p &&& coefMask2)))) &&& coefMask

/-- x^n modulo the trinomial, by the bits of n from the top (fuel: number of bits left). -/
def polyPow (n : Nat) : Nat → Nat → Nat
  | 0, acc => acc
  | b + 1, acc =>
    let sq := polyRed (acc * acc)
    let nx := if n.testBit b then polyRed (sq <<< slotW) else sq
    polyPow n b nx

/-- x^n modulo the trinomial. -/
def polyX (n : Nat) : Nat := polyPow n (n.log2 + 1) 1

/-- The origin X[0] to X[606] of a seed (R181). -/
def rngOrigin (seed : DWord) : List Nat :=
  let bs := shake256 (ascii "PLX-LSG1" ++ leBytes 8 seed.toNat) 2428
  let ws := (upTo 607).map (fun k => leNat ((bs.drop (4 * k)).take 4))
  ws.set 0 (ws.getD 0 0 ||| 1)

/-- Pack the origin reversed, so that slot 606 of a product is the inner product. -/
def packRev : List Nat → Nat → Nat
  | [], acc => acc
  | x :: xs, acc => packRev xs (acc * 2 ^ slotW + x)

/-- X[n] of an origin (R181). -/
def seqAt (origin : List Nat) (n : Nat) : Word :=
  BitVec.ofNat 32 ((polyX n * packRev origin 0) >>> (slotW * 606))

/-- The random word of a seed and a logical element index (R182). -/
def rngWord (seed idx : DWord) : Word :=
  seqAt (rngOrigin seed) (idx.toNat % 64 * 2 ^ 96 + idx.toNat / 64)

end Sys2Proof.Machine
end

