-- ==== Sys2Proof/Machine/Slots.lean ====
section
/-! DEFINITION. The operations of a core and their encodings: scalar instructions (Tables 3.6, 3.7), the bundle (Tables
3.1, 3.2) and its matrix, vector, special-function, move and sync slots (Tables 4.2 to 4.12). -/
namespace Sys2Proof.Machine

/-- Register-register scalar operations (Table 3.7). -/
inductive RROp where
  | add | sub | and | or | xor | sll | srl | sra | slt | sltu | min | max | minu | maxu | clz | popc
  | mul | mulh | mulhu | div | divu | rem | remu
  deriving DecidableEq, Repr

/-- Register-immediate scalar operations (Table 3.7). -/
inductive RIOp where
  | addi | andi | ori | xori | slti | sltiu
  deriving DecidableEq, Repr

/-- Scalar loads (Table 3.7). -/
inductive LdOp where
  | ldnW | ldnH | ldnHu | ldnB | ldnBu | ldtW | ldgW
  deriving DecidableEq, Repr

/-- Scalar stores (Table 3.7). -/
inductive StOp where
  | stnW | stnH | stnB | sttW | stgW
  deriving DecidableEq, Repr

/-- Branch conditions (Table 3.7). -/
inductive BrOp where
  | beq | bne | blt | bge | bltu | bgeu
  deriving DecidableEq, Repr

/-- A scalar instruction. -/
inductive ScalarOp where
  | rr (op : RROp) (rd rs1 rs2 : BitVec 5)
  | ri (op : RIOp) (rd rs1 : BitVec 5) (imm : BitVec 16)
  | shi (rd rs1 : BitVec 5) (imm : BitVec 16)
  | lui (rd : BitVec 5) (imm : BitVec 21)
  | load (op : LdOp) (rd rs1 : BitVec 5) (imm : BitVec 16)
  | store (op : StOp) (rs2 rs1 : BitVec 5) (imm : BitVec 16)
  | branch (op : BrOp) (rs1 rs2 : BitVec 5) (off : BitVec 16)
  | j (off : BitVec 26)
  | jal (off : BitVec 26)
  | jalr (rd rs1 : BitVec 5) (imm : BitVec 16)
  | wide (off : BitVec 26)
  | mfs (rd : BitVec 5) (spec : BitVec 12)
  | mts (rs1 : BitVec 5) (spec : BitVec 12)
  | trap (n : BitVec 12)
  | eret
  | halt
  deriving DecidableEq, Repr

/-- Matrix operations (Table 4.3). -/
inductive MatOp where
  | mldw | mpass | mzero
  deriving DecidableEq, Repr

/-- Vector operations (Table 4.5). -/
inductive VOp where
  | vfadd | vfsub | vfmul | vfma | vfmin | vfmax | vfabs | vfneg | vfcmp | vfscale
  | viadd | visub | vimul | vand | vor | vxor | vshl | vshr | vsra | vimin | vimax | vicmp
  | vsel | vbcs | vbci | vperm | vrot | vext | vins | vrsum | vrmax | vrmin | vrisum | vexpmax
  | vcvti | vcvtf | vrnd | vfix | vflt | vadd64 | vrand | vrda | vwra | vplog | vpset | vpget
  | vld | vst | vlds | vldx
  deriving DecidableEq, Repr

/-- Special-function operations (Table 4.7). -/
inductive SfOp where
  | sfn | sfnb | sfnbs | sder | snorm
  deriving DecidableEq, Repr

/-- Sync operations (Table 4.12). -/
inductive SyOp where
  | mwait | fenceLocal | fenceGlobal | send | recv | semacq | semrel | waitarr | waitft | bar
  deriving DecidableEq, Repr

/-- One slot operation, or a scalar instruction. -/
inductive SlotOp where
  | scalar (op : ScalarOp)
  | mat (op : MatOp) (f : MFields)
  | vec (op : VOp) (f : VFields)
  | sf (op : SfOp) (f : SfFields)
  | mv (op : MvOp) (f : MvFields)
  | sy (op : SyOp) (f : SyFields)
  deriving DecidableEq, Repr

/-! ## Scalar encodings (Tables 3.6, 3.7) -/

/-- Register-register operations by op and func. -/
def decRR (op func : Nat) : Option RROp :=
  match op, func with
  | 0x00, 0x000 => some .add | 0x00, 0x001 => some .sub | 0x00, 0x002 => some .and | 0x00, 0x003 => some .or
  | 0x00, 0x004 => some .xor | 0x00, 0x005 => some .sll | 0x00, 0x006 => some .srl | 0x00, 0x007 => some .sra
  | 0x00, 0x008 => some .slt | 0x00, 0x009 => some .sltu | 0x00, 0x00A => some .min | 0x00, 0x00B => some .max
  | 0x00, 0x00C => some .minu | 0x00, 0x00D => some .maxu | 0x00, 0x00E => some .clz | 0x00, 0x00F => some .popc
  | 0x01, 0x000 => some .mul | 0x01, 0x001 => some .mulh | 0x01, 0x002 => some .mulhu
  | 0x02, 0x000 => some .div | 0x02, 0x001 => some .divu | 0x02, 0x002 => some .rem | 0x02, 0x003 => some .remu
  | _, _ => none

/-- Decode a 32-bit scalar instruction; none is ILLEGAL_OP (R82). -/
def decScalar (w : Nat) : Option ScalarOp :=
  let op := field w 31 26
  let rd := BitVec.ofNat 5 (field w 25 21)
  let r1 := BitVec.ofNat 5 (field w 20 16)
  let r2 := BitVec.ofNat 5 (field w 15 11)
  let imm := BitVec.ofNat 16 (field w 15 0)
  let off := BitVec.ofNat 26 (field w 25 0)
  match op with
  | 0x00 => (decRR 0 (field w 10 0)).map (fun o => .rr o rd r1 r2)
  | 0x01 => (decRR 1 (field w 10 0)).map (fun o => .rr o rd r1 r2)
  | 0x02 => (decRR 2 (field w 10 0)).map (fun o => .rr o rd r1 r2)
  | 0x04 => some (.ri .addi rd r1 imm)
  | 0x05 => some (.ri .andi rd r1 imm)
  | 0x06 => some (.ri .ori rd r1 imm)
  | 0x07 => some (.ri .xori rd r1 imm)
  | 0x08 => some (.ri .slti rd r1 imm)
  | 0x09 => some (.ri .sltiu rd r1 imm)
  | 0x0A => some (.shi rd r1 imm)
  | 0x0B => some (.lui rd (BitVec.ofNat 21 (field w 20 0)))
  | 0x10 => some (.load .ldnW rd r1 imm)
  | 0x11 => some (.load .ldnH rd r1 imm)
  | 0x12 => some (.load .ldnHu rd r1 imm)
  | 0x13 => some (.load .ldnB rd r1 imm)
  | 0x14 => some (.load .ldnBu rd r1 imm)
  | 0x15 => some (.load .ldtW rd r1 imm)
  | 0x16 => some (.load .ldgW rd r1 imm)
  | 0x18 => some (.store .stnW rd r1 imm)
  | 0x19 => some (.store .stnH rd r1 imm)
  | 0x1A => some (.store .stnB rd r1 imm)
  | 0x1B => some (.store .sttW rd r1 imm)
  | 0x1C => some (.store .stgW rd r1 imm)
  | 0x20 => some (.branch .beq rd r1 imm)
  | 0x21 => some (.branch .bne rd r1 imm)
  | 0x22 => some (.branch .blt rd r1 imm)
  | 0x23 => some (.branch .bge rd r1 imm)
  | 0x24 => some (.branch .bltu rd r1 imm)
  | 0x25 => some (.branch .bgeu rd r1 imm)
  | 0x28 => some (.j off)
  | 0x29 => some (.jal off)
  | 0x2A => some (.jalr rd r1 imm)
  | 0x2B => some (.wide off)
  | 0x30 =>
    let spec := BitVec.ofNat 12 (field w 11 0)
    match field w 15 12 with
    | 0 => some (.mfs rd spec)
    | 1 => some (.mts r1 spec)
    | 2 => some (.trap spec)
    | 3 => some .eret
    | 4 => some .halt
    | _ => none
  | _ => none

/-! ## Slot encodings -/

/-- Decode a matrix slot (Table 4.2); op 0 is no operation, and `none` an unknown op. -/
def decMatrix (w : Nat) : Option (Option SlotOp) :=
  let f : MFields :=
    { ad := BitVec.ofNat 3 (field w 89 87), acc := bit w 86, fmt := BitVec.ofNat 4 (field w 85 82), blk := bit w 81,
      mm := BitVec.ofNat 6 (field w 79 74), rs := BitVec.ofNat 5 (field w 73 69), rstr := BitVec.ofNat 5 (field w 68 64),
      off := BitVec.ofNat 24 (field w 63 40), rsc := BitVec.ofNat 5 (field w 39 35) }
  match field w 95 90 with
  | 0 => some none
  | 1 => some (some (.mat .mldw f))
  | 2 => some (some (.mat .mpass f))
  | 3 => some (some (.mat .mzero f))
  | _ => none

/-- Vector operations by op and func (Table 4.5): none is ILLEGAL_OP. -/
def decVOp (op func : Nat) : Option VOp :=
  match op with
  | 0x00 => some .vfadd | 0x01 => some .vfsub | 0x02 => some .vfmul | 0x03 => some .vfma
  | 0x04 => some .vfmin | 0x05 => some .vfmax | 0x06 => some .vfabs | 0x07 => some .vfneg
  | 0x08 => some .vfcmp | 0x09 => some .vfscale
  | 0x10 => some .viadd | 0x11 => some .visub | 0x12 => some .vimul
  | 0x13 => some .vand | 0x14 => some .vor | 0x15 => some .vxor
  | 0x16 => some .vshl | 0x17 => some .vshr | 0x18 => some .vsra
  | 0x19 => some .vimin | 0x1A => some .vimax | 0x1B => some .vicmp
  | 0x20 => some .vsel | 0x21 => some .vbcs | 0x22 => some .vbci | 0x23 => some .vperm | 0x24 => some .vrot
  | 0x25 => some .vext | 0x26 => some .vins
  | 0x28 => some .vrsum | 0x29 => some .vrmax | 0x2A => some .vrmin | 0x2B => some .vrisum | 0x2C => some .vexpmax
  | 0x30 => some .vcvti | 0x31 => some .vcvtf | 0x32 => some .vrnd | 0x34 => some .vfix | 0x35 => some .vflt
  | 0x36 => some .vadd64 | 0x38 => some .vrand | 0x3C => some .vrda | 0x3D => some .vwra | 0x3E => some .vplog
  | 0x3F => if func = 0 then some .vpset else if func = 1 then some .vpget else none
  | 0x40 => some .vld | 0x41 => some .vst | 0x42 => some .vlds | 0x43 => some .vldx
  | _ => none

/-- Decode a vector slot (Table 4.4). -/
def decVector (w : Nat) : Option SlotOp :=
  let f : VFields :=
    { vd := BitVec.ofNat 6 (field w 56 51), va := BitVec.ofNat 6 (field w 50 45), vb := BitVec.ofNat 6 (field w 44 39),
      vc := BitVec.ofNat 6 (field w 38 33), psel := BitVec.ofNat 3 (field w 32 30), pinv := bit w 29,
      rs := BitVec.ofNat 5 (field w 28 24), fmt := BitVec.ofNat 4 (field w 23 20), func := BitVec.ofNat 4 (field w 19 16),
      imm := BitVec.ofNat 16 (field w 15 0) }
  (decVOp (field w 63 57) (field w 19 16)).map (fun o => .vec o f)

/-- Decode a special-function slot (Table 4.6). -/
def decSf (w : Nat) : Option SlotOp :=
  let f : SfFields :=
    { vd := BitVec.ofNat 6 (field w 41 36), va := BitVec.ofNat 6 (field w 35 30), vb := BitVec.ofNat 6 (field w 29 24),
      vc := BitVec.ofNat 6 (field w 23 18), psel := BitVec.ofNat 3 (field w 17 15), pinv := bit w 14,
      fid := BitVec.ofNat 6 (field w 13 8), tver := BitVec.ofNat 8 (field w 7 0) }
  match field w 47 42 with
  | 0 => some (.sf .sfn f)
  | 1 => some (.sf .sfnb f)
  | 2 => some (.sf .sfnbs f)
  | 3 => some (.sf .sder f)
  | 4 => some (.sf .snorm f)
  | _ => none

/-- Move operations by op, mode and afunc (Table 4.10, R120). -/
def decMvOp (op mode afunc : Nat) : Option MvOp :=
  match op, mode with
  | 1, 0 => some .rows
  | 1, 1 => some .transpose
  | 1, 2 => some .convert
  | 1, 3 => some .convertTranspose
  | 1, 4 => some .fill
  | 2, 0 => some .racc
  | 3, 0 => some (.atom afunc)
  | 4, m => if m ≤ 3 then some (.accst m) else none
  | 5, 0 => some (.accld 0)
  | 5, 2 => some (.accld 2)
  | _, _ => none

/-- Decode a move slot (Table 4.9). -/
def decMove (w : Nat) : Option SlotOp :=
  let f : MvFields :=
    { psel := BitVec.ofNat 3 (field w 85 83), pinv := bit w 82, grp := BitVec.ofNat 3 (field w 81 79),
      rsrc := BitVec.ofNat 5 (field w 78 74), rdst := BitVec.ofNat 5 (field w 73 69), rshp := BitVec.ofNat 5 (field w 68 64),
      sfmt := BitVec.ofNat 4 (field w 63 60), dfmt := BitVec.ofNat 4 (field w 59 56), rsc := BitVec.ofNat 5 (field w 55 51),
      afv := bit w 47, af := BitVec.ofNat 6 (field w 46 41), tile := BitVec.ofNat 3 (field w 40 38) }
  (decMvOp (field w 95 90) (field w 89 86) (field w 50 48)).map (fun o => .mv o f)

/-- Sync operations by op and imm (Table 4.12). -/
def decSyOp (op imm : Nat) : Option SyOp :=
  match op with
  | 0x01 => some .mwait
  | 0x02 => some (if imm % 2 = 1 then .fenceGlobal else .fenceLocal)
  | 0x03 => some .send
  | 0x04 => some .recv
  | 0x05 => some .semacq
  | 0x06 => some .semrel
  | 0x08 => some .waitarr
  | 0x09 => some .waitft
  | 0x0A => some .bar
  | _ => none

/-- Decode a sync slot (R124). -/
def decSync (w : Nat) : Option SlotOp :=
  let f : SyFields :=
    { rd := BitVec.ofNat 5 (field w 25 21), rs := BitVec.ofNat 5 (field w 20 16), imm := BitVec.ofNat 16 (field w 15 0) }
  (decSyOp (field w 31 26) (field w 15 0)).map (fun o => .sy o f)

/-- The slots of a bundle in slot_valid order: number, bits, and what their decoding gives (none: ILLEGAL_OP; some none: no
operation). -/
def decSlots (w : Nat) : List (Nat × Option (Option SlotOp)) :=
  [(0, (decScalar (field w 63 32)).map (fun o => some (.scalar o))),
   (1, (decScalar (field w 95 64)).map (fun o => some (.scalar o))),
   (2, decMatrix (field w 191 96)),
   (3, (decVector (field w 255 192)).map some),
   (4, (decVector (field w 319 256)).map some),
   (5, (decSf (field w 367 320)).map some),
   (6, (decMove (field w 463 368)).map some),
   (7, (decSync (field w 495 464)).map some)]

end Sys2Proof.Machine
end

