-- ==== Sys2Proof/Machine/Operands.lean ====
section
/-! DEFINITION. Reading and writing a core's registers (R70, R71, R99), lanes and predicates (R80), poison marks of
registers (R93), and the random words an operation draws (R182-R187, R194). -/
namespace Sys2Proof.Machine

/-! ## Register codes: 0-31 scalar, 32-39 predicate, 64-127 vector, 128-135 tile, 136 weight block, 256 upward special -/

/-- Code of a scalar register. -/
def codeS (r : BitVec 5) : Nat := r.toNat
/-- Code of a predicate. -/
def codeP (p : BitVec 3) : Nat := 32 + p.toNat
/-- Code of a vector register. -/
def codeV (v : BitVec 6) : Nat := 64 + v.toNat
/-- Code of a tile. -/
def codeA (a : BitVec 3) : Nat := 128 + a.toNat
/-- Code of the resident weight block. -/
def codeBlock : Nat := 136
/-- Code of a special register. -/
def codeSpec (n : Nat) : Nat := 256 + n

/-! ## Scalar registers -/

/-- A scalar register: s0 reads 0 (R70). -/
def Core.rs (k : Core) (r : BitVec 5) : Word := if r = 0 then 0 else k.file.s[r.toNat]'r.isLt

/-- The register after `r` (R99). -/
def nextReg (r : BitVec 5) : BitVec 5 := r + 1

/-- The pair {s[r + 1], s[r]} (R99). -/
def Core.rsPair (k : Core) (r : BitVec 5) : DWord := (k.rs (nextReg r)) ++ (k.rs r)

/-- Write a scalar register: s0 keeps no value (R71); the write clears its poison (R93). -/
def Core.setS (k : Core) (r : BitVec 5) (w : Word) : Core :=
  if r = 0 then k
  else { k with file := { k.file with s := k.file.s.set r.toNat w r.isLt }, poison := Map.del k.poison (codeS r) }

/-- Write a scalar pair. -/
def Core.setSPair (k : Core) (r : BitVec 5) (w : DWord) : Core :=
  (k.setS r (w.extractLsb' 0 32)).setS (nextReg r) (w.extractLsb' 32 32)

/-! ## Predicates -/

/-- A predicate: p0 reads all ones (R70). -/
def Core.pr (k : Core) (p : BitVec 3) : DWord := if p = 0 then BitVec.allOnes 64 else k.file.p[p.toNat]'p.isLt

/-- Write a predicate: p0 keeps no value (R71). -/
def Core.setP (k : Core) (p : BitVec 3) (w : DWord) : Core :=
  if p = 0 then k else { k with file := { k.file with p := k.file.p.set p.toNat w p.isLt } }

/-- The enabled lanes of a selector and an invert bit (R80). -/
def Core.enabled (k : Core) (psel : BitVec 3) (pinv : Bool) : DWord := if pinv then ~~~(k.pr psel) else k.pr psel

/-! ## Vector registers and tiles -/

/-- A vector register. -/
def Core.vr (k : Core) (v : BitVec 6) : VReg := k.file.v[v.toNat]'v.isLt

/-- Write a vector register whole, clearing its poison. -/
def Core.setV (k : Core) (v : BitVec 6) (x : VReg) : Core :=
  { k with file := { k.file with v := k.file.v.set v.toNat x v.isLt }, poison := Map.del k.poison (codeV v) }

/-- Write the enabled lanes of a vector register (R80); its poison is cleared when every lane is written. -/
def Core.setLanes (k : Core) (en : DWord) (v : BitVec 6) (f : Fin 64 → Word) : Core :=
  let old := k.vr v
  let x : VReg := Vector.ofFn (fun i => if en.getLsbD i.val then f i else old[i.val]'i.isLt)
  { k with file := { k.file with v := k.file.v.set v.toNat x v.isLt },
           poison := if en = BitVec.allOnes 64 then Map.del k.poison (codeV v) else k.poison }

/-- A tile. -/
def Core.tile (k : Core) (a : BitVec 3) : Tile := k.file.a[a.toNat]'a.isLt

/-- Write a tile. -/
def Core.setTile (k : Core) (a : BitVec 3) (t : Tile) : Core :=
  { k with file := { k.file with a := k.file.a.set a.toNat t a.isLt } }

/-- Element (row, column) of a tile. -/
def Tile.at (t : Tile) (r c : Fin 64) : Word := (t[r.val]'r.isLt)[c.val]'c.isLt

/-- The lanes in order. -/
def lanes : List (Fin 64) := List.finRange 64

/-- The bits of `f`, bit n for lane n. -/
def ofLanes (f : Fin 64 → Bool) : DWord :=
  lanes.foldl (fun acc i => if f i then acc ||| BitVec.twoPow 64 i.val else acc) 0

/-- A predicate from a test of each lane: disabled lanes keep their old value. -/
def predLanes (en old : DWord) (f : Fin 64 → Bool) : DWord :=
  ofLanes (fun i => if en.getLsbD i.val then f i else old.getLsbD i.val)

/-- The enabled lanes in order. -/
def onLanes (en : DWord) : List (Fin 64) := lanes.filter (fun i => en.getLsbD i.val)

/-! ## Poison of registers (R93) -/

/-- Mark a register poisoned with the address of the access that returned the data. -/
def Core.mark (k : Core) (code : Nat) (addr : Nat) : Core :=
  { k with poison := Map.put k.poison code (BitVec.ofNat 64 addr) }

/-- The address of the first poisoned register of a list. -/
def Core.firstPoison (k : Core) (codes : List Nat) : Option Nat :=
  (codes.findSome? (fun c => Map.find k.poison c)).map BitVec.toNat

/-! ## Random words (chapter 08) -/

/-- The index base B of the running task, bits [5:0] cleared (R183); 0 where no task runs. -/
def descField (d : List Byte) (off n : Nat) : Nat := leNat ((d.drop off).take n)

/-- index_base of a descriptor (Table 17.1) with bits [5:0] cleared (R183). -/
def descBase (d : List Byte) : DWord := BitVec.ofNat 64 (descField d 24 8 / 64 * 64)

/-- The index base of a core's task. -/
def Core.base (k : Core) : DWord := match k.task with
  | some t => descBase t.desc
  | none => 0

/-- Is the core in loose mode (R189, R194)? -/
def Core.looseMode (k : Core) : Bool := k.spec.rngCtl.getLsbD 5

/-- The seed slot that RNG_CTL names. -/
def Core.seedSlot (k : Core) : Nat := field k.spec.rngCtl.toNat 3 0

/-- The seed that a core of partition `p` draws under. -/
def State.seedOf (s : State) (p : Nat) (k : Core) : DWord :=
  BitVec.ofNat 64 (s.get ⟨Reg.RNG.SEED.reg.reg + 8 * k.seedSlot, 63, 0⟩ p)

/-- Rounding of an operation under ROUND for the element of logical index `idx` (R158-R161): the random word is W of the
index in indexed mode, a free value numbered from `free` in loose mode. -/
def roundingAt (mode : Word) (seed : DWord) (loose : Bool) (free : Nat) (idx : DWord) (n : Nat) : Rounding :=
  if mode.getLsbD 0 then
    .stochastic (if mode.getLsbD 2 then 3 else 4)
      (if loose then Config.freeWord (free + n) else rngWord seed idx)
  else .nearest

end Sys2Proof.Machine
end

