-- ==== Sys2Proof/Machine/NormalTable.lean ====
section
/-! DEFINITION. The normal table of version 1 (R191): H[k] = the standard normal quantile of 0.5 + (k + 0.5) / 2048,
rounded to FP32 nearest-even, computed from that definition. -/
namespace Sys2Proof.Machine

/-- Entries 0 to 63. -/
def normalH0 : List Nat :=
  [0x3A206C9A, 0x3AF0A2EE, 0x3B4887D4, 0x3B8C5F22, 0x3BB47A68, 0x3BDC95C0, 0x3C025896, 0x3C16665A,
   0x3C2A742C, 0x3C3E820F, 0x3C529005, 0x3C669E0F, 0x3C7AAC30, 0x3C875D35, 0x3C91645F, 0x3C9B6B97,
   0x3CA572DF, 0x3CAF7A37, 0x3CB981A0, 0x3CC3891B, 0x3CCD90AA, 0x3CD7984C, 0x3CE1A004, 0x3CEBA7D2,
   0x3CF5AFB8, 0x3CFFB7B5, 0x3D04DFE6, 0x3D09E3FE, 0x3D0EE824, 0x3D13EC58, 0x3D18F09A, 0x3D1DF4EC,
   0x3D22F94D, 0x3D27FDBE, 0x3D2D023F, 0x3D3206D2, 0x3D370B76, 0x3D3C102C, 0x3D4114F5, 0x3D4619D0,
   0x3D4B1EC0, 0x3D5023C3, 0x3D5528DA, 0x3D5A2E07, 0x3D5F3349, 0x3D6438A1, 0x3D693E0F, 0x3D6E4395,
   0x3D734932, 0x3D784EE7, 0x3D7D54B4, 0x3D812D4D, 0x3D83B04D, 0x3D86335A, 0x3D88B674, 0x3D8B399C,
   0x3D8DBCD1, 0x3D904014, 0x3D92C366, 0x3D9546C6, 0x3D97CA35, 0x3D9A4DB2, 0x3D9CD13F, 0x3D9F54DC]

/-- Entries 64 to 127. -/
def normalH1 : List Nat :=
  [0x3DA1D888, 0x3DA45C44, 0x3DA6E011, 0x3DA963EE, 0x3DABE7DB, 0x3DAE6BDA, 0x3DB0EFEA, 0x3DB3740B,
   0x3DB5F83E, 0x3DB87C83, 0x3DBB00DB, 0x3DBD8545, 0x3DC009C2, 0x3DC28E51, 0x3DC512F4, 0x3DC797AB,
   0x3DCA1C75, 0x3DCCA153, 0x3DCF2646, 0x3DD1AB4D, 0x3DD43069, 0x3DD6B59A, 0x3DD93AE1, 0x3DDBC03D,
   0x3DDE45AE, 0x3DE0CB36, 0x3DE350D4, 0x3DE5D689, 0x3DE85C55, 0x3DEAE237, 0x3DED6832, 0x3DEFEE43,
   0x3DF2746D, 0x3DF4FAAF, 0x3DF78109, 0x3DFA077B, 0x3DFC8E07, 0x3DFF14AC, 0x3E00CDB5, 0x3E021121,
   0x3E03549A, 0x3E049820, 0x3E05DBB3, 0x3E071F54, 0x3E086302, 0x3E09A6BE, 0x3E0AEA88, 0x3E0C2E5F,
   0x3E0D7245, 0x3E0EB638, 0x3E0FFA3A, 0x3E113E4B, 0x3E12826A, 0x3E13C697, 0x3E150AD3, 0x3E164F1F,
   0x3E179379, 0x3E18D7E3, 0x3E1A1C5C, 0x3E1B60E4, 0x3E1CA57C, 0x3E1DEA24, 0x3E1F2EDC, 0x3E2073A3]

/-- Entries 128 to 191. -/
def normalH2 : List Nat :=
  [0x3E21B87B, 0x3E22FD63, 0x3E24425C, 0x3E258765, 0x3E26CC7F, 0x3E2811A9, 0x3E2956E5, 0x3E2A9C31,
   0x3E2BE18F, 0x3E2D26FE, 0x3E2E6C7F, 0x3E2FB211, 0x3E30F7B5, 0x3E323D6B, 0x3E338333, 0x3E34C90D,
   0x3E360EFA, 0x3E3754F9, 0x3E389B0A, 0x3E39E12F, 0x3E3B2766, 0x3E3C6DB0, 0x3E3DB40D, 0x3E3EFA7E,
   0x3E404101, 0x3E418799, 0x3E42CE44, 0x3E441503, 0x3E455BD6, 0x3E46A2BD, 0x3E47E9B8, 0x3E4930C8,
   0x3E4A77EC, 0x3E4BBF25, 0x3E4D0673, 0x3E4E4DD6, 0x3E4F954D, 0x3E50DCDA, 0x3E52247D, 0x3E536C35,
   0x3E54B402, 0x3E55FBE6, 0x3E5743DF, 0x3E588BEE, 0x3E59D414, 0x3E5B1C50, 0x3E5C64A2, 0x3E5DAD0B,
   0x3E5EF58B, 0x3E603E22, 0x3E6186D0, 0x3E62CF96, 0x3E641872, 0x3E656167, 0x3E66AA72, 0x3E67F396,
   0x3E693CD2, 0x3E6A8626, 0x3E6BCF92, 0x3E6D1916, 0x3E6E62B3, 0x3E6FAC69, 0x3E70F637, 0x3E72401F]

/-- Entries 192 to 255. -/
def normalH3 : List Nat :=
  [0x3E738A20, 0x3E74D43A, 0x3E761E6D, 0x3E7768BA, 0x3E78B321, 0x3E79FDA2, 0x3E7B483D, 0x3E7C92F2,
   0x3E7DDDC1, 0x3E7F28AB, 0x3E8039D8, 0x3E80DF67, 0x3E818504, 0x3E822AAF, 0x3E82D067, 0x3E83762D,
   0x3E841C01, 0x3E84C1E3, 0x3E8567D2, 0x3E860DD0, 0x3E86B3DC, 0x3E8759F6, 0x3E88001E, 0x3E88A654,
   0x3E894C99, 0x3E89F2ED, 0x3E8A994F, 0x3E8B3FBF, 0x3E8BE63E, 0x3E8C8CCC, 0x3E8D3369, 0x3E8DDA15,
   0x3E8E80D0, 0x3E8F279A, 0x3E8FCE74, 0x3E90755C, 0x3E911C54, 0x3E91C35C, 0x3E926A72, 0x3E931199,
   0x3E93B8CF, 0x3E946015, 0x3E95076B, 0x3E95AED0, 0x3E965646, 0x3E96FDCC, 0x3E97A562, 0x3E984D08,
   0x3E98F4BE, 0x3E999C85, 0x3E9A445D, 0x3E9AEC45, 0x3E9B943E, 0x3E9C3C47, 0x3E9CE461, 0x3E9D8C8D,
   0x3E9E34C9, 0x3E9EDD16, 0x3E9F8575, 0x3EA02DE4, 0x3EA0D665, 0x3EA17EF8, 0x3EA2279C, 0x3EA2D051]

/-- Entries 256 to 319. -/
def normalH4 : List Nat :=
  [0x3EA37919, 0x3EA421F2, 0x3EA4CADD, 0x3EA573DA, 0x3EA61CE9, 0x3EA6C60A, 0x3EA76F3D, 0x3EA81882,
   0x3EA8C1DA, 0x3EA96B45, 0x3EAA14C1, 0x3EAABE51, 0x3EAB67F3, 0x3EAC11A8, 0x3EACBB71, 0x3EAD654C,
   0x3EAE0F3A, 0x3EAEB93B, 0x3EAF6350, 0x3EB00D78, 0x3EB0B7B3, 0x3EB16202, 0x3EB20C64, 0x3EB2B6DB,
   0x3EB36165, 0x3EB40C03, 0x3EB4B6B5, 0x3EB5617B, 0x3EB60C55, 0x3EB6B744, 0x3EB76247, 0x3EB80D5F,
   0x3EB8B88B, 0x3EB963CB, 0x3EBA0F21, 0x3EBABA8B, 0x3EBB660A, 0x3EBC119E, 0x3EBCBD48, 0x3EBD6906,
   0x3EBE14DA, 0x3EBEC0C4, 0x3EBF6CC2, 0x3EC018D7, 0x3EC0C501, 0x3EC17141, 0x3EC21D97, 0x3EC2CA03,
   0x3EC37685, 0x3EC4231D, 0x3EC4CFCC, 0x3EC57C90, 0x3EC6296C, 0x3EC6D65E, 0x3EC78366, 0x3EC83086,
   0x3EC8DDBC, 0x3EC98B0A, 0x3ECA386E, 0x3ECAE5EA, 0x3ECB937D, 0x3ECC4127, 0x3ECCEEE9, 0x3ECD9CC3]

/-- Entries 320 to 383. -/
def normalH5 : List Nat :=
  [0x3ECE4AB4, 0x3ECEF8BD, 0x3ECFA6DE, 0x3ED05517, 0x3ED10368, 0x3ED1B1D2, 0x3ED26054, 0x3ED30EEE,
   0x3ED3BDA1, 0x3ED46C6C, 0x3ED51B50, 0x3ED5CA4D, 0x3ED67963, 0x3ED72892, 0x3ED7D7DB, 0x3ED8873D,
   0x3ED936B8, 0x3ED9E64C, 0x3EDA95FB, 0x3EDB45C3, 0x3EDBF5A4, 0x3EDCA5A0, 0x3EDD55B6, 0x3EDE05E6,
   0x3EDEB631, 0x3EDF6696, 0x3EE01715, 0x3EE0C7AF, 0x3EE17864, 0x3EE22934, 0x3EE2DA1E, 0x3EE38B24,
   0x3EE43C45, 0x3EE4ED81, 0x3EE59ED9, 0x3EE6504C, 0x3EE701DB, 0x3EE7B386, 0x3EE8654D, 0x3EE91730,
   0x3EE9C92F, 0x3EEA7B4A, 0x3EEB2D81, 0x3EEBDFD5, 0x3EEC9246, 0x3EED44D4, 0x3EEDF77E, 0x3EEEAA45,
   0x3EEF5D2A, 0x3EF0102B, 0x3EF0C34A, 0x3EF17687, 0x3EF229E1, 0x3EF2DD59, 0x3EF390EF, 0x3EF444A3,
   0x3EF4F874, 0x3EF5AC64, 0x3EF66073, 0x3EF714A0, 0x3EF7C8EB, 0x3EF87D56, 0x3EF931DF, 0x3EF9E687]

/-- Entries 384 to 447. -/
def normalH6 : List Nat :=
  [0x3EFA9B4E, 0x3EFB5035, 0x3EFC053B, 0x3EFCBA60, 0x3EFD6FA6, 0x3EFE250B, 0x3EFEDA8F, 0x3EFF9034,
   0x3F0022FD, 0x3F007DEF, 0x3F00D8F2, 0x3F013406, 0x3F018F29, 0x3F01EA5D, 0x3F0245A2, 0x3F02A0F7,
   0x3F02FC5D, 0x3F0357D3, 0x3F03B35A, 0x3F040EF2, 0x3F046A9B, 0x3F04C655, 0x3F052220, 0x3F057DFD,
   0x3F05D9EA, 0x3F0635E9, 0x3F0691F9, 0x3F06EE1A, 0x3F074A4D, 0x3F07A691, 0x3F0802E7, 0x3F085F4F,
   0x3F08BBC9, 0x3F091854, 0x3F0974F2, 0x3F09D1A1, 0x3F0A2E62, 0x3F0A8B36, 0x3F0AE81C, 0x3F0B4514,
   0x3F0BA21F, 0x3F0BFF3C, 0x3F0C5C6B, 0x3F0CB9AD, 0x3F0D1702, 0x3F0D746A, 0x3F0DD1E4, 0x3F0E2F71,
   0x3F0E8D12, 0x3F0EEAC5, 0x3F0F488C, 0x3F0FA666, 0x3F100453, 0x3F106253, 0x3F10C067, 0x3F111E8F,
   0x3F117CCA, 0x3F11DB19, 0x3F12397C, 0x3F1297F3, 0x3F12F67D, 0x3F13551C, 0x3F13B3CF, 0x3F141296]

/-- Entries 448 to 511. -/
def normalH7 : List Nat :=
  [0x3F147172, 0x3F14D061, 0x3F152F66, 0x3F158E7F, 0x3F15EDAC, 0x3F164CEE, 0x3F16AC46, 0x3F170BB2,
   0x3F176B33, 0x3F17CAC9, 0x3F182A74, 0x3F188A34, 0x3F18EA0A, 0x3F1949F6, 0x3F19A9F7, 0x3F1A0A0D,
   0x3F1A6A39, 0x3F1ACA7C, 0x3F1B2AD3, 0x3F1B8B41, 0x3F1BEBC6, 0x3F1C4C60, 0x3F1CAD10, 0x3F1D0DD7,
   0x3F1D6EB4, 0x3F1DCFA8, 0x3F1E30B3, 0x3F1E91D4, 0x3F1EF30C, 0x3F1F545C, 0x3F1FB5C2, 0x3F20173F,
   0x3F2078D4, 0x3F20DA7F, 0x3F213C43, 0x3F219E1E, 0x3F220010, 0x3F22621A, 0x3F22C43C, 0x3F232676,
   0x3F2388C8, 0x3F23EB33, 0x3F244DB5, 0x3F24B050, 0x3F251303, 0x3F2575CF, 0x3F25D8B3, 0x3F263BB0,
   0x3F269EC7, 0x3F2701F6, 0x3F27653E, 0x3F27C89F, 0x3F282C1A, 0x3F288FAE, 0x3F28F35C, 0x3F295723,
   0x3F29BB04, 0x3F2A1EFF, 0x3F2A8314, 0x3F2AE743, 0x3F2B4B8C, 0x3F2BAFF0, 0x3F2C146E, 0x3F2C7906]

/-- Entries 512 to 575. -/
def normalH8 : List Nat :=
  [0x3F2CDDB9, 0x3F2D4287, 0x3F2DA770, 0x3F2E0C74, 0x3F2E7193, 0x3F2ED6CD, 0x3F2F3C22, 0x3F2FA193,
   0x3F300720, 0x3F306CC8, 0x3F30D28D, 0x3F31386D, 0x3F319E69, 0x3F320481, 0x3F326AB6, 0x3F32D108,
   0x3F333776, 0x3F339E00, 0x3F3404A8, 0x3F346B6C, 0x3F34D24E, 0x3F35394D, 0x3F35A069, 0x3F3607A2,
   0x3F366EFA, 0x3F36D66F, 0x3F373E02, 0x3F37A5B3, 0x3F380D82, 0x3F38756F, 0x3F38DD7B, 0x3F3945A6,
   0x3F39ADEF, 0x3F3A1657, 0x3F3A7EDE, 0x3F3AE784, 0x3F3B5049, 0x3F3BB92E, 0x3F3C2232, 0x3F3C8B57,
   0x3F3CF49A, 0x3F3D5DFE, 0x3F3DC782, 0x3F3E3127, 0x3F3E9AEB, 0x3F3F04D1, 0x3F3F6ED7, 0x3F3FD8FE,
   0x3F404346, 0x3F40ADAF, 0x3F411839, 0x3F4182E5, 0x3F41EDB3, 0x3F4258A2, 0x3F42C3B3, 0x3F432EE7,
   0x3F439A3C, 0x3F4405B4, 0x3F44714F, 0x3F44DD0D, 0x3F4548ED, 0x3F45B4F0, 0x3F462117, 0x3F468D61]

/-- Entries 576 to 639. -/
def normalH9 : List Nat :=
  [0x3F46F9CF, 0x3F476660, 0x3F47D316, 0x3F483FEF, 0x3F48ACED, 0x3F491A0F, 0x3F498755, 0x3F49F4C1,
   0x3F4A6251, 0x3F4AD007, 0x3F4B3DE2, 0x3F4BABE2, 0x3F4C1A08, 0x3F4C8853, 0x3F4CF6C5, 0x3F4D655D,
   0x3F4DD41C, 0x3F4E4301, 0x3F4EB20C, 0x3F4F213F, 0x3F4F9099, 0x3F50001A, 0x3F506FC2, 0x3F50DF93,
   0x3F514F8B, 0x3F51BFAB, 0x3F522FF4, 0x3F52A065, 0x3F5310FF, 0x3F5381C1, 0x3F53F2AD, 0x3F5463C2,
   0x3F54D501, 0x3F554669, 0x3F55B7FB, 0x3F5629B8, 0x3F569B9E, 0x3F570DB0, 0x3F577FEC, 0x3F57F252,
   0x3F5864E5, 0x3F58D7A2, 0x3F594A8B, 0x3F59BDA0, 0x3F5A30E1, 0x3F5AA44F, 0x3F5B17E9, 0x3F5B8BAF,
   0x3F5BFFA3, 0x3F5C73C4, 0x3F5CE812, 0x3F5D5C8E, 0x3F5DD138, 0x3F5E4610, 0x3F5EBB16, 0x3F5F304B,
   0x3F5FA5AF, 0x3F601B41, 0x3F609104, 0x3F6106F6, 0x3F617D17, 0x3F61F369, 0x3F6269EB, 0x3F62E09E]

/-- Entries 640 to 703. -/
def normalH10 : List Nat :=
  [0x3F635781, 0x3F63CE96, 0x3F6445DC, 0x3F64BD54, 0x3F6534FD, 0x3F65ACD9, 0x3F6624E7, 0x3F669D28,
   0x3F67159C, 0x3F678E43, 0x3F68071E, 0x3F68802C, 0x3F68F96E, 0x3F6972E5, 0x3F69EC91, 0x3F6A6671,
   0x3F6AE087, 0x3F6B5AD2, 0x3F6BD553, 0x3F6C500A, 0x3F6CCAF7, 0x3F6D461B, 0x3F6DC176, 0x3F6E3D09,
   0x3F6EB8D3, 0x3F6F34D5, 0x3F6FB10F, 0x3F702D82, 0x3F70AA2D, 0x3F712712, 0x3F71A430, 0x3F722188,
   0x3F729F1A, 0x3F731CE7, 0x3F739AEF, 0x3F741931, 0x3F7497AF, 0x3F751669, 0x3F759560, 0x3F761492,
   0x3F769402, 0x3F7713AF, 0x3F779399, 0x3F7813C1, 0x3F789428, 0x3F7914CD, 0x3F7995B1, 0x3F7A16D5,
   0x3F7A9838, 0x3F7B19DB, 0x3F7B9BC0, 0x3F7C1DE4, 0x3F7CA04B, 0x3F7D22F3, 0x3F7DA5DC, 0x3F7E2909,
   0x3F7EAC78, 0x3F7F302B, 0x3F7FB421, 0x3F801C2E, 0x3F805E6D, 0x3F80A0CF, 0x3F80E353, 0x3F8125FB]

/-- Entries 704 to 767. -/
def normalH11 : List Nat :=
  [0x3F8168C5, 0x3F81ABB3, 0x3F81EEC4, 0x3F8231F9, 0x3F827552, 0x3F82B8D0, 0x3F82FC71, 0x3F834038,
   0x3F838423, 0x3F83C833, 0x3F840C69, 0x3F8450C4, 0x3F849545, 0x3F84D9EC, 0x3F851EB9, 0x3F8563AD,
   0x3F85A8C8, 0x3F85EE0A, 0x3F863373, 0x3F867903, 0x3F86BEBC, 0x3F87049C, 0x3F874AA5, 0x3F8790D6,
   0x3F87D731, 0x3F881DB4, 0x3F886461, 0x3F88AB37, 0x3F88F238, 0x3F893962, 0x3F8980B8, 0x3F89C838,
   0x3F8A0FE3, 0x3F8A57B9, 0x3F8A9FBB, 0x3F8AE7E9, 0x3F8B3044, 0x3F8B78CB, 0x3F8BC17F, 0x3F8C0A60,
   0x3F8C536E, 0x3F8C9CAB, 0x3F8CE615, 0x3F8D2FAE, 0x3F8D7976, 0x3F8DC36D, 0x3F8E0D93, 0x3F8E57E9,
   0x3F8EA270, 0x3F8EED26, 0x3F8F380E, 0x3F8F8327, 0x3F8FCE71, 0x3F9019ED, 0x3F90659C, 0x3F90B17D,
   0x3F90FD91, 0x3F9149D8, 0x3F919653, 0x3F91E302, 0x3F922FE6, 0x3F927CFF, 0x3F92CA4C, 0x3F9317D0]

/-- Entries 768 to 831. -/
def normalH12 : List Nat :=
  [0x3F93658A, 0x3F93B37A, 0x3F9401A1, 0x3F944FFF, 0x3F949E95, 0x3F94ED64, 0x3F953C6B, 0x3F958BAB,
   0x3F95DB24, 0x3F962AD8, 0x3F967AC5, 0x3F96CAEE, 0x3F971B52, 0x3F976BF2, 0x3F97BCCE, 0x3F980DE6,
   0x3F985F3C, 0x3F98B0D0, 0x3F9902A2, 0x3F9954B2, 0x3F99A702, 0x3F99F991, 0x3F9A4C61, 0x3F9A9F72,
   0x3F9AF2C4, 0x3F9B4657, 0x3F9B9A2D, 0x3F9BEE46, 0x3F9C42A3, 0x3F9C9744, 0x3F9CEC29, 0x3F9D4154,
   0x3F9D96C4, 0x3F9DEC7B, 0x3F9E4279, 0x3F9E98BE, 0x3F9EEF4C, 0x3F9F4623, 0x3F9F9D43, 0x3F9FF4AE,
   0x3FA04C63, 0x3FA0A464, 0x3FA0FCB1, 0x3FA1554B, 0x3FA1AE33, 0x3FA20768, 0x3FA260ED, 0x3FA2BAC2,
   0x3FA314E7, 0x3FA36F5D, 0x3FA3CA25, 0x3FA4253F, 0x3FA480AD, 0x3FA4DC70, 0x3FA53887, 0x3FA594F4,
   0x3FA5F1B8, 0x3FA64ED3, 0x3FA6AC47, 0x3FA70A14, 0x3FA7683B, 0x3FA7C6BD, 0x3FA8259A, 0x3FA884D5]

/-- Entries 832 to 895. -/
def normalH13 : List Nat :=
  [0x3FA8E46C, 0x3FA94463, 0x3FA9A4B9, 0x3FAA0570, 0x3FAA6687, 0x3FAAC802, 0x3FAB29E0, 0x3FAB8C22,
   0x3FABEECA, 0x3FAC51D8, 0x3FACB54E, 0x3FAD192D, 0x3FAD7D75, 0x3FADE228, 0x3FAE4748, 0x3FAEACD5,
   0x3FAF12D0, 0x3FAF793A, 0x3FAFE016, 0x3FB04764, 0x3FB0AF24, 0x3FB1175A, 0x3FB18005, 0x3FB1E928,
   0x3FB252C3, 0x3FB2BCD8, 0x3FB32769, 0x3FB39276, 0x3FB3FE01, 0x3FB46A0C, 0x3FB4D699, 0x3FB543A8,
   0x3FB5B13B, 0x3FB61F53, 0x3FB68DF4, 0x3FB6FD1D, 0x3FB76CD1, 0x3FB7DD11, 0x3FB84DDF, 0x3FB8BF3E,
   0x3FB9312E, 0x3FB9A3B1, 0x3FBA16CA, 0x3FBA8A7A, 0x3FBAFEC3, 0x3FBB73A7, 0x3FBBE929, 0x3FBC5F49,
   0x3FBCD60B, 0x3FBD4D71, 0x3FBDC57B, 0x3FBE3E2E, 0x3FBEB78B, 0x3FBF3194, 0x3FBFAC4C, 0x3FC027B6,
   0x3FC0A3D2, 0x3FC120A5, 0x3FC19E31, 0x3FC21C78, 0x3FC29B7D, 0x3FC31B43, 0x3FC39BCD, 0x3FC41D1D]

/-- Entries 896 to 959. -/
def normalH14 : List Nat :=
  [0x3FC49F36, 0x3FC5221C, 0x3FC5A5D1, 0x3FC62A58, 0x3FC6AFB6, 0x3FC735EC, 0x3FC7BCFF, 0x3FC844F2,
   0x3FC8CDC8, 0x3FC95785, 0x3FC9E22D, 0x3FCA6DC4, 0x3FCAFA4C, 0x3FCB87CB, 0x3FCC1645, 0x3FCCA5BD,
   0x3FCD3638, 0x3FCDC7BB, 0x3FCE5A49, 0x3FCEEDE8, 0x3FCF829C, 0x3FD0186A, 0x3FD0AF57, 0x3FD14769,
   0x3FD1E0A4, 0x3FD27B0E, 0x3FD316AD, 0x3FD3B387, 0x3FD451A1, 0x3FD4F102, 0x3FD591AF, 0x3FD633B0,
   0x3FD6D70A, 0x3FD77BC6, 0x3FD821E9, 0x3FD8C97C, 0x3FD97286, 0x3FDA1D0E, 0x3FDAC91D, 0x3FDB76BA,
   0x3FDC25F0, 0x3FDCD6C5, 0x3FDD8944, 0x3FDE3D76, 0x3FDEF364, 0x3FDFAB1A, 0x3FE064A0, 0x3FE12003,
   0x3FE1DD4D, 0x3FE29C8A, 0x3FE35DC7, 0x3FE4210F, 0x3FE4E66F, 0x3FE5ADF6, 0x3FE677B2, 0x3FE743B0,
   0x3FE81200, 0x3FE8E2B2, 0x3FE9B5D6, 0x3FEA8B7E, 0x3FEB63BB, 0x3FEC3EA1, 0x3FED1C42, 0x3FEDFCB2]

/-- Entries 960 to 1023. -/
def normalH15 : List Nat :=
  [0x3FEEE008, 0x3FEFC65A, 0x3FF0AFBE, 0x3FF19C4D, 0x3FF28C21, 0x3FF37F54, 0x3FF47603, 0x3FF5704B,
   0x3FF66E4C, 0x3FF77025, 0x3FF875FB, 0x3FF97FF0, 0x3FFA8E2C, 0x3FFBA0D7, 0x3FFCB81C, 0x3FFDD429,
   0x3FFEF52E, 0x40000DAF, 0x4000A378, 0x40013C0E, 0x4001D792, 0x40027623, 0x400317E5, 0x4003BCFE,
   0x40046596, 0x400511D9, 0x4005C1F6, 0x4006761E, 0x40072E8A, 0x4007EB73, 0x4008AD1B, 0x400973C7,
   0x400A3FC2, 0x400B1161, 0x400BE8FF, 0x400CC6FF, 0x400DABD2, 0x400E97F3, 0x400F8BE8, 0x4010884C,
   0x40118DC9, 0x40129D20, 0x4013B72B, 0x4014DCE2, 0x40160F61, 0x40174FF1, 0x4018A00F, 0x401A0178,
   0x401B763B, 0x401D00D0, 0x401EA42F, 0x402063FB, 0x402244B9, 0x40244C24, 0x4026819E, 0x4028EEF2,
   0x402BA17E, 0x402EAC34, 0x40322B49, 0x40364B84, 0x403B5AB4, 0x4041F3E3, 0x404B9EAC, 0x405F2CB7]

/-- Entry k of the normal table. -/
def normalH (k : Nat) : Nat :=
  match k / 64 with
  | 0 => normalH0.getD (k % 64) 0
  | 1 => normalH1.getD (k % 64) 0
  | 2 => normalH2.getD (k % 64) 0
  | 3 => normalH3.getD (k % 64) 0
  | 4 => normalH4.getD (k % 64) 0
  | 5 => normalH5.getD (k % 64) 0
  | 6 => normalH6.getD (k % 64) 0
  | 7 => normalH7.getD (k % 64) 0
  | 8 => normalH8.getD (k % 64) 0
  | 9 => normalH9.getD (k % 64) 0
  | 10 => normalH10.getD (k % 64) 0
  | 11 => normalH11.getD (k % 64) 0
  | 12 => normalH12.getD (k % 64) 0
  | 13 => normalH13.getD (k % 64) 0
  | 14 => normalH14.getD (k % 64) 0
  | _ => normalH15.getD (k % 64) 0

end Sys2Proof.Machine
end

