-- ==== Sys2Proof/Machine/SfTables.lean ====
section
/-! DEFINITION. The eleven special-function tables of version 1 (R167, Table 7.1) as FP32 patterns: 17 breakpoints and 17
node values each, computed from the functions' definitions and rounded to nearest-even. -/
namespace Sys2Proof.Machine

/-- Breakpoints of EXP2. -/
def exp2X : List Nat :=
  [0x00000000, 0x3D800000, 0x3E000000, 0x3E400000, 0x3E800000, 0x3EA00000, 0x3EC00000, 0x3EE00000, 0x3F000000,
   0x3F100000, 0x3F200000, 0x3F300000, 0x3F400000, 0x3F500000, 0x3F600000, 0x3F700000, 0x3F800000]

/-- Node values of EXP2. -/
def exp2Y : List Nat :=
  [0x3F800000, 0x3F85AAC3, 0x3F8B95C2, 0x3F91C3D3, 0x3F9837F0, 0x3F9EF532, 0x3FA5FED7, 0x3FAD583F, 0x3FB504F3,
   0x3FBD08A4, 0x3FC5672A, 0x3FCE248C, 0x3FD744FD, 0x3FE0CCDF, 0x3FEAC0C7, 0x3FF5257D, 0x40000000]

/-- Breakpoints of LOG2. -/
def log2X : List Nat :=
  [0x3F800000, 0x3F880000, 0x3F900000, 0x3F980000, 0x3FA00000, 0x3FA80000, 0x3FB00000, 0x3FB80000, 0x3FC00000,
   0x3FC80000, 0x3FD00000, 0x3FD80000, 0x3FE00000, 0x3FE80000, 0x3FF00000, 0x3FF80000, 0x40000000]

/-- Node values of LOG2. -/
def log2Y : List Nat :=
  [0x00000000, 0x3DB31FB8, 0x3E2E00D2, 0x3E7DE0B6, 0x3EA4D3C2, 0x3EC8DDD4, 0x3EEB3A9F, 0x3F060828, 0x3F15C01A,
   0x3F24D3C2, 0x3F335004, 0x3F41404F, 0x3F4EAED0, 0x3F5BA4A4, 0x3F6829FB, 0x3F744636, 0x3F800000]

/-- Breakpoints of RECIP. -/
def recipX : List Nat :=
  [0x3F800000, 0x3F880000, 0x3F900000, 0x3F980000, 0x3FA00000, 0x3FA80000, 0x3FB00000, 0x3FB80000, 0x3FC00000,
   0x3FC80000, 0x3FD00000, 0x3FD80000, 0x3FE00000, 0x3FE80000, 0x3FF00000, 0x3FF80000, 0x40000000]

/-- Node values of RECIP. -/
def recipY : List Nat :=
  [0x3F800000, 0x3F70F0F1, 0x3F638E39, 0x3F579436, 0x3F4CCCCD, 0x3F430C31, 0x3F3A2E8C, 0x3F321643, 0x3F2AAAAB,
   0x3F23D70A, 0x3F1D89D9, 0x3F17B426, 0x3F124925, 0x3F0D3DCB, 0x3F088889, 0x3F042108, 0x3F000000]

/-- Breakpoints of SQRT. -/
def sqrtX : List Nat :=
  [0x3F800000, 0x3F900000, 0x3FA00000, 0x3FB00000, 0x3FC00000, 0x3FD00000, 0x3FE00000, 0x3FF00000, 0x40000000,
   0x40100000, 0x40200000, 0x40300000, 0x40400000, 0x40500000, 0x40600000, 0x40700000, 0x40800000]

/-- Node values of SQRT. -/
def sqrtY : List Nat :=
  [0x3F800000, 0x3F87C3B6, 0x3F8F1BBD, 0x3F9617E3, 0x3F9CC471, 0x3FA32B2B, 0x3FA953FD, 0x3FAF456F, 0x3FB504F3,
   0x3FC00000, 0x3FCA62C2, 0x3FD44395, 0x3FDDB3D7, 0x3FE6C15A, 0x3FEF7751, 0x3FF7DEF6, 0x40000000]

/-- Breakpoints of RSQRT. -/
def rsqrtX : List Nat :=
  [0x3F800000, 0x3F900000, 0x3FA00000, 0x3FB00000, 0x3FC00000, 0x3FD00000, 0x3FE00000, 0x3FF00000, 0x40000000,
   0x40100000, 0x40200000, 0x40300000, 0x40400000, 0x40500000, 0x40600000, 0x40700000, 0x40800000]

/-- Node values of RSQRT. -/
def rsqrtY : List Nat :=
  [0x3F800000, 0x3F715BEF, 0x3F64F92E, 0x3F5A514A, 0x3F5105EC, 0x3F48D2AB, 0x3F41848F, 0x3F3AF4BA, 0x3F3504F3,
   0x3F2AAAAB, 0x3F21E89B, 0x3F1A5FB2, 0x3F13CD3A, 0x3F0E00D5, 0x3F08D677, 0x3F0432A5, 0x3F000000]

/-- Breakpoints of SINQ. -/
def sinqX : List Nat :=
  [0x00000000, 0x3D800000, 0x3E000000, 0x3E400000, 0x3E800000, 0x3EA00000, 0x3EC00000, 0x3EE00000, 0x3F000000,
   0x3F100000, 0x3F200000, 0x3F300000, 0x3F400000, 0x3F500000, 0x3F600000, 0x3F700000, 0x3F800000]

/-- Node values of SINQ. -/
def sinqY : List Nat :=
  [0x00000000, 0x3DC8BD36, 0x3E47C5C2, 0x3E94A031, 0x3EC3EF15, 0x3EF15AEA, 0x3F0E39DA, 0x3F226799, 0x3F3504F3,
   0x3F45E403, 0x3F54DB31, 0x3F61C598, 0x3F6C835E, 0x3F74FA0B, 0x3F7B14BE, 0x3F7EC46D, 0x3F800000]

/-- Breakpoints of SIGMOID. -/
def sigmoidX : List Nat :=
  [0x00000000, 0x3E800000, 0x3F000000, 0x3F400000, 0x3F800000, 0x3FA00000, 0x3FC00000, 0x3FE00000, 0x40000000,
   0x40200000, 0x40400000, 0x40600000, 0x40800000, 0x40A00000, 0x40C00000, 0x41000000, 0x41800000]

/-- Node values of SIGMOID. -/
def sigmoidY : List Nat :=
  [0x3F000000, 0x3F0FEACD, 0x3F1F597F, 0x3F2DDEA8, 0x3F3B26A8, 0x3F46FD20, 0x3F514C90, 0x3F5A1994, 0x3F617BEB,
   0x3F6C948F, 0x3F73DBE6, 0x3F787EFE, 0x3F7B6541, 0x3F7E4961, 0x3F7F5DF4, 0x3F7FEA06, 0x3F7FFFFE]

/-- Breakpoints of SOFTPLUS. -/
def softplusX : List Nat :=
  [0x00000000, 0x3E800000, 0x3F000000, 0x3F400000, 0x3F800000, 0x3FA00000, 0x3FC00000, 0x3FE00000, 0x40000000,
   0x40200000, 0x40400000, 0x40600000, 0x40800000, 0x40A00000, 0x40C00000, 0x41000000, 0x41800000]

/-- Node values of SOFTPLUS. -/
def softplusY : List Nat :=
  [0x3F317218, 0x3F5370C4, 0x3F795D1C, 0x3F9184FD, 0x3FA818F5, 0x3FC03F36, 0x3FD9C7E9, 0x3FF4823A, 0x40081F97,
   0x40250C88, 0x40431C0E, 0x4061E76E, 0x408094AF, 0x40A03703, 0x40C01448, 0x41000160, 0x41800000]

/-- Breakpoints of ERF. -/
def erfX : List Nat :=
  [0x00000000, 0x3E000000, 0x3E800000, 0x3EC00000, 0x3F000000, 0x3F200000, 0x3F400000, 0x3F600000, 0x3F800000,
   0x3F900000, 0x3FA00000, 0x3FB00000, 0x3FC00000, 0x3FE00000, 0x40000000, 0x40200000, 0x40900000]

/-- Node values of ERF. -/
def erfY : List Nat :=
  [0x00000000, 0x3E0FAF0D, 0x3E8D7AA7, 0x3ECEE869, 0x3F053F7B, 0x3F1F8CB7, 0x3F360E4C, 0x3F48B925, 0x3F57BB3D,
   0x3F636D69, 0x3F6C432F, 0x3F72BB46, 0x3F7752AB, 0x3F7C9684, 0x3F7ECD71, 0x3F7FE554, 0x3F800000]

/-- Breakpoints of GELU. -/
def geluX : List Nat :=
  [0xC0800000, 0xC0400000, 0xC0000000, 0xBFC00000, 0xBF800000, 0xBF400000, 0xBF000000, 0xBE800000, 0x00000000,
   0x3E800000, 0x3F000000, 0x3F400000, 0x3F800000, 0x3FC00000, 0x40000000, 0x40400000, 0x40800000]

/-- Node values of GELU. -/
def geluY : List Nat :=
  [0xB904D6BD, 0xBB84B34C, 0xBD3A5E7C, 0xBDCD3B52, 0xBE227686, 0xBE2E0CC0, 0xBE1DF8A2, 0xBDCD765D, 0x00000000,
   0x3E1944D1, 0x3EB103AF, 0x3F147CD0, 0x3F57625F, 0x3FB32C4B, 0x3FFA2D0C, 0x403FBDA6, 0x407FFDED]

/-- Breakpoints of SILU. -/
def siluX : List Nat :=
  [0xC1000000, 0xC0800000, 0xC0400000, 0xC0000000, 0xBFC00000, 0xBF800000, 0xBF000000, 0xBE800000, 0x00000000,
   0x3E800000, 0x3F000000, 0x3F800000, 0x3FC00000, 0x40000000, 0x40400000, 0x40800000, 0x41000000]

/-- Node values of SILU. -/
def siluY : List Nat :=
  [0xBB2FD1EF, 0xBD9357D1, 0xBE11B139, 0xBE7420A9, 0xBE8C1A51, 0xBE89B2B1, 0xBE414D03, 0xBDE02A67, 0x00000000,
   0x3E0FEACD, 0x3E9F597F, 0x3F3B26A8, 0x3F9CF96C, 0x3FE17BEB, 0x4036E4EC, 0x407B6541, 0x40FFEA06]

end Sys2Proof.Machine
end

