-- ==== Sys2Proof/Machine/Sfu.lean ====
section
/-! DEFINITION. The special-function evaluator (R166-R169), the fused forms and derivatives (R174, R175) and the normal
variates (R191, R192). -/
namespace Sys2Proof.Machine

/-- log2 e, R168. -/
def cL2E : Word := 0x3FB8AA3B#32
/-- ln 2, R168. -/
def cLN2 : Word := 0x3F317218#32
/-- 2/π, R168. -/
def cC2P : Word := 0x3F22F983#32
/-- The FP32 value nearest 2/√π, R175. -/
def cERF : Word := 0x3F906EBB#32
/-- 2π in FP32, R192. -/
def c2PI : Word := 0x40C90FDB#32

/-- A published table: breakpoints and node values, FP32. -/
structure SfTable where
  xs : List Nat
  ys : List Nat
  deriving DecidableEq, Repr

/-- The table a function ID uses (Table 7.1); none for an unlisted ID. -/
def tableOf (fid : Nat) : Option SfTable :=
  match fid with
  | 0x00 => some ⟨exp2X, exp2Y⟩
  | 0x01 => some ⟨log2X, log2Y⟩
  | 0x02 => some ⟨sigmoidX, sigmoidY⟩
  | 0x03 => some ⟨sigmoidX, sigmoidY⟩
  | 0x04 => some ⟨geluX, geluY⟩
  | 0x05 => some ⟨siluX, siluY⟩
  | 0x06 => some ⟨softplusX, softplusY⟩
  | 0x07 => some ⟨recipX, recipY⟩
  | 0x08 => some ⟨rsqrtX, rsqrtY⟩
  | 0x09 => some ⟨sqrtX, sqrtY⟩
  | 0x0A => some ⟨sinqX, sinqY⟩
  | 0x0B => some ⟨sinqX, sinqY⟩
  | 0x0C => some ⟨erfX, erfY⟩
  | 0x0D => some ⟨exp2X, exp2Y⟩
  | _ => none

/-- Is the function ID one of Table 4.8? -/
def fidListed (fid : Nat) : Bool := decide (fid ≤ 0x0D)

/-- Is the table version held? Zero selects the current one, which is 1 (R171, R193). -/
def verHeld (v : Nat) : Bool := decide (v ≤ 1)

/-- An FP32 pattern as an exact number. -/
def nodeDy (n : Nat) : Dy := Val.dy (decF32 (BitVec.ofNat 32 n))

/-- Breakpoint i of a table. -/
def SfTable.x (t : SfTable) (i : Nat) : Dy := nodeDy (t.xs.getD i 0)
/-- Node value i of a table. -/
def SfTable.y (t : SfTable) (i : Nat) : Dy := nodeDy (t.ys.getD i 0)

/-- The segment holding `v`: the last i below 16 with x_i ≤ v (R167); v = x_16 falls in segment 15, whose line gives
y_16 there. -/
def SfTable.seg (t : SfTable) (v : Dy) : Nat :=
  ((upTo 16).filter (fun i => Dy.le (t.x i) v)).getLastD 0

/-- The exact slope of segment i (R167): every width is a power of two. -/
def SfTable.slope (t : SfTable) (i : Nat) : Dy :=
  (Dy.sub (t.y (i + 1)) (t.y i)).scale (-(Dy.sub (t.x (i + 1)) (t.x i)).ilog)

/-- The interpolant P(v) (R167). -/
def SfTable.p (t : SfTable) (v : Dy) : Dy :=
  let i := t.seg v
  Dy.add (t.y i) (Dy.mul (t.slope i) (Dy.sub v (t.x i)))

/-- Is `v` beyond the last breakpoint? -/
def SfTable.above (t : SfTable) (v : Dy) : Bool := Dy.lt (t.x 16) v

/-- Absolute value. -/
def Dy.abs (a : Dy) : Dy := ⟨a.m.natAbs, a.e⟩

/-- One. -/
def Dy.one : Dy := ⟨1, 0⟩

/-- SIN's quadrant formula on the reduced argument (Table 7.2), exact. -/
def sinQuad (tb : SfTable) (q : Nat) (t : Dy) : Dy :=
  match q with
  | 0 => tb.p t
  | 1 => tb.p (Dy.sub Dy.one t)
  | 2 => Dy.neg (tb.p t)
  | _ => Dy.neg (tb.p (Dy.sub Dy.one t))

/-- SIN (shift 0) and COS (shift 1) of a finite argument. -/
def sinLike (tb : SfTable) (x : Word) (sh : Int) : Word × Flags :=
  let u := (decF32 (fmul x cC2P).1).dy
  let n := u.floor
  dyF32 false (sinQuad tb ((n + sh) % 4).toNat (Dy.sub u (Dy.int n)))

/-- 2^u through the EXP2 table: T(t) × 2^n. -/
def exp2Of (tb : SfTable) (u : Dy) : Word × Flags :=
  let n := u.floor
  dyF32 false ((tb.p (Dy.sub u (Dy.int n))).scale (clampExp n))

/-- A finite argument that is not zero: stages 2 to 4 of R166 by Table 7.2, with the ranges of Table 7.3. -/
def sfFinite (fid : Nat) (tb : SfTable) (x : Word) (neg : Bool) (m : Nat) (e : Int) : Word × Flags :=
  let d := (Val.num neg m e).dy
  let l : Int := (m.log2 : Int) + e
  match fid with
  | 0x00 =>
    match decF32 (fmul x cL2E).1 with
    | .inf s => if s then (0#32, flUnderflow ||| flInexact) else (infW false, flOverflow ||| flInexact)
    | u => exp2Of tb u.dy
  | 0x0D => exp2Of tb d
  | 0x01 =>
    if neg then (canonNaN, flInvalid)
    else dyF32 false (Dy.mul (Dy.add (Dy.int l) (tb.p (d.scale (-l)))) (nodeDy cLN2.toNat))
  | 0x07 =>
    let r := (tb.p (d.abs.scale (-l))).scale (-l)
    dyF32 neg (if neg then r.neg else r)
  | 0x08 =>
    if neg then (canonNaN, flInvalid)
    else
      let k := Int.fdiv l 2
      dyF32 false ((tb.p (d.scale (-2 * k))).scale (-k))
  | 0x09 =>
    if neg then (canonNaN, flInvalid)
    else
      let k := Int.fdiv l 2
      dyF32 false ((tb.p (d.scale (-2 * k))).scale k)
  | 0x02 =>
    let t := d.abs
    let p := if tb.above t then tb.y 16 else tb.p t
    dyF32 false (if neg then Dy.sub Dy.one p else p)
  | 0x03 =>
    let t := (d.abs).scale 1
    let p := if tb.above t then tb.y 16 else tb.p t
    let r := Dy.sub (p.scale 1) Dy.one
    dyF32 neg (if neg then r.neg else r)
  | 0x06 =>
    let t := d.abs
    let p := if tb.above t then t else tb.p t
    dyF32 false (if neg then Dy.sub p t else p)
  | 0x0C =>
    let t := d.abs
    let p := if tb.above t then Dy.one else tb.p t
    dyF32 neg (if neg then p.neg else p)
  | 0x0A => sinLike tb x 0
  | 0x0B => sinLike tb x 1
  | _ =>  -- GELU, SILU
    dyF32 neg
      (if Dy.lt d (tb.x 0) then tb.y 0
       else if tb.above d then Dy.add (Dy.sub d (tb.x 16)) (tb.y 16)
       else tb.p d)

/-- ±0 arguments (Table 7.3; +0 by Table 7.2). -/
def sfZero (fid : Nat) (neg : Bool) : Word :=
  match fid with
  | 0x00 => 0x3F800000#32
  | 0x0D => 0x3F800000#32
  | 0x0B => 0x3F800000#32
  | 0x01 => infW true
  | 0x07 => infW neg
  | 0x08 => infW neg
  | 0x02 => 0x3F000000#32
  | 0x06 => BitVec.ofNat 32 (softplusY.getD 0 0)
  | _ => zeroW neg

/-- ±∞ arguments (Table 7.3). -/
def sfInf (fid : Nat) (tb : SfTable) (neg : Bool) : Word × Flags :=
  let bad := (canonNaN, flInvalid)
  match fid with
  | 0x00 => (if neg then 0#32 else infW false, 0)
  | 0x0D => (if neg then 0#32 else infW false, 0)
  | 0x01 => if neg then bad else (infW false, 0)
  | 0x07 => (zeroW neg, 0)
  | 0x08 => if neg then bad else (0#32, 0)
  | 0x09 => if neg then bad else (infW false, 0)
  | 0x02 => dyF32 false (if neg then Dy.sub Dy.one (tb.y 16) else tb.y 16)
  | 0x03 =>
    let r := Dy.sub ((tb.y 16).scale 1) Dy.one
    dyF32 false (if neg then r.neg else r)
  | 0x06 => (if neg then 0#32 else infW false, 0)
  | 0x0C => (if neg then 0xBF800000#32 else 0x3F800000#32, 0)
  | 0x0A => bad
  | 0x0B => bad
  | _ => if neg then dyF32 false (tb.y 0) else (infW false, 0)

/-- Evaluate a function of Table 4.8 at an FP32 argument (R166-R169). -/
def sfEval (fid : Nat) (x : Word) : Word × Flags :=
  match tableOf fid with
  | none => (canonNaN, 0)
  | some tb =>
    match decF32 x with
    | .nan => (canonNaN, 0)
    | .inf s => sfInf fid tb s
    | .num s m e => if m = 0 then (sfZero fid s, 0) else sfFinite fid tb x s m e

/-- Negate an FP32 pattern. -/
def fneg (x : Word) : Word := x ^^^ 0x80000000#32

/-- Run an FP32 step on a value that already carries flags. -/
def stepF (a : Word × Flags) (f : Word → Word × Flags) : Word × Flags :=
  let r := f a.1
  (r.1, a.2 ||| r.2)

/-- SFNB: f(round(a + b)) (R174). -/
def sfnb (fid : Nat) (a b : Word) : Word × Flags := stepF (fadd a b) (sfEval fid)

/-- SFNBS: round(c × f(round(a + b))) (R174). -/
def sfnbs (fid : Nat) (a b c : Word) : Word × Flags := stepF (sfnb fid a b) (fmul c)

/-- Does the function's derivative read the saved input (Table 4.8)? -/
def sderFromInput (fid : Nat) : Bool :=
  fid = 4 || fid = 5 || fid = 0xA || fid = 0xB || fid = 0xC

/-- 1.0. -/
def fOne : Word := 0x3F800000#32

/-- f′ for the functions other than GELU and SILU (Table 7.6), each step rounded. -/
def sderScale (fid : Nat) (y x : Word) : Word × Flags :=
  match fid with
  | 0x00 => (y, 0)
  | 0x0D => fmul y cLN2
  | 0x01 => sfEval 0 (fneg y)
  | 0x02 => stepF (fsub fOne y) (fmul y)
  | 0x03 => stepF (fmul y y) (fsub fOne)
  | 0x06 => stepF (sfEval 0 (fneg y)) (fsub fOne)
  | 0x07 => stepF (fmul y y) (fun w => (fneg w, 0))
  | 0x08 => stepF (stepF (fmul 0xBF000000#32 y) (fun w => fmul w y)) (fun w => fmul w y)
  | 0x09 => stepF (sfEval 7 y) (fmul 0x3F000000#32)
  | 0x0A => sfEval 0xB x
  | 0x0B => stepF (sfEval 0xA x) (fun w => (fneg w, 0))
  | _ => stepF (stepF (stepF (fmul x x) (fun w => (fneg w, 0))) (sfEval 0)) (fmul cERF)

/-- The exact slope GELU and SILU use as f′: 0 below the range, 1 above it (R175). -/
def sderSlope (tb : SfTable) (x : Word) : Val :=
  match decF32 x with
  | .nan => .nan
  | .inf s => if s then .num false 0 0 else .num false 1 0
  | v =>
    if Dy.lt v.dy (tb.x 0) then .num false 0 0
    else if tb.above v.dy then .num false 1 0
    else (tb.slope (tb.seg v.dy)).val false

/-- SDER: round(g × f′) (R175). -/
def sder (fid : Nat) (y g x : Word) : Word × Flags :=
  if fid = 4 ∨ fid = 5 then
    let (v, f) := Val.mul (decF32 g) (sderSlope ((tableOf fid).getD ⟨[], []⟩) x)
    let (w, h) := encF32 .nearest v
    (w, f ||| h)
  else stepF (sderScale fid y x) (fmul g)

/-- SNORM by the 1,024-entry table (R191). -/
def snormTable (u : Word) : Word × Flags :=
  let i := field u.toNat 30 21
  let f : Dy := ⟨(field u.toNat 20 0 : Nat), -21⟩
  let h := fun k => nodeDy (normalH k)
  let z := if i < 1023 then Dy.add (h i) (Dy.mul f (Dy.sub (h (i + 1)) (h i)))
           else Dy.add (h 1023) (Dy.mul f (Dy.sub (h 1023) (h 1022)))
  dyF32 false (if u.msb then z.neg else z)

/-- SNORM by Box–Muller (R192): `sine` selects the sine branch. -/
def snormBoxMuller (sine : Bool) (a b : Word) : Word × Flags :=
  let u1 := dyF32 false ⟨2 * (field a.toNat 31 8 : Nat) + 1, -25⟩
  let u2 := dyF32 false ⟨(field b.toNat 31 8 : Nat), -24⟩
  let rho := stepF (stepF (stepF u1 (sfEval 1)) (fmul 0xC0000000#32)) (sfEval 9)
  let tr := stepF (stepF u2 (fun w => fmul w c2PI)) (sfEval (if sine then 0xA else 0xB))
  stepF (rho.1, rho.2 ||| tr.2) (fun w => fmul w tr.1)

/-- The two words SFTAB.READ_DATA returns (R173): node value and breakpoint, all ones where the selection names none. -/
def sftabRead (ver fid idx : Nat) : Nat × Nat :=
  match tableOf fid with
  | some t => if verHeld ver && decide (idx ≤ 16) then (t.ys.getD idx 0, t.xs.getD idx 0) else (2 ^ 32 - 1, 2 ^ 32 - 1)
  | none => (2 ^ 32 - 1, 2 ^ 32 - 1)

/-- What RNG.NTAB_DATA returns (R197). -/
def ntabRead (ver idx : Nat) : Nat := if verHeld ver && decide (idx < 1024) then normalH idx else 2 ^ 32 - 1

end Sys2Proof.Machine
end

