-- ==== Sys2Proof/Machine/Alu.lean ====
section
/-! DEFINITION. What the scalar and lane operations compute (R84, Table 3.7, Table 4.5), without state. -/
namespace Sys2Proof.Machine

/-- Count of leading zeros; 32 for 0 (R84). -/
def clz32 (x : Word) : Word := if x = 0 then 32 else BitVec.ofNat 32 (31 - x.toNat.log2)

/-- Count of ones. -/
def popc32 (x : Word) : Word := BitVec.ofNat 32 ((upTo 32).filter (fun i => x.getLsbD i)).length

/-- A Bool as a word. -/
def wordOf (b : Bool) : Word := if b then 1 else 0

/-- Quotient and remainder rounded toward zero, with the corners of R84. -/
def divS (a b : Word) : Word := if b = 0 then 0xFFFFFFFF#32 else BitVec.ofInt 32 (Int.tdiv a.toInt b.toInt)
/-- Signed remainder. -/
def remS (a b : Word) : Word := if b = 0 then a else BitVec.ofInt 32 (Int.tmod a.toInt b.toInt)

/-- Register-register operations (Table 3.7, R84). -/
def RROp.eval : RROp → Word → Word → Word
  | .add, a, b => a + b
  | .sub, a, b => a - b
  | .and, a, b => a &&& b
  | .or, a, b => a ||| b
  | .xor, a, b => a ^^^ b
  | .sll, a, b => a <<< (b.toNat % 32)
  | .srl, a, b => a >>> (b.toNat % 32)
  | .sra, a, b => a.sshiftRight (b.toNat % 32)
  | .slt, a, b => wordOf (a.slt b)
  | .sltu, a, b => wordOf (a.ult b)
  | .min, a, b => if a.slt b then a else b
  | .max, a, b => if a.slt b then b else a
  | .minu, a, b => if a.ult b then a else b
  | .maxu, a, b => if a.ult b then b else a
  | .clz, a, _ => clz32 a
  | .popc, a, _ => popc32 a
  | .mul, a, b => a * b
  | .mulh, a, b => ((a.signExtend 64) * (b.signExtend 64)).extractLsb' 32 32
  | .mulhu, a, b => ((a.zeroExtend 64) * (b.zeroExtend 64)).extractLsb' 32 32
  | .div, a, b => divS a b
  | .divu, a, b => if b = 0 then 0xFFFFFFFF#32 else a / b
  | .rem, a, b => remS a b
  | .remu, a, b => if b = 0 then a else a % b

/-- Register-immediate operations (Table 3.7). -/
def RIOp.eval : RIOp → Word → BitVec 16 → Word
  | .addi, a, i => a + i.signExtend 32
  | .andi, a, i => a &&& i.zeroExtend 32
  | .ori, a, i => a ||| i.zeroExtend 32
  | .xori, a, i => a ^^^ i.zeroExtend 32
  | .slti, a, i => wordOf (a.slt (i.signExtend 32))
  | .sltiu, a, i => wordOf (a.ult (i.signExtend 32))

/-- SHI (Table 3.7): imm[15:14] selects the shift, imm[4:0] the amount. -/
def shiEval (a : Word) (imm : BitVec 16) : Word :=
  let n := imm.toNat % 32
  match field imm.toNat 15 14 with
  | 0 => a <<< n
  | 1 => a >>> n
  | _ => a.sshiftRight n

/-- Branch conditions (Table 3.7). -/
def BrOp.test : BrOp → Word → Word → Bool
  | .beq, a, b => a == b
  | .bne, a, b => a != b
  | .blt, a, b => a.slt b
  | .bge, a, b => !(a.slt b)
  | .bltu, a, b => a.ult b
  | .bgeu, a, b => !(a.ult b)

/-- Integer comparisons of VICMP (Table 4.5). -/
def icmp (func : Nat) (a b : Word) : Bool :=
  match func with
  | 0 => a == b
  | 1 => a.slt b
  | 2 => a.sle b
  | 3 => a != b
  | 4 => a.ult b
  | _ => a.ule b

/-- Lane-wise operations of two or three lane operands (Table 4.5). -/
def VOp.lane (op : VOp) (func : Nat) (a b c : Word) : Word × Flags :=
  match op with
  | .vfadd => fadd a b
  | .vfsub => fsub a b
  | .vfmul => fmul a b
  | .vfma => ffma a b c
  | .vfmin => (fmin a b, 0)
  | .vfmax => (fmax a b, 0)
  | .vfabs => (a &&& 0x7FFFFFFF#32, 0)
  | .vfneg => (fneg a, 0)
  | .vfscale => fscale a b.toInt
  | .viadd => (a + b, 0)
  | .visub => (a - b, 0)
  | .vimul => (a * b, 0)
  | .vand => (a &&& b, 0)
  | .vor => (a ||| b, 0)
  | .vxor => (a ^^^ b, 0)
  | .vshl => (a <<< (b.toNat % 32), 0)
  | .vshr => (a >>> (b.toNat % 32), 0)
  | .vsra => (a.sshiftRight (b.toNat % 32), 0)
  | .vimin => (if func = 1 then RROp.minu.eval a b else RROp.min.eval a b, 0)
  | .vimax => (if func = 1 then RROp.maxu.eval a b else RROp.max.eval a b, 0)
  | .vcvtf => cvtF32 a
  | _ => (0, 0)

/-- Combine neighbours: (0,1), (2,3), … (R111). -/
def pairUp {α : Type} (f : α → α → α) : List α → List α
  | a :: b :: l => f a b :: pairUp f l
  | l => l

/-- The fixed pairwise tree over 64 lanes (R111): six levels to the root. -/
def tree64 {α : Type} (f : α → α → α) (l : List α) : Option α :=
  (pairUp f (pairUp f (pairUp f (pairUp f (pairUp f (pairUp f l)))))).head?

/-- Combine two optional lanes: a disabled lane does not contribute (R111). -/
def optComb {α : Type} (f : α → α → α) : Option α → Option α → Option α
  | none, y => y
  | x, none => x
  | some x, some y => some (f x y)

/-- A reduction over the enabled lanes by the tree of R111; none where no lane is enabled. -/
def reduceLanes {α : Type} (en : DWord) (g : Fin 64 → α) (f : α → α → α) : Option α :=
  (tree64 (optComb f) (lanes.map (fun i => if en.getLsbD i.val then some (g i) else none))).bind id

/-- A NaN result is canonical (R131). -/
def canonW (w : Word) : Word := if isNaN32 w then canonNaN else w

end Sys2Proof.Machine
end

