-- ==== Sys2Proof/Machine/Flags.lean ====
section
/-! DEFINITION. The sticky arithmetic flags (R131, R159) and the generator sets that draws move (R184, R187, R194). -/
namespace Sys2Proof.Machine

/-- OR flags into FPFLAGS (R159). -/
def Core.orFlags (k : Core) (f : Flags) : Core :=
  { k with spec := { k.spec with fpflags := k.spec.fpflags ||| f.zeroExtend 32 } }

/-- The flags of the enabled lanes together (R80: a disabled lane raises none). -/
def flagsOf (en : DWord) (f : Fin 64 → Flags) : Flags := (onLanes en).foldl (fun acc i => acc ||| f i) 0

/-- The new position of a generator set that delivers position `q` (R187), and whether it jumps. -/
def setDeliver (st : Option Nat) (q : Nat) : Nat × Bool :=
  match st with
  | none => (q + 1, true)
  | some p =>
    if q < p ∧ p ≤ q + 607 then (p, false)
    else if p ≤ q ∧ q < p + 4096 then (p + 4 * ((q - p + 1 + 3) / 4), false)
    else (q + 1, true)

/-- Deliver `n` consecutive positions from `q`. -/
def setDeliverRange (st : Option Nat) (q n : Nat) : Nat × Bool :=
  let r := setDeliver st q
  let last := q + n - 1
  (if r.1 ≤ last then r.1 + 4 * ((last + 1 - r.1 + 3) / 4) else r.1, r.2)

/-- Move the R-set of core `c` of partition `p` over the positions a rounding block takes (R184, R187). -/
def State.drawR (s : State) (p c q n : Nat) : State :=
  let r := setDeliverRange (s.core c).rset q n
  let s1 := s.onCore c (fun k => { k with rset := some r.1 })
  if r.2 then s1.bump Reg.RNG.JUMPS.jumps p 1 else s1

/-- Move the D-set over the positions a VRAND takes (R185, R187). -/
def State.drawD (s : State) (p c q n : Nat) : State :=
  let r := setDeliverRange (s.core c).dset q n
  let s1 := s.onCore c (fun k => { k with dset := some r.1 })
  if r.2 then s1.bump Reg.RNG.JUMPS.jumps p 1 else s1

/-- A loose draw of `n` words (R194, R195): free values are consumed, the task is excluded from owl sampling and counted
once, and its open selected chains are dropped (R396). -/
def State.drawLoose (s : State) (p c n : Nat) : State :=
  let k := s.core c
  let s1 := { s with free := s.free + n }
  match k.task with
  | none => s1
  | some t =>
    if t.loose then s1
    else
      let dropped := (k.chains.filter (fun x => x.2.selected)).length
      ((s1.setCore c { k with task := some { t with loose := true }, chains := [] }).bump
        Reg.RNG.LOOSE_TASKS.loose_tasks p 1).bump Reg.CHECK.OWL_DROPPED.dropped p dropped

/-- Assign a rounding block of `size` indices (R184): the first logical index of the block, and the state with RC advanced
and the R-set moved, or free values drawn. Nothing happens under mode 0. -/
def State.roundBlock (s : State) (p c : Nat) (mode : Word) (size : Nat) : DWord × State :=
  let k := s.core c
  let l0 := k.base + k.spec.rc.zeroExtend 64
  if mode.getLsbD 0 then
    let s1 := if k.looseMode then s.drawLoose p c size else s.drawR p c (l0.toNat / 64) (size / 64)
    (l0, s1.onCore c (fun k => { k with spec := { k.spec with rc := k.spec.rc + BitVec.ofNat 40 size } }))
  else (l0, s)

end Sys2Proof.Machine
end

