-- ==== Sys2Proof/Machine/Vector.lean ====
section
/-! DEFINITION. The vector slots (R109-R112): what each operation reads, writes and checks, and its effect. -/
namespace Sys2Proof.Machine

/-- A condition that ends an instruction in an exception: the cause code of Table 3.8 and the address as issued. -/
structure Exn where
  code : Nat
  addr : Nat
  deriving DecidableEq, Repr

/-- The first exception of a list of checks. -/
def firstExn (l : List (Option Exn)) : Option Exn := l.findSome? id

/-- MEM_UNCORRECTABLE for the first poisoned register of a list (R93). -/
def Core.poisonExn (k : Core) (codes : List Nat) : Option Exn := (k.firstPoison codes).map (fun a => ⟨0x09, a⟩)

/-- Range checks of an own near-store (`t0` false) or own-T0 access of `n` bytes at 32-bit address `a` (R83). -/
def ownRange (t0 : Bool) (a n : Nat) : Option Exn :=
  if (if t0 then sliceBytes else 2 ^ 20) < a + n then some ⟨codeUnmapped, a⟩ else none

/-- Alignment check of an access at `a`. -/
def alignExn (a n : Nat) : Option Exn := if a % n ≠ 0 then some ⟨0x07, a⟩ else none

/-- The physical address of an own near-store or own-T0 offset of core `c`. -/
def ownPhys (t0 : Bool) (c a : Nat) : Nat := if t0 then t0Addr c a else nearAddr c a

/-! ## Shape of the operations -/

/-- Low three bits of a register field, naming a predicate or a tile. -/
def low3 (r : BitVec 6) : BitVec 3 := r.extractLsb' 0 3

/-- Is the operation ILLEGAL_OP for its func, format or an odd pair (R99, R110, R155)? -/
def VOp.illegal (op : VOp) (f : VFields) : Bool :=
  match op with
  | .vfcmp => decide (4 < f.func.toNat)
  | .vicmp => decide (5 < f.func.toNat)
  | .vimin => decide (1 < f.func.toNat)
  | .vimax => decide (1 < f.func.toNat)
  | .vplog => decide (3 < f.func.toNat)
  | .vrnd => !(decide (1 ≤ f.fmt.toNat) && decide (f.fmt.toNat ≤ 7))
  | .vfix => f.vd.getLsbD 0
  | .vflt => f.va.getLsbD 0
  | .vadd64 => f.vd.getLsbD 0 || f.va.getLsbD 0 || f.vb.getLsbD 0
  | .vpset => f.rs.getLsbD 0
  | _ => false

/-- Codes of the registers an operation reads (R93). VST stores va. -/
def VOp.srcs (op : VOp) (f : VFields) : List Nat :=
  let a := codeV f.va
  let b := codeV f.vb
  let s := codeS f.rs
  match op with
  | .vfma => [a, b, codeV f.vc]
  | .vfadd | .vfsub | .vfmul | .vfmin | .vfmax | .vfcmp | .vfscale | .viadd | .visub | .vimul | .vand | .vor | .vxor
  | .vshl | .vshr | .vsra | .vimin | .vimax | .vicmp | .vsel | .vperm | .vrnd => [a, b]
  | .vfabs | .vfneg | .vrot | .vext | .vrsum | .vrmax | .vrmin | .vrisum | .vexpmax | .vcvti | .vcvtf | .vwra => [a]
  | .vbcs | .vins | .vrand | .vld | .vlds => [s]
  | .vbci | .vplog | .vpget => []
  | .vfix => [a, s]
  | .vflt => [a, codeV (f.va + 1), s]
  | .vadd64 => [a, codeV (f.va + 1), b, codeV (f.vb + 1)]
  | .vrda => [codeA (low3 f.va)]
  | .vpset => [s, codeS (nextReg f.rs)]
  | .vst => [a, s]
  | .vldx => [s, b]

/-- Codes of the registers an operation writes (R77). -/
def VOp.dests (op : VOp) (f : VFields) : List Nat :=
  match op with
  | .vfcmp | .vicmp | .vplog | .vpset => [codeP (low3 f.vd)]
  | .vext | .vpget => [codeS f.rs]
  | .vfix | .vadd64 => [codeV f.vd, codeV (f.vd + 1)]
  | .vwra => [codeA (low3 f.vd)]
  | .vst => []
  | _ => [codeV f.vd]

/-- The address of a vector memory operation. -/
def vecAddr (k : Core) (f : VFields) : Nat := (k.rs f.rs + f.imm.signExtend 32).toNat

/-- The address of lane `i` of a VLDX. -/
def vldxAddr (k : Core) (f : VFields) (i : Fin 64) : Nat := (k.rs f.rs + (k.vr f.vb)[i.val]'i.isLt).toNat

/-- The issue checks of a vector slot (R92, R112): poisoned operand, then addresses, then alignment. -/
def vecCheck (k : Core) (op : VOp) (f : VFields) : Option Exn :=
  let t0 := f.fmt.getLsbD 0
  let en := k.enabled f.psel f.pinv
  let mem := match op with
    | .vld | .vst =>
      let a := vecAddr k f
      firstExn ((onLanes en).map (fun i => ownRange t0 (a + 4 * i.val) 4) ++ [if en = 0 then none else alignExn a 4])
    | .vlds =>
      let a := vecAddr k f
      if en = 0 then none else firstExn [ownRange t0 a 4, alignExn a 4]
    | .vldx =>
      firstExn ((onLanes en).map (fun i => ownRange t0 (vldxAddr k f i) 4) ++
        (onLanes en).map (fun i => alignExn (vldxAddr k f i) 4))
    | _ => none
  firstExn [k.poisonExn (op.srcs f), mem]

/-! ## Effects. `k` is the core as it stood when the bundle issued (R74). -/

/-- Write the enabled lanes of vd and OR the flags they raise. -/
def State.putLanes (s : State) (c : Nat) (en : DWord) (vd : BitVec 6) (g : Fin 64 → Word × Flags) : State :=
  s.onCore c (fun k => (k.setLanes en vd (fun i => (g i).1)).orFlags (flagsOf en (fun i => (g i).2)))

/-- A word of the own near store or slice. -/
def State.ownWord (s : State) (t0 : Bool) (c a : Nat) : Word := BitVec.ofNat 32 (s.readN (ownPhys t0 c a) 4)

/-- Mark vd when any enabled lane's word carries an uncorrectable error (R93). -/
def State.markLanes (s : State) (t0 : Bool) (c : Nat) (en : DWord) (vd : BitVec 6) (addr : Fin 64 → Nat) : State :=
  match (onLanes en).find? (fun i => s.poisoned (ownPhys t0 c (addr i)) 4) with
  | none => s
  | some i => s.onCore c (fun k => k.mark (codeV vd) (addr i))

/-- Load lanes from the own near store or slice. -/
def State.loadLanes (s : State) (t0 : Bool) (c : Nat) (en : DWord) (vd : BitVec 6) (addr : Fin 64 → Nat) : State :=
  (s.putLanes c en vd (fun i => (s.ownWord t0 c (addr i), 0))).markLanes t0 c en vd addr

/-- Store the enabled lanes. -/
def State.storeLanes (s : State) (t0 : Bool) (c : Nat) (en : DWord) (x : VReg) (addr : Fin 64 → Nat) : State :=
  (onLanes en).foldl (fun s i => s.writeN (ownPhys t0 c (addr i)) 4 (x[i.val]'i.isLt).toNat) s

/-- Broadcast an optional reduction result into the enabled lanes of vd. -/
def State.putAll (s : State) (c : Nat) (en : DWord) (vd : BitVec 6) (r : Option (Word × Flags)) : State :=
  match r with
  | none => s
  | some (w, fl) => s.onCore c (fun k => (k.setLanes en vd (fun _ => w)).orFlags fl)

/-- The chain of a tile is read: it ends, and a selected one awaits its verdict (R396, R400). -/
def endChain (k : Core) (a : BitVec 3) : Core :=
  match Map.find k.chains a.toNat with
  | none => k
  | some ch =>
    let v : Verdict := ⟨ch.number, (k.task.map (fun t => descField t.desc 0 8)).getD 0, k.spec.pennant.toNat,
      (k.task.map (fun t => t.queue.isNone)).getD false⟩
    { k with chains := Map.del k.chains a.toNat, verdicts := if ch.selected then k.verdicts ++ [v] else k.verdicts }

/-- A VWRA or ACCLD writes a tile: its chain loses eligibility, and a selected one is dropped (R396). -/
def State.dropChain (s : State) (p c : Nat) (a : BitVec 3) : State :=
  match Map.find (s.core c).chains a.toNat with
  | none => s
  | some ch =>
    let s1 := s.onCore c (fun k => { k with chains := Map.del k.chains a.toNat })
    if ch.selected then s1.bump Reg.CHECK.OWL_DROPPED.dropped p 1 else s1

/-- The rounding of lane `i` of a block that starts at logical index `l0`. -/
def laneRnd (s : State) (p : Nat) (k : Core) (free : Nat) (l0 : DWord) (i : Nat) : Rounding :=
  roundingAt k.spec.round (s.seedOf p k) k.looseMode free (l0 + BitVec.ofNat 64 i) i

/-- The random word that VRAND delivers to lane `i` (R185, R194). -/
def vrandWord (s : State) (p : Nat) (k : Core) (f : VFields) (i : Nat) : Word :=
  if k.looseMode then Config.freeWord (s.free + i)
  else rngWord (s.seedOf p k) (k.base + BitVec.ofNat 64 (2 ^ 40 + (k.rs f.rs).toNat + f.imm.toNat + i))

/-- Move the generator of VRAND: the D-set over the one or two positions its lanes take, or a loose draw (R185, R194). -/
def State.vrandDraw (s : State) (p c : Nat) (k : Core) (f : VFields) : State :=
  if k.looseMode then s.drawLoose p c 64
  else
    let l := (k.base + BitVec.ofNat 64 (2 ^ 40 + (k.rs f.rs).toNat + f.imm.toNat)).toNat
    s.drawD p c (l / 64) (if l % 64 = 0 then 1 else 2)

/-- VPLOG on one bit (Table 4.5). -/
def plogBit (func : Nat) (a b : Bool) : Bool :=
  match func with
  | 0 => a && b
  | 1 => a || b
  | 2 => a != b
  | _ => a && !b

/-- The pair {v[r + 1], v[r]} of a lane (R99). -/
def Core.lanePair (k : Core) (r : BitVec 6) (i : Fin 64) : DWord :=
  ((k.vr (r + 1))[i.val]'i.isLt) ++ ((k.vr r)[i.val]'i.isLt)

/-- Write lane pairs. -/
def State.putPairs (s : State) (c : Nat) (en : DWord) (vd : BitVec 6) (g : Fin 64 → DWord × Flags) : State :=
  s.onCore c (fun k =>
    ((k.setLanes en vd (fun i => (g i).1.extractLsb' 0 32)).setLanes en (vd + 1) (fun i => (g i).1.extractLsb' 32 32)).orFlags
      (flagsOf en (fun i => (g i).2)))

/-- The effect of a vector operation (Table 4.5) of core `c` of partition `p`. -/
def vecEffect (s : State) (p c : Nat) (k : Core) (op : VOp) (f : VFields) : State :=
  let en := k.enabled f.psel f.pinv
  let a := fun (i : Fin 64) => (k.vr f.va)[i.val]'i.isLt
  let b := fun (i : Fin 64) => (k.vr f.vb)[i.val]'i.isLt
  let cc := fun (i : Fin 64) => (k.vr f.vc)[i.val]'i.isLt
  let pd := low3 f.vd
  let t0 := f.fmt.getLsbD 0
  match op with
  | .vfcmp => s.onCore c (fun k => k.setP pd (predLanes en (k.pr pd) (fun i => fcmp f.func.toNat (a i) (b i))))
  | .vicmp => s.onCore c (fun k => k.setP pd (predLanes en (k.pr pd) (fun i => icmp f.func.toNat (a i) (b i))))
  | .vsel =>
    let q := k.pr (f.func.extractLsb' 0 3)
    s.putLanes c en f.vd (fun i => (if q.getLsbD i.val then a i else b i, 0))
  | .vbcs => s.putLanes c en f.vd (fun _ => (k.rs f.rs, 0))
  | .vbci => s.putLanes c en f.vd (fun _ => (f.imm ++ (0 : BitVec 16), 0))
  | .vperm => s.putLanes c en f.vd (fun i => (a (Fin.ofNat 64 (b i).toNat), 0))
  | .vrot => s.putLanes c en f.vd (fun i => (a (Fin.ofNat 64 (i.val + f.imm.toNat)), 0))
  | .vext => s.onCore c (fun k => k.setS f.rs (a (Fin.ofNat 64 f.imm.toNat)))
  | .vins => s.putLanes c (BitVec.twoPow 64 (f.imm.toNat % 64)) f.vd (fun _ => (k.rs f.rs, 0))
  | .vrsum =>
    s.putAll c en f.vd ((reduceLanes en (fun i => (a i, (0 : Flags)))
      (fun x y => let r := fadd x.1 y.1; (r.1, x.2 ||| y.2 ||| r.2))).map (fun r => (canonW r.1, r.2)))
  | .vrmax => s.putAll c en f.vd ((reduceLanes en a fmax).map (fun w => (canonW w, 0)))
  | .vrmin => s.putAll c en f.vd ((reduceLanes en a fmin).map (fun w => (canonW w, 0)))
  | .vrisum => s.putAll c en f.vd ((reduceLanes en a (· + ·)).map (fun w => (w, 0)))
  | .vexpmax =>
    let m := (reduceLanes en (fun i => expOf (a i)) (optComb max)).bind id
    s.putAll c en f.vd (if en = 0 then none
      else some (match m with | none => 0x80000000#32 | some e => BitVec.ofInt 32 e, 0))
  | .vcvti =>
    let (l0, s1) := s.roundBlock p c k.spec.round 64
    s1.putLanes c en f.vd (fun i => cvtI32 (laneRnd s p k s.free l0 i.val) (a i))
  | .vrnd =>
    let (l0, s1) := s.roundBlock p c k.spec.round 64
    s1.putLanes c en f.vd (fun i => vrnd f.fmt.toNat (laneRnd s p k s.free l0 i.val) (a i) ((b i).toNat % 256))
  | .vfix =>
    let (l0, s1) := s.roundBlock p c k.spec.round 64
    s1.putPairs c en f.vd (fun i => fix64 (laneRnd s p k s.free l0 i.val) (a i) (k.rs f.rs).toInt)
  | .vflt => s.putLanes c en f.vd (fun i => flt64 (k.lanePair f.va i) (k.rs f.rs).toInt)
  | .vadd64 => s.putPairs c en f.vd (fun i => (k.lanePair f.va i + k.lanePair f.vb i, 0))
  | .vrand => (s.vrandDraw p c k f).putLanes c en f.vd (fun i => (vrandWord s p k f i.val, 0))
  | .vrda =>
    let row := (k.tile (low3 f.va))[f.imm.toNat % 64]'(Nat.mod_lt _ (by decide))
    (s.putLanes c en f.vd (fun i => (row[i.val]'i.isLt, 0))).onCore c (fun k => endChain k (low3 f.va))
  | .vwra =>
    let r : Fin 64 := Fin.ofNat 64 f.imm.toNat
    (s.dropChain p c pd).onCore c (fun k =>
      let t := k.tile pd
      let old := t[r.val]'r.isLt
      k.setTile pd (t.set r.val (Vector.ofFn (fun i => if en.getLsbD i.val then a i else old[i.val]'i.isLt)) r.isLt))
  | .vplog =>
    let x := k.pr (low3 f.va)
    let y := k.pr (low3 f.vb)
    s.onCore c (fun k => k.setP pd (predLanes en (k.pr pd) (fun i => plogBit f.func.toNat (x.getLsbD i.val) (y.getLsbD i.val))))
  | .vpset =>
    let w := k.rsPair f.rs
    s.onCore c (fun k => k.setP pd (predLanes en (k.pr pd) (fun i => w.getLsbD i.val)))
  | .vpget => s.onCore c (fun k' => k'.setS f.rs ((k.pr pd).extractLsb' (32 * (f.imm.toNat % 2)) 32))
  | .vld => s.loadLanes t0 c en f.vd (fun i => vecAddr k f + 4 * i.val)
  | .vst => s.storeLanes t0 c en (k.vr f.va) (fun i => vecAddr k f + 4 * i.val)
  | .vlds => s.loadLanes t0 c en f.vd (fun _ => vecAddr k f)
  | .vldx => s.loadLanes t0 c en f.vd (fun i => vldxAddr k f i)
  | _ => s.putLanes c en f.vd (fun i => op.lane f.func.toNat (a i) (b i) (cc i))

end Sys2Proof.Machine
end

