-- ==== Sys2Proof/Machine/Matrix.lean ====
section
/-! DEFINITION. The matrix slot (R102-R108) and the array (R132-R143): operands, edges, exact products, the FP32 sum chain,
poison, and the owl chains its operations open (R396, R397). -/
namespace Sys2Proof.Machine

/-- Reduction length K of a block: 128 for MXFP4, else 64 (R104). -/
def blockK (fmt : Nat) : Nat := if fmt = 6 then 128 else 64

/-- Formats the array accepts (R104). -/
def arrayFmt (fmt : Nat) : Bool := decide (1 ≤ fmt) && decide (fmt ≤ 7)

/-- Rate groups (R104): 0 MXFP8 and MXFP6, 1 MXINT8, 2 MXFP4, 3 BF16. -/
def rateGroup (fmt : Nat) : Nat :=
  match fmt with
  | 7 => 1 | 6 => 2 | 1 => 3 | _ => 0

/-- Is block row `k` below an EDGE_ROWS value (R105, R138)? For MXFP4 the rows from 64 count as a second half. -/
def rowIn (fmt er k : Nat) : Bool := if fmt = 6 then decide (k % 64 < er) else decide (k < er)

/-- EDGE_ROWS of a core. -/
def Core.edgeR (k : Core) : Nat := k.spec.edgeRows.toNat
/-- EDGE_COLS of a core. -/
def Core.edgeC (k : Core) : Nat := k.spec.edgeCols.toNat

/-- Offset of row `r` of a matrix operand, formed in 32 bits (R132). -/
def matRow (k : Core) (f : MFields) (r : Nat) : Nat :=
  (k.rs f.rs + f.off.zeroExtend 32 + BitVec.ofNat 32 r * k.rs f.rstr).toNat

/-- Offset of byte `i` of the operand's scale plane. -/
def matScale (k : Core) (f : MFields) (i : Nat) : Nat := (k.rs f.rsc + BitVec.ofNat 32 i).toNat

/-- Index in the scale plane of element (row, col) of an operand of `cols` elements a row (R100). -/
def scaleIdx (blk : Bool) (cols row col : Nat) : Nat := if blk then row / 32 * cols + col else row * (cols / 32) + col / 32

/-- Operand registers of a matrix operation. -/
def MatOp.regs (op : MatOp) (f : MFields) : List Nat :=
  match op with
  | .mzero => []
  | _ => [codeS f.rs, codeS f.rstr] ++ (if isMX f.fmt.toNat then [codeS f.rsc] else [])

/-- ILLEGAL_OP of a matrix operation (R103, R104): a format the array does not take, or an MPASS outside the resident
block's rate group. -/
def matIllegal (k : Core) (op : MatOp) (f : MFields) : Bool :=
  match op with
  | .mzero => false
  | .mldw => !(arrayFmt f.fmt.toNat)
  | .mpass => !(arrayFmt f.fmt.toNat) ||
    (match k.block with
     | none => false
     | some b => rateGroup b.fmt ≠ rateGroup f.fmt.toNat)

/-- The rows and columns of the operand that an MLDW reads (R105, R138): (row, elements from 0). -/
def mldwRows (k : Core) (f : MFields) : List Nat := (upTo (blockK f.fmt.toNat)).filter (rowIn f.fmt.toNat k.edgeR)

/-- The reduction indices that take part in an MPASS: below EDGE_ROWS at the load and now (R138). -/
def passKs (k : Core) (b : WBlock) : List Nat :=
  (upTo (blockK b.fmt)).filter (fun i => rowIn b.fmt b.er i && rowIn b.fmt k.edgeR i)

/-- Activation rows of an MPASS. -/
def passRows (f : MFields) : Nat := f.mm.toNat + 1

/-- Byte ranges of elements `cols` of a row at offset `base`, elements of `w` bits. -/
def elemReads (w base : Nat) (cols : List Nat) : List (Nat × Nat) :=
  cols.map (fun j => (base + j * w / 8, (j * w % 8 + w + 7) / 8))

/-- Byte ranges (offset, length) of the element plane and the scale plane that an operation reads (R138, R143). -/
def matReads (k : Core) (op : MatOp) (f : MFields) : List (Nat × Nat) :=
  let fmt := f.fmt.toNat
  let w := elemBits fmt
  match op with
  | .mzero => []
  | .mldw =>
    let cols := upTo k.edgeC
    (mldwRows k f).flatMap (fun r => elemReads w (matRow k f r) cols) ++
      (if isMX fmt then (mldwRows k f).flatMap (fun r => cols.map (fun j => (matScale k f (scaleIdx f.blk 64 r j), 1))) else [])
  | .mpass =>
    match k.block with
    | none => []
    | some b =>
      let ks := if min b.ec k.edgeC = 0 then [] else passKs k b
      let kk := blockK b.fmt
      (upTo (passRows f)).flatMap (fun t => elemReads w (matRow k f t) ks ++
        (if isMX fmt then ks.map (fun j => (matScale k f (scaleIdx f.blk kk t j), 1)) else []))

/-- The issue checks of a matrix slot in the order of R143. -/
def matCheck (k : Core) (op : MatOp) (f : MFields) : Option Exn :=
  let poisonRegs := match op with
    | .mpass => op.regs f ++ [codeBlock] ++ (if f.acc then [codeA f.ad] else [])
    | _ => op.regs f
  let range := (matReads k op f).findSome? (fun r => ownRange true r.1 r.2)
  let mis := match op with
    | .mzero => none
    | _ =>
      if (op = .mpass ∧ f.blk ∧ isMX f.fmt.toNat ∧ passRows f ≠ 32 ∧ passRows f ≠ 64) ∨
          (f.fmt.toNat = 1 ∧ ((matRow k f 0) % 2 ≠ 0 ∨ (k.rs f.rstr).toNat % 2 ≠ 0))
      then some ⟨0x07, matRow k f 0⟩ else none
  firstExn [k.poisonExn poisonRegs, range, mis]

/-- Element `j` of a row of the own slice at offset `a`. -/
def State.sliceElem (s : State) (c fmt a j : Nat) : Nat :=
  let w := elemBits fmt
  let b := j * w / 8
  s.readN (t0Addr c (a + b)) ((j * w % 8 + w + 7) / 8) / 2 ^ (j * w % 8) % 2 ^ w

/-- A byte of the own slice. -/
def State.sliceByte (s : State) (c a : Nat) : Nat := s.readN (t0Addr c a) 1

/-- The first poisoned range a matrix operation reads. -/
def State.matUe (s : State) (c : Nat) (k : Core) (op : MatOp) (f : MFields) : Option Nat :=
  ((matReads k op f).find? (fun r => s.poisoned (t0Addr c r.1) r.2)).map Prod.fst

/-- MLDW: the block as loaded (R105); cells outside the edges hold zero. -/
def State.loadBlock (s : State) (c : Nat) (k : Core) (f : MFields) : WBlock :=
  let fmt := f.fmt.toNat
  { fmt := fmt, blk := f.blk, er := k.edgeR, ec := k.edgeC,
    elems := (upTo (blockK fmt)).map (fun r => (upTo 64).map (fun j =>
      if rowIn fmt k.edgeR r && decide (j < k.edgeC) then s.sliceElem c fmt (matRow k f r) j else 0)),
    scales := if isMX fmt then (upTo (if f.blk then blockK fmt / 32 * 64 else blockK fmt * 2)).map
        (fun i =>
          let used := if f.blk then decide (i % 64 < k.edgeC) && (upTo 32).any (fun r => rowIn fmt k.edgeR (i / 64 * 32 + r))
            else rowIn fmt k.edgeR (i / 2) && decide (i % 2 * 32 < k.edgeC)
          if used then s.sliceByte c (matScale k f i) else 0)
      else [] }

/-- Element (k, n) of a block under its own scale. -/
def WBlock.val (b : WBlock) (i n : Nat) : Val :=
  let e := decElem b.fmt ((b.elems.getD i []).getD n 0)
  if isMX b.fmt then scaleVal (b.scales.getD (scaleIdx b.blk 64 i n) 0) e else e

/-- Is the scale of a block element 0xFF? -/
def WBlock.badScale (b : WBlock) (i n : Nat) : Bool := isMX b.fmt && b.scales.getD (scaleIdx b.blk 64 i n) 0 == 255

/-- Activation element (t, k) of an MPASS under its own scale, and whether that scale is 0xFF. -/
def State.actVal (s : State) (c : Nat) (k : Core) (f : MFields) (kk t i : Nat) : Val × Bool :=
  let fmt := f.fmt.toNat
  let e := decElem fmt (s.sliceElem c fmt (matRow k f t) i)
  if isMX fmt then
    let sc := s.sliceByte c (matScale k f (scaleIdx f.blk kk t i))
    (scaleVal sc e, sc == 255)
  else (e, false)

/-- One step of the sum chain (R106): add an exact product, round to FP32 nearest-even. A NaN from a scale of 0xFF sets
invalid (Table 4.13). -/
def macStep (acc : Word × Flags) (x y : Val) (bad : Bool) : Word × Flags :=
  let (p, f) := Val.mul x y
  let (v, g) := Val.add (decF32 acc.1) p
  let (w, h) := encF32 .nearest v
  (w, acc.2 ||| f ||| g ||| h ||| flIf bad flInvalid)

/-- The column sum of tile element (t, n): products in ascending k from +0 (R106), +0 where no cell takes part (R138). -/
def State.colSum (s : State) (c : Nat) (k : Core) (f : MFields) (t n : Nat) : Word × Flags :=
  match k.block with
  | none => (0, 0)
  | some b =>
    if b.ec ≤ n then (0, 0)
    else (passKs k b).foldl (fun acc i =>
      let (x, bad) := s.actVal c k f (blockK b.fmt) t i
      macStep acc x (b.val i n) (bad || b.badScale i n)) (0, 0)

/-- The new element (t, n) of tile ad: the sum, or the tile's element plus the sum, rounded (R106). -/
def State.passElem (s : State) (c : Nat) (k : Core) (f : MFields) (t n : Fin 64) : Word × Flags :=
  let r := s.colSum c k f t.val n.val
  if f.acc then
    let q := fadd ((k.tile f.ad).at t n) r.1
    (q.1, r.2 ||| q.2)
  else r

/-- The cells of the tile an MPASS writes (R105): rows below m, columns below EDGE_COLS. -/
def passCell (k : Core) (f : MFields) (t n : Fin 64) : Bool :=
  decide (t.val < passRows f) && decide (n.val < k.edgeC)

/-- The cores of a partition on a die, in ascending physical ID (R398). -/
def State.dieCores (s : State) (p d : Nat) : List Nat :=
  (upTo 256).map (fun i => d * 256 + i) |>.filter (fun c => (s.part p).sched.cores.contains c)

/-- The checker core of a source core (R398): position j mod n_e on the first die after its own that holds cores of the
partition; none where all lie on one die. -/
def State.checkerOf (s : State) (p c : Nat) : Option Nat :=
  let d := c / 256
  let j := (s.dieCores p d).idxOf c
  match [(d + 1) % 4, (d + 2) % 4, (d + 3) % 4].find? (fun e => !(s.dieCores p e).isEmpty) with
  | none => none
  | some e => (s.dieCores p e)[j % (s.dieCores p e).length]?

/-- Has the partition no checker, all its cores on one die (R398)? -/
def State.noPartner (s : State) (p : Nat) : Bool :=
  decide (((upTo 4).filter (fun d => !(s.dieCores p d).isEmpty)).length ≤ 1)

/-- The owl fraction code in force (R397, R398, R401, R407): 0 without partners and for a generator without gen_check, 4
during a check replay, else CHECK.OWL.fraction, with codes above 4 taken as 4. -/
def State.owlCode (s : State) (p : Nat) : Nat :=
  if s.noPartner p ∨ (s.generating p ∧ s.get Reg.CHECK.OWL.gen_check p = 0) then 0
  else if s.getBit Reg.CHECK.OWL_STATUS.boosted p then 4
  else min 4 (s.get Reg.CHECK.OWL.fraction p)

/-- The threshold t of a fraction code (Table 19.1). -/
def owlThreshold (code : Nat) : Nat :=
  match code with
  | 0 => 0 | 1 => 1 | 2 => 4 | 3 => 16 | _ => 64

/-- A new owl chain opens in a tile (R396, R397): the previous one ends, the counter numbers the new one, the hash of
counter, core and salt selects it. -/
def State.openChain (s : State) (p c : Nat) (a : BitVec 3) : State :=
  let k := endChain (s.core c) a
  if (k.task.map (fun t => t.loose)).getD true then s.setCore c k
  else
    let n := k.chainCount
    let lc := BitVec.ofNat 32 (s.logical p c)
    let salt := BitVec.ofNat 32 (s.get Reg.CHECK.OWL.salt p)
    let h := (n * 0x9E3779B9#32) ^^^ (lc * 0x85EBCA6B#32) ^^^ salt
    let sel := decide (field h.toNat 31 22 < owlThreshold (s.owlCode p))
    s.setCore c { k with chains := Map.put k.chains a.toNat ⟨n, sel⟩, chainCount := n + 1 }

/-- The effect of a matrix operation of core `c` of partition `p` (Table 4.3). -/
def matEffect (s : State) (p c : Nat) (k : Core) (op : MatOp) (f : MFields) : State :=
  match op with
  | .mldw =>
    let b := s.loadBlock c k f
    let ue := s.matUe c k op f
    (s.onCore c (fun k' =>
      let k1 := { k' with block := some b, poison := Map.del k'.poison codeBlock }
      match ue with
      | none => k1
      | some a => k1.mark codeBlock a)).bump Reg.ARRAY.LOADS.weight_loads p 1
  | .mpass =>
    let ue := s.matUe c k op f
    let s0 := if f.acc then s else s.openChain p c f.ad
    let old := k.tile f.ad
    let new : Tile := Vector.ofFn (fun t => Vector.ofFn (fun n =>
      if passCell k f t n then (s.passElem c k f t n).1 else old.at t n))
    let fl := lanes.foldl (fun acc t => lanes.foldl (fun acc n =>
      if passCell k f t n then acc ||| (s.passElem c k f t n).2 else acc) acc) (0 : Flags)
    let whole := !f.acc && passRows f == 64 && k.edgeC == 64
    s0.onCore c (fun k' =>
      let k1 := (k'.setTile f.ad new).orFlags fl
      match ue with
      | some a => k1.mark (codeA f.ad) a
      | none => if whole then { k1 with poison := Map.del k1.poison (codeA f.ad) } else k1)
  | .mzero =>
    (s.openChain p c f.ad).onCore c (fun k' =>
      let k1 := k'.setTile f.ad Tile.zero
      { k1 with poison := Map.del k1.poison (codeA f.ad) })

end Sys2Proof.Machine
end

