-- ==== Sys2Proof/Machine/Moves.lean ====
section
/-! DEFINITION. The move slot (R115-R123): the checks at issue, the record a move keeps in the queue, and what its
completion does to memory, tiles, flags and FPFLAGS (R127, R152-R154, R159). -/
namespace Sys2Proof.Machine

/-! ## Shapes -/

/-- Bytes of `n` elements of a format in an element plane row (R100). -/
def planeBytes (fmt n : Nat) : Nat := (n * elemBits fmt + 7) / 8

/-- Elements in `len` bytes of a format. -/
def elemsIn (fmt len : Nat) : Nat := if elemBits fmt = 0 then 0 else len * 8 / elemBits fmt

/-- Size of the operand of an ATOM (R120). -/
def atomBytes (func : Nat) : Nat := if func = 1 ∨ func = 3 ∨ func = 5 then 8 else 4

/-- Does the operation read memory rows as its source? -/
def MvOp.readsRows : MvOp → Bool
  | .rows | .transpose | .convert | .convertTranspose | .racc | .accld _ => true
  | _ => false

/-- Does the operation write memory rows? -/
def MvOp.writesRows : MvOp → Bool
  | .accld _ | .atom _ => false
  | _ => true

/-- Does the operation convert (R153, R184)? -/
def MvOp.converts : MvOp → Bool
  | .convert | .convertTranspose => true
  | .accst m => m == 2 || m == 3
  | .accld m => m == 2
  | _ => false

/-- Does the operation transpose? -/
def MvOp.transposes : MvOp → Bool
  | .transpose | .convertTranspose => true
  | .accst m => m == 1 || m == 3
  | _ => false

/-- The format a record's source rows are read in: FP32 for a tile, raw words of 4 B for FILL, INT64 for RACC. -/
def srcFmt (op : MvOp) (sfmt : Nat) : Nat :=
  match op with
  | .accst _ => 0
  | .accld m => if m = 0 then 0 else sfmt
  | .fill => 8
  | .racc => 9
  | .rows => 10
  | _ => sfmt

/-- The format the destination rows are written in. -/
def dstFmt (op : MvOp) (sfmt dfmt : Nat) : Nat :=
  match op with
  | .accst m => if m = 2 ∨ m = 3 then dfmt else 0
  | .accld _ => 0
  | .fill => 8
  | .racc => 9
  | .rows => 10
  | .transpose => sfmt
  | _ => dfmt

/-- Elements in a source row; a tile row has 64. -/
def MoveRec.cols (m : MoveRec) : Nat :=
  let n := elemsIn (srcFmt m.op m.sfmt) m.len
  match m.op with
  | .accst _ => min 64 n
  | .accld _ => min 64 n
  | _ => n

/-- Is row `r` enabled by the captured predicate (R116)? -/
def MoveRec.rowOn (m : MoveRec) (r : Nat) : Bool := m.mask.getLsbD r

/-- The enabled rows. -/
def MoveRec.rowsOn (m : MoveRec) : List Nat := (upTo m.rows).filter m.rowOn

/-- Rows of the destination and elements in each. -/
def MoveRec.dstShape (m : MoveRec) : Nat × Nat :=
  if m.op.transposes then (m.cols, m.rows) else (m.rows, m.cols)

/-- Is the MX source of a transposing store read as column-blocked: its columns are no multiple of 32, or both layouts fit
and the free choice says so (log entry 14)? -/
def MoveRec.srcCol (m : MoveRec) : Bool :=
  m.op == .transpose && isMX m.sfmt && m.rows % 32 == 0 && (m.cols % 32 != 0 || m.colBlocked)

/-- The base of the space and core of a data address, to which a scale-plane offset is added (R115): the address with its
offset field of Table 2.4 zero. -/
def scaleBase (a : Nat) : Nat :=
  let n := match spaceOf a with | 0 => 24 | 3 => 20 | 5 => 36 | _ => 52
  a / 2 ^ n * 2 ^ n

/-- The row length C of the column-blocked scale plane a transposing store writes (R117): the elements of a destination row,
or the destination stride in elements where that exceeds them (R221). -/
def MoveRec.dstScaleCols (m : MoveRec) : Nat :=
  max m.dstShape.2 (elemsIn (dstFmt m.op m.sfmt m.dfmt) m.dstr)

/-- Byte ranges of the source: element rows and, for MX, scale bytes. -/
def MoveRec.srcRanges (m : MoveRec) : List (Nat × Nat) :=
  if !m.op.readsRows then []
  else
    let f := srcFmt m.op m.sfmt
    m.rowsOn.map (fun r => (m.src.toNat + r * m.sstr, m.len)) ++
    (if isMX f then
      if m.srcCol then (upTo (m.rows / 32)).map (fun g => (scaleBase m.src.toNat + m.ssc + g * m.cols, m.cols))
      else m.rowsOn.map (fun r => (scaleBase m.src.toNat + m.ssc + r * (m.cols / 32), m.cols / 32))
    else [])

/-- Byte ranges of the destination: element rows and, for MX, scale bytes. -/
def MoveRec.dstRanges (m : MoveRec) : List (Nat × Nat) :=
  match m.op with
  | .atom fn => [(m.dst.toNat, atomBytes fn)]
  | .accld _ => []
  | _ =>
    let f := dstFmt m.op m.sfmt m.dfmt
    let sh := m.dstShape
    let rowsW := if m.op.transposes then upTo sh.1 else m.rowsOn
    rowsW.map (fun r => (m.dst.toNat + r * m.dstr, if m.op.transposes || m.op.converts then planeBytes f sh.2 else m.len)) ++
    (if isMX f then
      if m.op.transposes && !m.op.converts && !m.srcCol then (upTo (sh.1 / 32)).map (fun g => (scaleBase m.dst.toNat + m.dsc + g * m.dstScaleCols, sh.2))
      else rowsW.map (fun r => (scaleBase m.dst.toNat + m.dsc + r * (sh.2 / 32), sh.2 / 32))
    else [])

/-! ## Issue -/

/-- Build the record of a move with the operands it captures at issue (R115, R122). -/
def mvRecord (s : State) (p : Nat) (k : Core) (op : MvOp) (f : MvFields) : MoveRec :=
  let sh := (k.rsPair f.rshp).toNat
  let sc := (k.rsPair f.rsc).toNat
  { op := op, grp := f.grp.toNat, rows := field sh 22 16, len := field sh 15 0, sstr := field sh 47 32,
    dstr := field sh 63 48, src := k.rsPair f.rsrc, dst := k.rsPair f.rdst, ssc := field sc 31 0, dsc := field sc 63 32,
    sfmt := f.sfmt.toNat, dfmt := f.dfmt.toNat, mask := k.enabled f.psel f.pinv, near := (k.rs f.rshp).toNat,
    cmp := k.rsPair f.rsc, opnd := k.rsPair f.rsrc, tile := f.tile.toNat,
    data := match op with | .accst _ => k.tile f.tile | _ => Tile.zero,
    flag := if f.afv then some f.af.toNat else none, round := k.spec.round,
    rcBase := k.base + k.spec.rc.zeroExtend 64, seed := s.seedOf p k, loose := k.looseMode, freeBase := s.free,
    colBlocked := Config.freeLayout s.free }

/-- Scalar registers a move reads. -/
def MvOp.regs (op : MvOp) (f : MvFields) : List Nat :=
  let pr := fun (r : BitVec 5) => [codeS r, codeS (nextReg r)]
  match op with
  | .atom fn => pr f.rsrc ++ pr f.rdst ++ [codeS f.rshp] ++ (if fn = 4 ∨ fn = 5 then pr f.rsc else [])
  | .fill => [codeS f.rsrc] ++ pr f.rdst ++ pr f.rshp
  | .accst _ => pr f.rdst ++ pr f.rshp ++ [codeA f.tile] ++ (if isMX f.dfmt.toNat then pr f.rsc else [])
  | .accld _ => pr f.rsrc ++ pr f.rshp ++ (if isMX f.sfmt.toNat then pr f.rsc else [])
  | _ => pr f.rsrc ++ pr f.rdst ++ pr f.rshp ++ (if isMX f.sfmt.toNat || isMX f.dfmt.toNat then pr f.rsc else [])

/-- ILLEGAL_OP of a move (R98, R99, R116, R120, R153): odd pair registers, a format the operation does not take, an unlisted
ATOM function, more than 64 rows. -/
def mvIllegal (k : Core) (op : MvOp) (f : MvFields) : Bool :=
  let odd := fun (r : BitVec 5) => r.getLsbD 0
  let rowsBad := decide (64 < field (k.rs f.rshp).toNat 22 16)
  let sf := f.sfmt.toNat
  let df := f.dfmt.toNat
  match op with
  | .atom fn => odd f.rsrc || odd f.rdst || decide (7 < fn) || ((fn == 4 || fn == 5) && odd f.rsc)
  | .fill => odd f.rdst || odd f.rshp || rowsBad
  | .rows | .racc => odd f.rsrc || odd f.rdst || odd f.rshp || rowsBad
  | .transpose =>
    odd f.rsrc || odd f.rdst || odd f.rshp || rowsBad || sf ≠ df || decide (10 < sf) || (isMX sf && odd f.rsc)
  | .convert | .convertTranspose =>
    odd f.rsrc || odd f.rdst || odd f.rshp || rowsBad || !(isFloatFmt sf) || !(isFloatFmt df) ||
      ((isMX sf || isMX df) && odd f.rsc)
  | .accst m => decide (3 < m) || odd f.rdst || odd f.rshp || rowsBad || ((m == 2 || m == 3) && (!(isFloatFmt df) || (isMX df && odd f.rsc)))
  | .accld m => (m != 0 && m != 2) || odd f.rsrc || odd f.rshp || rowsBad || (m == 2 && (!(isFloatFmt sf) || (isMX sf && odd f.rsc)))

/-- A move of no rows or of empty rows is a no-operation that completes at once (R115). -/
def MoveRec.empty (m : MoveRec) : Bool :=
  match m.op with
  | .atom _ => !(m.mask.getLsbD 0)
  | _ => m.rows == 0 || m.len == 0

/-- Is the range inside the core's own near store or slice, as an RACC source must be (R119)? Core-code addresses name
logical cores. -/
def ownSource (lc a : Nat) : Bool := (spaceOf a == 0 && field a 33 24 == lc) || (spaceOf a == 3 && field a 29 20 == lc)

/-- The first failed address check of a range. -/
def State.rangeExn (s : State) (p : Nat) (r : Nat × Nat) : Option Exn :=
  match s.resolve (.part p) r.1 r.2 with
  | .ok _ => none
  | .error e => some ⟨e, r.1⟩

/-- Alignment rules of a move (R100, R119-R121): whole elements in a row, 8-byte RACC, natural ATOM, 4-byte formats,
multiples of 32 for MX blocks. -/
def MoveRec.aligned (m : MoveRec) : Bool :=
  let sf := srcFmt m.op m.sfmt
  let df := dstFmt m.op m.sfmt m.dfmt
  let sh := m.dstShape
  match m.op with
  | .atom fn => m.dst.toNat % atomBytes fn == 0 && m.near % atomBytes fn == 0
  | .racc => m.len % 8 == 0 && m.src.toNat % 8 == 0 && m.dst.toNat % 8 == 0 && m.sstr % 8 == 0 && m.dstr % 8 == 0
  | .rows => true
  | op =>
    (m.len * 8 % elemBits sf == 0) &&
    (!(elemBits sf == 32 && op.readsRows) || m.src.toNat % 4 == 0 && m.sstr % 4 == 0) &&
    (!(elemBits df == 32 && op.writesRows) || m.dst.toNat % 4 == 0 && m.dstr % 4 == 0) &&
    (!(isMX sf) || m.cols % 32 == 0 || (op == .transpose && m.rows % 32 == 0)) &&
    (!(isMX df && op.converts) || sh.2 % 32 == 0)

/-- The issue checks of a move slot (R92, R121): poisoned operand, unmapped, violation, misaligned, and the flag of an XFER
that is not IDLE (R128). -/
def mvCheck (s : State) (p c : Nat) (k : Core) (op : MvOp) (f : MvFields) : Option Exn :=
  let m := mvRecord s p k op f
  let ranges := if m.empty then [] else m.srcRanges ++ m.dstRanges
  let exns := ranges.filterMap (s.rangeExn p)
  let lc := s.logical p c
  let spaceBad : Option Exn :=
    if m.empty then none
    else match op with
      | .racc =>
        if !(spaceOf m.dst.toNat == 0 || spaceOf m.dst.toNat == 1) then some ⟨codeUnmapped, m.dst.toNat⟩
        else if !(ownSource lc m.src.toNat) then some ⟨codeUnmapped, m.src.toNat⟩ else none
      | .atom _ =>
        if !(spaceOf m.dst.toNat == 0 || spaceOf m.dst.toNat == 1 || spaceOf m.dst.toNat == 3)
        then some ⟨codeUnmapped, m.dst.toNat⟩ else ownRange false m.near (atomBytes (match op with | .atom fn => fn | _ => 0))
      | _ => none
  let xfer := match op with
    | .rows | .transpose | .convert | .convertTranspose | .fill => true
    | _ => false
  let flagBad := match m.flag with
    | some n => if xfer && k.sync.flags.toList.getD n .idle != .idle then some (⟨0x0D, 0⟩ : Exn) else none
    | none => none
  firstExn [k.poisonExn (op.regs f), spaceBad, exns.find? (fun e => e.code == codeUnmapped),
    exns.find? (fun e => e.code == codeViolation),
    if m.empty || m.aligned then none else some ⟨0x07, m.dst.toNat⟩, flagBad]

/-- Set an arrival flag of a core. -/
def Core.setFlag (k : Core) (n : Nat) (st : FlagState) : Core :=
  if h : n < 64 then { k with sync := { k.sync with flags := k.sync.flags.set n st h } } else k

/-- The state of an arrival flag. -/
def Core.flag (k : Core) (n : Nat) : FlagState := k.sync.flags.toList.getD n .idle

/-- Size of the rounding block of a converting move (R184). -/
def MoveRec.blockSize (m : MoveRec) : Nat := m.rows * (64 * ceilDiv m.dstShape.2 64)

/-- Issue a move: its record enters the queue, an XFER's flag is armed, an ACCST ends its tile's chain, a converting move
takes its rounding block (R122, R127, R184). An empty move completes at once. -/
def mvEffect (s : State) (p c : Nat) (k : Core) (op : MvOp) (f : MvFields) : State :=
  let rb := if op.converts then s.roundBlock p c k.spec.round (mvRecord s p k op f).blockSize else (0, s)
  let m := { mvRecord s p k op f with rcBase := if op.converts then rb.1 else 0 }
  let s1 := { rb.2 with free := rb.2.free + ofBool (op == .transpose && isMX f.sfmt.toNat) }
  let xfer := match op with
    | .rows | .transpose | .convert | .convertTranspose | .fill => true
    | _ => false
  let s2 := match op with
    | .accst _ => s1.onCore c (fun k => endChain k f.tile)
    | .accld _ => s1.dropChain p c f.tile
    | _ => s1
  if m.empty then
    (match m.flag with
     | some n => if xfer then s2.onCore c (fun k => k.setFlag n .landed) else s2
     | none => s2)
  else
    s2.onCore c (fun k =>
      let k1 := { k with sync := { k.sync with moves := k.sync.moves ++ [{ m with flag := if xfer then m.flag else none }] } }
      match m.flag with
      | some n => if xfer then k1.setFlag n .armed else k1
      | none => k1)

/-! ## Completion -/

/-- The physical address of a move's address at completion. -/
def State.physOf (s : State) (p a : Nat) : Nat :=
  match s.resolve (.part p) a 1 with
  | .ok x => x
  | .error _ => a

/-- The element plane of source row `r` as one number (R148). -/
def State.srcRow (s : State) (p : Nat) (m : MoveRec) (r : Nat) : Nat :=
  s.readN (s.physOf p (m.src.toNat + r * m.sstr)) m.len

/-- The scale byte of source element (r, j), read as row-blocked (R154) unless the record says column-blocked (R117). -/
def State.srcScale (s : State) (p : Nat) (m : MoveRec) (r j : Nat) : Nat :=
  s.readN (s.physOf p (scaleBase m.src.toNat + m.ssc + scaleIdx m.srcCol m.cols r j)) 1

/-- Raw pattern of source element (r, j): from the captured tile for ACCST. -/
def State.srcPattern (s : State) (p : Nat) (m : MoveRec) (r j : Nat) : Nat :=
  match m.op with
  | .accst _ => (m.data.at (Fin.ofNat 64 r) (Fin.ofNat 64 j)).toNat
  | _ => planeElem (elemBits (srcFmt m.op m.sfmt)) (s.srcRow p m r) j

/-- Source element (r, j) as a conversion reads it (R150, R151). -/
def State.srcVal (s : State) (p : Nat) (m : MoveRec) (r j : Nat) : SrcEl × Flags :=
  let f := srcFmt m.op m.sfmt
  srcElem f (s.srcPattern p m r j) (if isMX f then s.srcScale p m r j else 127)

/-- The rounding of element `e` of destination row `r` (R161, R184). -/
def MoveRec.rnd (m : MoveRec) (r e : Nat) : Rounding :=
  let off := 64 * (r * ceilDiv m.dstShape.2 64 + e / 64) + e % 64
  roundingAt m.round m.seed m.loose m.freeBase (m.rcBase + BitVec.ofNat 64 off) off

/-- Is destination element `e` of a row written: always, but for the places of a disabled source row when transposing
(R116). -/
def MoveRec.elemOn (m : MoveRec) (e : Nat) : Bool := !m.op.transposes || m.rowOn e

/-- Destination row `r` of a converting move: element patterns, scales, flags (R152-R154). The place of a disabled source
row keeps its pattern and takes no part in its block. -/
def State.convDstRow (s : State) (p : Nat) (m : MoveRec) (r : Nat) : List Nat × List Nat × Flags :=
  let sh := m.dstShape
  let f := dstFmt m.op m.sfmt m.dfmt
  let xs := (upTo sh.2).map (fun e =>
    if !(m.elemOn e) then ((⟨.num false 0 0, false, false⟩ : SrcEl), (0 : Flags))
    else if m.op.transposes then s.srcVal p m e r else s.srcVal p m r e)
  let out := convRow f (xs.zipIdx.map (fun x => (x.1.1, m.rnd r x.2)))
  let old := s.readN (s.physOf p (m.dst.toNat + r * m.dstr)) (planeBytes f sh.2)
  (out.1.zipIdx.map (fun x => if m.elemOn x.2 then x.1 else planeElem (elemBits f) old x.2), out.2.1,
   (xs.map Prod.snd).foldl (· ||| ·) out.2.2)

/-- Write destination row `r`: an element plane and, for MX, its row-blocked scales. -/
def State.putDstRow (s : State) (p : Nat) (m : MoveRec) (r : Nat) (es scs : List Nat) : State :=
  let f := dstFmt m.op m.sfmt m.dfmt
  let n := es.length
  let s1 := s.writeN (s.physOf p (m.dst.toNat + r * m.dstr)) (planeBytes f n) (packPlane (elemBits f) es)
  if scs.isEmpty then s1
  else s1.writeBytes (s.physOf p (scaleBase m.dst.toNat + m.dsc + r * (n / 32))) (scs.map (BitVec.ofNat 8))

/-- The rows a converting or transposing move writes: every destination row of a transpose, else the enabled rows. -/
def MoveRec.dstRowsOn (m : MoveRec) : List Nat := if m.op.transposes then upTo m.dstShape.1 else m.rowsOn

/-- A converting move into memory. -/
def State.doConvert (s : State) (p c : Nat) (m : MoveRec) : State :=
  m.dstRowsOn.foldl (fun acc r =>
    let row := s.convDstRow p m r
    (acc.putDstRow p m r row.1 row.2.1).onCore c (fun k => k.orFlags row.2.2)) s

/-- A transposing store: elements rearranged unchanged, each keeping its own scale (R117). Elements of a disabled source
row are not read, and their places in the destination keep their old contents. -/
def State.doTranspose (s : State) (p : Nat) (m : MoveRec) : State :=
  let f := dstFmt m.op m.sfmt m.dfmt
  let w := elemBits f
  let sh := m.dstShape
  let s1 := (upTo sh.1).foldl (fun acc r =>
    let a := s.physOf p (m.dst.toNat + r * m.dstr)
    let old := s.readN a (planeBytes f sh.2)
    acc.writeN a (planeBytes f sh.2)
      (packPlane w ((upTo sh.2).map (fun e => if m.rowOn e then s.srcPattern p m e r else planeElem w old e)))) s
  if isMX f then
    -- each scale byte moves to the place of its elements in the other layout
    m.rowsOn.foldl (fun acc r => (upTo m.cols).foldl (fun acc j =>
      acc.writeN (s.physOf p (scaleBase m.dst.toNat + m.dsc + scaleIdx (!m.srcCol) (if m.srcCol then sh.2 else m.dstScaleCols) j r)) 1 (s.srcScale p m r j)) acc) s1
  else s1

/-- ROWS: each enabled row copied. -/
def State.doRows (s : State) (p : Nat) (m : MoveRec) : State :=
  m.rowsOn.foldl (fun acc r =>
    acc.writeBytes (s.physOf p (m.dst.toNat + r * m.dstr)) (leBytes m.len (s.srcRow p m r))) s

/-- ACCST in mode ROWS: FP32 tile rows written. -/
def State.doAccstRows (s : State) (p : Nat) (m : MoveRec) : State :=
  m.rowsOn.foldl (fun acc r =>
    acc.writeN (s.physOf p (m.dst.toNat + r * m.dstr)) (4 * m.cols)
      (packPlane 32 ((upTo m.cols).map (fun j => s.srcPattern p m r j)))) s

/-- FILL: every destination word takes the captured word. -/
def State.doFill (s : State) (p : Nat) (m : MoveRec) : State :=
  m.rowsOn.foldl (fun acc r =>
    acc.writeN (s.physOf p (m.dst.toNat + r * m.dstr)) m.len
      (packPlane 32 (List.replicate (m.len / 4) (m.opnd.toNat % 2 ^ 32)))) s

/-- RACC: each 8-byte element added modulo 2^64 at the destination (R119). -/
def State.doRacc (s : State) (p : Nat) (m : MoveRec) : State :=
  m.rowsOn.foldl (fun acc r => (upTo (m.len / 8)).foldl (fun acc e =>
    acc.addWord (s.physOf p (m.dst.toNat + r * m.dstr + 8 * e)) (planeElem 64 (s.srcRow p m r) e)) acc) s

/-- The new value of an atomic operation (R120). -/
def atomNew (func : Nat) (old opnd cmp : Nat) : Nat :=
  match func with
  | 0 => old + opnd
  | 1 => old + opnd
  | 2 => opnd
  | 3 => opnd
  | 4 => if old = cmp % 2 ^ 32 then opnd else old
  | 5 => if old = cmp then opnd else old
  | 6 => if sext 32 old < sext 32 opnd then opnd else old
  | _ => if sext 32 opnd < sext 32 old then opnd else old

/-- ATOM: one atomic operation, the old value written to the near store (R120). -/
def State.doAtom (s : State) (p c : Nat) (m : MoveRec) (func : Nat) : State :=
  let n := atomBytes func
  let a := s.physOf p m.dst.toNat
  let old := s.readN a n
  let s1 := s.writeN a n (atomNew func old m.opnd.toNat m.cmp.toNat)
  (if s.poisoned a n ∧ func ≠ 3 then s1.poisonRange a n else s1).writeN (nearAddr c (m.near % 2 ^ 20)) n old

/-- ACCLD: tile rows loaded as FP32 or converted (R116, R153); elements beyond the row keep their value. -/
def State.doAccld (s : State) (p c : Nat) (m : MoveRec) : State :=
  let cell := fun (r j : Fin 64) =>
    let x := s.srcVal p m r.val j.val
    let y := convFloat 0 (m.rnd r.val j.val) x.1
    (BitVec.ofNat 32 y.1, x.2 ||| y.2)
  let raw := fun (r j : Fin 64) => BitVec.ofNat 32 (s.srcPattern p m r.val j.val)
  let on := fun (r j : Fin 64) => decide (r.val < m.rows) && m.rowOn r.val && decide (j.val < m.cols)
  let conv := m.op == .accld 2
  s.onCore c (fun k =>
    let a := BitVec.ofNat 3 m.tile
    let old := k.tile a
    let t : Tile := Vector.ofFn (fun r => Vector.ofFn (fun j =>
      if on r j then (if conv then (cell r j).1 else raw r j) else old.at r j))
    let fl := if conv then lanes.foldl (fun acc r => lanes.foldl (fun acc j =>
      if on r j then acc ||| (cell r j).2 else acc) acc) (0 : Flags) else 0
    (k.setTile a t).orFlags fl)

/-- What a move does to memory and tiles when it completes. -/
def State.doMove (s : State) (p c : Nat) (m : MoveRec) : State :=
  match m.op with
  | .rows => s.doRows p m
  | .transpose => s.doTranspose p m
  | .convert => s.doConvert p c m
  | .convertTranspose => s.doConvert p c m
  | .fill => s.doFill p m
  | .racc => s.doRacc p m
  | .atom fn => s.doAtom p c m fn
  | .accst mode => if mode = 0 then s.doAccstRows p m else if mode = 1 then s.doTranspose p m else s.doConvert p c m
  | .accld _ => s.doAccld p c m

/-- The first source range of a move that carries an uncorrectable error. -/
def State.moveUe (s : State) (p : Nat) (m : MoveRec) : Option Nat :=
  (m.srcRanges.find? (fun r => s.poisoned (s.physOf p r.1) r.2)).map Prod.fst

/-- Complete move number `i` of a core's queue (R122): its effect, the error it met kept for the wait that covers it or
marked on the tile it loaded (R93), its flag landed, its record gone from the queue. -/
def State.finishMove (s : State) (p c i : Nat) : State :=
  match (s.core c).sync.moves[i]? with
  | none => s
  | some m =>
    let ue := s.moveUe p m
    let s1 := s.doMove p c m
    s1.onCore c (fun k =>
      let k0 := { k with sync := { k.sync with moves := k.sync.moves.eraseIdx i } }
      let k1 := match m.op, ue with
        | .accld _, some a => k0.mark (codeA (BitVec.ofNat 3 m.tile)) a
        | _, some a => { k0 with sync := { k0.sync with errs := k0.sync.errs ++ [⟨m.grp, m.flag, 0x09, BitVec.ofNat 64 a⟩] } }
        | _, none => k0
      match m.flag with
      | some n => k1.setFlag n .landed
      | none => k1)

/-- Complete every queued move, in queue order (fuel: their number). -/
def State.finishMoves (s : State) (p c : Nat) : Nat → State
  | 0 => s
  | n + 1 => (s.finishMove p c 0).finishMoves p c n

/-- Complete every operation a core has issued (R86, R92). -/
def State.drainCore (s : State) (p c : Nat) : State := s.finishMoves p c (s.core c).sync.moves.length

end Sys2Proof.Machine
end

