-- ==== Sys2Proof/Machine/Sync.lean ====
section
/-! DEFINITION. The sync slot (R124-R130): its checks, when it stalls, the errors its waits cover, its effect; semaphores
and barriers. -/
namespace Sys2Proof.Machine

/-! ## Semaphores (R126, R365) -/

/-- The count of a semaphore. -/
def State.sem (s : State) (p n : Nat) : Nat := s.getB Reg.SCHED.SEM.count p n

/-- Set the count of a semaphore. -/
def State.setSem (s : State) (p n v : Nat) : State := s.setB Reg.SCHED.SEM.count p n v

/-- Increment a semaphore: at 0xFFFF it stays there and SEM_OVERFLOW is raised (R126). -/
def State.semInc (s : State) (p n : Nat) : State :=
  if s.sem p n = 0xFFFF then s.raise 0x02C0 p 3 n else s.setSem p n (s.sem p n + 1)

/-! ## Operands and checks -/

/-- The semaphore an operation names: s[rs] + imm[5:0]. -/
def semNum (k : Core) (f : SyFields) : Nat := (k.rs f.rs).toNat + field f.imm.toNat 5 0

/-- Registers a sync operation reads. -/
def SyOp.srcs (op : SyOp) (f : SyFields) : List Nat :=
  match op with
  | .send => [codeS f.rd, codeS f.rs]
  | .semacq | .semrel | .bar => [codeS f.rs]
  | .waitft => [codeS f.rs, codeS (nextReg f.rs)]
  | _ => []

/-- Registers a sync operation writes. -/
def SyOp.dests (op : SyOp) (f : SyFields) : List Nat :=
  match op with
  | .recv => [codeS f.rd, codeS (nextReg f.rd)]
  | _ => []

/-- ILLEGAL_OP: an odd pair register (R99); a RECV with odd rd is a SYNC_FAULT instead (R128). -/
def SyOp.illegal (op : SyOp) (f : SyFields) : Bool :=
  match op with
  | .waitft => f.rs.getLsbD 0
  | _ => false

/-- SYNC_FAULT. -/
def exnSync : Exn := ⟨0x0D, 0⟩

/-- Has the core's task already arrived at the barrier it stands at? -/
def Core.atBarrier (k : Core) (b : Nat) : Bool := k.sync.stall == some (.barrier b)

/-- The starting order of the core's task. -/
def Core.order (k : Core) : Nat := (k.task.map (fun t => t.order)).getD 0

/-- The issue checks of a sync slot (R128, R129). -/
def syCheck (s : State) (p : Nat) (k : Core) (op : SyOp) (f : SyFields) : Option Exn :=
  let imm := f.imm.toNat
  let bad : Bool := match op with
    | .semrel => k.sync.sems.isEmpty || decide (63 < semNum k f)
    | .semacq => decide (8 ≤ k.sync.sems.length) || decide (63 < semNum k f)
    | .bar =>
      let b := field imm 3 0
      let n := (k.rs f.rs).toNat
      !(k.atBarrier b) && (n == 0 || decide (s.lcores p < n) ||
        (match Map.find (s.part p).sched.barriers b with
         | some x => !x.arrived.isEmpty && x.count != n
         | none => false))
    | .waitarr => k.flag (field imm 5 0) == .idle
    | .recv => f.rd.getLsbD 0
    | _ => false
  let unmapped := match op with
    | .send => if s.lcores p ≤ (k.rs f.rs).toNat then some (⟨codeUnmapped, 0⟩ : Exn) else none
    | _ => none
  firstExn [k.poisonExn (op.srcs f), unmapped, if bad then some exnSync else none]

/-! ## Stalls -/

/-- Messages on their way to, or in, the receive queue of a logical core. -/
def State.rxLoad (s : State) (p l : Nat) : Nat :=
  ((s.part p).sched.flights.filter (fun x => x.dest == l)).length +
    (match s.physical p l with
     | some c => (s.core c).sync.rxq.length
     | none => 0)

/-- Does a message match a RECV? -/
def recvMatch (f : SyFields) (m : Msg) : Bool := f.imm.getLsbD 8 || m.chan == field f.imm.toNat 7 0

/-- Moves of a group outstanding. -/
def Core.outstanding (k : Core) (g : Nat) : Nat := (k.sync.moves.filter (fun m => m.grp == g)).length

/-- The wait at which a sync operation stalls, none where it is satisfied (R124, R126, R129). -/
def syStall (s : State) (p : Nat) (k : Core) (op : SyOp) (f : SyFields) : Option Wait :=
  let imm := f.imm.toNat
  let fence := !k.sync.moves.isEmpty
  match op with
  | .mwait => if field imm 7 4 < k.outstanding (field imm 2 0) then some (.moves (field imm 2 0) (field imm 7 4)) else none
  | .fenceLocal => none
  | .fenceGlobal => if fence then some .fence else none
  | .send =>
    if f.imm.getLsbD 8 && fence then some .fence
    else if 16 ≤ s.rxLoad p (k.rs f.rs).toNat then some (.sendCredit (k.rs f.rs).toNat) else none
  | .recv => if k.sync.rxq.any (recvMatch f) then none else some .recv
  | .semacq => if s.sem p (semNum k f) = 0 then some (.sem (semNum k f)) else none
  | .semrel => if fence then some (.semRel (semNum k f)) else none
  | .waitarr => if k.flag (field imm 5 0) == .landed then none else some (.arrival (field imm 5 0))
  | .waitft => if s.now < (k.rsPair f.rs).toNat then some (.ftime (k.rsPair f.rs)) else none
  | .bar =>
    let b := field imm 3 0
    if k.atBarrier b then
      (if (s.part p).sched.barPassed.contains (b, k.order) then none else some (.barrier b))
    else
      let n := ((Map.find (s.part p).sched.barriers b).map (fun x => x.arrived.length)).getD 0
      if n + 1 < (k.rs f.rs).toNat then some (.barrier b) else none

/-- Does a wait or fence cover the error of a completed move (R93, R121, R210)? -/
def syCovers (op : SyOp) (f : SyFields) (e : MoveErr) : Bool :=
  match op with
  | .mwait => e.grp == field f.imm.toNat 2 0
  | .fenceGlobal => true
  | .send => f.imm.getLsbD 8
  | .semrel => true
  | .waitarr => e.flag == some (field f.imm.toNat 5 0)
  | _ => false

/-- The exception of the first covered error. -/
def syErr (k : Core) (op : SyOp) (f : SyFields) : Option Exn :=
  (k.sync.errs.find? (syCovers op f)).map (fun e => ⟨e.code, e.addr.toNat⟩)

/-- A stalled BAR counts its arrival once, when it issues (R130). -/
def State.arrive (s : State) (p : Nat) (k : Core) (w : Wait) (n : Nat) : State :=
  match w with
  | .barrier b =>
    if k.atBarrier b then s
    else s.onSched p (fun d =>
      let old := ((Map.find d.barriers b).map (fun x => x.arrived)).getD []
      { d with barriers := Map.put d.barriers b ⟨n, old ++ [k.order]⟩ })
  | _ => s

/-! ## Effects -/

/-- A flag set IDLE by a WAITARR, noted for the gates of the partition's running lists (R208). -/
def State.noteConsumed (s : State) (p c flag : Nat) : State :=
  let l := s.logical p c
  s.onTiers p (fun t => { t with lists := Map.mapVal (fun _ x => { x with consumed := x.consumed ++ [(l, flag)] }) t.lists })

/-- The effect of a satisfied sync operation of core `c` of partition `p`, whose registers stood as in `k` (Table 4.12). -/
def syEffect (s : State) (p c : Nat) (k : Core) (op : SyOp) (f : SyFields) : State :=
  let imm := f.imm.toNat
  match op with
  | .mwait => s
  | .fenceLocal => s
  | .fenceGlobal => s
  | .send =>
    s.onSched p (fun d => { d with flights := d.flights ++ [⟨(k.rs f.rs).toNat, ⟨s.logical p c, field imm 7 0, k.rs f.rd⟩⟩] })
  | .recv =>
    match k.sync.rxq.find? (recvMatch f) with
    | none => s
    | some m =>
      s.onCore c (fun k' =>
        { k' with sync := { k'.sync with rxq := k'.sync.rxq.erase m } }.setSPair f.rd
          (BitVec.ofNat 32 (m.chan * 2 ^ 24 + m.sender % 1024) ++ m.payload))
  | .semacq =>
    let n := semNum k f
    (s.setSem p n (s.sem p n - 1)).onCore c (fun k' => { k' with sync := { k'.sync with sems := k'.sync.sems ++ [n] } })
  | .semrel =>
    let n := semNum k f
    (s.semInc p n).onCore c (fun k' => { k' with sync := { k'.sync with
      sems := if k'.sync.sems.contains n then k'.sync.sems.erase n else k'.sync.sems.drop 1 } })
  | .waitarr => (s.onCore c (fun k' => k'.setFlag (field imm 5 0) .idle)).noteConsumed p c (field imm 5 0)
  | .waitft => s
  | .bar =>
    let b := field imm 3 0
    if k.atBarrier b then s.onSched p (fun d => { d with barPassed := d.barPassed.erase (b, k.order) })
    else s.onSched p (fun d =>
      let others := ((Map.find d.barriers b).map (fun x => x.arrived)).getD []
      { d with barriers := Map.del d.barriers b, barPassed := d.barPassed ++ others.map (fun o => (b, o)) })

end Sys2Proof.Machine
end

