-- ==== Sys2Proof/Machine/Task.lean ====
section
/-! DEFINITION. The task descriptor (Table 17.1), the start of a task (R97, R351), its end (R355, R95), and the fault record
of an exception (R409). -/
namespace Sys2Proof.Machine

/-! ## The descriptor -/

/-- task_id. -/
def dTask (d : List Byte) : Nat := descField d 0 8
/-- Entry code pointer. -/
def dEntry (d : List Byte) : Nat := field (descField d 8 4) 19 0
/-- Initial s2. -/
def dStack (d : List Byte) : Nat := field (descField d 12 4) 19 0
/-- Initial EVEC. -/
def dEvec (d : List Byte) : Nat := field (descField d 16 4) 19 0
/-- The core word, bytes 23:20. -/
def dCtl (d : List Byte) : Nat := descField d 20 4
/-- Logical core. -/
def dCore (d : List Byte) : Nat := field (dCtl d) 31 22
/-- Runs on any logical core. -/
def dAny (d : List Byte) : Bool := bit (dCtl d) 21
/-- Seed slot. -/
def dSeed (d : List Byte) : Nat := field (dCtl d) 19 16
/-- done_cq. -/
def dDoneCq (d : List Byte) : Bool := bit (dCtl d) 15
/-- done_sem_en. -/
def dDoneSemEn (d : List Byte) : Bool := bit (dCtl d) 14
/-- done_sem. -/
def dDoneSem (d : List Byte) : Nat := field (dCtl d) 13 8
/-- Phase stamp. -/
def dPhase (d : List Byte) : Nat := field (dCtl d) 0 0
/-- PENNANT. -/
def dPennant (d : List Byte) : Nat := descField d 32 4

/-- Bit 0 of a code pointer is the mode: the PC it names is aligned for it (R62, R63). -/
def codePtrOk (x : Nat) : Bool := if bit x 0 then (x - 1) % 64 == 0 else x % 4 == 0

/-- TASK_INVALID conditions of a descriptor (R353); `l` is the logical core count. -/
def descInvalid (d : List Byte) (l : Nat) : Bool :=
  field (descField d 8 4) 31 20 != 0 || field (descField d 12 4) 31 20 != 0 || field (descField d 16 4) 31 20 != 0 ||
  field (dCtl d) 7 1 != 0 || (!(dAny d) && decide (l ≤ dCore d)) || !(codePtrOk (dEntry d)) || dStack d % 64 != 0

/-! ## Start -/

/-- The sync unit between tasks: flags and the receive queue stay, for a step list arms flags before its tasks start (R204)
and a message may come before its reader (R97 resets neither; R362 does for a pre-empting task, at the save). -/
def SyncUnit.clear (u : SyncUnit) : SyncUnit := { u with moves := [], errs := [], sems := [], stall := none }

/-- The core state at task start (R97, Table 3.4), PX8 mode as the partition says (R366). -/
def startCore (k : Core) (d : List Byte) (px8 : Bool) (queue : Option Nat) (order descOff : Nat) : Core :=
  { k with
    file := { RegFile.zero with s := (RegFile.zero.s.set 2 (BitVec.ofNat 32 (dStack d))).set 30 (BitVec.ofNat 32 descOff) }
    spec := { Special.zero with
      pc := BitVec.ofNat 20 (dEntry d / 2 * 2), bundleMode := bit (dEntry d) 0, px8 := px8,
      cycleHi := k.spec.cycleHi, ftimeHi := k.spec.ftimeHi, evec := BitVec.ofNat 32 (dEvec d),
      pennant := BitVec.ofNat 32 (dPennant d), rngCtl := BitVec.ofNat 32 (ofBool (bit (dCtl d) 20) * 32 + dSeed d) }
    sync := k.sync.clear, block := none, poison := [], rset := none, dset := none,
    task := some ⟨d, queue, order, false⟩, preempt := none, chains := [] }

/-- Start a task on core `c` of partition `p` (R351): the descriptor is copied into the near store, s30 is set to it, the
completion entry is reserved. -/
def State.startTask (s : State) (p c : Nat) (d : List Byte) (queue : Option Nat) : State :=
  let off := (s.get Reg.SCHED.SAVE.desc_off p + 64 * (s.core c).saved.length) % 2 ^ 20
  let order := (s.part p).sched.starts
  let s1 := s.writeBytes (nearAddr c off) d
  let s2 := if dDoneCq d then s1.cqReserve (s.owner p) else s1
  (s2.onSched p (fun x => { x with starts := x.starts + 1 })).onCore c
    (fun k => startCore k d (s.getBit Reg.PARTITION.CFG.px8 p) queue order off)

/-! ## End -/

/-- CAUSE of an exception (Table 3.4). -/
def causeWord (trapNo slot code : Nat) : Word := BitVec.ofNat 32 (trapNo * 2 ^ 16 + slot * 2 ^ 8 + code)

/-- Release the semaphores a task holds, raising SEM_RELEASED_ON_END once (R355). -/
def State.releaseSems (s : State) (p c : Nat) (sems : List Nat) : State :=
  if sems.isEmpty then s
  else (sems.foldl (fun s n => s.semInc p n) s).raise 0x02C0 p 0 (sems.length * 2 ^ 16 + s.logical p c)

/-- The core after its task is gone: registers keep what they hold. -/
def Core.clearTask (k : Core) : Core :=
  { k with task := none, sync := k.sync.clear, preempt := none, chains := [] }

/-- The end of a task with a status code (R355): its operations complete, its semaphores are released, done_sem is
incremented, its completion entry is written. -/
def State.endTask (s : State) (p c status : Nat) : State :=
  match (s.core c).task with
  | none => s
  | some t =>
    let s1 := s.drainCore p c
    let s2 := s1.releaseSems p c (s1.core c).sync.sems
    let s3 := if dDoneSemEn t.desc then s2.semInc p (dDoneSem t.desc) else s2
    let s4 := if dDoneCq t.desc then s3.complete p (dTask t.desc) status 1 (s.logical p c) else s3
    let s5 := (s4.onCore c Core.clearTask).bump Reg.SCHED.TASKS_DONE.done p 1
    if status = 0x09 ∨ status = stTierLate then s5.stepFails p 5 else s5

/-- The fault record of a core exception that ends a task (R95, R409, source 0). -/
def State.exnRecord (s : State) (p c : Nat) (t : TaskRec) : State :=
  let k := s.core c
  s.faultRecord p
    { source := 0, code := field k.spec.cause.toNat 7 0, addr := k.spec.faddr.toNat, id := dTask t.desc,
      pennant := k.spec.pennant.toNat, lcore := s.logical p c, pcore := c, epc := k.spec.epc.toNat,
      cause := k.spec.cause.toNat, detail := 0 }

end Sys2Proof.Machine
end

