-- ==== Sys2Proof/Machine/Contexts.lean ====
section
/-! DEFINITION. Saved contexts: the save record (R86, R359), the save slots (R360), the resume (R87, R363), the withdrawal
of a request (R358) and the context image (R367, R368). -/
namespace Sys2Proof.Machine

/-! ## The fixed core record (R86: 512 bytes in the order of the rule; the places inside it are log entry 16) -/

/-- Bytes of a list of words. -/
def wordBytes (ws : List Word) : List Byte := ws.flatMap (fun w => leBytes 4 w.toNat)

/-- Two bits of a flag. -/
def flagCode : FlagState → Nat
  | .idle => 0 | .armed => 1 | .landed => 2

/-- The flag of two bits. -/
def flagOfCode (n : Nat) : FlagState := if n = 1 then .armed else if n = 2 then .landed else .idle

/-- A number built of fixed-width digits, the first lowest. -/
def packDigits (w : Nat) (l : List Nat) : Nat := l.foldr (fun d acc => acc * 2 ^ w + d % 2 ^ w) 0

/-- STATUS (Table 3.4). -/
def Special.status (x : Special) : Nat := ofBool x.px8 * 8 + ofBool x.inTrap * 4 + ofBool x.bundleMode * 2

/-- The codes of the registers that can be poisoned, in the order of their marks. -/
def poisonCodes : List Nat := upTo 32 ++ (upTo 64).map (fun i => 64 + i) ++ (upTo 9).map (fun i => 128 + i)

/-- The fixed core record of a core. -/
def fixedRecord (k : Core) (loose : Bool) : List Byte :=
  let x := k.spec
  let msgs := (upTo 16).flatMap (fun i => match k.sync.rxq[i]? with
    | some m => leBytes 4 m.payload.toNat ++ leBytes 4 (m.chan % 256 * 2 ^ 24 + m.sender % 1024)
    | none => leBytes 8 0)
  let blk := match k.block with
    | none => 0
    | some b => 1 + b.fmt % 16 * 2 + ofBool b.blk * 32 + b.er % 128 * 2 ^ 8 + b.ec % 128 * 2 ^ 16
  wordBytes k.file.s.toList ++ k.file.p.toList.flatMap (fun w => leBytes 8 w.toNat) ++
  wordBytes [x.epc, x.evec, x.scratch, x.round, x.fpflags, x.rngCtl, x.edgeRows, x.edgeCols] ++
  leBytes 4 (x.pc.toNat + ofBool x.bundleMode) ++ leBytes 4 x.status ++
  wordBytes [x.cause, x.pennant] ++ leBytes 8 x.faddr.toNat ++ leBytes 8 x.rc.toNat ++
  leBytes 16 (packDigits 2 (k.sync.flags.toList.map flagCode)) ++ leBytes 8 0 ++
  (upTo 8).flatMap (fun i => leBytes 1 (k.sync.sems.getD i 255)) ++
  leBytes 1 k.sync.rxq.length ++
  leBytes 7 (match k.sync.stall with | some (.barrier b) => b | _ => 255) ++
  msgs ++
  leBytes 16 (packDigits 1 (poisonCodes.map (fun c => ofBool (Map.has k.poison c)))) ++
  wordBytes [x.cycleHi, x.ftimeHi] ++
  leBytes 8 (blk * 2 + ofBool loose) ++ leBytes 56 0

/-- Bytes of a vector register. -/
def vregBytes (v : VReg) : List Byte := wordBytes v.toList

/-- Bytes of a tile. -/
def tileBytes (t : Tile) : List Byte := t.toList.flatMap vregBytes

/-- The 8,192 bytes that keep the weight block: its element rows, then its scales, zeros after them (log entry 16). -/
def blockBytes (k : Core) : List Byte :=
  match k.block with
  | none => leBytes 8192 0
  | some b =>
    let body := b.elems.flatMap (fun row => leBytes (8 * elemBits b.fmt) (packPlane (elemBits b.fmt) row)) ++
      b.scales.map (BitVec.ofNat 8)
    (body ++ leBytes 8192 0).take 8192

/-- The save record of R86 with the parts that the masks name. -/
def saveRecord (k : Core) (loose : Bool) (acc vgrp : Nat) (wt : Bool) : List Byte :=
  fixedRecord k loose ++
  (upTo 64).flatMap (fun i => if bit vgrp (i / 8) then vregBytes (k.vr (BitVec.ofNat 6 i)) else []) ++
  (upTo 8).flatMap (fun i => if bit acc i then tileBytes (k.tile (BitVec.ofNat 3 i)) else []) ++
  (if wt then blockBytes k else [])

/-! ## Reading a record back -/

/-- `n` bytes of a record at an offset, as a number. -/
def recN (r : List Byte) (off n : Nat) : Nat := leNat ((r.drop off).take n)

/-- A word of a record. -/
def recW (r : List Byte) (off : Nat) : Word := BitVec.ofNat 32 (recN r off 4)

/-- A vector register of a record. -/
def recV (r : List Byte) (off : Nat) : VReg := Vector.ofFn (fun i => recW r (off + 4 * i.val))

/-- The places of the saved parts after the fixed record: offset of part `i` among those of a mask. -/
def partIdx (mask i : Nat) : Nat := ((upTo i).filter (fun j => bit mask j)).length

/-- The block that a record keeps. -/
def recBlock (r : List Byte) (off info : Nat) : Option WBlock :=
  if !(bit info 0) then none
  else
    let fmt := field info 4 1
    let w := elemBits fmt
    let kk := blockK fmt
    let n := if isMX fmt then kk * 2 else 0
    some { fmt := fmt, blk := bit info 5, er := field info 14 8, ec := field info 22 16,
           elems := (upTo kk).map (fun i => let row := recN r (off + 8 * w * i) (8 * w); (upTo 64).map (fun j => planeElem w row j)),
           scales := (upTo n).map (fun i => recN r (off + 8 * w * kk + i) 1) }

/-- The core that a slot's record describes (R87): parts not saved read as zero, no block where none was saved, the
generator sets invalid (R196). Poison addresses come from `m`, else they are free values numbered from `free`. -/
def restoreCore (k : Core) (v : Saved) (r : List Byte) (acc vgrp : Nat) (wt : Bool) (free : Nat) : Core :=
  let pcw := recN r 0xE0 4
  let st := recN r 0xE4 4
  let meta_ := recN r 0x1C0 8
  let nmsg := recN r 0x120 1
  let bar := recN r 0x121 7
  let pm := recN r 0x1A8 16
  let vOff := fun (i : Nat) => 512 + 2048 * partIdx vgrp (i / 8) + 256 * (i % 8)
  let aBase := 512 + 2048 * partIdx vgrp 8
  { k with
    file := {
      s := Vector.ofFn (fun i => recW r (4 * i.val))
      v := Vector.ofFn (fun i => if bit vgrp (i.val / 8) then recV r (vOff i.val) else VReg.zero)
      a := Vector.ofFn (fun i => if bit acc i.val
        then Vector.ofFn (fun row => recV r (aBase + 16384 * partIdx acc i.val + 256 * row.val)) else Tile.zero)
      p := Vector.ofFn (fun i => BitVec.ofNat 64 (recN r (0x80 + 8 * i.val) 8)) }
    spec := { pc := BitVec.ofNat 20 (pcw / 2 * 2), bundleMode := bit pcw 0, inTrap := bit st 2, px8 := bit st 3,
              cycleHi := recW r 0x1B8, ftimeHi := recW r 0x1BC, cause := recW r 0xE8, epc := recW r 0xC0,
              faddr := BitVec.ofNat 64 (recN r 0xF0 8), evec := recW r 0xC4, scratch := recW r 0xC8,
              pennant := recW r 0xEC, round := recW r 0xCC, fpflags := recW r 0xD0, rngCtl := recW r 0xD4,
              edgeRows := recW r 0xD8, edgeCols := recW r 0xDC, rc := BitVec.ofNat 40 (recN r 0xF8 8) }
    sync := { flags := Vector.ofFn (fun i => flagOfCode (recN r 0x100 16 / 4 ^ i.val % 4))
              rxq := (upTo nmsg).map (fun i =>
                let w := recN r (0x12C + 8 * i) 4
                ⟨w % 1024, w / 2 ^ 24, recW r (0x128 + 8 * i)⟩)
              moves := [], errs := v.errs
              sems := ((upTo 8).map (fun i => recN r (0x118 + i) 1)).filter (fun n => decide (n < 64))
              stall := if bar < 16 then some (.barrier bar) else none }
    block := if wt then recBlock r (aBase + 16384 * partIdx acc 8) (meta_ / 2) else none
    poison := (poisonCodes.zipIdx.filter (fun x => bit pm x.2)).foldl (fun m x =>
      Map.put m x.1 ((Map.find v.poison x.1).getD (Config.freeWord (free + 2 * x.2) ++ Config.freeWord (free + 2 * x.2 + 1)))) []
    rset := none, dset := none, task := some { v.task with loose := bit meta_ 0 }, preempt := none, chains := v.chains }

/-! ## Slots (R360) -/

/-- Size of a save slot. -/
def slotBytes : Nat := 157696

/-- Save slots per core, a depth of 0 taken as 1 and one above 4 as 4 (R370). -/
def State.saveDepth (s : State) (p : Nat) : Nat := max 1 (min 4 (s.get Reg.SCHED.SAVE.save_depth p))

/-- Own-slice offset of save slot `j`. -/
def State.slotOff (s : State) (p j : Nat) : Nat := 16 * s.get Reg.SCHED.SAVE.save_off p + slotBytes * j

/-- The lowest free slot of a core. -/
def freeSlot (k : Core) (depth : Nat) : Option Nat := (upTo depth).find? (fun j => !(k.saved.any (fun v => v.slot == j)))

/-- The slot word (Table 17.2). -/
def slotWord (full : Bool) (queue sems acc vgrp : Nat) (wt : Bool) : Nat :=
  2 ^ 63 + ofBool full * 2 ^ 62 + queue % 16 * 2 ^ 52 + sems % 16 * 2 ^ 48 + acc % 256 * 2 ^ 24 + vgrp % 256 * 2 ^ 16 +
  ofBool wt * 2 ^ 15

/-- Save the task of core `c` (R86, R359): every issued operation completes, the record and the slot header are written,
the core is left without a task, its flags IDLE and its receive queue empty (R362). Nothing without a free slot. -/
def State.saveTask (s : State) (p c acc vgrp : Nat) (wt full : Bool) : State :=
  let s1 := s.drainCore p c
  let k := s1.core c
  match k.task, freeSlot k (s.saveDepth p) with
  | some t, some j =>
    let off := t0Addr c (s.slotOff p j)
    let hdr := leBytes 8 (slotWord full (t.queue.getD 0) k.sync.sems.length acc vgrp wt) ++ leBytes 56 0 ++ t.desc
    let s2 := s1.writeBytes off (hdr ++ saveRecord k t.loose acc vgrp wt)
    (s2.setCore c { k.clearTask with
      saved := ⟨j, t, k.sync.sems, k.poison, k.sync.errs, k.chains⟩ :: k.saved, sync := SyncUnit.zero, poison := [] }).bump
      (if full then Reg.SCHED.FULL_SAVES.full else Reg.SCHED.PREEMPTS.preempts) p 1
  | _, _ => s

/-- Resume the most recently saved context of core `c` (R363): its slot becomes free. -/
def State.resumeTask (s : State) (p c : Nat) : State :=
  let k := s.core c
  match k.saved with
  | [] => s
  | v :: rest =>
    let off := t0Addr c (s.slotOff p v.slot)
    let w := s.readN off 8
    let r := s.readBytes (off + 128) 156160
    let s1 := { s with free := s.free + 2 * poisonCodes.length }
    (s1.setCore c { restoreCore k v r (field w 31 24) (field w 23 16) (bit w 15) s.free with saved := rest }).writeN off 8
      (w % 2 ^ 63)

/-- A landing for a saved context's armed flag is applied to its record (R362): flag `n` of the most recent saved context
that has it ARMED becomes LANDED. -/
def State.landSaved (s : State) (p c n : Nat) : State :=
  let k := s.core c
  let flagAt := fun (v : Saved) => t0Addr c (s.slotOff p v.slot) + 128 + 0x100 + n / 4
  match k.saved.find? (fun v => s.readN (flagAt v) 1 / 4 ^ (n % 4) % 4 == 1) with
  | none => s
  | some v => s.writeN (flagAt v) 1 (s.readN (flagAt v) 1 + 4 ^ (n % 4))

/-- A flag of core `c` lands, for the running task or for the saved context that armed it (R127, R362). -/
def State.landOn (s : State) (p c n : Nat) : State :=
  if (s.core c).sync.flags.toList.getD n .idle = .armed then s.onCore c (fun k => k.landFlag n) else s.landSaved p c n

/-- Arm a flag of core `c` that is IDLE; none where it is not. -/
def State.armOn (s : State) (c n : Nat) : Option State :=
  if (s.core c).sync.flags.toList.getD n .idle = .idle then
    some (s.onCore c (fun k => { k with sync := { k.sync with flags := k.sync.flags.set! n .armed } }))
  else none

/-- Set an ARMED flag of core `c` IDLE. -/
def State.disarmOn (s : State) (c n : Nat) : State :=
  s.onCore c (fun k => if k.sync.flags.toList.getD n .idle = .armed
    then { k with sync := { k.sync with flags := k.sync.flags.set! n .idle } } else k)

/-! ## The context image (Table 17.3) -/

/-- Sixteen counts of eight bytes. -/
def State.queueHeads (s : State) (p : Nat) : List Byte :=
  (upTo 16).flatMap (fun q => leBytes 8 (s.getB Reg.SCHED.QUEUE_HEAD.head p q))

/-- The seed of a slot. -/
def State.seed (s : State) (p n : Nat) : Nat := s.get ⟨Reg.RNG.SEED.reg.reg + 8 * n, 63, 0⟩ p

/-- Bytes 0x000 to 0x197 of the image. -/
def State.imageHead (s : State) (p : Nat) : List Byte :=
  let px8 := s.getBit Reg.PARTITION.CFG.px8 p
  leBytes 4 1 ++ leBytes 4 (s.saveDepth p * 16 + ofBool px8) ++ leBytes 4 (s.lcores p) ++ leBytes 4 64 ++
  s.queueHeads p ++ (upTo 64).flatMap (fun n => leBytes 2 (s.sem p n)) ++
  (upTo 16).flatMap (fun n => leBytes 8 (s.seed p n)) ++ leBytes 8 (s.get Reg.RNG.SEED_STATUS.valid p)

/-- The core sections: the save slots of each logical core, in slot order; none in PX8 mode (R366). -/
def State.imageSections (s : State) (p : Nat) : List Byte :=
  if s.getBit Reg.PARTITION.CFG.px8 p then []
  else (s.part p).sched.cores.flatMap (fun c => s.readBytes (t0Addr c (s.slotOff p 0)) (s.saveDepth p * slotBytes))

/-- The first 8 bytes of SHAKE256 over the head and the sections. -/
def imageDigest (head sections : List Byte) : List Byte := (shake256 (head ++ sections) 8)

/-- The whole image. -/
def State.contextImage (s : State) (p : Nat) : List Byte :=
  let h := s.imageHead p
  let sec := s.imageSections p
  h ++ imageDigest h sec ++ leBytes 608 0 ++ sec

/-- Is a device access of `n` bytes at a space-1 address possible? -/
def t1Ok (a n : Nat) : Bool := wellPlaced a && spaceOf a == 1 && decide (field a 38 0 + n ≤ 2 ^ 39)

/-- Write the context image at SCHED.CTX_ADDR. -/
def State.writeImage (s : State) (p : Nat) : State :=
  let a := s.get Reg.SCHED.CTX_ADDR.ctx_addr p
  let img := s.contextImage p
  if t1Ok a img.length then s.writeBytes a img else s

/-- Set the state of a partition's scheduler (Table 17.4). -/
def State.setSchedState (s : State) (p v : Nat) : State := s.set Reg.SCHED.STATE.state p v

/-- The state of a partition's scheduler. -/
def State.schedState (s : State) (p : Nat) : Nat := s.get Reg.SCHED.STATE.state p

/-- The contexts that a core section holds, most recently used slot number first. -/
def sectionSaved (s : State) (p c depth : Nat) : List Saved :=
  ((upTo depth).reverse.filterMap (fun j =>
    let off := t0Addr c (s.slotOff p j)
    let w := s.readN off 8
    if bit w 63 then
      some ⟨j, ⟨s.readBytes (off + 64) 64, some (field w 55 52), 0, bit (s.readN (off + 128 + 0x1C0) 1) 0⟩,
        ((upTo 8).map (fun i => s.readN (off + 128 + 0x118 + i) 1)).filter (fun n => decide (n < 64)), [], [], []⟩
    else none))

/-- The status with which a RESTORE of the image at CTX_ADDR is refused (R368), 0 where it is accepted. -/
def State.restoreStatus (s : State) (p : Nat) : Nat :=
  let a := s.get Reg.SCHED.CTX_ADDR.ctx_addr p
  let head := s.readBytes a 0x198
  let px8 := bit (recN head 4 4) 0
  let depth := field (recN head 4 4) 7 4
  let l := recN head 8 4
  let sec := if px8 then [] else s.readBytes (a + 0x400) (l * depth * slotBytes)
  let bad := !(t1Ok a (0x400 + sec.length)) || recN head 0 4 != 1 || recN head 0xC 4 != 64 ||
    decide (s.readBytes (a + 0x198) 8 ≠ imageDigest head sec) || px8 != s.getBit Reg.PARTITION.CFG.px8 p
  let d := (s.part p).sched
  if bad then 0x28
  else if ((d.cores ++ d.spares).filter (fun c => !(s.retired c))).length < l then 0x29
  else if s.saveDepth p < depth then 0x29
  else 0

/-- The logical map after a restore (R368): the first L of the partition's physical cores in ascending order, the others
spares. -/
def remap (d : Sched) (l : Nat) : Sched :=
  let all := sortBy (fun a b => decide (a ≤ b)) (d.cores ++ d.spares)
  { d with cores := all.take l, spares := all.drop l }

/-- Load the image at CTX_ADDR into a partition whose logical map becomes `m` of the image's core count (R368). -/
def State.loadImage (s : State) (p : Nat) (m : Sched → Nat → Sched) : State :=
  let a := s.get Reg.SCHED.CTX_ADDR.ctx_addr p
  let head := s.readBytes a 0x198
  let px8 := bit (recN head 4 4) 0
  let depth := field (recN head 4 4) 7 4
  let l := recN head 8 4
  let s1 := s.onSched p (fun d => { m d l with barPassed := [], barriers := [] })
  let s2 := (s1.set Reg.PARTITION.CFG.lcores p l).set Reg.PARTITION.SPARES.spares p (s1.part p).sched.spares.length
  let s3 := if px8 then s2
    else (s2.part p).sched.cores.zipIdx.foldl (fun t x =>
      let sec := s.readBytes (a + 0x400 + x.2 * depth * slotBytes) (depth * slotBytes)
      let t1 := t.writeBytes (t0Addr x.1 (t.slotOff p 0)) sec
      t1.onCore x.1 (fun k => { k with saved := sectionSaved t1 p x.1 depth })) s2
  let s4 := (upTo 16).foldl (fun t q => t.setB Reg.SCHED.QUEUE_HEAD.head p q (recN head (0x10 + 8 * q) 8)) s3
  let s5 := (upTo 64).foldl (fun t n => t.setSem p n (recN head (0x90 + 2 * n) 2)) s4
  let s6 := (upTo 16).foldl (fun t n => t.set ⟨Reg.RNG.SEED.reg.reg + 8 * n, 63, 0⟩ p (recN head (0x110 + 8 * n) 8)) s5
  let valid := recN head 0x190 8 % 2 ^ 16
  (s6.set Reg.RNG.SEED_STATUS.expanding p valid).set Reg.RNG.SEED_STATUS.valid p 0

end Sys2Proof.Machine
end

