-- ==== Sys2Proof/Machine/Weights.lean ====
section
/-! DEFINITION. Weight slots on one device: buffer states (R25, R26), region and digest of a buffer (R333, R334), the swap
decision at a launch (R36, R37, R341), the lag report (R46), a SWAP entry with nothing to launch (R30). -/
namespace Sys2Proof.Machine

/-! ## Buffers. States (Table 1.2): 0 EMPTY, 1 FILLING, 2 STAGED, 3 ACTIVE, 4 DRAINING -/

/-- The state register of buffer `b`. -/
def bufReg (b : Nat) : Nat := Reg.PUB.BUF0_STATE.state.reg + 8 * b

/-- State of buffer `b` of a slot. -/
def State.bufState (s : State) (p n b : Nat) : Nat := s.getB ⟨bufReg b, 2, 0⟩ p n

/-- Pennant of buffer `b` of a slot. -/
def State.bufPennant (s : State) (p n b : Nat) : Nat := s.getB ⟨bufReg b, 63, 32⟩ p n

/-- Set a buffer; an EMPTY one holds no version. -/
def State.setBuf (s : State) (p n b st pennant : Nat) : State :=
  (s.setB ⟨bufReg b, 2, 0⟩ p n st).setB ⟨bufReg b, 63, 32⟩ p n (if st = 0 then 0 else pennant)

/-- Model slot of a pennant (R23). -/
def slotOf (pennant : Nat) : Nat := field pennant 31 24

/-- Version of a pennant. -/
def versionOf (pennant : Nat) : Nat := field pennant 23 0

/-- The buffer of a slot in a state. -/
def State.bufIn (s : State) (p n st : Nat) : Option Nat := [0, 1].find? (fun b => s.bufState p n b == st)

/-- The state in which a pennant is held; none where it is not. -/
def State.holds (s : State) (p pennant : Nat) : Option Nat :=
  ([0, 1].find? (fun b => s.bufState p (slotOf pennant) b != 0 && s.bufPennant p (slotOf pennant) b == pennant)).map
    (fun b => s.bufState p (slotOf pennant) b)

/-- The ACTIVE pennant of a slot, 0 for none. -/
def State.activePennant (s : State) (p n : Nat) : Nat :=
  match s.bufIn p n 3 with
  | some b => s.bufPennant p n b
  | none => 0

/-- Bytes of a slot's shard. -/
def State.shardLen (s : State) (p n : Nat) : Nat := s.getB Reg.PUB.SHARD_LEN.shard_len p n

/-- Region of buffer `b` of a slot. -/
def State.bufRegion (s : State) (p n b : Nat) : Option Region :=
  let id := if b = 0 then s.getB Reg.PUB.BUFFERS.region0 p n else s.getB Reg.PUB.BUFFERS.region1 p n
  match Map.find (s.part p).tiers.regions id with
  | some r => if r.state = .free then none else some r
  | none => none

/-- Is the buffer's region defined and long enough (R335)? -/
def State.regionHolds (s : State) (p n b : Nat) : Bool :=
  decide (s.shardLen p n ≠ 0) && (match s.bufRegion p n b with
    | some r => decide (s.shardLen p n ≤ r.len)
    | none => false)

/-- The physical byte of a home base: spaces 1 and 2 as they are, a slice through the partition's core map. -/
def State.homePhys (s : State) (p a : Nat) : Nat :=
  if spaceOf a = 0 then
    match s.slicePhys (.part p) (field a 33 24) with
    | some c => t0Addr c (field a 23 0)
    | none => a
  else a

/-- Physical base of buffer `b`. -/
def State.bufBase (s : State) (p n b : Nat) : Nat :=
  match s.bufRegion p n b with
  | some r => s.homePhys p r.base
  | none => 0

/-- The shard digest of buffer `b` (R334): 8 bytes of SHAKE256 over the shard. -/
def State.shardDigest (s : State) (p n b : Nat) : DWord :=
  BitVec.ofNat 64 (leNat (shake256 (s.readBytes (s.bufBase p n b) (s.shardLen p n)) 8))

/-! ## Swap times -/

/-- Two microseconds of fabric time at 2^30 ticks a second (R10, R36): `later` is at least 2 µs after `t`. -/
def guarded (t later : Nat) : Bool := decide (2 * 2 ^ 30 ≤ (later - t) * 1000000)

/-- Has a readiness result of 1 for the pennant been formed at least 2 µs before `t`? -/
def State.readyBy (s : State) (p pennant t : Nat) : Bool :=
  match Map.find (s.wslot p (slotOf pennant)).ready pennant with
  | some ⟨_, some (at_, true)⟩ => guarded at_ t
  | _ => false

/-- Drop the swap times held for a pennant. -/
def State.dropSwap (s : State) (p pennant : Nat) : State :=
  s.onWslot p (slotOf pennant) (fun w => { w with swaps := w.swaps.filter (fun x => x.pennant != pennant) })

/-- Hold a swap time. -/
def State.addSwap (s : State) (p : Nat) (x : SwapRec) : State :=
  s.onWslot p (slotOf x.pennant) (fun w => { w with swaps := w.swaps ++ [x] })

/-- Report a swap taken (R46): the lag and the event SWAP_TAKEN. -/
def State.reportSwap (s : State) (p pennant base : Nat) : State :=
  let lag := s.now - base
  (s.set Reg.PUB.LAST_LAG.lag p lag).raise 0x0580 p 0 (pennant * 2 ^ 32 + min lag 0xFFFFFFFF)

/-- Report a deferred swap (R37). -/
def State.deferSwap (s : State) (p pennant : Nat) : State :=
  (s.bump Reg.PUB.SWAPS_DEFERRED.deferred p 1).raise 0x0580 p 1 (pennant * 2 ^ 32)

/-- A STAGED buffer becomes ACTIVE, the old ACTIVE one DRAINING (R341). -/
def State.activate (s : State) (p pennant : Nat) : State :=
  let n := slotOf pennant
  match [0, 1].find? (fun b => s.bufState p n b == 2 && s.bufPennant p n b == pennant) with
  | none => s
  | some b =>
    let o := 1 - b
    let s1 := if s.bufState p n o = 3 then s.setBuf p n o 4 (s.bufPennant p n o) else s
    s1.setBuf p n b 3 pennant

/-- Swap times of a slot in the order of their times. -/
def State.swapsOf (s : State) (p n : Nat) : List SwapRec := 
  sortBy (fun a b => decide (a.time ≤ b.time)) (s.wslot p n).swaps

/-- The pennant that steps of a slot now run on: the one last stamped while it is still held, else the ACTIVE one. -/
def State.currentPennant (s : State) (p n : Nat) : Nat :=
  let l := (s.wslot p n).lead
  if l ≠ 0 ∧ (s.holds p l = some 2 ∨ s.holds p l = some 3) then l else s.activePennant p n

/-- Does a launch now take this swap time (R36 at the first launch at or after it, R37 at a later one)? -/
def State.takes (s : State) (p : Nat) (x : SwapRec) : Bool :=
  decide (x.time ≤ s.now) && s.holds p x.pennant == some 2 && (s.readyBy p x.pennant (if x.tried then s.now else x.time))

/-- The pennant of a step launched now for slot `n` (R36, R37, R341): a swap taken, or the current pennant with each swap
time first passed now deferred. -/
def State.choosePennant (s : State) (p n : Nat) : Nat × State :=
  let cur := s.currentPennant p n
  let s0 := s.onWslot p n (fun w => { w with swaps := w.swaps.filter (fun x => x.pennant != cur && s.holds p x.pennant != some 3) })
  let due := (s0.swapsOf p n).filter (fun x => decide (x.time ≤ s.now))
  let taken := due.find? (fun x => s0.takes p x)
  let late := ((due.filter (fun x => !x.tried)).map (fun x => x.pennant)).eraseDups
  let s1 := s0.onWslot p n (fun w => { w with swaps := w.swaps.map (fun x => if x.time ≤ s.now then { x with tried := true } else x) })
  let s2 := (late.filter (fun q => taken.all (fun x => x.pennant != q))).foldl (fun t q => t.deferSwap p q) s1
  match taken with
  | some x =>
    (x.pennant, ((s2.dropSwap p x.pennant).onWslot p n (fun w => { w with lead := x.pennant })).reportSwap p x.pennant x.base)
  | none => (cur, s2)

/-- A SWAP entry due at a boundary that launches no step of its slot (R30): once its readiness rule is met the STAGED
buffer becomes ACTIVE there, and the swap is reported. -/
def State.quietSwap (s : State) (p n : Nat) : State :=
  match (s.swapsOf p n).find? (fun x => x.entry && s.takes p x) with
  | none => s
  | some x =>
    (((s.activate p x.pennant).dropSwap p x.pennant).onWslot p n (fun w => { w with lead := x.pennant })).reportSwap p x.pennant x.base

/-- The swap on this device when a step stamped with a pennant begins here (R341). -/
def State.stepBegins (s : State) (p pennant : Nat) : State := s.activate p pennant

end Sys2Proof.Machine
end

