-- ==== Sys2Proof/Machine/Tiers.lean ====
section
/-! DEFINITION. The tiers (chapter 09): regions and their table (R200, R201, R203, R214), migration (R202), the badger's
lists and descriptors (R204-R209), uncorrectable errors of T1 (R212). Commands LIST_GO to T1_UE_RETRY but
TIER_WATCHDOG_EXPIRY, and REGION_MIGRATION_DONE. -/
namespace Sys2Proof.Machine

/-! ## Regions -/

/-- Region `id` of a partition; none where FREE. -/
def State.region (s : State) (p id : Nat) : Option Region := Map.find (s.part p).tiers.regions id

/-- Replace a region. -/
def State.setRegion (s : State) (p id : Nat) (x : Region) : State :=
  s.onTiers p (fun t => { t with regions := Map.put t.regions id x })

/-- Bytes of T1 that a partition's regions hold (R202, exact). -/
def State.t1Use (s : State) (p : Nat) : Nat :=
  (s.part p).tiers.regions.foldl (fun acc x => if spaceOf x.2.base = 1 then acc + x.2.len else acc) 0

/-- Bytes of a partition's T1 allotment. -/
def State.t1Allot (s : State) (p : Nat) : Nat := s.get Reg.TIER.T1_USE.allot_mib p * 2 ^ 20

/-- The partition's allotment in tier 1 or 2 as a range of global addresses. -/
def State.allotRange (s : State) (p tier : Nat) : Nat × Nat :=
  if tier = 1 then let b := s.get Reg.PARTITION.T1_BASE.t1_base p; (b, b + s.get Reg.PARTITION.ALLOT.t1_mib p * 2 ^ 20)
  else let b := s.get Reg.PARTITION.T2_BASE.t2_base p; (b, b + s.get Reg.PARTITION.ALLOT.t2_mib p * 2 ^ 20)

/-- Does a range meet a region other than `self`, at its home or where it is being moved to? -/
def State.overlapsRegion (s : State) (p self a n : Nat) : Bool :=
  (s.part p).tiers.regions.any (fun x => x.1 != self &&
    ((decide (x.2.base < a + n) && decide (a < x.2.base + x.2.len)) ||
     ((x.2.state == .moving || x.2.state == .migrating) && decide (x.2.dst < a + n) && decide (a < x.2.dst + x.2.len))))

/-- May a region lie at [a, a + n) (R200): 2 KiB multiples, in space 0, 1 or 2, inside the allotment, outside the experience
ring, over no other region? -/
def State.regionFits (s : State) (p self a n : Nat) : Bool :=
  let sp := spaceOf a
  a % 2048 == 0 && n % 2048 == 0 && n != 0 && wellPlaced a && !(s.overlapsRegion p self a n) &&
  (if sp = 0 then
     decide (field a 33 24 < (s.part p).sched.cores.length + (s.part p).sched.slices.length) &&
     decide (field a 23 0 + n ≤ sliceBytes)
   else if sp = 1 ∨ sp = 2 then
     let r := s.allotRange p sp
     decide (r.1 ≤ a) && decide (a + n ≤ r.2) && !(sp == 1 && s.touchesExpRing a n)
   else false)

/-- Is the hint listed and, for T1 and T2, the base in its tier; for NONE, in T1 or T2 (R201)? -/
def hintFits (hint a : Nat) : Bool :=
  match hint with
  | 0 => spaceOf a == 0 || spaceOf a == 1 || spaceOf a == 2
  | 1 => spaceOf a == 1
  | 2 => spaceOf a == 2
  | 3 => true
  | _ => false

/-- The lowest free 2 KiB-aligned place of `n` bytes in a tier: the start of the allotment or the end of a region or of the
ring (DESIGN CHOICE, log entry 17: the spec leaves the place to the device). -/
def State.freePlace (s : State) (p tier n : Nat) : Option Nat :=
  let r := s.allotRange p tier
  let ends := (s.part p).tiers.regions.flatMap (fun x => [x.2.base + x.2.len, x.2.dst + x.2.len])
  (sortBy (fun a b => decide (a ≤ b)) (r.1 :: (s.expRingSpan p).2 :: ends)).find? (fun a =>
    spaceOf a == tier && s.regionFits p 4096 a n)

/-- Start moving a region by migration or by a hint write: the home changes when REGION_MIGRATION_DONE comes. -/
def State.beginMigration (s : State) (p id : Nat) (x : Region) (tier : Nat) : State :=
  match s.freePlace p tier x.len with
  | none => s
  | some a => s.setRegion p id { x with state := .migrating, dst := a }

/-- A region reaches its new home (R199): every granule and its poison marks are there. -/
def State.landRegion (s : State) (p id : Nat) (x : Region) (hint : Nat) : State :=
  (s.copyRange (s.homePhys p x.base) (s.homePhys p x.dst) x.len).setRegion p id
    { x with base := x.dst, hint := hint, state := .resident }

/-! ## Region commands (R203, R214) -/

/-- REGION_CTRL's fault. -/
def State.regionFault (s : State) (p code : Nat) : State := s.regFault (regOff Reg.TIER.REGION_CTRL.cmd p) code

/-- A hint write (cmd 0). A region homed in T0 stays where it is. -/
def State.regionHint (s : State) (p hint : Nat) : State :=
  let id := s.get Reg.TIER.REGION_SEL.region p
  match s.region p id with
  | none => s.setB Reg.TIER.REGION_CTRL.hint p id hint
  | some x =>
    if 3 < hint then s.regionFault p stRegionInvalid
    else
      let s0 := s.setB Reg.TIER.REGION_CTRL.hint p id hint
      let y := { x with hint := hint, dstHint := hint, state := if x.state = .migrating then .resident else x.state }
      let s1 := s0.setRegion p id y
      if y.state = .moving ∨ spaceOf x.base = 0 ∨ hint = 0 ∨ hint = 3 ∨ spaceOf x.base = hint then s1
      else s1.beginMigration p id y hint

/-- A define (cmd 1). -/
def State.regionDefine (s : State) (p hint : Nat) : State :=
  let id := s.get Reg.TIER.REGION_SEL.region p
  let a := s.getB Reg.TIER.REGION_BASE.base p id
  let n := s.getB Reg.TIER.REGION_LEN.length p id
  if (s.region p id).isSome ∨ !(s.regionFits p id a n) ∨ !(hintFits hint a) then s.regionFault p stRegionInvalid
  else (s.setB Reg.TIER.REGION_CTRL.hint p id hint).setRegion p id
    { base := a, len := n, hint := hint, state := .resident, use := 0, dst := a, dstHint := hint }

/-- A region reference (Table 9.3). -/
def isRegionRef (src : Nat) : Bool := bit src 63
/-- The region it names. -/
def refRegion (src : Nat) : Nat := field src 59 48

/-- A 32-byte descriptor of a list, or the code with which its address fails. -/
def State.readDesc (s : State) (p addr i : Nat) : Except Nat (List Byte) :=
  match s.resolve (.part p) (addr + 32 * i) 32 with
  | .error c => .error c
  | .ok a => .ok (s.readBytes a 32)

/-- Op of a descriptor. -/
def bOp (d : List Byte) : Nat := field (descField d 24 4) 31 28
/-- Hint. -/
def bHint (d : List Byte) : Nat := field (descField d 24 4) 27 24
/-- Flag. -/
def bFlag (d : List Byte) : Nat := field (descField d 24 4) 23 18
/-- afv. -/
def bAfv (d : List Byte) : Bool := bit (descField d 24 4) 17
/-- First core. -/
def bFirst (d : List Byte) : Nat := field (descField d 20 4) 31 22
/-- Number of cores. -/
def bCores (d : List Byte) : Nat := field (descField d 20 4) 21 12 + 1
/-- Bytes per core. -/
def bLen (d : List Byte) : Nat := descField d 16 4
/-- Destination. -/
def bDst (d : List Byte) : Nat := descField d 8 8
/-- Source. -/
def bSrc (d : List Byte) : Nat := descField d 0 8

/-- The descriptors of a list from index `i` to its END or its first unreadable one, at most `fuel`. -/
def State.listDescs (s : State) (p addr : Nat) : Nat → Nat → List (Nat × List Byte)
  | 0, _ => []
  | fuel + 1, i =>
    match s.readDesc p addr i with
    | .error _ => []
    | .ok d => (i, d) :: (if bOp d = 0 then [] else s.listDescs p addr fuel (i + 1))

/-- Does a running list name the region? -/
def State.listNames (s : State) (p id : Nat) : Bool :=
  (s.part p).tiers.lists.any (fun l => (s.listDescs p l.2.addr 65536 0).any (fun d =>
    (bOp d.2 == 1 || bOp d.2 == 2) && isRegionRef (bSrc d.2) && refRegion (bSrc d.2) == id))

/-- A delete (cmd 2). -/
def State.regionDelete (s : State) (p : Nat) : State :=
  let id := s.get Reg.TIER.REGION_SEL.region p
  match s.region p id with
  | none => s.regionFault p stRegionInvalid
  | some x =>
    if x.state = .moving ∨ x.state = .migrating ∨ s.listNames p id then s.regionFault p stRegionBusy
    else s.onTiers p (fun t => { t with regions := Map.del t.regions id })

/-- A write of TIER.REGION_CTRL (R214). -/
def State.regionCtrl (s : State) (p cmd hint : Nat) : State :=
  match cmd with
  | 0 => s.regionHint p hint
  | 1 => s.regionDefine p hint
  | 2 => s.regionDelete p
  | _ => s.regionFault p stCommandInvalid

/-- REGION_HINT_WRITE. -/
def execRegionHintWrite (r : Requester) (pid hint : Nat) (s : State) : Res :=
  onPid pid (.next (s.guard r (regOff Reg.TIER.REGION_CTRL.cmd pid) (s.regionHint pid (hint % 16))))

/-- REGION_DEFINE. -/
def execRegionDefine (r : Requester) (pid hint : Nat) (s : State) : Res :=
  onPid pid (.next (s.guard r (regOff Reg.TIER.REGION_CTRL.cmd pid) (s.regionDefine pid (hint % 16))))

/-- REGION_DELETE. -/
def execRegionDelete (r : Requester) (pid : Nat) (s : State) : Res :=
  onPid pid (.next (s.guard r (regOff Reg.TIER.REGION_CTRL.cmd pid) (s.regionDelete pid)))

/-! ## Migration (R202) -/

/-- The end of an epoch: every use count is halved. -/
def State.epoch (s : State) (p : Nat) : State :=
  s.onTiers p (fun t => { t with regions := Map.mapVal (fun _ x => { x with use := x.use / 2 }) t.regions })

/-- MIGRATION_EPOCH. -/
def execMigrationEpoch (pid : Nat) (s : State) : Res := onPid pid (.next (s.epoch pid))

/-- NONE regions at home in tier 1, least used first, then by region ID. -/
def State.evictable (s : State) (p : Nat) : List (Nat × Region) :=
  sortBy (fun a b => decide (a.2.use ≤ b.2.use))
    ((s.part p).tiers.regions.filter (fun x => x.2.hint == 0 && spaceOf x.2.base == 1 && x.2.state == .resident))

/-- Move regions out of T1 while `use` bytes are above the target. -/
def State.evictLoop (s : State) (p target : Nat) : List (Nat × Region) → Nat → State
  | [], _ => s
  | (id, x) :: l, use =>
    if use ≤ target then s
    else
      let s1 := s.beginMigration p id x 2
      s1.evictLoop p target l (if (s1.region p id).any (fun y => y.state == .migrating) then use - x.len else use)

/-- Bytes of T1 in use once the migrations under way have ended. -/
def State.t1UseAfter (s : State) (p : Nat) : Nat :=
  (s.part p).tiers.regions.foldl (fun acc x =>
    if spaceOf (if x.2.state = .migrating then x.2.dst else x.2.base) = 1 then acc + x.2.len else acc) 0

/-- Is hardware migration on? -/
def State.migrates (s : State) (p : Nat) : Bool := s.getBit Reg.TIER.MIGRATE.enable p

/-- Eviction from T1: above high_pct of the allotment, until at or below low_pct. -/
def State.evict (s : State) (p : Nat) : State :=
  let a := s.t1Allot p
  if s.migrates p ∧ s.get Reg.TIER.MIGRATE.high_pct p * a < 100 * s.t1Use p then
    s.evictLoop p (s.get Reg.TIER.MIGRATE.low_pct p * a / 100) (s.evictable p) (s.t1UseAfter p)
  else s

/-- MIGRATION_EVICT. -/
def execMigrationEvict (pid : Nat) (s : State) : Res := onPid pid (.next (s.evict pid))

/-- Promotion to T1 of the first NONE region in T2 that is used enough and fits under low_pct. -/
def State.promote (s : State) (p : Nat) : State :=
  if !(s.migrates p) then s
  else
    match (s.part p).tiers.regions.find? (fun x => x.2.hint == 0 && spaceOf x.2.base == 2 && x.2.state == .resident &&
        decide (s.get Reg.TIER.MIGRATE.promote_uses p ≤ x.2.use) &&
        decide (100 * (s.t1UseAfter p + x.2.len) ≤ s.get Reg.TIER.MIGRATE.low_pct p * s.t1Allot p)) with
    | none => s
    | some (id, x) => s.beginMigration p id x 1

/-- MIGRATION_PROMOTE. -/
def execMigrationPromote (pid : Nat) (s : State) : Res := onPid pid (.next (s.promote pid))

/-- The last granule of a migrated region is at its new home. -/
def State.migrated (s : State) (p id : Nat) : State :=
  match s.region p id with
  | some x => if x.state = .migrating then (s.landRegion p id x x.hint).bump Reg.TIER.MIGRATED.migrated p x.len else s
  | none => s

/-- REGION_MIGRATION_DONE. -/
def execRegionMigrationDone (pid region : Nat) (s : State) : Res := onPid pid (.next (s.migrated pid region))

/-! ## Lists (R204-R208) -/

/-- A list of a partition. -/
def State.tlist (s : State) (p l : Nat) : Option TierList := Map.find (s.part p).tiers.lists l

/-- Replace or drop a list. -/
def State.setTlist (s : State) (p l : Nat) (x : Option TierList) : State :=
  s.onTiers p (fun t => { t with lists := Map.putOpt t.lists l x })

/-- The flags that a list's STREAMs name: descriptor, logical core, flag. -/
def State.listFlags (s : State) (p addr : Nat) : List (Nat × Nat × Nat) :=
  (s.listDescs p addr 65536 0).flatMap (fun d =>
    if bOp d.2 = 1 ∧ bAfv d.2 then (upTo (bCores d.2)).map (fun j => (d.1, bFirst d.2 + j, bFlag d.2)) else [])

/-- Arm the flags of a list in order: a flag already armed by this list is armed once; the first that is not IDLE is
reported and nothing after it is armed. -/
def State.armFlags (s : State) (p : Nat) : List (Nat × Nat × Nat) → List (Nat × Nat) → State × Option Nat
  | [], _ => (s, none)
  | (i, l, n) :: rest, seen =>
    if seen.contains (l, n) then s.armFlags p rest seen
    else
      match s.physical p l with
      | none => s.armFlags p rest seen
      | some c =>
        match s.armOn c n with
        | some t => t.armFlags p rest ((l, n) :: seen)
        | none => (s, some i)

/-- Start the list at `addr`. -/
def State.startList (s : State) (p addr : Nat) (step : Bool) : State :=
  let (s1, busy) := s.armFlags p (s.listFlags p addr) []
  s1.onTiers p (fun t => { t with lists := Map.put t.lists t.nextList ⟨addr, 0, step, busy, [], []⟩, nextList := t.nextList + 1 })

/-- LIST_GO: the list at TIER.LIST_ADDR, at most 16 at once. -/
def State.listGo (s : State) (p : Nat) : State :=
  if 16 ≤ (s.part p).tiers.lists.length then s.regFault (regOff Reg.TIER.LIST_GO.go p) stListBusy
  else s.startList p (s.get Reg.TIER.LIST_ADDR.list_addr p) false

/-- LIST_GO. -/
def execListGo (r : Requester) (pid : Nat) (s : State) : Res :=
  onPid pid (.next (s.guard r (regOff Reg.TIER.LIST_GO.go pid) (s.listGo pid)))

/-- Set a flag of a logical core IDLE if it is ARMED. -/
def State.disarm (s : State) (p l n : Nat) : State :=
  match s.physical p l with
  | none => s
  | some c => s.disarmOn c n

/-- The list stops at its descriptor (R206): the fault is recorded, the flags of that descriptor and later ones return to
IDLE; earlier ones still land. -/
def State.failList (s : State) (p l : Nat) (x : TierList) (code : Nat) : State :=
  let s1 := ((s.listFlags p x.addr).filter (fun f => decide (x.next ≤ f.1) && x.busy.all (fun b => decide (f.1 < b)))).foldl
    (fun t f => t.disarm p f.2.1 f.2.2) s
  let s2 := (s1.set Reg.TIER.LIST_STATUS.fault_code p code).set Reg.TIER.LIST_STATUS.fault_index p x.next
  let s3 := s2.raise 0x03C0 p 0 (code * 2 ^ 16 + x.next % 2 ^ 16)
  let s4 := x.landing.foldl (fun t f =>
    match t.physical p f.2.1 with
    | some c => t.onCore c (fun k => k.landFlag f.2.2)
    | none => t) s3
  s4.setTlist p l none

/-- Reserved fields and values of a descriptor (R206: ILLEGAL_OP). -/
def descIllegal (d : List Byte) : Bool :=
  decide (3 < bOp d) || field (descField d 24 4) 16 0 != 0 || field (descField d 20 4) 11 0 != 0 ||
  (if bOp d = 1 then bLen d % 64 != 0 || decide (sliceBytes < bLen d) || bDst d % 64 != 0 || bDst d / 2 ^ 24 != 0
   else bLen d != 0) ||
  (bOp d == 2 && (!(isRegionRef (bSrc d)) || field (bSrc d) 41 0 != 0 || bDst d % 2048 != 0))

/-- The physical source of `n` bytes named by a region reference or a global address, or the code of its check. -/
def State.descSource (s : State) (p src n : Nat) : Except Nat Nat :=
  if isRegionRef src then
    match s.region p (refRegion src) with
    | none => .error stRegionInvalid
    | some x => if x.len < field src 41 0 + n then .error codeUnmapped else .ok (s.homePhys p x.base + field src 41 0)
  else s.resolve (.part p) src n

/-- Count the descriptor in the use count of the region it reads (R202). -/
def State.countUse (s : State) (p src : Nat) : State :=
  let hit := fun (id : Nat) (x : Region) =>
    if isRegionRef src then id == refRegion src else decide (x.base ≤ src) && decide (src < x.base + x.len)
  s.onTiers p (fun t => { t with regions := Map.mapVal (fun id x => if hit id x then { x with use := min 0xFFFFFFFF (x.use + 1) } else x) t.regions })

/-- Slices a STREAM may write: logical cores, and core-less slices without a flag. -/
def State.streamSlice (s : State) (p : Nat) (afv : Bool) (l : Nat) : Option Nat :=
  if afv then s.physical p l else s.slicePhys (.part p) l

/-- The check of a descriptor (R206). -/
def State.descError (s : State) (p : Nat) (x : TierList) (d : List Byte) : Option Nat :=
  if x.busy = some x.next then some stFlagBusy
  else if descIllegal d then some stIllegalOp
  else match bOp d with
    | 1 =>
      if sliceBytes < bDst d + bLen d then some codeUnmapped
      else if (upTo (bCores d)).any (fun j => (s.streamSlice p (bAfv d) (bFirst d + j)).isNone) then some codeUnmapped
      else match s.descSource p (bSrc d) (bLen d * bCores d) with
        | .error c => some c
        | .ok _ => none
    | 2 =>
      match s.region p (refRegion (bSrc d)) with
      | none => some stRegionInvalid
      | some y =>
        if !(hintFits (bHint d) (bDst d)) then some stRegionInvalid
        else if !(s.regionFits p (refRegion (bSrc d)) (bDst d) y.len) then some codeUnmapped else none
    | 3 => if s.lcores p < bFirst d + bCores d then some codeUnmapped else none
    | _ => none

/-- Take the next descriptor of a list if it is of kind `op` and passes its check; a failing one stops the list. -/
def State.nextDesc (s : State) (p l op : Nat) (run : TierList → List Byte → State) : State :=
  match s.tlist p l with
  | none => s
  | some x =>
    match s.readDesc p x.addr x.next with
    | .error c => s.failList p l x c
    | .ok d =>
      match s.descError p x d with
      | some c => s.failList p l x c
      | none => if bOp d = op then run x d else s

/-- STREAM (R205, R207): core first_core + j receives the bytes at src + j × len, poison with them. -/
def State.runStream (s : State) (p l : Nat) (x : TierList) (d : List Byte) : State :=
  match s.descSource p (bSrc d) (bLen d * bCores d) with
  | .error _ => s
  | .ok a =>
    let s1 := (upTo (bCores d)).foldl (fun t j =>
      match s.streamSlice p (bAfv d) (bFirst d + j) with
      | some c => t.copyRange (a + bLen d * j) (t0Addr c (bDst d)) (bLen d)
      | none => t) (s.countUse p (bSrc d))
    s1.setTlist p l (some { x with
      next := x.next + 1,
      landing := if bAfv d then x.landing ++ (upTo (bCores d)).map (fun j => (x.next, bFirst d + j, bFlag d)) else x.landing })

/-- STREAM. -/
def execStream (pid list : Nat) (s : State) : Res := onPid pid (.next (s.nextDesc pid list 1 (fun x d => s.runStream pid list x d)))

/-- Every byte for a core is written: its flag lands, for the context that armed it (R207, R362). -/
def State.streamLanded (s : State) (p l desc lcore : Nat) : State :=
  match s.tlist p l with
  | none => s
  | some x =>
    match x.landing.find? (fun f => f.1 == desc && f.2.1 == lcore), s.physical p lcore with
    | some f, some c =>
      let s1 := s.setTlist p l (some { x with landing := x.landing.erase f })
      s1.landOn p c f.2.2
    | _, _ => s

/-- STREAM_LANDED. -/
def execStreamLanded (pid list desc core : Nat) (s : State) : Res := onPid pid (.next (s.streamLanded pid list desc core))

/-- MOVE (R209): the region is MOVING until its last granule is there; one that is moving or migrating is waited for. -/
def State.runMove (s : State) (p l : Nat) (x : TierList) (d : List Byte) : State :=
  let id := refRegion (bSrc d)
  match s.region p id with
  | some y =>
    if y.state = .moving ∨ y.state = .migrating then s
    else (s.setRegion p id { y with state := .moving, use := min 0xFFFFFFFF (y.use + 1), dst := bDst d, dstHint := bHint d }).setTlist p l
      (some { x with next := x.next + 1 })
  | none => s

/-- MOVE. -/
def execMoveRegion (pid list : Nat) (s : State) : Res := onPid pid (.next (s.nextDesc pid list 2 (fun x d => s.runMove pid list x d)))

/-- The last granule of a MOVE has its new home. -/
def State.moveDone (s : State) (p id : Nat) : State :=
  match s.region p id with
  | some x => if x.state = .moving then s.landRegion p id x x.dstHint else s
  | none => s

/-- MOVE_REGION_DONE. -/
def execMoveRegionDone (pid region : Nat) (s : State) : Res := onPid pid (.next (s.moveDone pid region))

/-- GATE (R208): every core of the span has set the flag IDLE by a WAITARR since the list started. -/
def State.runGate (s : State) (p l : Nat) (x : TierList) (d : List Byte) : State :=
  if (upTo (bCores d)).all (fun j => x.consumed.contains (bFirst d + j, bFlag d)) then
    s.setTlist p l (some { x with next := x.next + 1 })
  else s

/-- GATE. -/
def execGate (pid list : Nat) (s : State) : Res := onPid pid (.next (s.nextDesc pid list 3 (fun x d => s.runGate pid list x d)))

/-- END: the list ends once its arrivals have landed. -/
def execEndList (pid list : Nat) (s : State) : Res :=
  onPid pid (.next (s.nextDesc pid list 0 (fun x _ => if x.landing.isEmpty then s.setTlist pid list none else s)))

/-- Stop the lists that a step started (R211): their data is discarded, the flags they armed return to IDLE. -/
def State.stopStepLists (s : State) (p : Nat) : State :=
  let step := (s.part p).tiers.lists.filter (fun l => l.2.step)
  let s1 := step.foldl (fun t l => (s.listFlags p l.2.addr).foldl (fun t f => t.disarm p f.2.1 f.2.2) t) s
  s1.onTiers p (fun t => { t with lists := Map.keep (fun _ x => !x.step) t.lists })

/-! ## Uncorrectable errors (R212) -/

/-- An uncorrectable error of T1 at a physical address: retried once; where it fails again the word is poison, the error
is counted for the partition whose region holds it, and the region is FAILED with TIER_DATA_LOST. -/
def State.t1Ue (s : State) (addr : Nat) (again : Bool) : State :=
  if !again ∨ spaceOf addr ≠ 1 ∨ !(t1Ok addr 1) then s
  else
    let s1 := s.poisonRange addr 1
    match s.parts.findSome? (fun k => (k.2.tiers.regions.find? (fun x =>
        decide (x.2.base ≤ addr) && decide (addr < x.2.base + x.2.len))).map (fun x => (k.1, x))) with
    | none => s1
    | some (p, id, x) =>
      ((s1.bump Reg.TIER.UE.ue p 1).setRegion p id { x with state := .failed }).raise 0x03C0 p 1
        ((addr - x.base) / 2048 * 2 ^ 32 + id)

/-- T1_UE_RETRY. -/
def execT1UeRetry (addr : Nat) (failsAgain : Bool) (s : State) : Res := .next (s.t1Ue addr failsAgain)

end Sys2Proof.Machine
end

