-- ==== Sys2Proof/Machine/Sett.lean ====
section
/-! DEFINITION. The activation stack (chapter 12): frames, SETT.OP (R259), placement (R260), lead spills and fills (R261), the
end of a sett (R264). Commands RESERVE to SETT_FILL. -/
namespace Sys2Proof.Machine

/-- The sett of logical core `l`. -/
def State.sett (s : State) (p l : Nat) : Sett := Map.getD (s.part p).setts l Sett.zero

/-- Change the sett of a logical core. -/
def State.onSett (s : State) (p l : Nat) (f : Sett → Sett) : State :=
  s.onPart p (fun k => { k with setts := Map.put k.setts l (f (Map.getD k.setts l Sett.zero)) })

/-- Granules of the T0 area. -/
def State.settArea (s : State) (p : Nat) : Nat := s.get Reg.SETT.T0_AREA.t0_len p / 2048

/-- Number of stacks, as a power of two. -/
def State.settLog (s : State) (p : Nat) : Nat := s.get Reg.SETT.POLICY.stacks_log2 p

/-- Granules of T1 that a stack has. -/
def State.stackRoom (s : State) (p : Nat) : Nat := s.get Reg.SETT.SPILL_LEN.spill_len p / 2 ^ s.settLog p / 2048

/-- Own-slice offset of a granule of the area. -/
def State.granuleOff (s : State) (p i : Nat) : Nat := s.get Reg.SETT.T0_AREA.t0_base p / 2048 * 2048 + 2048 * i

/-- The fault of a SETT.OP. -/
def State.settFault (s : State) (p code : Nat) : State := s.regFault (regOff Reg.SETT.OP.op p) code

/-- Frames of a stack, lowest first. -/
def Sett.stackOf (x : Sett) (k : Nat) : List SettFrame := x.frames.filter (fun f => f.stack == k)

/-- Granules of a list of frames. -/
def granules (l : List SettFrame) : Nat := l.foldl (fun n f => n + f.len) 0

/-- Total length of the frames below a frame in its stack (R260). -/
def Sett.below (x : Sett) (f : SettFrame) : Nat := granules ((x.stackOf f.stack).takeWhile (fun g => g != f))

/-- Replace a frame. -/
def Sett.replace (x : Sett) (f g : SettFrame) : Sett := { x with frames := x.frames.map (fun h => if h = f then g else h) }

/-- Drop a frame. -/
def Sett.dropFrame (x : Sett) (f : SettFrame) : Sett := { x with frames := x.frames.filter (fun h => h != f) }

/-- The newest pushed frame of a stack with nothing waiting for it. -/
def Sett.newestPushed (x : Sett) (k : Nat) : Option SettFrame :=
  ((x.stackOf k).filter (fun f => f.state == .pushed && f.wait.isNone)).getLast?

/-- Write the mailbox word of a stack: the frame's own-slice offset (R259). -/
def State.settMail (s : State) (p c stack place : Nat) : State :=
  let a := (s.get Reg.SETT.POLICY.mailbox p / 4 * 4 + 4 * stack) % 2 ^ 20
  s.writeN (nearAddr c a) 4 (s.granuleOff p place % 2 ^ 24)

/-- A frame's operation is done: the mailbox word, then the flag; a landing more than 64 cycles after the write is late. -/
def State.settLand (s : State) (p c : Nat) (f : SettFrame) (place : Nat) (w : SettWait) : State :=
  let s1 := (s.settMail p c f.stack place).landOn p c w.flag
  if w.cycle + 64 < s.clock.cycles.toNat then s1.bump Reg.SETT.LATE_LANDS.late p 1 else s1

/-! ## Moving a frame -/

/-- Where a spilled frame lies in T1, if the T1 area is there. -/
def State.settHome (s : State) (p l : Nat) (f : SettFrame) (home : Nat) : Option Nat :=
  let a := s.get Reg.SETT.SPILL_BASE.spill_base p + l * s.get Reg.SETT.SPILL_LEN.spill_len p +
    f.stack * (s.get Reg.SETT.SPILL_LEN.spill_len p / 2 ^ s.settLog p) + 2048 * home
  match s.resolve (.part p) a (2048 * f.len) with
  | .ok x => if spaceOf x = 1 then some x else none
  | .error _ => none

/-- Spill a resident pushed frame (R260): its bytes and poison marks go to its T1 home; to none where no T1 area is. -/
def State.settSpill (s : State) (p l c : Nat) (f : SettFrame) : State :=
  match f.place with
  | none => s
  | some g =>
    let home := (s.sett p l).below f
    let s1 := match s.settHome p l f home with
      | some a => s.copyRange (t0Addr c (s.granuleOff p g)) a (2048 * f.len)
      | none => s
    (s1.onSett p l (fun x => x.replace f { f with place := none, home := home })).bump Reg.SETT.SPILLED.spilled p (2048 * f.len)

/-- Bring a spilled frame into the range at granule `g`; where no T1 area is, its bytes are free values. -/
def State.settFillAt (s : State) (p l c g : Nat) (f : SettFrame) : State :=
  let dst := t0Addr c (s.granuleOff p g)
  let s1 := match s.settHome p l f f.home with
    | some a => s.copyRange a dst (2048 * f.len)
    | none => let (bs, t) := s.freeBytes (2048 * f.len); t.writeBytes dst bs
  s1.bump Reg.SETT.FILLED.filled p (2048 * f.len)

/-! ## Placement (R260) -/

/-- Do the granules [a, a + n) meet a frame's range? -/
def SettFrame.meets (f : SettFrame) (a n : Nat) : Bool :=
  match f.place with
  | none => false
  | some g => decide (g < a + n) && decide (a < g + f.len)

/-- Is [a, a + n) inside the area and clear of reserved and fetched frames? -/
def Sett.clear (x : Sett) (area a n : Nat) : Bool :=
  decide (a + n ≤ area) && !(x.frames.any (fun f => f.state != .pushed && f.meets a n))

/-- Step 1: the first position at or after the head, then from the start of the area. -/
def Sett.findPlace (x : Sett) (area n : Nat) : Option Nat :=
  (((upTo (area + 1)).filter (fun a => decide (x.head ≤ a))) ++ upTo (min x.head (area + 1))).find? (fun a => x.clear area a n)

/-- Resident pushed frames that meet a range, oldest first. -/
def Sett.residentsIn (x : Sett) (a n : Nat) : List SettFrame :=
  sortBy (fun f g => decide (f.age ≤ g.age)) (x.frames.filter (fun f => f.state == .pushed && f.meets a n))

/-- The waiting operation that comes first. -/
def Sett.firstWait (x : Sett) : Option (SettFrame × SettWait) :=
  (sortBy (fun a b => decide (a.2.order ≤ b.2.order)) (x.frames.filterMap (fun f => f.wait.map (fun w => (f, w))))).head?

/-- Place the first waiting operation of a logical core, if a range is free. -/
def State.settPlace (s : State) (p l : Nat) : State :=
  match (s.sett p l).firstWait, s.physical p l with
  | some (f, w), some c =>
    match (s.sett p l).findPlace (s.settArea p) f.len with
    | none => s
    | some g =>
      let s1 := ((s.sett p l).residentsIn g f.len).foldl (fun t v => t.settSpill p l c v) s
      let spilled := f.state == .fetched
      let s2 := s1.onSett p l (fun x => { x.replace f { f with place := some g, wait := none } with head := g + f.len })
      let s3 := if spilled then s2.settFillAt p l c g f else s2
      s3.settLand p c f g w
  | _, _ => s

/-- SETT_PLACEMENT. -/
def execSettPlacement (pid lcore : Nat) (s : State) : Res := onPid pid (.next (s.settPlace pid lcore))

/-- A lead spill (R261): with no placement waiting, the oldest resident pushed frame of the lead range. -/
def State.settLeadSpill (s : State) (p l : Nat) : State :=
  let x := s.sett p l
  match x.firstWait, (x.residentsIn x.head (s.get Reg.SETT.POLICY.lead p)).head?, s.physical p l with
  | none, some f, some c => s.settSpill p l c f
  | _, _, _ => s

/-- SETT_LEAD_SPILL. -/
def execSettLeadSpill (pid lcore : Nat) (s : State) : Res := onPid pid (.next (s.settLeadSpill pid lcore))

/-- Granules of the area that frames occupy. -/
def Sett.occupied (x : Sett) : Nat := granules (x.frames.filter (fun f => f.place.isSome))

/-- The frame a fill would bring: the newest spilled one of the lowest draining stack that has one. -/
def Sett.fillNext (x : Sett) : Option SettFrame :=
  (sortBy (fun a b => decide (a ≤ b)) x.draining).findSome? (fun k =>
    ((x.stackOf k).filter (fun f => f.state == .pushed && f.place.isNone && f.wait.isNone)).getLast?)

/-- A fill (R261): after placements and lead spills, with room for twice the lead and the frame, at the head, spilling
nothing. -/
def State.settFill (s : State) (p l : Nat) : State :=
  let x := s.sett p l
  let lead := s.get Reg.SETT.POLICY.lead p
  match x.fillNext, s.physical p l with
  | some f, some c =>
    let g := if (x.clear (s.settArea p) x.head f.len) then x.head else 0
    if x.firstWait.isSome ∨ !(x.residentsIn x.head lead).isEmpty ∨ s.settArea p < x.occupied + 2 * lead + f.len ∨
        !(x.clear (s.settArea p) g f.len) ∨ !(x.residentsIn g f.len).isEmpty then s
    else (s.settFillAt p l c g f).onSett p l (fun y => { y.replace f { f with place := some g } with head := g + f.len })
  | _, _ => s

/-- SETT_FILL. -/
def execSettFill (pid lcore : Nat) (s : State) : Res := onPid pid (.next (s.settFill pid lcore))

/-! ## SETT.OP (R259, Table 12.3) -/

/-- Reserve a frame: armed flag, a depth within the stack's part (R263). -/
def State.settReserve (s : State) (p l c stack flag len : Nat) : State :=
  let x := s.sett p l
  if (x.stackOf stack).any (fun f => f.state == .reserved) then s.settFault p stSettInvalid
  else if s.stackRoom p < granules (x.stackOf stack) + len then s.settFault p stSettOverflow
  else match s.armOn c flag with
    | none => s.settFault p stFlagBusy
    | some t => t.onSett p l (fun y => { y with
        frames := y.frames ++ [⟨stack, len, .reserved, none, 0, 0, some ⟨flag, y.count, s.clock.cycles.toNat⟩⟩],
        count := y.count + 1 })

/-- Push the reserved frame. The stack no longer drains. -/
def State.settPush (s : State) (p l stack : Nat) : State :=
  match ((s.sett p l).stackOf stack).find? (fun f => f.state == .reserved) with
  | none => s.settFault p stSettInvalid
  | some f => s.onSett p l (fun x => { x.replace f { f with state := .pushed, age := x.count } with
      count := x.count + 1, draining := x.draining.filter (fun k => k != stack) })

/-- Fetch the newest pushed frame: a resident one where it is, a spilled one once it is placed. -/
def State.settFetch (s : State) (p l c stack flag : Nat) : State :=
  match (s.sett p l).newestPushed stack with
  | none => s.settFault p stSettInvalid
  | some f =>
    match s.armOn c flag with
    | none => s.settFault p stFlagBusy
    | some t =>
      let w : SettWait := ⟨flag, (s.sett p l).count, s.clock.cycles.toNat⟩
      let t1 := t.onSett p l (fun x => { x.replace f { f with state := .fetched, wait := if f.place.isSome then none else some w } with
        count := x.count + 1, draining := stack :: x.draining.filter (fun k => k != stack) })
      match f.place with
      | some g => t1.settLand p c f g w
      | none => t1

/-- Release the newest fetched frame. -/
def State.settRelease (s : State) (p l stack : Nat) : State :=
  match (((s.sett p l).stackOf stack).filter (fun f => f.state == .fetched && f.wait.isNone)).getLast? with
  | none => s.settFault p stSettInvalid
  | some f => s.onSett p l (fun x => x.dropFrame f)

/-- Release every frame; flags armed by operations that still waited return to IDLE. -/
def State.settClear (s : State) (p l c : Nat) : State :=
  ((s.sett p l).frames.filterMap (fun f => f.wait)).foldl (fun t w => t.disarmOn c w.flag)
    (s.onSett p l (fun x => { x with frames := [], draining := [] }))

/-- Empty every sett of a partition (R264); each starts again at the base of its area. -/
def State.emptySetts (s : State) (p : Nat) : State :=
  let s1 := (s.part p).setts.foldl (fun t x => match t.physical p x.1 with
    | some c => t.settClear p x.1 c
    | none => t) s
  s1.onPart p (fun k => { k with setts := [] })

/-- Do frames or reservations exist in any sett of the partition (R265)? -/
def State.settsHold (s : State) (p : Nat) : Bool := (s.part p).setts.any (fun x => !x.2.frames.isEmpty)

/-- Spill every frame of a sett before its core is remapped (R264); a fetched one is pushed again, for a later FETCH fills
it. -/
def State.settEvacuate (s : State) (p l : Nat) : State :=
  match s.physical p l with
  | none => s
  | some c =>
    (((s.sett p l).frames.filter (fun f => f.place.isSome)).foldl (fun t f => t.settSpill p l c f) s).onSett p l
      (fun x => { x with frames := x.frames.map (fun f =>
        if f.state = .fetched ∧ f.wait.isNone then { f with state := .pushed } else f) })

/-- A write of `val` to SETT.OP by logical core `l`, which runs on core `c`. -/
def State.settOp (s : State) (p l c val : Nat) : State :=
  let op := field val 31 28
  let flag := field val 27 22
  let stack := field val 21 19
  let len := field val 12 0
  if op = 0 ∨ 5 < op ∨ 2 ^ s.settLog p ≤ stack ∨
      (op = 1 ∧ (len = 0 ∨ s.settArea p < len)) then s.settFault p stSettInvalid
  else match op with
    | 1 => s.settReserve p l c stack flag len
    | 2 => s.settPush p l stack
    | 3 => s.settFetch p l c stack flag
    | 4 => s.settRelease p l stack
    | _ => s.settClear p l c

/-- A core's own store to a register of its partition's page: `run` gets the partition and the logical core. A core of no
LIVE partition with that page changes nothing. -/
def State.coreStore (s : State) (c : Nat) (f : Fld) (run : Nat → Nat → State) : State :=
  match s.partOf c with
  | none => s
  | some p => if s.reach (.coreCode c) (regOff f p) then run p (s.logical p c) else s

/-- SETT.OP with op `n`: another op in the value is not this command. -/
def State.settCommand (s : State) (c n : Nat) (val : Word) : State :=
  if field val.toNat 31 28 = n then s.coreStore c Reg.SETT.OP.op (fun p l => s.settOp p l c val.toNat) else s

/-- RESERVE. -/
def execReserve (core : Nat) (val : Word) (s : State) : Res := onCoreId core (.next (s.settCommand core 1 val))
/-- PUSH. -/
def execPush (core : Nat) (val : Word) (s : State) : Res := onCoreId core (.next (s.settCommand core 2 val))
/-- FETCH. -/
def execFetch (core : Nat) (val : Word) (s : State) : Res := onCoreId core (.next (s.settCommand core 3 val))
/-- RELEASE. -/
def execRelease (core : Nat) (val : Word) (s : State) : Res := onCoreId core (.next (s.settCommand core 4 val))
/-- CLEAR. -/
def execClear (core : Nat) (val : Word) (s : State) : Res := onCoreId core (.next (s.settCommand core 5 val))

end Sys2Proof.Machine
end

