-- ==== Sys2Proof/Machine/Dispatcher.lean ====
section
/-! DEFINITION. The dispatcher (R352-R356), preemption (R357-R364), PX8 mode (R366), suspend and restore (R367, R368),
semaphore initial values (R365). Commands TASK_START to SEM_INIT_WRITE. -/
namespace Sys2Proof.Machine

/-! ## Queues -/

/-- Base-2 logarithm of a queue's ring, held within 4 to 16 (R370). -/
def State.queueLog (s : State) (p q : Nat) : Nat := max 4 (min 16 (s.getB Reg.SCHED.QUEUE_CFG.size_log2 p q))

/-- Priority of a queue; the step's tasks have 0 (R356). -/
def State.queuePrio (s : State) (p : Nat) (q : Option Nat) : Nat :=
  match q with
  | none => 0
  | some n => s.getB Reg.SCHED.QUEUE_CFG.priority p n

/-- Is the queue preemptible? A step's task is not (R356). -/
def State.queuePreemptible (s : State) (p : Nat) (q : Option Nat) : Bool :=
  match q with
  | none => false
  | some n => s.getB Reg.SCHED.QUEUE_CFG.preemptible p n == 1

/-- The descriptor at the head of an enabled queue, if it is present by its phase stamp (R352). -/
def State.queueHead (s : State) (p q : Nat) : Option (List Byte) :=
  if s.getB Reg.SCHED.QUEUE_CFG.enable p q = 0 then none
  else
    let i := s.getB Reg.SCHED.QUEUE_HEAD.head p q
    let k := s.queueLog p q
    let a := s.getB Reg.SCHED.QUEUE_ADDR.queue_addr p q + 64 * (i % 2 ^ k)
    if !(t1Ok a 64) then none
    else
      let d := s.readBytes a 64
      if dPhase d = phaseBit k i then some d else none

/-! ## Startable heads (R353, R354) -/

/-- What the check of a head finds (R353): it is dropped with a status, it waits for its seed, or it may start. -/
inductive HeadCheck where
  | drop (status : Nat)
  | wait
  | good
  deriving DecidableEq, Repr

/-- Check a descriptor at the head of its queue. -/
def State.headCheck (s : State) (p : Nat) (d : List Byte) : HeadCheck :=
  if descInvalid d (s.lcores p) then .drop 0x15
  else if bit (s.get Reg.RNG.SEED_STATUS.expanding p) (dSeed d) then .wait
  else if bit (s.get Reg.RNG.SEED_STATUS.valid p) (dSeed d) then .good else .drop 0x12

/-- Is physical core `c` idle for a descriptor of priority `pr` (R354)? -/
def State.idleFor (s : State) (p c pr : Nat) : Bool :=
  let k := s.core c
  k.task.isNone && k.saved.all (fun v => decide (pr < s.queuePrio p v.task.queue))

/-- The physical core on which a head may start now. -/
def State.startCoreOf (s : State) (p : Nat) (d : List Byte) (pr : Nat) : Option Nat :=
  if dAny d then (s.part p).sched.cores.find? (fun c => s.idleFor p c pr)
  else match s.physical p (dCore d) with
    | none => none
    | some c => if s.idleFor p c pr then some c else none

/-- Can its completion entry be reserved (R388)? -/
def State.mayComplete (s : State) (p : Nat) (d : List Byte) : Bool := !(dDoneCq d) || s.cqRoom (s.owner p)

/-- Does the dispatcher start descriptors: the partition is LIVE and its scheduler RUNNING (R367)? -/
def State.dispatching (s : State) (p : Nat) : Bool := !s.boot.stopped && !s.deep && s.live p && s.schedState p == 0 && (s.part p).sched.resetting.isNone

/-- Does a head make the dispatcher act: it is dropped, or it starts? -/
def State.headActs (s : State) (p : Nat) (d : List Byte) (pr : Nat) : Bool :=
  s.mayComplete p d &&
  match s.headCheck p d with
  | .drop _ => true
  | .wait => false
  | .good => (s.startCoreOf p d pr).isSome

/-- The queues in the order in which the dispatcher considers them: by priority, then by number (R354). -/
def State.queueOrder (s : State) (p : Nat) : List Nat :=
  (upTo 8).flatMap (fun pr => (upTo 16).filter (fun q => s.queuePrio p (some q) == pr))

/-- Take a head: drop it with its status, or start it (R353, R354). -/
def State.takeHead (s : State) (p : Nat) (d : List Byte) (queue : Option Nat) : State :=
  match s.headCheck p d with
  | .wait => s
  | .drop st => if dDoneCq d then ((s.cqReserve (s.owner p)).complete p (dTask d) st 1 (dCore d)) else s
  | .good =>
    match s.startCoreOf p d (s.queuePrio p queue) with
    | none => s
    | some c => (s.wakeUp p).startTask p c d queue

/-- The head the dispatcher takes next: a step's task (none), else the first queue whose head makes it act. -/
def State.nextQueue (s : State) (p : Nat) : Option Nat :=
  (s.queueOrder p).find? (fun q => match s.queueHead p q with
    | none => false
    | some d => s.headActs p d (s.queuePrio p (some q)))

/-- The first of the step's heads that makes the dispatcher act. -/
def State.nextStepHead (s : State) (p : Nat) : Option (List Byte) :=
  (s.part p).sched.stepHeads.find? (fun d => s.headActs p d 0)

/-- Take the head of a queue; number 16 names the step's heads, which stand at priority 0 before queue 0. -/
def State.dispatch (s : State) (p queue : Nat) : State :=
  if !(s.dispatching p) then s
  else if queue = 16 then
    match s.nextStepHead p with
    | none => s
    | some d => (s.onSched p (fun x => { x with stepHeads := x.stepHeads.erase d })).takeHead p d none
  else if (s.nextStepHead p).isSome ∨ s.nextQueue p ≠ some queue then s
  else
    match s.queueHead p queue with
    | none => s
    | some d => (s.setB Reg.SCHED.QUEUE_HEAD.head p queue (s.getB Reg.SCHED.QUEUE_HEAD.head p queue + 1)).takeHead p d (some queue)

/-- TASK_START. -/
def execTaskStart (pid queue : Nat) (s : State) : Res := onPid pid (.next (s.dispatch pid queue))

/-! ## Preemption (R357-R364) -/

/-- May core `c` be chosen for a head of priority `pr` (R357)? -/
def State.preemptable (s : State) (p c pr : Nat) : Bool :=
  let k := s.core c
  match k.task with
  | none => false
  | some t => s.queuePreemptible p t.queue && decide (pr < s.queuePrio p t.queue) && k.preempt.isNone &&
    decide (k.saved.length < s.saveDepth p)

/-- The better of two victims: the lower priority, then the later start. -/
def State.laterVictim (s : State) (p a b : Nat) : Nat :=
  let pa := s.queuePrio p ((s.core a).task.bind (fun t => t.queue))
  let pb := s.queuePrio p ((s.core b).task.bind (fun t => t.queue))
  if pa < pb ∨ (pa = pb ∧ (s.core a).order < (s.core b).order) then b else a

/-- The victim among cores. -/
def State.victim (s : State) (p : Nat) : List Nat → Option Nat
  | [] => none
  | c :: cs => some (cs.foldl (s.laterVictim p) c)

/-- Set PREEMPT on the victim of a blocked head of queue `q` (R357); a head that names its core asks for that core alone. -/
def State.requestPreempt (s : State) (p q : Nat) : State :=
  let pending := (s.part p).sched.cores.any (fun c => (s.core c).preempt.any (fun x => x.queue == some q))
  match s.queueHead p q with
  | none => s
  | some d =>
    let pr := s.queuePrio p (some q)
    if !(s.dispatching p) ∨ s.getBit Reg.PARTITION.CFG.px8 p ∨ s.getB Reg.SCHED.QUEUE_CFG.preempts p q = 0 ∨
        s.headCheck p d ≠ .good ∨ !(s.mayComplete p d) ∨ (s.startCoreOf p d pr).isSome ∨ pending then s
    else
      let cand := ((s.part p).sched.cores.filter (fun c => s.preemptable p c pr)).filter
        (fun c => dAny d || s.physical p (dCore d) == some c)
      match s.victim p cand with
      | none => s
      | some c => s.onCore c (fun k => { k with preempt := some ⟨some q, false⟩ })

/-- PREEMPT_REQUEST. -/
def execPreemptRequest (pid queue : Nat) (s : State) : Res := onPid pid (.next (s.requestPreempt pid queue))

/-- Is a bundle header cheap for this core (R66, R89)? -/
def Core.cheapHere (k : Core) (header : Word) : Bool := header.msb && k.spec.bundleMode && !k.spec.inTrap && !k.spec.px8

/-- A cheap point reached with a pending request (R86): the parts that the header names are saved. -/
def State.cheapSave (s : State) (c : Nat) (header : Word) : State :=
  let k := s.core c
  let h := header.toNat
  match s.partOf c, k.preempt with
  | some p, some x =>
    if k.task.isNone ∨ !(k.cheapHere header) ∨ !k.sync.sems.isEmpty ∨ x.graceOver then s
    else s.saveTask p c (field h 20 13) (field h 12 5) (bit h 21) false
  | _, _ => s

/-- CHEAP_POINT_SAVE. -/
def execCheapPointSave (core : Nat) (header : Word) (s : State) : Res := onCoreId core (.next (s.cheapSave core header))

/-- PREEMPT_GRACE_EXPIRY: 20 µs have passed without a cheap point (R358); never in PX8 mode (R366). -/
def execPreemptGraceExpiry (core : Nat) (s : State) : Res :=
  onCoreId core (.next (s.onCore core (fun k => { k with preempt := k.preempt.map (fun x => { x with graceOver := !k.spec.px8 }) })))

/-- A full save after the grace (R358, R359): SEM_HELD must be 0, but for a suspension. -/
def State.fullSave (s : State) (c : Nat) : State :=
  let k := s.core c
  match s.partOf c, k.preempt with
  | some p, some x =>
    if k.task.isNone ∨ !x.graceOver ∨ (!k.sync.sems.isEmpty ∧ x.queue.isSome) then s
    else s.saveTask p c 0xFF 0xFF k.block.isSome true
  | _, _ => s

/-- FULL_SAVE. -/
def execFullSave (core : Nat) (s : State) : Res := onCoreId core (.next (s.fullSave core))

/-- The request is withdrawn 40 µs after it was made, while SEM_HELD is non-zero (R358). -/
def State.withdraw (s : State) (c : Nat) : State :=
  let k := s.core c
  match s.partOf c, k.preempt with
  | some p, some ⟨some q, true⟩ =>
    if k.sync.sems.isEmpty then s
    else ((s.setCore c { k with preempt := none }).bump Reg.SCHED.REFUSED.refused p 1).raise 0x02C0 p 1
      (q * 2 ^ 16 + s.logical p c)
  | _, _ => s

/-- PREEMPT_WITHDRAW. -/
def execPreemptWithdraw (core : Nat) (s : State) : Res := onCoreId core (.next (s.withdraw core))

/-- A saved context resumes when its core is free and no startable head of a higher priority can take the core (R363). -/
def State.resume (s : State) (c : Nat) : State :=
  let k := s.core c
  match s.partOf c, k.saved with
  | some p, v :: _ =>
    let pr := s.queuePrio p v.task.queue
    let taken := (upTo 16).any (fun q => decide (s.queuePrio p (some q) < pr) &&
      (match s.queueHead p q with
       | none => false
       | some d => s.headActs p d (s.queuePrio p (some q)) && s.startCoreOf p d (s.queuePrio p (some q)) == some c)) ||
      (s.part p).sched.stepHeads.any (fun d => s.startCoreOf p d 0 == some c)
    if k.task.isSome ∨ !(s.dispatching p) ∨ taken then s else s.resumeTask p c
  | _, _ => s

/-- CONTEXT_RESUME. -/
def execContextResume (core : Nat) (s : State) : Res := onCoreId core (.next (s.resume core))

/-! ## Suspend and restore (R366-R368) -/

/-- Ask every running task but a step's for preemption, without withdrawal (R367); none in PX8 mode (R366). -/
def State.askAll (s : State) (p : Nat) : State :=
  if s.getBit Reg.PARTITION.CFG.px8 p then s
  else (s.part p).sched.cores.foldl (fun t c =>
    match (t.core c).task with
    | some ⟨_, some _, _, _⟩ => t.onCore c (fun k => { k with preempt := some ⟨none, (k.preempt.map (fun x => x.graceOver)).getD false⟩ })
    | _ => t) s

/-- SUSPEND takes a partition that runs (R367); in any other state the write is dropped with SCHED_BUSY (R370). -/
def State.suspend (s : State) (p : Nat) : State :=
  if s.schedState p = 0 then (s.setSchedState p 1).askAll p
  else s.regFault (Reg.SCHED.CTX_CMD.cmd.reg + p * 0x1000) 0x51

/-- SUSPEND. -/
def execSuspend (r : Requester) (pid : Nat) (s : State) : Res :=
  onPid pid (.next (s.guard r (Reg.SCHED.CTX_CMD.cmd.reg + pid * 0x1000) (s.suspend pid)))

/-- Does any core of the partition run a task? -/
def State.anyTask (s : State) (p : Nat) : Bool := (s.part p).sched.cores.any (fun c => (s.core c).task.isSome)

/-- Does any core of the partition hold a saved context? -/
def State.anySaved (s : State) (p : Nat) : Bool := (s.part p).sched.cores.any (fun c => !(s.core c).saved.isEmpty)

/-! ## Retirement of a core (R7, R349) -/

/-- A core is marked as retired in the device's registers, and in those of the partition that holds it. -/
def State.markRetired (s : State) (c : Nat) : State :=
  let f : Fld := ⟨Reg.DEVICE.RETIRED.reg.reg + 8 * (c / 64), 63, 0⟩
  let g : Fld := ⟨Reg.PARTITION.RETIRED.reg.reg + 8 * (c / 64), 63, 0⟩
  let s1 := s.set f 0 (s.get f 0 ||| 2 ^ (c % 64))
  match s.sliceOwner c with
  | none => s1
  | some p => s1.set g p (s1.get g p ||| 2 ^ (c % 64))

/-- Give a retired core's logical number to the lowest-numbered spare; its sett's frames are spilled first (R264) and its
owl chains go on counting (R397). -/
def State.mapSpare (s : State) (p c : Nat) : State :=
  let d := (s.part p).sched
  match sortBy (fun a b => decide (a ≤ b)) d.spares with
  | [] => s
  | x :: _ =>
    let s1 := (s.settEvacuate p (s.logical p c)).onSched p (fun d => { d with
      cores := d.cores.map (fun y => if y = c then x else y), spares := d.spares.filter (fun y => y != x) })
    ((s1.onCore x (fun k => { k with chainCount := (s.core c).chainCount })).setCore c Core.idle).set Reg.PARTITION.SPARES.spares p
      (s1.part p).sched.spares.length

/-- Once the partition is suspended its retired cores are replaced and its own image restored; with too few spares it stays
SUSPENDED and SHORT. -/
def State.replaceRetired (s : State) (p : Nat) : State :=
  let d := (s.part p).sched
  let s0 := s.onSched p (fun d => { d with retiring := [] })
  if d.spares.length < d.retiring.length then
    (s0.setSchedState p 4).raise 0x0280 p 1 ((d.cores.length + d.spares.length - d.retiring.length) * 2 ^ 16 + d.cores.length)
  else
    let s1 := d.retiring.foldl (fun t c => t.mapSpare p c) s0
    ((s1.loadImage p (fun d _ => d)).setSchedState p 0).set Reg.CHECK.STEP_FAIL.blocked p 0

/-- The firmware retires a core. -/
def State.retireCore (s : State) (c : Nat) : State :=
  if s.retired c then s
  else
    let s1 := s.markRetired c
    match s1.parts.find? (fun k => k.2.sched.spares.contains c), s1.partOf c with
    | some (p, _), _ => (s1.onSched p (fun d => { d with spares := d.spares.filter (fun y => y != c) })).set
        Reg.PARTITION.SPARES.spares p ((s1.part p).sched.spares.length - 1)
    | none, none => s1
    | none, some p =>
      let s2 := s1.onSched p (fun d => { d with retiring := d.retiring ++ [c] })
      if s2.schedState p = 0 then (s2.setSchedState p 1).askAll p
      else if s2.schedState p = 2 then s2.replaceRetired p
      else s2

/-- CORE_RETIRE. -/
def execCoreRetire (core : Nat) (s : State) : Res := onCoreId core (.next (s.retireCore core))

/-- The image is written and the partition becomes SUSPENDED, once no task runs and no step is in flight (R367). -/
def State.imageDone (s : State) (p : Nat) : State :=
  if s.schedState p = 1 ∧ !(s.anyTask p) ∧ !(s.stepsInFlight p) then
    let s1 := ((s.writeImage p).setSchedState p 2).set Reg.SCHED.STATE.last_status p 0
    if (s.part p).sched.retiring.isEmpty then s1 else s1.replaceRetired p
  else s

/-- SUSPEND_IMAGE_DONE. -/
def execSuspendImageDone (pid : Nat) (s : State) : Res := onPid pid (.next (s.imageDone pid))

/-- A PX8 task still running 20 µs after the suspension request (R366). -/
def State.preemptSlow (s : State) (c : Nat) : State :=
  let k := s.core c
  match s.partOf c, k.task with
  | some p, some t =>
    if k.spec.px8 ∧ s.schedState p = 1 ∧ k.preempt.isNone then
      (s.setCore c { k with preempt := some ⟨none, false⟩ }).raise 0x02C0 p 2 (t.queue.getD 0 * 2 ^ 16 + s.logical p c)
    else s
  | _, _ => s

/-- PREEMPT_SLOW: raised once for each task. -/
def execPreemptSlow (core : Nat) (s : State) : Res := onCoreId core (.next (s.preemptSlow core))

/-- RESTORE (R368): into a partition that is SUSPENDED or holds no task; new physical cores lift a blocked step (R407). -/
def State.restoreCtx (s : State) (p : Nat) : State :=
  let st := s.schedState p
  if st = 1 ∨ st = 3 ∨ (st ≠ 2 ∧ st ≠ 4 ∧ (s.anyTask p || s.anySaved p)) then
    s.regFault (Reg.SCHED.CTX_CMD.cmd.reg + p * 0x1000) 0x51
  else
    let code := s.restoreStatus p
    if code ≠ 0 then s.set Reg.SCHED.STATE.last_status p code
    else
      let l := recN (s.readBytes (s.get Reg.SCHED.CTX_ADDR.ctx_addr p) 0x198) 8 4
      let good := fun (d : Sched) (n : Nat) => remap { d with
        cores := d.cores.filter (fun c => !(s.retired c)), spares := d.spares.filter (fun c => !(s.retired c)) } n
      let s0 := if (good (s.part p).sched l).cores = (s.part p).sched.cores then s
        else (upTo (s.lcores p)).foldl (fun t n => t.settEvacuate p n) s
      let s1 := ((s0.loadImage p good).setSchedState p 0).set Reg.SCHED.STATE.last_status p 0
      if (s1.part p).sched.cores = (s.part p).sched.cores then s1 else s1.set Reg.CHECK.STEP_FAIL.blocked p 0

/-- RESTORE. -/
def execRestore (r : Requester) (pid : Nat) (s : State) : Res :=
  onPid pid (.next (s.guard r (Reg.SCHED.CTX_CMD.cmd.reg + pid * 0x1000) (s.restoreCtx pid)))

/-! ## Semaphore initial values (R365) -/

/-- Does a core or a saved context hold an acquire of semaphore `n`? -/
def State.semHeld (s : State) (p n : Nat) : Bool :=
  (s.part p).sched.cores.any (fun c => (s.core c).sync.sems.contains n || (s.core c).saved.any (fun v => v.sems.contains n))

/-- Write the init field of the selected semaphore: the count follows, unless an acquire is held. -/
def State.semInit (s : State) (p v : Nat) : State :=
  let n := s.get Reg.SCHED.SEM_SEL.sem p
  if s.semHeld p n then s.regFault (Reg.SCHED.SEM.init.reg + p * 0x1000) 0x51
  else (s.setB Reg.SCHED.SEM.init p n (field v 31 16)).setB Reg.SCHED.SEM.count p n (field v 31 16)

/-- SEM_INIT_WRITE. -/
def execSemInitWrite (r : Requester) (pid : Nat) (v : DWord) (s : State) : Res :=
  onPid pid (.next (s.guard r (Reg.SCHED.SEM.init.reg + pid * 0x1000) (s.semInit pid v.toNat)))

end Sys2Proof.Machine
end

