-- ==== Sys2Proof/Machine/Time.lean ====
section
/-! DEFINITION. Fabric time (R440-R444): time words, the choice of the source, the lock states, steps and holds of the count.
Commands TIME_WORD_SEND to FORCE_STEP. -/
namespace Sys2Proof.Machine

/-- State of an optical port: 0 DOWN, 1 TRAINING, 2 UP, 3 DEGRADED. -/
def State.portState (s : State) (port : Nat) : Nat := s.get Reg.PORT.STATUS.state port

/-- Does the port carry traffic? -/
def State.portUp (s : State) (port : Nat) : Bool := s.portState port == 2 || s.portState port == 3

/-- The number by which the TIME page names a port (R458): 32 and 33 are DP0 and DP1. -/
def timePort (port : Nat) : Nat := if port < 32 then port else port - 4

/-- The ports that carry time words (R440): fabric and twin. -/
def timePorts : List Nat := upTo 32 ++ [36, 37]

/-- Raise event `n` of the TIME page. -/
def State.timeEvent (s : State) (n arg : Nat) : State := s.raise 0x00C0 0 n arg

/-- The argument of TIME_UNLOCKED and TIME_LOCKED: depth and source. -/
def State.timeArg (s : State) : Nat := s.get Reg.TIME.STATUS.depth 0 * 256 + s.get Reg.TIME.STATUS.source 0

/-- Move the lock state, raising TIME_UNLOCKED or TIME_LOCKED (R444). -/
def State.setTimeState (s : State) (v : Nat) : State :=
  let s1 := s.set Reg.TIME.STATUS.state 0 v
  if s.timeState = 2 ∧ v ≠ 2 then s1.timeEvent 2 s.timeArg
  else if v = 2 ∧ s.timeState ≠ 2 then s1.timeEvent 3 s.timeArg
  else s1

/-- The candidates of TIME.SOURCES in priority order, as port instances. -/
def State.candidates (s : State) : List Nat :=
  (upTo 4).filterMap (fun n =>
    let b := field (s.get Reg.TIME.SOURCES.sources 0) (8 * n + 7) (8 * n)
    let p := field b 5 0
    if bit b 7 ∧ p < 34 then some (if p < 32 then p else p + 4) else none)

/-- Does a candidate qualify (R441)? -/
def State.qualifies (s : State) (port : Nat) : Bool :=
  match Map.find s.time.peers port with
  | none => false
  | some w => s.portUp port && (w.state == 2 || w.depth == 0) && decide (w.depth < min 24 (s.get Reg.TIME.CFG.max_depth 0))

/-- Name no source. -/
def State.noSource (s : State) : State := (s.set Reg.TIME.STATUS.source 0 255).set Reg.TIME.STATUS.depth 0 255

/-- Choose the source again (R441): a new one is acquired; without one a LOCKED unit enters HOLDOVER and one that was acquiring
FREE. A unit in FAULT stays there. -/
def State.timeSelect (s : State) : State :=
  match s.candidates.find? s.qualifies with
  | none =>
    if s.get Reg.TIME.STATUS.source 0 = 255 then s
    else
      (if s.timeState = 2 then s.setTimeState 3 else if s.timeState = 1 then s.setTimeState 0 else s).noSource
  | some i =>
    let d := ((Map.find s.time.peers i).map (fun w => w.depth)).getD 0 + 1
    if s.get Reg.TIME.STATUS.source 0 = timePort i then s.set Reg.TIME.STATUS.depth 0 d
    else
      let s1 := if s.timeState = 4 then s else s.setTimeState 1
      ({ s1 with time := { s1.time with good := 0, aligned := false, hold := 0 } }.set Reg.TIME.STATUS.source 0 (timePort i)).set
        Reg.TIME.STATUS.depth 0 d

/-- TIME_WORD_SEND: a time word on every fabric and twin port that carries traffic. -/
def execTimeWordSend (s : State) : Res :=
  .next (timePorts.foldl (fun t p =>
    if t.portUp p then t.emit (.timeWord p (8 * t.now) (t.get Reg.TIME.STATUS.depth 0) t.timeState) else t) s)

/-- The count moves by `n` ticks, counted in TIME.STEPS, with TIME_STEPPED (R443). -/
def State.stepCount (s : State) (n : Int) : State :=
  let c := { s.clock with ftime := s.clock.ftime + BitVec.ofInt 64 n }
  (({ s with clock := c }).bump Reg.TIME.STEPS.steps 0 1).timeEvent 0 (BitVec.ofInt 64 n).toNat

/-- The first correction after a source is acquired (R443): `off` is local minus source in 1/8 ticks. -/
def State.firstLock (s : State) (off : Int) : State :=
  let n := off.natAbs / 8
  let s1 := { s with time := { s.time with aligned := true } }
  if n = 0 then s1
  else if off < 0 then s1.stepCount n
  else if off ≤ 8 * 0x100000 then { s1 with time := { s1.time with hold := n } }
  else (s1.setTimeState 4).timeEvent 1 n

/-- A word of the source (R440-R443): the offset, the rate correction (free within ±100 ppm), the correction, the lock. -/
def State.sourceWord (s : State) (off : Int) : State :=
  let x := s.drawFree
  let rate : Int := (Config.freeWord x.1).toNat % 200001 - 100000
  let s1 := (x.2.set Reg.TIME.OFFSET.offset 0 (BitVec.ofInt 32 off).toNat).set Reg.TIME.RATE.rate_ppb 0 (BitVec.ofInt 32 rate).toNat
  let s2 := { s1 with time := { s1.time with offset := off, good := if off.natAbs ≤ 8 then min 16 (s1.time.good + 1) else 0 } }
  if s2.timeState ≠ 1 then s2
  else if !s2.time.aligned then s2.firstLock off
  else if s2.time.good = 16 then s2.setTimeState 2 else s2

/-- Link delay and offset from two opposite words (R440), in 1/8 ticks. -/
def wordDelay (w : TimeWordIn) : Int := Int.fdiv (((w.arrived : Int) - w.sent) + ((w.backArrived : Int) - w.backSent)) 2

/-- The offset, local minus sender. -/
def wordOffset (w : TimeWordIn) : Int := Int.fdiv (((w.arrived : Int) - w.sent) - ((w.backArrived : Int) - w.backSent)) 2

/-- A received time word. -/
def State.timeWordIn (s : State) (port : Nat) (w : TimeWordIn) : State :=
  let s1 := { s with time := { s.time with peers := Map.put s.time.peers port ⟨w.depth % 256, w.state % 8, wordDelay w⟩ } }
  let s2 := s1.timeSelect
  if s2.get Reg.TIME.STATUS.source 0 = timePort port then s2.sourceWord (wordOffset w) else s2

/-- TIME_WORD: on a fabric or twin port that carries traffic. -/
def execTimeWord (port : Nat) (w : TimeWordIn) (s : State) : Res :=
  onPort port (.next (if s.portUp port ∧ (port < 32 ∨ 36 ≤ port) then s.timeWordIn port w else s))

/-- HOLDOVER_EXPIRY: holdover_ms have passed without a source (R442). -/
def execHoldoverExpiry (s : State) : Res := .next (if s.timeState = 3 then s.setTimeState 0 else s)

/-- Does some partition hold a plan entry or run a task (R443)? A core that stands at WAITFT runs one. -/
def State.timeInUse (s : State) : Bool :=
  s.parts.any (fun k => !k.2.plan.isEmpty) || s.cores.any (fun k => k.2.task.isSome)

/-- FORCE_STEP: the held count steps back to the source, and the unit acquires it again (R443). -/
def State.forceStep (s : State) : State :=
  if s.timeInUse then s.regFault Reg.TIME.CMD.reg.reg stSchedBusy
  else if s.timeState ≠ 4 then s
  else
    let s1 := s.stepCount (-((s.time.offset.natAbs / 8 : Nat) : Int))
    ({ s1 with time := { s1.time with good := 0, aligned := true, hold := 0 } }).setTimeState
      (if s.get Reg.TIME.STATUS.source 0 = 255 then 0 else 1)

/-- FORCE_STEP. -/
def execForceStep (r : Requester) (s : State) : Res := .next (s.guard r Reg.TIME.CMD.reg.reg s.forceStep)

end Sys2Proof.Machine
end

