-- ==== Sys2Proof/Machine/Fabric.lean ====
section
/-! DEFINITION. The device's fabric: ports and links (R303, R307, R329, R456), the route table (R308-R310), sending a packet
(R305), bridges (R54, R55). Commands COMMIT_ROUTES, ROUTE_DATA_WRITE, LINK_CRC_ERROR, LINK_CONTROL_WORD, BRIDGE_FLIT_ERROR,
LANE_FAILURE, PORT_TRAIN_RETRY, LINK_RESET. -/
namespace Sys2Proof.Machine

/-- This device's fabric ID. -/
def State.deviceId (s : State) : Nat := s.get Reg.DEVICE.FABRIC_ID.device 0

/-! ## Ports. 0 to 31 fabric, 32 to 35 far memory, 36 and 37 twin (Table 23.2) -/

/-- Does a port carry a virtual channel (R304)? -/
def portCarries (port vc : Nat) : Bool :=
  if port < 32 then decide (vc < 8)
  else if port < 36 then vc == 0 || vc == 5
  else vc == 0 || vc == 1 || vc == 3 || vc == 7

/-- Count a discarded packet of a port. -/
def State.portLost (s : State) (port : Nat) : State := s.bump Reg.PORT.LOST.lost port 1

/-- Raise a port event: lanes in use and the port's number. -/
def State.portEvent (s : State) (port n : Nat) : State :=
  s.raise 0x0180 port n (s.get Reg.PORT.STATUS.lanes_up port * 256 + port)

/-- A port goes DOWN: its replay buffer is lost (R329, R456), and another time source is chosen (R441). -/
def State.portDown (s : State) (port : Nat) : State :=
  if s.portState port = 0 then s
  else
    let s1 := ((s.set Reg.PORT.STATUS.state port 0).set Reg.PORT.STATUS.lanes_up port 0).onLink port
      (fun l => { l with replay := [], fails := 0, credits := [] })
    let s2 := (s1.bump Reg.PORT.DOWN_EVENTS.downs port 1).portEvent port 1
    { s2 with time := { s2.time with peers := Map.del s2.time.peers port } }.timeSelect

/-- A port has lanes `lanes` left: all eight, the half with no failed lane, or none (R329). -/
def State.portLanes (s : State) (port failed : Nat) : State :=
  let s1 := s.onLink port (fun l => { l with failed := failed })
  if failed % 256 = 0 then s1
  else if failed % 16 = 0 ∨ failed / 16 % 16 = 0 then
    let lanes := if failed % 16 = 0 then 0x0F else 0xF0
    ((s1.set Reg.PORT.STATUS.state port 3).set Reg.PORT.STATUS.lanes_up port lanes).portEvent port 0
  else s1.portDown port

/-- LANE_FAILURE: `lanes` is the mask of lanes that fail training or lose light. A port that is not up has none in use. -/
def execLaneFailure (port lanes : Nat) (s : State) : Res :=
  onPort port (.next (if s.portUp port then s.portLanes port ((s.link port).failed ||| lanes % 256) else s))

/-- A DOWN port trains again: `lanes` is the mask that trains; one half is enough (R329). -/
def State.trainPort (s : State) (port lanes : Nat) : State :=
  let good := lanes % 256
  if s.portState port > 1 ∨ (s.deep ∧ port < 36) ∨ !(s.getBit Reg.PORT.CFG.enable port) ∨ s.get Reg.PORT.LOOP.depth port ≠ 0 ∨
      s.getBit Reg.PORT.LOOP.retiming port ∨ (good % 16 ≠ 15 ∧ good / 16 ≠ 15) then s
  else
    let use := if good = 255 then 255 else if good % 16 = 15 then 0x0F else 0xF0
    ((((s.onLink port (fun l => { l with failed := 255 - good })).set Reg.PORT.STATUS.lanes_up port use).set Reg.PORT.STATUS.state port
      (if use = 255 then 2 else 3))).portEvent port 2

/-- PORT_TRAIN_RETRY. -/
def execPortTrainRetry (port lanes : Nat) (s : State) : Res := onPort port (.next (s.trainPort port lanes))

/-- LINK_RESET: the port goes DOWN and, where it is enabled, trains again. -/
def State.linkReset (s : State) (port : Nat) : State :=
  let s1 := s.portDown port
  if s.getBit Reg.PORT.CFG.enable port ∧ s.get Reg.PORT.LOOP.depth port = 0 ∧ !(s.getBit Reg.PORT.LOOP.retiming port) then s1.set Reg.PORT.STATUS.state port 1 else s1

/-- LINK_RESET. -/
def execLinkReset (port : Nat) (s : State) : Res := onPort port (.next (s.linkReset port))

/-! ## Link replay (R307) -/

/-- Link sequences have 16 bits. -/
def seq16 (n : Nat) : Nat := n % 2 ^ 16

/-- Units of a packet: its header and its blocks. -/
def pktUnits (k : Packet) : Nat := 1 + k.blocks.length

/-- `n` units have arrived in order at a port: they are acknowledged. -/
def State.unitsIn (s : State) (port n : Nat) : State :=
  let x := seq16 ((s.link port).rx + n)
  (s.onLink port (fun l => { l with rx := x, fails := 0 })).emit (.control port (.ack x))

/-- A unit fails its CRC: it is asked for again, and after its first sending and 8 re-sends it is lost with its packet. -/
def State.crcError (s : State) (port : Nat) : State :=
  let l := s.link port
  let s1 := s.bump Reg.PORT.CRC_ERRORS.crc_errors port 1
  if l.fails < 8 then
    ((s1.onLink port (fun l => { l with fails := l.fails + 1 })).bump Reg.PORT.REPLAYS.replays port 1).emit
      (.control port (.replay l.rx))
  else
    ((s1.onLink port (fun l => { l with fails := 0, rx := seq16 (l.rx + 1) })).raise 0x0180 port 3 (l.rx * 2 ^ 16 + port)).portLost port

/-- LINK_CRC_ERROR. -/
def execLinkCrcError (port : Nat) (s : State) : Res := onPort port (.next (if s.portUp port then s.crcError port else s))

/-- Is unit `u` before unit `x` in the order of 16-bit sequences? -/
def seqBefore (u x : Nat) : Bool := u != x && decide (seq16 (x + 2 ^ 16 - u) < 2 ^ 15)

/-- LINK_CONTROL_WORD: replay-buffer space is freed, credit returns, or units are sent again. -/
def State.controlWord (s : State) (port : Nat) : LinkCtl → State
  | .ack u => s.onLink port (fun l => { l with replay := l.replay.filter (fun x => !(seqBefore x (seq16 u))) })
  | .credit vc sub n => s.onLink port (fun l => { l with
      credits := Map.adjust l.credits (vc % 8 * 2 + sub % 2) 0 (fun c => c + n) })
  | .replay u => if (s.link port).replay.contains (seq16 u) then s.emit (.resend port (seq16 u)) else s

/-- LINK_CONTROL_WORD. -/
def execLinkControlWord (port : Nat) (w : LinkCtl) (s : State) : Res := onPort port (.next (s.controlWord port w))

/-! ## Routes (R308-R310) -/

/-- Primary port of a route entry, if valid. -/
def routePrimary (e : Nat) : Option Nat := if bit e 7 then some (field e 4 0) else none
/-- Alternate port of a route entry, if valid. -/
def routeAlternate (e : Nat) : Option Nat := if bit e 15 then some (field e 12 8) else none

/-- The egress port to a device: the primary while it is up, else the alternate (R310). -/
def State.route (s : State) (d : Nat) : Option Nat :=
  let e := Map.getD s.fab.routes d 0
  match routePrimary e, routeAlternate e with
  | some p, some a => if s.portUp p then some p else if s.portUp a then some a else none
  | some p, none => if s.portUp p then some p else none
  | none, some a => if s.portUp a then some a else none
  | none, none => none

/-- The sub-channel of a packet that leaves by `out`; `from` is its ingress port (R308). -/
def State.subchOut (s : State) (sub : Nat) (ingress : Option Nat) (out : Nat) : Nat :=
  let dim := fun p => s.get Reg.PORT.CFG.dim p
  let a := match ingress with
    | some p => if dim p = dim out then sub else 0
    | none => sub
  if s.getBit Reg.PORT.CFG.dateline out then 1 else a

/-- A packet leaves by a port: its units enter the replay buffer. -/
def State.egress (s : State) (ingress : Option Nat) (out : Nat) (k : Packet) : State :=
  let l := s.link out
  let units := (upTo (pktUnits k)).map (fun i => seq16 (l.tx + i))
  (s.onLink out (fun x => { x with tx := seq16 (x.tx + pktUnits k), replay := x.replay ++ units })).emit
    (.packet (some out) { k with subch := s.subchOut k.subch ingress out })

/-- Cut a payload into blocks of 256 bytes. -/
def blocksOf (bs : List Byte) : List (List Byte) := (upTo (ceilDiv bs.length 256)).map (fun i => (bs.drop (256 * i)).take 256)

/-- The payload of a packet. -/
def pktPayload (k : Packet) : List Byte := (k.blocks.flatten).take k.length

/-- A packet of this device: destination, channel, class, tenant, tag, pennant, arg, payload. -/
def mkPacket (dst vc cls tenant tag pennant arg : Nat) (bs : List Byte) : Packet :=
  { dst := dst, src := 0, core := 0, vc := vc, cls := cls, tenant := tenant, subch := 0, reserved := 0, tag := tag % 2 ^ 32,
    pennant := pennant, seq := 0, length := bs.length, poison := 0, last := false, ackReq := false, arg := arg, blocks := blocksOf bs }

/-- The next sequence number towards a device on a channel. -/
def State.nextSeq (s : State) (dst vc : Nat) : Nat := Map.getD s.fab.sent (dst * 8 + vc) 0 % 2 ^ 32

/-- Number a packet as sent. -/
def State.stamp (s : State) (k : Packet) : Packet × State :=
  ({ k with src := s.deviceId, seq := s.nextSeq k.dst k.vc },
   s.onFab (fun f => { f with sent := Map.adjust f.sent (k.dst * 8 + k.vc) 0 (fun n => n + 1) }))

/-- Send a packet by the route table; one to this device itself comes straight back. With no port it is lost (R310). -/
def State.send (s : State) (k : Packet) : State :=
  let (k1, s1) := s.stamp k
  if k.dst = s.deviceId then s1.emit (.packet none k1)
  else match s.route k.dst with
    | some p => s1.egress none p k1
    | none => s1

/-- Send a packet by a given port (R336, hare parts). -/
def State.sendBy (s : State) (port : Nat) (k : Packet) : State :=
  let (k1, s1) := s.stamp k
  if s.portUp port then s1.egress none port k1 else s1

/-- Answer a packet that asks for it with an ACK (R305). -/
def State.ackPacket (s : State) (k : Packet) : State :=
  if k.ackReq then s.send (mkPacket k.src 0 1 k.tenant k.tag 0 k.seq []) else s

/-- ROUTE_DATA_WRITE (R309): two shadow entries at ROUTE_SEL. -/
def State.routeData (s : State) (v : Nat) : State :=
  let i := s.get Reg.DEVICE.ROUTE_SEL.entry 0
  let put := fun (m : Map Nat) (k e : Nat) => Map.put m (k % 65536) e
  (s.onFab (fun f => { f with shadow := put (put f.shadow i (field v 31 0)) (i + 1) (field v 63 32) })).set
    Reg.DEVICE.ROUTE_SEL.entry 0 (i + 2)

/-- ROUTE_DATA_WRITE. -/
def execRouteDataWrite (r : Requester) (v : DWord) (s : State) : Res :=
  .next (s.guard r Reg.DEVICE.ROUTE_DATA.reg.reg (s.routeData v.toNat))

/-- May an entry stand in the table (R309)? A 5-bit port is a fabric port; other bits are reserved. -/
def routeEntryOk (own : Bool) (e : Nat) : Bool :=
  field e 6 5 == 0 && field e 14 13 == 0 && field e 31 16 == 0 && !(own && (bit e 7 || bit e 15))

/-- The bytes of a route table, entry by entry. -/
def routeBytes (m : Map Nat) : List Byte := (upTo 65536).flatMap (fun d => leBytes 4 (Map.getD m d 0))

/-- COMMIT_ROUTES: the shadow table is installed and measured, or discarded. -/
def State.commitRoutes (s : State) : State :=
  let t := s.fab.shadow
  if t.all (fun e => routeEntryOk (e.1 == s.deviceId) e.2) then
    (s.onFab (fun f => { f with routes := t })).extendMeas 4 (shake256 (routeBytes t) 64)
  else (s.onFab (fun f => { f with shadow := f.routes })).regFault Reg.DEVICE.CMD.reg.reg stCommandInvalid

/-- COMMIT_ROUTES. -/
def execCommitRoutes (r : Requester) (s : State) : Res := .next (s.guard r Reg.DEVICE.CMD.reg.reg s.commitRoutes)

/-! ## Bridges (R54, R55) -/

/-- A flit of a channel fails its CRC after `replays` replays; past 16 the channel is disabled, and with its partner gone too
the device stops accepting work. -/
def State.flitError (s : State) (bridge channel replays : Nat) : State :=
  let m := s.get Reg.DEVICE.BRIDGE_MASK.channels 0
  let i := 8 * (bridge % 8) + channel % 8
  if replays < 16 ∨ !(m.testBit i) then s
  else
    let m1 := setBit m i false
    let s1 := (s.set Reg.DEVICE.BRIDGE_MASK.channels 0 m1).raise 0 0 1 (bridge % 8 * 256 + channel % 8)
    if m1.testBit (8 * (bridge % 8) + (channel % 8).xor 1) then s1
    else ((s1.raise 0 0 0 1).deviceStatus 1 true).onBoot (fun b => { b with stopped := true })

/-- BRIDGE_FLIT_ERROR. -/
def execBridgeFlitError (bridge channel replays : Nat) (s : State) : Res := .next (s.flitError bridge channel replays)

end Sys2Proof.Machine
end

