-- ==== Sys2Proof/Machine/Hare.lean ====
section
/-! DEFINITION. The hare path (R316-R321): lanes and combining, the combine table, combine states, HARE_GO. Commands
HARE_GO, COMBINE_LOAD, COMBINE_REMOVE. -/
namespace Sys2Proof.Machine

/-! ## Operations (R317) -/

/-- The `n`-byte lanes of a payload. -/
def laneNats (n : Nat) (bs : List Byte) : List Nat := (upTo (64 / n)).map (fun i => leNat ((bs.drop (n * i)).take n))

/-- The 64 bytes of lanes of `n` bytes. -/
def laneBytes (n : Nat) (l : List Nat) : List Byte := l.flatMap (fun x => leBytes n x)

/-- Combine two INT64 lanes. -/
def combine64 (op a b : Nat) : Nat :=
  match op with
  | 0x01 => (a + b) % 2 ^ 64
  | 0x02 => if sext 64 a < sext 64 b then b else a
  | 0x03 => if sext 64 b < sext 64 a then b else a
  | 0x04 => a &&& b
  | _ => a ||| b

/-- Combine two FP32 lanes. -/
def combineF32 (op a b : Nat) : Nat :=
  let x := BitVec.ofNat 32 a
  let y := BitVec.ofNat 32 b
  (if op = 0x06 then fmax x y else if op = 0x07 then fmin x y else (fadd x y).1).toNat

/-- Combine two payloads lane by lane. -/
def combinePayload (op : Nat) (a b : List Byte) : List Byte :=
  if op ≤ 5 then laneBytes 8 (List.zipWith (combine64 op) (laneNats 8 a) (laneNats 8 b))
  else laneBytes 4 (List.zipWith (combineF32 op) (laneNats 4 a) (laneNats 4 b))

/-- Is the op listed and allowed in the mode? -/
def opFits (op : Nat) : CombineMode → Bool
  | .spread _ => decide (1 ≤ op) && decide (op ≤ 7)
  | .tree _ _ => decide (1 ≤ op) && decide (op ≤ 9)

/-! ## Combine states -/

/-- The entry of a combine group. -/
def State.combineOf (s : State) (g : Nat) : Option Combine := Map.find s.fab.groups g

/-- Is this the combine state of a group, tag and op? -/
def HareOp.is (x : HareOp) (g tag op : Nat) : Bool := x.group == g && x.tag == tag && x.op == op

/-- Replace the combine states of a group, tag and op by `l`. -/
def State.setHareOp (s : State) (g tag op : Nat) (l : List HareOp) : State :=
  s.onFab (fun f => { f with ops := f.ops.filter (fun x => !(x.is g tag op)) ++ l })

/-- The combine state of a group, tag and op. -/
def State.hareOp (s : State) (g tag op : Nat) : Option HareOp := s.fab.ops.find? (fun x => x.is g tag op)

/-- A state that holds nothing yet. -/
def HareOp.fresh (g tag op pid : Nat) : HareOp :=
  { group := g, tag := tag, op := op, pid := pid, own := none, ring := 0, parts := [], sentUp := false, early := none }

/-- Has the group or the device no room for another combine state (R319)? -/
def State.hareFull (s : State) (g pid : Nat) : Bool :=
  decide (max 1 (s.get Reg.FAB.GROUP_CFG.hare_quota pid) ≤ (s.fab.ops.filter (fun x => x.group == g)).length) ||
  decide (4096 ≤ s.fab.ops.length)

/-- Port instance of a port code of a combine entry (Table 15.11). -/
def codePort (c : Nat) : Nat := if c < 32 then c else c + 4

/-- Send a hare packet out of a port. The header's dst_device of a neighbour's packet is a free value. -/
def State.hareSend (s : State) (port cls pid tag arg : Nat) (bs : List Byte) : State :=
  let (n, s1) := s.drawFree
  s1.sendBy (codePort port) (mkPacket ((Config.freeWord n).toNat % 0xFFFF) 1 cls (s.owner pid) tag 0 arg bs)

/-- The arg of a HARE_PART. -/
def partArg (g op ring hops : Nat) : Nat := g * 2 ^ 48 + op * 2 ^ 40 + ring * 2 ^ 32 + hops * 2 ^ 24

/-- Hops of the copies sent the plus way and the minus way round a ring of L devices (R318). -/
def ringHops (l : Nat) : Nat × Nat := (l / 2, (l - 1) / 2)

/-- Enter a value into a ring: one copy each way. -/
def State.ringSend (s : State) (x : HareOp) (r : Ring) (v : List Byte) : State :=
  let h := ringHops r.len
  let go := fun (t : State) (port n : Nat) => if n = 0 then t else t.hareSend port 0 x.pid x.tag (partArg x.group x.op x.ring (n - 1)) v
  go (go s r.plus h.1) r.minus h.2

/-- The copies a device waits for in a ring: travelling the plus way (arriving by the minus port) with each number of hops
left, and the minus way. -/
def ringWants (r : Ring) : List (Nat × Nat) :=
  let h := ringHops r.len
  (upTo h.1).map (fun n => (codePort r.minus, n)) ++ (upTo h.2).map (fun n => (codePort r.plus, n))

/-- Take from `parts` the first part for each (port, hops) wanted on a ring: the parts taken and those left; none where one is
missing. -/
def takeParts (ring : Nat) : List (Nat × Nat) → List HarePart → Option (List HarePart × List HarePart)
  | [], l => some ([], l)
  | w :: ws, l =>
    match l.find? (fun p => p.ring == ring && p.port == w.1 && p.hops == w.2) with
    | none => none
    | some p => (takeParts ring ws (l.erase p)).map (fun r => (p :: r.1, r.2))

/-- Ports of a mask, ascending. -/
def maskPorts (m : Nat) : List Nat := (upTo 34).filter (fun i => m.testBit i)

/-! ## Completion -/

/-- A local user's operation has its result (R318, R320): code gets it in its block and its flag; an engine's waits to be
taken. -/
def State.hareFinish (s : State) (pid : Nat) (u : HareUser) (v : List Byte) (time : Nat) : State :=
  let s1 := s.bump Reg.FAB.HARE_OPS.hare_ops pid 1
  match u with
  | .code c flag block => ((s1.writeBytes (nearAddr c (block + 16)) v).writeN (nearAddr c (block + 80)) 8 time).landOn pid c flag
  | _ => s1.onFab (fun f => { f with formed := f.formed ++ [⟨pid, u, v, time⟩] })

/-- The state left after an operation of a key has ended: parts that came early for the next one. -/
def HareOp.rest (x : HareOp) (parts : List HarePart) : List HareOp :=
  if parts.isEmpty then [] else [{ HareOp.fresh x.group x.tag x.op x.pid with parts := parts }]

/-- Send a tree result to every child. -/
def State.resultDown (s : State) (pid tag time children : Nat) (v : List Byte) : State :=
  (maskPorts children).foldl (fun t p => t.hareSend p 1 pid tag time v) s

/-- Carry a combine state as far as its parts allow (fuel: rings and a last step). -/
def State.hareRun (s : State) (g tag op : Nat) : Nat → State
  | 0 => s
  | n + 1 =>
    match s.hareOp g tag op, s.combineOf g with
    | some x, some e =>
      match x.own, e.mode with
      | some (u, v), .spread rings =>
        match rings[x.ring]? with
        | none => (s.setHareOp g tag op (x.rest x.parts)).hareFinish x.pid u v s.now
        | some r =>
          match takeParts x.ring (ringWants r) x.parts with
          | none => s
          | some (got, left) =>
            let v1 := got.foldl (fun acc p => combinePayload op acc p.payload) v
            let x1 := { x with own := some (u, v1), ring := x.ring + 1, parts := left }
            let s1 := s.setHareOp g tag op [x1]
            let s2 := match rings[x.ring + 1]? with
              | some r1 => s1.ringSend x1 r1 v1
              | none => s1
            s2.hareRun g tag op n
      | some (u, v), .tree parent children =>
        match x.early with
        | some (w, t) => (s.setHareOp g tag op (x.rest x.parts)).hareFinish x.pid u w t
        | none =>
          let wants := if op = 9 then [] else (maskPorts children).map (fun p => (codePort p, 0))
          match takeParts 0 wants x.parts with
          | none => s
          | some (got, left) =>
            let v1 := got.foldl (fun acc p => combinePayload op acc p.payload) v
            match parent with
            | none =>
              ((s.setHareOp g tag op (x.rest left)).resultDown x.pid tag s.now children v1).hareFinish x.pid u v1 s.now
            | some port =>
              if x.sentUp ∨ op = 9 then s
              else (s.setHareOp g tag op [{ x with sentUp := true }]).hareSend port 0 x.pid tag (partArg g op 0 0) v1
      | none, _ => s
    | _, _ => s

/-- Parent and children of a tree group. -/
def State.treeOf (s : State) (g : Nat) : Option (Option Nat × Nat) :=
  match s.combineOf g with
  | some e => match e.mode with
    | .tree parent children => some (parent, children)
    | .spread _ => none
  | none => none

/-- Is a group a tree group in which the device has a parent, of a partition of the tenant? -/
def State.takesResult (s : State) (tenant g pid : Nat) : Bool :=
  ((s.treeOf g).bind Prod.fst).isSome && s.owner pid == tenant

/-- A HARE_RESULT: its operation is the one of that tag on a tree group of the packet's tenant with a parent; the result goes
down to the children and to the local user. It waits where no such operation has begun here (R319). -/
def State.hareResultIn (s : State) (k : Packet) : State :=
  match s.fab.ops.find? (fun x => x.tag == k.tag && s.takesResult k.tenant x.group x.pid) with
  | none =>
    if s.fab.groups.any (fun e => s.takesResult k.tenant e.1 e.2.pid) then s.onFab (fun f => { f with results := f.results ++ [k] })
    else s
  | some x =>
    let s1 := s.resultDown x.pid x.tag k.arg (((s.treeOf x.group).map Prod.snd).getD 0) (pktPayload k)
    match x.own with
    | some (u, _) => (s1.setHareOp x.group x.tag x.op (x.rest [])).hareFinish x.pid u (pktPayload k) k.arg
    | none => s1.setHareOp x.group x.tag x.op [{ x with early := some (pktPayload k, k.arg) }]

/-- A result that waits for an operation of this tag and tenant is taken. -/
def State.takeWaiting (s : State) (tenant tag : Nat) : State :=
  match s.fab.results.find? (fun k => k.tag == tag && k.tenant == tenant) with
  | some k => (s.onFab (fun f => { f with results := f.results.erase k })).hareResultIn k
  | none => s

/-- Enter a local value into an operation of a group in the table whose mode allows it. -/
def State.hareEnter (s : State) (pid g tag op : Nat) (u : HareUser) (v : List Byte) : State :=
  match s.combineOf g with
  | none => s
  | some e =>
    if e.pid ≠ pid ∨ !(opFits op e.mode) then s
    else
      let x0 := (s.hareOp g tag op).getD (HareOp.fresh g tag op pid)
      if x0.own.isSome then s
      else
        let x := { x0 with own := some (u, v) }
        let s1 := s.setHareOp g tag op [x]
        let s2 := match e.mode with
          | .spread (r :: _) => s1.ringSend x r v
          | _ => s1
        (s2.hareRun g tag op 5).takeWaiting (s.owner pid) tag

/-- Drop the local value of an engine's operation whose result a command has given. -/
def State.hareTaken (s : State) (pid : Nat) (u : HareUser) : State :=
  s.onFab (fun f => { f with
    ops := f.ops.filter (fun x => !(x.pid == pid && (x.own.map Prod.fst == some u)))
    formed := f.formed.filter (fun x => !(x.pid == pid && x.user == u)) })

/-! ## HARE_GO (R320) -/

/-- The fault of a HARE_GO. -/
def State.hareFault (s : State) (p code : Nat) : State := s.regFault (regOff Reg.FAB.HARE_GO.reg p) code

/-- HARE_GO by logical core on core `c`. -/
def State.hareGo (s : State) (p c val : Nat) : State :=
  let flag := field val 25 20
  let block := field val 19 0
  if 2 ^ 20 < block + 96 then s.hareFault p codeUnmapped
  else
    let w := s.readN (nearAddr c block) 4
    let g := field w 31 16
    let op := field w 7 0
    let tag := s.readN (nearAddr c (block + 4)) 4
    let v := s.readBytes (nearAddr c (block + 16)) 64
    match s.armOn c flag with
    | none => s.hareFault p stFlagBusy
    | some t =>
      if op = 0x0A then
        (t.send (mkPacket (Config.msgDevice tag % 0xFFFF) 1 2 (s.owner p) tag 0 0 v)).hareFinish p (.code c flag block) v s.now
      else
        match s.combineOf g with
        | none => s.hareFault p stHareInvalid
        | some e =>
          if e.pid ≠ p then s.hareFault p stHareInvalid
          else if !(opFits op e.mode) ∨ ((s.hareOp g tag op).bind (fun x => x.own)).isSome then
            (t.hareFault p stHareInvalid).landOn p c flag
          else t.hareEnter p g tag op (.code c flag block) v

/-- HARE_GO. -/
def execHareGo (core : Nat) (val : Word) (s : State) : Res :=
  onCoreId core (.next (s.coreStore core Reg.FAB.HARE_GO.reg (fun p _ => s.hareGo p core val.toNat)))

/-! ## Parts and results from neighbours -/

/-- Record a PARTITION_VIOLATION in a page of the partition that holds a resource (R306, Table 15.13). -/
def State.packetViolation (s : State) (cls p : Nat) : State := s.pageFault (page cls p) codeViolation 0 0

/-- A part of a combine group in the table: forwarded round its ring, then combined or kept (R318, R319). -/
def State.partIn (s : State) (port : Nat) (k : Packet) : State :=
  let g := field k.arg 63 48
  let op := field k.arg 47 40
  let ring := field k.arg 39 32
  let hops := field k.arg 31 24
  match s.combineOf g with
  | none => s.portLost port
  | some e =>
    if k.tenant ≠ s.owner e.pid then s.packetViolation 0x0540 e.pid
    else if (pktPayload k).length ≠ 64 ∨ !(opFits op e.mode) then s.portLost port
    else if (s.hareOp g k.tag op).isNone ∧ s.hareFull g e.pid then s.onFab (fun f => { f with held := f.held ++ [(port, k)] })
    else
      let s1 := match e.mode with
        | .spread rings =>
          match rings[ring]? with
          | some r =>
            if hops = 0 then s
            else s.hareSend (if port = codePort r.minus then r.plus else r.minus) 0 e.pid k.tag (partArg g op ring (hops - 1)) (pktPayload k)
          | none => s
        | .tree _ _ => s
      let x := (s1.hareOp g k.tag op).getD (HareOp.fresh g k.tag op e.pid)
      (s1.setHareOp g k.tag op [{ x with parts := x.parts ++ [⟨port, ring, hops, pktPayload k⟩] }]).hareRun g k.tag op 5

/-- Take the withheld parts whose group has room again, in order. -/
def State.releaseHeld (s : State) : State :=
  s.fab.held.foldl (fun t k => t.partIn k.1 k.2) (s.onFab (fun f => { f with held := [] }))

/-- A HARE_PART by a port. -/
def State.harePart (s : State) (port : Nat) (k : Packet) : State := (s.partIn port k).releaseHeld

/-! ## The combine table (R321) -/

/-- Bytes of entry `i` of the list at COMBINE_ADDR, if they are there. -/
def State.combineBytes (s : State) (p i : Nat) : Option (List Byte) :=
  match s.resolve (.part p) (s.get Reg.FAB.COMBINE_ADDR.combine_addr p + 32 * i) 32 with
  | .ok a => some (s.readBytes a 32)
  | .error _ => none

/-- Ring word `i` of an entry. -/
def ringWord (b : List Byte) (i : Nat) : Nat := leNat ((b.drop (8 + 4 * i)).take 4)

/-- A ring from its word (Table 15.11). -/
def ringOf (w : Nat) : Ring := ⟨field w 31 26, field w 25 20, field w 19 13, field w 12 7⟩

/-- Is a ring word in range? -/
def ringOk (w : Nat) : Bool :=
  let r := ringOf w
  field w 6 0 == 0 && decide (2 ≤ r.len) && decide (r.len ≤ 64) && decide (r.pos < r.len) && decide (r.plus ≤ 33) && decide (r.minus ≤ 33)

/-- Combine group of an entry. -/
def ceGroup (b : List Byte) : Nat := leNat (b.take 2)

/-- The entry's content, if it passes the checks of LOAD. -/
def combineEntry (p : Nat) (b : List Byte) : Option Combine :=
  let mode := leNat ((b.drop 2).take 1)
  let n := leNat ((b.drop 3).take 1)
  let t := leNat ((b.drop 20).take 4)
  let m := leNat ((b.drop 24).take 8)
  if leNat ((b.drop 4).take 4) ≠ 0 ∨ bit t 30 ∨ field t 23 0 ≠ 0 ∨ m / 2 ^ 34 ≠ 0 then none
  else if mode = 0 then
    if n = 0 ∨ 3 < n ∨ t ≠ 0 ∨ m ≠ 0 ∨ !((upTo n).all (fun i => ringOk (ringWord b i))) ∨
        !((upTo 3).all (fun i => decide (i < n) || ringWord b i == 0)) then none
    else some ⟨p, .spread ((upTo n).map (fun i => ringOf (ringWord b i)))⟩
  else if mode = 1 then
    if n ≠ 0 ∨ !((upTo 3).all (fun i => ringWord b i == 0)) ∨ 33 < field t 29 24 then none
    else some ⟨p, .tree (if bit t 31 then some (field t 29 24) else none) m⟩
  else none

/-- The status of a combine command, and the groups the partition then holds. -/
def State.combineStatus (s : State) (p code : Nat) : State :=
  (s.set Reg.FAB.COMBINE_STATUS.last_status p code).set Reg.FAB.COMBINE_STATUS.groups p
    (s.fab.groups.filter (fun e => e.2.pid == p)).length

/-- LOAD: all entries of the list at one instant, or none. -/
def State.combineLoad (s : State) (p n : Nat) : State :=
  let raw := (upTo n).map (fun i => s.combineBytes p i)
  let bs := raw.filterMap id
  let es := bs.filterMap (fun b => (combineEntry p b).map (fun e => (ceGroup b, e)))
  let table := es.foldl (fun m e => Map.put m e.1 e.2) s.fab.groups
  let bad := decide (n = 0) || decide (1024 < n) || decide (es.length ≠ n)
  let foreign := es.any (fun e => (s.combineOf e.1).any (fun c => c.pid != p))
  if bad then s.combineStatus p stCommandInvalid
  else if foreign then s.combineStatus p codeViolation
  else if 1024 < table.length then s.combineStatus p stRegOvercommit
  else ((s.onFab (fun f => { f with groups := table })).extendMeas 4 bs.flatten).combineStatus p stComplete

/-- REMOVE: groups the partition holds, none with an operation in progress. -/
def State.combineRemove (s : State) (p n : Nat) : State :=
  let raw := (upTo n).map (fun i => s.combineBytes p i)
  let bs := raw.filterMap id
  let gs := bs.map ceGroup
  let ok := decide (n ≠ 0) && decide (n ≤ 1024) && decide (bs.length = n) &&
    gs.all (fun g => (s.combineOf g).any (fun c => c.pid == p) && !(s.fab.ops.any (fun x => x.group == g)))
  if ok then ((s.onFab (fun f => { f with groups := gs.foldl (fun m g => Map.del m g) f.groups })).extendMeas 4 bs.flatten).combineStatus
    p stComplete
  else s.combineStatus p stCommandInvalid

/-- A write of FAB.COMBINE_CMD: code of a core may not give it. -/
def State.combineCommand (s : State) (r : Requester) (p cmd n : Nat) : State :=
  if isCoreCode r then s.regFault (regOff Reg.FAB.COMBINE_CMD.cmd p) stCommandInvalid
  else if cmd = 1 then s.combineLoad p n
  else if cmd = 2 then s.combineRemove p n
  else s.combineStatus p stCommandInvalid

/-- COMBINE_LOAD. -/
def execCombineLoad (r : Requester) (pid count : Nat) (s : State) : Res :=
  onPid pid (.next (s.guard r (regOff Reg.FAB.COMBINE_CMD.cmd pid) (s.combineCommand r pid 1 count)))

/-- COMBINE_REMOVE. -/
def execCombineRemove (r : Requester) (pid count : Nat) (s : State) : Res :=
  onPid pid (.next (s.guard r (regOff Reg.FAB.COMBINE_CMD.cmd pid) (s.combineCommand r pid 2 count)))

end Sys2Proof.Machine
end

