-- ==== Sys2Proof/Machine/Sampler.lean ====
section
/-! DEFINITION. Ordered sums (R179), the softmax procedure over blocks (R176, R177) and the sampling of a token from the
logits of a row (R241-R244), without state. -/
namespace Sys2Proof.Machine

/-- −∞. -/
def fNegInf : Word := infW true

/-- x < y on numbers; false with a NaN. -/
def flt (x y : Word) : Bool := fcmp 1 x y

/-- FP32 sum, difference and product, nearest-even. -/
def fAdd (x y : Word) : Word := (fadd x y).1
/-- Difference. -/
def fSub (x y : Word) : Word := (fsub x y).1
/-- Product. -/
def fMul (x y : Word) : Word := (fmul x y).1

/-! ## Ordered sums (R179) -/

/-- Cut a row into registers of 64 lanes (fuel: the row's length). -/
def registers : Nat → List Word → List (List Word)
  | 0, _ => []
  | _ + 1, [] => []
  | n + 1, l => l.take 64 :: registers n (l.drop 64)

/-- Add a register to the lane sums; lanes it does not have keep theirs. -/
def addLanes : List Word → List Word → List Word
  | a :: as, x :: xs => fAdd a x :: addLanes as xs
  | as, _ => as

/-- The ordered sum of registers: lane-wise from +0, then the tree of R111 over the lanes that any register has. -/
def orderedSumRegs (rs : List (List Word)) : Word :=
  let sums := rs.foldl addLanes (List.replicate 64 (0 : Word))
  let n := rs.foldl (fun acc r => max acc r.length) 0
  (((tree64 (optComb fAdd) ((upTo 64).map (fun i => if i < n then some (sums.getD i 0) else none))).bind id).getD 0)

/-- The ordered sum of a row. -/
def orderedSum (l : List Word) : Word := orderedSumRegs (registers l.length l)

/-! ## Softmax (R176, R177) -/

/-- The running state: maximum and sum. -/
structure SmState where
  m : Word
  sum : Word
  deriving DecidableEq, Repr

/-- The maximum of a block, NaN ignored (R110, R176). -/
def blockMax (z : List Word) : Word :=
  (registers z.length z).foldl (fun acc r => fmax acc
    (((tree64 (optComb fmax) ((upTo 64).map (fun i => r[i]?))).bind id).getD fNegInf)) fNegInf

/-- 2^x. -/
def fExp2 (x : Word) : Word := (sfEval 0x0D x).1

/-- One block of the procedure of R176. -/
def smBlock (st : SmState) (z : List Word) : SmState :=
  let mn := fmax st.m (blockMax z)
  if mn = fNegInf then { st with sum := if z.any isNaN32 then canonNaN else st.sum }
  else
    let a := fExp2 (fSub st.m mn)
    let sb := orderedSum (z.map (fun x => fExp2 (fSub x mn)))
    ⟨mn, (ffma st.sum a sb).1⟩

/-- The state after every block. -/
def smRow (blocks : List (List Word)) : SmState := blocks.foldl smBlock ⟨fNegInf, 0⟩

/-- Is a value ±0? -/
def isZeroW (x : Word) : Bool := x &&& 0x7FFFFFFF#32 == 0

/-- The p of a score. -/
def smP (st : SmState) (z : Word) : Word :=
  if isZeroW st.sum then 0 else fMul (fExp2 (fSub z st.m)) (sfEval 0x07 st.sum).1

/-- The lp of a score: its natural log-probability. -/
def smLp (st : SmState) (z : Word) : Word :=
  if isZeroW st.sum then fNegInf else fSub (fMul (fSub z st.m) cLN2) (sfEval 0x01 st.sum).1

/-! ## Order of scores -/

/-- Does score `a` rank before `b` in descending order: a NaN before every number, +0 before −0 (the VFMAX order of R110)? -/
def ranksBefore (a b : Word) : Bool :=
  if isNaN32 a then !(isNaN32 b)
  else if isNaN32 b then false
  else if flt b a then true
  else if flt a b then false
  else !a.msb && b.msb

/-- Token IDs in descending score, ties to the lower ID. -/
def descending (z : List Word) : List Nat :=
  (sortBy (fun a b => !(ranksBefore b.1 a.1)) z.zipIdx).map Prod.snd

/-- The lowest ID among the largest numbers; none where no score is a number. -/
def argMax (z : List Word) : Option Nat :=
  (z.zipIdx.foldl (fun (acc : Option (Word × Nat)) x =>
    if isNaN32 x.1 then acc
    else match acc with
      | none => some x
      | some y => if ranksBefore x.1 y.1 then some x else acc) none).map Prod.snd

/-! ## A draw (R241, R242) -/

/-- Cut a flat row back into the blocks of each shard. -/
def cutBlocks : List Nat → List Word → List (List Word)
  | [], _ => []
  | n :: ns, l => l.take n :: cutBlocks ns (l.drop n)

/-- Step 2: every token outside the `k` largest takes −∞. -/
def keepTop (k : Nat) (z : List Word) : List Word :=
  if k = 0 then z
  else
    let keep := (descending z).take k
    z.zipIdx.map (fun x => if keep.contains x.2 then x.1 else fNegInf)

/-- The shortest leading run whose accumulated p reaches top_p, given IDs with their p; none where it never does. -/
def nucleus (topP : Word) : List (Nat × Word) → Word → List Nat → Option (List Nat)
  | [], _, _ => none
  | (j, pj) :: l, acc, run =>
    let a := fAdd acc pj
    if fcmp 2 topP a then some (run ++ [j]) else nucleus topP l a (run ++ [j])

/-- Step 3: outside the kept run the scores take −∞; a run that never reaches top_p keeps every candidate. -/
def keepNucleus (topP : Word) (lens : List Nat) (z : List Word) : List Word :=
  if !(flt topP fOne) then z
  else
    let st := smRow (cutBlocks lens z)
    let cand := (descending z).filter (fun j => z.getD j 0 != fNegInf)
    match nucleus topP (cand.map (fun j => (j, smP st (z.getD j 0)))) 0 [] with
    | none => z
    | some keep => z.zipIdx.map (fun x => if keep.contains x.2 then x.1 else fNegInf)

/-- Walk a shard's p upward: the first ID whose running sum added to `base` exceeds `u`. -/
def walkShard (u base : Word) : List Word → Nat → Word → Option Nat
  | [], _, _ => none
  | pj :: l, j, acc =>
    let a := fAdd acc pj
    if flt u (fAdd base a) then some j else walkShard u base l (j + 1) a

/-- Walk the shards in order: each earlier shard contributes its ordered sum (R242). -/
def walkShards (u : Word) : List (List (List Word)) → Nat → Word → Option Nat
  | [], _, _ => none
  | sh :: rest, j, base =>
    let flat := sh.flatten
    match walkShard u base flat j 0 with
    | some t => some t
    | none => walkShards u rest (j + flat.length) (fAdd base (orderedSumRegs (sh.flatMap (fun b => registers b.length b))))

/-- The highest ID with p above +0. -/
def lastAbove (ps : List Word) : Option Nat := (ps.zipIdx.filter (fun x => flt 0 x.1)).getLast?.map Prod.snd

/-- Group a list as the shards' block counts say. -/
def cutShards {α : Type} : List Nat → List α → List (List α)
  | [], _ => []
  | n :: ns, l => l.take n :: cutShards ns (l.drop n)

/-- The settings of a draw (Table 11.1). -/
structure DrawCfg where
  invTemp : Word
  topP : Word
  topK : Nat
  seed : DWord
  base : DWord
  deriving DecidableEq, Repr

/-- The token for position q + 1 and its behaviour_logprob from the row at q, by shards and blocks (R241, R242); no token
where the spec names none. -/
def drawToken (cfg : DrawCfg) (q : Nat) (row : List (List (List Word))) : Option Nat × Word :=
  let flat := (row.map List.flatten).flatten
  let lens := row.flatMap (fun sh => sh.map List.length)
  if cfg.invTemp = 0 then (argMax flat, 0)
  else
    let k2 := fMul cfg.invTemp cL2E
    let z := keepNucleus cfg.topP lens (keepTop cfg.topK (flat.map (fun x => fMul x k2)))
    let st := smRow (cutBlocks lens z)
    let ps := z.map (smP st)
    let w := rngWord cfg.seed (cfg.base + BitVec.ofNat 64 (q + 1))
    let u := (dyF32 false ⟨(w.toNat / 256 : Nat), -24⟩).1
    let t := (walkShards u (cutShards (row.map List.length) (cutBlocks lens ps)) 0 0).orElse (fun _ => lastAbove ps)
    (t, match t with
      | some j => smLp st (z.getD j 0)
      | none => smLp st (z.headD 0))

end Sys2Proof.Machine
end

