-- ==== Sys2Proof/Machine/Reduce.lean ====
section
/-! DEFINITION. Exact gradient reduction (chapter 13) and the norm (R269, R270). Commands RED_OPEN to NORM_RESULT. -/
namespace Sys2Proof.Machine

/-! ## The group, the tables (R271, R272) -/

/-- N, held within 1 to 256. -/
def State.members (s : State) (p : Nat) : Nat := max 1 (min 256 (s.get Reg.RED.GROUP_CFG.members p))

/-- This device's member index. -/
def State.memberIdx (s : State) (p : Nat) : Nat := s.get Reg.RED.GROUP_CFG.member_index p

/-- G = ceil(log2(N + 1)). -/
def State.guardBits (s : State) (p : Nat) : Nat := log2 (s.members p) + 1

/-- A device ID of the member table, if it is there. -/
def State.memberDevice (s : State) (p i : Nat) : Option Nat :=
  match s.resolve (.part p) (s.get Reg.RED.MEMBER_TABLE.members_addr p + 4 * i) 4 with
  | .ok a => some (s.readN a 4 % 2 ^ 16)
  | .error _ => none

/-- An entry of the bucket table (Table 13.1). -/
structure BucketDef where
  runs : Nat
  parts : Nat
  first : Nat
  result : Nat
  deriving DecidableEq, Repr

/-- Buckets of the table: at least one, and no more than a bucket number can name. -/
def State.bucketCount (s : State) (p : Nat) : Nat := 1 + Config.bucketCount (s.get Reg.RED.BUCKET_TABLE.bucket_addr p) % 65536

/-- The entry of a bucket, if its address can be read. -/
def State.bucketDef (s : State) (p b : Nat) : Option BucketDef :=
  match s.resolve (.part p) (s.get Reg.RED.BUCKET_TABLE.bucket_addr p + 16 * b) 16 with
  | .ok a => some ⟨s.readN (a + 2) 2, s.readN a 2, s.readN (a + 4) 4, s.readN (a + 8) 4⟩
  | .error _ => none

/-- A run of a bucket (Table 13.2): its number, the core that holds it, its staging area and its result in that core's slice. -/
structure Run where
  k : Nat
  lcore : Nat
  stage : Nat
  result : Nat
  deriving DecidableEq, Repr

/-- Run `k` of a bucket, if its map entry can be read. -/
def State.runOf (s : State) (p : Nat) (d : BucketDef) (k : Nat) : Option Run :=
  let base := t1Addr (8 * (Config.runMap (s.get Reg.RED.BUCKET_TABLE.bucket_addr p) % 2 ^ 36))
  match s.resolve (.part p) (base + 8 * (d.first + k)) 8 with
  | .ok a =>
    let w := s.readN a 8
    some ⟨k, field w 63 54, field w 53 41 * 2048, field w 40 28 * 2048⟩
  | .error _ => none

/-- The runs of a bucket whose map entries can be read. -/
def State.runsOf (s : State) (p : Nat) (d : BucketDef) : List Run := (upTo d.runs).filterMap (fun k => s.runOf p d k)

/-- Owner of run `k` of a bucket (R271). -/
def State.runOwner (s : State) (p : Nat) (d : BucketDef) (k : Nat) : Nat := k / max 1 (d.runs / s.members p)

/-- Does this device own run `k`? -/
def State.owns (s : State) (p : Nat) (d : BucketDef) (k : Nat) : Bool :=
  decide (k < d.runs) && s.runOwner p d k == s.memberIdx p

/-- The global address of an owned run's result (R272). -/
def State.resultGlobal (s : State) (p : Nat) (d : BucketDef) (r : Run) : Nat :=
  if s.getBit Reg.RED.POLICY.dst_space p then
    s.get Reg.RED.RESULT_BASE.result_base p + 4096 * (d.result + (r.k - s.memberIdx p * (d.runs / s.members p)))
  else r.lcore * 2 ^ 24 + r.result

/-- The physical address of an owned run's result, if it passes R60. -/
def State.resultPhys (s : State) (p : Nat) (d : BucketDef) (r : Run) : Option Nat :=
  match s.resolve (.part p) (s.resultGlobal p d r) 4096 with
  | .ok a => some a
  | .error _ => none

/-- The physical address of a run's staging area, if it passes R60. -/
def State.stagePhys (s : State) (p : Nat) (r : Run) : Option Nat :=
  match s.resolve (.part p) (2 ^ 24 * r.lcore + r.stage) 4096 with
  | .ok a => some a
  | .error _ => none

/-- Cores holding runs of a bucket, each once. -/
def holders (l : List Run) : List Nat := (l.map (fun r => r.lcore)).eraseDups

/-- Is the map of a bucket valid (Table 13.4, MAP_INVALID)? -/
def State.mapValid (s : State) (p : Nat) (d : BucketDef) : Bool :=
  let l := s.runsOf p d
  decide (d.runs ≠ 0) && d.runs % s.members p == 0 && l.length == d.runs && (holders l).length == d.parts &&
  l.all (fun r => (s.stagePhys p r).isSome && (!(s.owns p d r.k) || (s.resultPhys p d r).isSome))

/-! ## Buckets -/

/-- A bucket of the step. -/
def State.bucket (s : State) (p b : Nat) : Bucket := Map.getD (s.red p).buckets b Bucket.zero

/-- Change a bucket. -/
def State.onBucket (s : State) (p b : Nat) (f : Bucket → Bucket) : State :=
  s.onRed p (fun r => { r with buckets := Map.put r.buckets b (f (Map.getD r.buckets b Bucket.zero)) })

/-- The step, modulo 2^16. -/
def State.step16 (s : State) (p : Nat) : Nat := (s.red p).step % 65536

/-- The burgee of a bucket (R268). -/
def State.burgee (s : State) (p b : Nat) : Nat := s.step16 p * 65536 + b

/-- The shared exponent of an empty bucket, and the one of a non-finite bucket (R162). -/
def expEmpty : Int := -(2 ^ 31)
/-- Non-finite. -/
def expNaN : Int := 128

/-- Is E one of the two special values (R276)? -/
def expSpecial (e : Int) : Bool := e == expEmpty || e == expNaN

/-- Write the scale word {E, G} to a core's mailbox slot and land its flag (R275, R280). -/
def State.scaleTo (s : State) (p l flag : Nat) (e : Int) : State :=
  match s.physical p l with
  | none => s
  | some c =>
    let a := (s.get Reg.RED.POLICY.mailbox p + 8 * flag) % 2 ^ 20
    (s.writeBytes (nearAddr c a) (leBytes 4 (s.guardBits p) ++ leBytes 4 (BitVec.ofInt 32 e).toNat)).landOn p c flag

/-- Land every notify of a bucket with a scale word. -/
def State.notifyAll (s : State) (p b : Nat) (e : Int) : State :=
  (s.bucket p b).notifies.foldl (fun t n => t.scaleTo p n.1 n.2 e) (s.onBucket p b (fun k => { k with notifies := [] }))

/-- A bucket is complete on this owner. -/
def State.bucketDone (s : State) (p b : Nat) : State :=
  ((s.onBucket p b (fun k => { k with state := .complete })).bump Reg.RED.STATUS.complete p 1).notifyAll p b
    ((s.bucket p b).shared.getD expNaN)

/-- A bucket fails (R281): the record, the event, the flags with NaN, the learner step. -/
def State.bucketFails (s : State) (p b cause : Nat) : State :=
  if (s.bucket p b).state ≠ BucketState.running then s
  else
    let s1 := (((s.onBucket p b (fun k => { k with state := .failed })).set Reg.RED.FAIL.bucket p b).set Reg.RED.FAIL.step p
      (s.step16 p)).set Reg.RED.FAIL.cause p cause
    let s2 := (s1.bump Reg.RED.STATUS.failed p 1).bump Reg.RED.FAILED.failures p 1
    let s3 := (s2.raise 0x04C0 p 0 (cause * 2 ^ 32 + s.burgee p b)).notifyAll p b expNaN
    (s3.faultRecord p (FaultRec.plain 2 stBurgeeFailed (s.red p).step 0 (cause * 2 ^ 16 + b))).stepFails p 1

/-- Is the bucket checked (R280)? -/
def State.checked (s : State) (p b : Nat) : Bool :=
  let c := min 6 (s.get Reg.RED.GROUP_CFG.check_log2 p)
  b % 2 ^ c == (s.red p).step % 2 ^ c

/-- Sum modulo 2^64 of the 8-byte words of a run. -/
def State.runSum (s : State) (a : Nat) : Nat := (upTo 512).foldl (fun n i => (n + s.readN (a + 8 * i) 8) % 2 ^ 64) 0

/-- The physical results this device owns in a bucket. -/
def State.ownedResults (s : State) (p : Nat) (d : BucketDef) : List Nat :=
  ((s.runsOf p d).filter (fun r => s.owns p d r.k)).filterMap (fun r => s.resultPhys p d r)

/-- Close the check of a bucket whose shard is whole (R280). -/
def State.bucketCheck (s : State) (p b : Nat) : State :=
  match s.bucketDef p b with
  | none => s
  | some d =>
    let k := s.bucket p b
    if k.state ≠ .running ∨ k.counted < 2 * d.runs then s
    else if !(s.checked p b) then s.bucketDone p b
    else match k.agreed with
      | none => s
      | some c =>
        let rs := s.ownedResults p d
        if rs.any (fun a => s.poisoned a 4096) then s.bucketFails p b 4
        else
          let s1 := s.bump Reg.RED.CHECKED.checked p 1
          if rs.foldl (fun n a => (n + s.runSum a) % 2 ^ 64) 0 = c.toNat then s1.bucketDone p b else s1.bucketFails p b 2

/-! ## The open (R273) -/

/-- RED.OPEN: the step named is the one the engine holds. -/
def State.redOpen (s : State) (p val : Nat) : State := s.onRed p (fun r => { r with want := some (field val 31 16) })

/-- RED_OPEN. -/
def execRedOpen (core : Nat) (val : Word) (s : State) : Res :=
  onCoreId core (.next (s.coreStore core Reg.RED.OPEN.reg (fun p _ => s.redOpen p val.toNat)))

/-- The full step number of a 16-bit one: the first not below the last step's (DEDUCED, log entry 47: the register gives 16
bits, the publication record 32). -/
def fullStep (last w : Nat) : Nat :=
  if last % 65536 ≤ w then last / 65536 * 65536 + w else (last / 65536 + 1) * 65536 + w

/-- Zero every owned result run. -/
def State.zeroResults (s : State) (p : Nat) : State :=
  (upTo (s.bucketCount p)).foldl (fun t b => match s.bucketDef p b with
    | some d => (s.ownedResults p d).foldl (fun u a => u.zeroRange a 4096) t
    | none => t) s

/-! ## Closes and the agreement (R274, R275) -/

/-- The fault of a store to a RED register. -/
def State.redFault (s : State) (f : Fld) (p code : Nat) : State := s.regFault (regOff f p) code

/-- The device exponent of a set of closes. -/
def deviceExp (l : List Close) : Int :=
  let es := l.filterMap (fun c => c.exp)
  if es.contains expNaN then expNaN else es.foldl max expEmpty

/-- The INT64 lane of an integer. -/
def lane64 (i : Int) : Nat := (BitVec.ofInt 64 i).toNat

/-- Eight lanes of which the first is given. -/
def laneFirst (n : Nat) : List Byte := laneBytes 8 (n :: List.replicate 7 0)

/-- The reduction group's combine group. -/
def State.redGroup (s : State) (p : Nat) : Nat := s.get Reg.RED.GROUP_CFG.combine_group p

/-- RED.CLOSE. -/
def State.redClose (s : State) (p l c val : Nat) : State :=
  let b := field val 31 16
  let flag := field val 15 10
  let cl : Close := ⟨l, flag, if bit val 9 then none else some (sext 9 (field val 8 0))⟩
  let bad := s.redFault Reg.RED.CLOSE.reg p stRedInvalid
  match s.bucketDef p b with
  | none => bad
  | some d =>
    let k := s.bucket p b
    if !(s.red p).isOpen ∨ s.bucketCount p ≤ b ∨ !((holders (s.runsOf p d)).contains l) ∨ k.closes.any (fun x => x.lcore == l) then bad
    else match s.armOn c flag with
      | none => s.redFault Reg.RED.CLOSE.reg p stFlagBusy
      | some t =>
        let s1 := t.onBucket p b (fun k => { k with closes := k.closes ++ [cl] })
        if !(s.mapValid p d) then s1.bucketFails p b 5
        else if (s1.bucket p b).closes.length < d.parts ∨ k.state ≠ .running then s1
        else
          let e := deviceExp (s1.bucket p b).closes
          (s1.onBucket p b (fun k => { k with entered := some e })).hareEnter p (s.redGroup p) (s.burgee p b) 0x02 (.exponent b)
            (laneFirst (lane64 e))

/-- RED_CLOSE. -/
def execRedClose (core : Nat) (val : Word) (s : State) : Res :=
  onCoreId core (.next (s.coreStore core Reg.RED.CLOSE.reg (fun p l => s.redClose p l core val.toNat)))

/-- E has formed (R275, R276): scale words and flags to the closers; a special one completes the bucket. -/
def State.exponentFormed (s : State) (p b : Nat) (e : Int) : State :=
  let k := s.bucket p b
  if !(s.red p).isOpen ∨ k.entered.isNone ∨ k.shared.isSome ∨ k.state ≠ .running then s
  else
    let s1 := k.closes.foldl (fun t c => t.scaleTo p c.lcore c.flag e) (s.onBucket p b (fun x => { x with shared := some e }))
    if expSpecial e then s1.bucketDone p b else s1

/-- EXPONENT_AGREED: `othersMax` is the maximum over the other members. -/
def execExponentAgreed (pid bucket : Nat) (othersMax : Int) (s : State) : Res :=
  onPid pid (.next (match (s.bucket pid bucket).entered with
    | some e => (s.hareTaken pid (.exponent bucket)).exponentFormed pid bucket (max e othersMax)
    | none => s))

/-! ## Staging and sending (R277-R279) -/

/-- Add half a run's 256 elements into an owned result; the adder's acknowledgement is still to come. -/
def State.addHalf (s : State) (p b : Nat) (d : BucketDef) (r : Run) (half : Nat) (bs : List Byte) (bad : Bool) : State :=
  match s.resultPhys p d r with
  | none => s
  | some a0 =>
    let a := a0 + 2048 * half
    let s1 := (upTo 256).foldl (fun t i => t.addWord (a + 8 * i) (leNat ((bs.drop (8 * i)).take 8))) s
    let s2 := if bad then s1.poisonRange a 2048 else s1
    (s2.onBucket p b (fun k => { k with unacked := k.unacked ++ [2 * r.k + half] })).bump Reg.RED.RECEIVED.received p 2048

/-- Send half a run to its owner as a remote accumulate. -/
def State.sendHalf (s : State) (p b dev : Nat) (r : Run) (half : Nat) (bs : List Byte) : State :=
  let k := mkPacket dev 2 0 (s.owner p) (s.burgee p b) 0 (r.k * 2 ^ 32 + half) bs
  (s.send { k with last := half == 1, ackReq := true }).bump Reg.RED.SENT.sent p 2048

/-- The two halves of a run: accumulated here by its owner, else sent to it. -/
def State.stageHalves (s : State) (p b o : Nat) (d : BucketDef) (r : Run) (bs : List Byte) : State :=
  if o = s.memberIdx p then
    (s.addHalf p b d r 0 (bs.take 2048) false).addHalf p b d r 1 (bs.drop 2048) false
  else match s.memberDevice p o with
    | some dev => (s.sendHalf p b dev r 0 (bs.take 2048)).sendHalf p b dev r 1 (bs.drop 2048)
    | none => s

/-- One staged run: to this device's adders, or to its owner. -/
def State.stageRun (s : State) (p b : Nat) (d : BucketDef) (r : Run) : State :=
  match s.stagePhys p r with
  | none => s
  | some a =>
    let o := s.runOwner p d r.k
    (s.onBucket p b (fun k => { k with
      sums := Map.adjust k.sums o 0 (fun n => n + BitVec.ofNat 64 (s.runSum a)) })).stageHalves p b o d r (s.readBytes a 4096)

/-- A member's checksum payload of message `m` (R280). -/
def checksumLanes (k : Bucket) (m : Nat) : List Byte :=
  laneBytes 8 ((upTo 8).map (fun i => (Map.getD k.sums (8 * m + i) 0).toNat))

/-- Enter the checksums of a bucket whose last run is sent. -/
def State.enterSums (s : State) (p b : Nat) : State :=
  (upTo (ceilDiv (s.members p) 8)).foldl (fun t m =>
    t.hareEnter p (s.redGroup p) (s.burgee p b) 0x01 (.checksum b m) (checksumLanes (s.bucket p b) m))
    (s.onBucket p b (fun k => { k with summed := true }))

/-- RED.STAGED by logical core `l`: its runs are read in order; a poisoned one fails the bucket and stops the sending. -/
def State.redStaged (s : State) (p l val : Nat) : State :=
  let b := field val 31 16
  let k := s.bucket p b
  match s.bucketDef p b, k.shared with
  | some d, some e =>
    if !(s.red p).isOpen ∨ expSpecial e ∨ k.state = .failed ∨ k.staged.contains l ∨ !(k.closes.any (fun c => c.lcore == l)) then s
    else
      let mine := (s.runsOf p d).filter (fun r => r.lcore == l)
      let clean := mine.takeWhile (fun r => (s.stagePhys p r).all (fun a => !(s.poisoned a 4096)))
      let s1 := clean.foldl (fun t r => t.stageRun p b d r) s
      if clean.length < mine.length then s1.bucketFails p b 4
      else
        let s2 := s1.onBucket p b (fun k => { k with staged := k.staged ++ [l] })
        if (s2.bucket p b).staged.length = d.parts ∧ s.checked p b then s2.enterSums p b else s2
  | _, _ => s

/-- RED_STAGED. -/
def execRedStaged (core : Nat) (val : Word) (s : State) : Res :=
  onCoreId core (.next (s.coreStore core Reg.RED.STAGED.reg (fun p l => s.redStaged p l val.toNat)))

/-- RED.NOTIFY: a complete or failed bucket lands at once. -/
def State.redNotify (s : State) (p l c val : Nat) : State :=
  let b := field val 31 16
  let flag := field val 15 10
  if !(s.red p).isOpen ∨ s.bucketCount p ≤ b then s.redFault Reg.RED.NOTIFY.reg p stRedInvalid
  else match s.armOn c flag with
    | none => s.redFault Reg.RED.NOTIFY.reg p stFlagBusy
    | some t =>
      match (s.bucket p b).state with
      | .running => t.onBucket p b (fun k => { k with notifies := k.notifies ++ [(l, flag)] })
      | .complete => t.scaleTo p l flag ((s.bucket p b).shared.getD expNaN)
      | .failed => t.scaleTo p l flag expNaN

/-- RED_NOTIFY. -/
def execRedNotify (core : Nat) (val : Word) (s : State) : Res :=
  onCoreId core (.next (s.coreStore core Reg.RED.NOTIFY.reg (fun p l => s.redNotify p l core val.toNat)))

/-- A remote accumulate arrives (R279): added, or discarded as late. -/
def State.raccIn (s : State) (p : Nat) (k : Packet) : State :=
  let b := k.tag % 65536
  let run := field k.arg 47 32
  let half := field k.arg 0 0
  let late := s.bump Reg.RED.LATE_DROPS.late_drops p 1
  let s1 := match s.bucketDef p b with
    | none => late
    | some d =>
      if !(s.red p).isOpen ∨ k.tag / 65536 ≠ s.step16 p ∨ (s.bucket p b).state ≠ BucketState.running ∨ !(s.owns p d run) ∨
          (pktPayload k).length ≠ 2048 then late
      else match s.runOf p d run with
        | none => late
        | some r => s.addHalf p b d r half (pktPayload k) (k.poison != 0)
  s1.ackPacket k

/-- RACC_ARRIVAL. -/
def execRaccArrival (pid : Nat) (pkt : Packet) (s : State) : Res :=
  onPid pid (.next (if !(s.reach .firmware (regOff Reg.RED.STATUS.reg pid)) then s
    else if pkt.tenant = s.owner pid then s.raccIn pid pkt else s.packetViolation 0x04C0 pid))

/-- An adder acknowledges a half-run: it is counted, and the shard is whole at 2R. -/
def State.raccAcked (s : State) (p b h : Nat) : State :=
  let k := s.bucket p b
  if k.unacked.contains h ∧ (s.red p).isOpen then
    (s.onBucket p b (fun x => { x with unacked := x.unacked.erase h, counted := x.counted + 1 })).bucketCheck p b
  else s

/-- RACC_ACKNOWLEDGED. -/
def execRaccAcknowledged (pid bucket halfRun : Nat) (s : State) : Res := onPid pid (.next (s.raccAcked pid bucket halfRun))

/-! ## The check and the failures (R280-R282) -/

/-- The checksum SUM has formed: this owner's lane is `c`. -/
def State.checksumFormed (s : State) (p b : Nat) (c : DWord) : State :=
  let k := s.bucket p b
  if k.summed ∧ k.agreed.isNone ∧ k.state = .running then (s.onBucket p b (fun x => { x with agreed := some c })).bucketCheck p b
  else s

/-- CHECKSUM_RESULT: `othersSum` is the sum of the other members' checksums for this owner. -/
def execChecksumResult (pid bucket : Nat) (othersSum : DWord) (s : State) : Res :=
  onPid pid (.next ((s.hareTaken pid (.checksum bucket (s.memberIdx pid / 8))).checksumFormed pid bucket
    (Map.getD (s.bucket pid bucket).sums (s.memberIdx pid) 0 + othersSum)))

/-- deadline_us after E: a shard not whole, or a closer that has not staged. -/
def State.deadline (s : State) (p b : Nat) : State :=
  let k := s.bucket p b
  match s.bucketDef p b, k.shared with
  | some d, some e =>
    if expSpecial e ∨ !(s.red p).isOpen then s
    else if k.counted < 2 * d.runs then s.bucketFails p b 1
    else if k.closes.any (fun c => !(k.staged.contains c.lcore)) then s.bucketFails p b 6
    else s
  | _, _ => s

/-- BUCKET_DEADLINE. -/
def execBucketDeadline (pid bucket : Nat) (s : State) : Res := onPid pid (.next (s.deadline pid bucket))

/-- AGREE_TIMEOUT: entered, and E not formed. -/
def execAgreeTimeout (pid bucket : Nat) (s : State) : Res :=
  onPid pid (.next (if (s.bucket pid bucket).entered.isSome ∧ (s.bucket pid bucket).shared.isNone ∧ (s.red pid).isOpen then
    s.bucketFails pid bucket 3 else s))

/-- The group has quiesced: the replay's open may complete (R282). -/
def State.quiesced (s : State) (p : Nat) : State :=
  if (s.red p).noisy then (s.onRed p (fun r => { r with noisy := false })).set Reg.RED.STATUS.quiescing p 0 else s

/-- QUIESCENCE_DONE. -/
def execQuiescenceDone (pid : Nat) (s : State) : Res := onPid pid (.next ((s.hareTaken pid .quiesce).quiesced pid))

/-- Is every bucket this device owns complete (R282)? -/
def State.allComplete (s : State) (p : Nat) : Bool :=
  (upTo (s.bucketCount p)).all (fun b => (s.bucket p b).state == .complete)

/-- The reduction condition of the commit (R282). -/
def State.redPasses (s : State) (p : Nat) : Bool := (s.red p).isOpen && s.allComplete p

/-! ## The norm (R269, R270) -/

/-- The FP32 gradient elements of an owned run (R164): NaN for a non-finite bucket. -/
def State.runGrads (s : State) (p : Nat) (e : Int) (a : Nat) : List Word :=
  if e = expNaN then List.replicate 512 canonNaN
  else if e = expEmpty then List.replicate 512 0
  else (upTo 512).map (fun i => (flt64 (BitVec.ofNat 64 (s.readN (a + 8 * i) 8)) (61 - (s.guardBits p : Int) - e)).1)

/-- The owned runs of the step with their results and shared exponents, in ascending ordinal. -/
def State.ownedRuns (s : State) (p : Nat) : List (Nat × Nat × Run × Int × Nat) :=
  sortBy (fun a b => decide (a.1 ≤ b.1)) ((upTo (s.bucketCount p)).flatMap (fun b => match s.bucketDef p b with
    | none => []
    | some d => ((s.runsOf p d).filter (fun r => s.owns p d r.k)).filterMap (fun r => (s.resultPhys p d r).map (fun a =>
        (d.result + (r.k - s.memberIdx p * (d.runs / s.members p)), b, r, (s.bucket p b).shared.getD expNaN, a)))))

/-- Lane sums with g × g fused into them, register by register (R269). -/
def sqLanes : List Word → List Word → List Word
  | a :: as, g :: gs => (ffma g g a).1 :: sqLanes as gs
  | as, _ => as

/-- The ordered sum of g × g over one core's runs. -/
def coreSq (gs : List Word) : Word :=
  let sums := (registers gs.length gs).foldl sqLanes (List.replicate 64 (0 : Word))
  ((tree64 (optComb fAdd) (sums.map some)).bind id).getD 0

/-- The partial p of this device: cores in ascending logical number (R269, R179). -/
def State.normPartial (s : State) (p : Nat) : Word :=
  let runs := s.ownedRuns p
  ((sortBy (fun a b => decide (a ≤ b)) ((runs.map (fun x => x.2.2.1.lcore)).eraseDups)).map (fun l =>
    coreSq ((runs.filter (fun x => x.2.2.1.lcore == l)).flatMap (fun x => s.runGrads p x.2.2.2.1 x.2.2.2.2)))).foldl fAdd 0

/-- The eight lanes of a partial (Table 12.5). -/
def normLanes (w : Word) : List Nat :=
  match decF32 w with
  | .nan => List.replicate 7 0 ++ [2 ^ 32]
  | .inf _ => List.replicate 7 0 ++ [1]
  | .num _ m e =>
    let big := m * 2 ^ (e + 152).toNat
    (upTo 7).map (fun i => big / 2 ^ (40 * i) % 2 ^ 40) ++ [0]

/-- The squared norm from the summed lanes (R270). -/
def normOf (l : List Nat) : Word :=
  let last := l.getD 7 0
  if field last 63 32 ≠ 0 then canonNaN
  else if field last 31 0 ≠ 0 then infW false
  else (dyF32 false ⟨((upTo 7).foldl (fun n i => n + l.getD i 0 * 2 ^ (40 * i)) 0 : Nat), -152⟩).1

/-- NORM_RESULT: every owned bucket is complete; the lanes are this device's and the others'. -/
def State.normFormed (s : State) (p : Nat) (others : List DWord) : State :=
  if !(s.redPasses p) ∨ (s.red p).norm.isSome then s
  else
    let q := normOf (List.zipWith (fun a b => (a + b) % 2 ^ 64) (normLanes (s.normPartial p))
      ((upTo 8).map (fun i => (others.getD i 0).toNat)))
    ((s.onRed p (fun r => { r with norm := some q })).set Reg.UPD.NORM.sq_norm p q.toNat).emit
      (.normEntered p ((normLanes (s.normPartial p)).map (BitVec.ofNat 64)))

/-- NORM_RESULT. -/
def execNormResult (pid : Nat) (othersLanes : List DWord) (s : State) : Res := onPid pid (.next (s.normFormed pid othersLanes))

end Sys2Proof.Machine
end

