-- ==== Sys2Proof/Machine/Update.lean ====
section
/-! DEFINITION. The parameter update (chapter 14) and the open of a learner step (R273). Commands STEP_OPEN_DONE, UPDATE_START,
WEIGHT_GATHER, UPDATE_STAGED, GATHER_TIMEOUT. -/
namespace Sys2Proof.Machine

/-! ## The latched registers (R301) -/

/-- The registers latched at an open: window offsets of CFG to RATE, CONST0 to 15, PROG0 to 31. -/
def updLatched : List Nat :=
  (upTo 11).map (fun i => Reg.UPD.CFG.reg.reg + 8 * i) ++ (upTo 16).map (fun i => Reg.UPD.CONST.reg.reg + 8 * i) ++
    (upTo 32).map (fun i => Reg.UPD.PROG.reg.reg + 8 * i)

/-- A latched field. -/
def State.latched (s : State) (p : Nat) (f : Fld) : Nat := field (Map.getD (s.upd p).latch f.reg 0) f.hi f.lo

/-- Program word `i`. -/
def State.progWord (s : State) (p i : Nat) : Nat := s.latched p ⟨Reg.UPD.PROG.reg.reg + 8 * i, 31, 0⟩

/-- Constant `i`. -/
def State.progConst (s : State) (p i : Nat) : Word := BitVec.ofNat 32 (s.latched p ⟨Reg.UPD.CONST.reg.reg + 8 * i, 31, 0⟩)

/-- A format code of UPD.CFG; one that Table 14.6 does not list is taken as MXFP8 E4M3 (log entry 27). -/
def State.updFmt (s : State) (p : Nat) (f : Fld) (ok : List Nat) : Nat :=
  let c := s.latched p f
  if ok.contains c then c else 2

/-- Weight format. -/
def State.wFmt (s : State) (p : Nat) : Nat := s.updFmt p Reg.UPD.CFG.w_fmt [2, 3, 4, 5, 6, 7]
/-- First-moment format. -/
def State.mFmt (s : State) (p : Nat) : Nat := s.updFmt p Reg.UPD.CFG.m_fmt [2, 3, 7]
/-- Second-moment format. -/
def State.vFmt (s : State) (p : Nat) : Nat := s.updFmt p Reg.UPD.CFG.v_fmt [2, 3, 7]

/-- The slot a learner updates (R22): the one that holds an ACTIVE buffer. -/
def State.learnSlot (s : State) (p : Nat) : Option Nat := (upTo 256).find? (fun n => (s.bufIn p n 3).isSome)

/-- The ACTIVE buffer of the learner's slot. -/
def State.readBuf (s : State) (p : Nat) : Option (Nat × Nat) :=
  (s.learnSlot p).bind (fun n => (s.bufIn p n 3).map (fun b => (n, b)))

/-- Weight-plane base of buffer `b`. -/
def State.wBase (s : State) (p b : Nat) : Nat := s.latched p (if b = 0 then Reg.UPD.WBASE0.wbase0 else Reg.UPD.WBASE1.wbase1)
/-- State-area base of buffer `b`. -/
def State.sBase (s : State) (p b : Nat) : Nat := s.latched p (if b = 0 then Reg.UPD.SBASE0.sbase0 else Reg.UPD.SBASE1.sbase1)

/-! ## Failure (R300) -/

/-- The update fails for a cause of Table 14.5; the first one counts. -/
def State.updFails (s : State) (p cause addr : Nat) : State :=
  if (s.upd p).cause.isSome then s
  else
    let s1 := (s.onUpd p (fun u => { u with cause := some cause })).set Reg.UPD.STATUS.state p 5
    let s2 := (s1.set Reg.UPD.FAIL.step p (s.step16 p)).set Reg.UPD.FAIL.cause p cause
    (s2.faultRecord p { FaultRec.plain 3 stUpdateFailed (s.red p).step 0 cause with addr := addr }).stepFails p 2

/-! ## The microprogram (R290, R291) -/

/-- Operands that an operation reads (Table 14.3); none for an op that is not listed. -/
def progArity (op : Nat) : Option Nat :=
  match op with
  | 0x01 | 0x02 | 0x03 | 0x05 | 0x06 => some 2
  | 0x04 | 0x09 => some 3
  | 0x07 | 0x08 | 0x10 | 0x11 | 0x12 | 0x13 | 0x14 => some 1
  | _ => none

/-- Operand code `i` of a word: a, b, c. -/
def progArg (w i : Nat) : Nat := match i with
  | 0 => field w 21 17
  | 1 => field w 16 12
  | _ => field w 11 7

/-- Destination of a word. -/
def progDst (w : Nat) : Nat := field w 25 22

/-- The operand code that reads a destination: a temporary, MN, VN. -/
def dstRead (d : Nat) : Nat := match d with
  | 9 => 14
  | 10 => 15
  | d => d

/-- The program up to its first END. -/
def program (words : List Nat) : List Nat := words.takeWhile (fun w => decide (field w 31 26 ≠ 0))

/-- Must an operand code have been written before it is read? -/
def mustWrite (c : Nat) : Bool := decide (c < 8) || c == 14 || c == 15

/-- Is a program valid from here on (R291); `seen` are the operand codes written so far. -/
def progValid : List Nat → List Nat → Bool
  | [], seen => seen.contains 40
  | w :: ws, seen =>
    match progArity (field w 31 26) with
    | none => false
    | some n =>
      w % 128 == 0 && decide (progDst w ≤ 10) &&
      (upTo n).all (fun i => !(mustWrite (progArg w i)) || seen.contains (progArg w i)) &&
      progValid ws ((if progDst w = 8 then 40 else dstRead (progDst w)) :: seen)

/-- The words of the program. -/
def State.progWords (s : State) (p : Nat) : List Nat := (upTo 32).map (fun i => s.progWord p i)

/-- Is the program of the step valid? The END word too has no reserved bit set. -/
def State.programOk (s : State) (p : Nat) : Bool :=
  progValid (program (s.progWords p)) [] && ((s.progWords p).find? (fun w => field w 31 26 == 0)).all (fun w => w % 128 == 0)

/-- One operation of Table 14.3. -/
def progEval (op : Nat) (a b c : Word) : Word :=
  match op with
  | 0x01 => fAdd a b
  | 0x02 => fSub a b
  | 0x03 => fMul a b
  | 0x04 => (ffma a b c).1
  | 0x05 => fmin a b
  | 0x06 => fmax a b
  | 0x07 => (VOp.lane .vfabs 0 a b c).1
  | 0x08 => (VOp.lane .vfneg 0 a b c).1
  | 0x09 => if flt 0 a then b else c
  | 0x10 => (sfEval 0x09 a).1
  | 0x11 => (sfEval 0x08 a).1
  | 0x12 => (sfEval 0x07 a).1
  | 0x13 => (sfEval 0x00 a).1
  | _ => (sfEval 0x01 a).1

/-- Run a program over an element: `env` holds the operand codes, 40 the new master weight. -/
def progRun (env : Map Word) (ws : List Nat) : Map Word :=
  ws.foldl (fun m w =>
    let v := fun i => Map.getD m (progArg w i) 0
    Map.put m (if progDst w = 8 then 40 else dstRead (progDst w)) (progEval (field w 31 26) (v 0) (v 1) (v 2))) env

/-! ## The update map (R294) -/

/-- An update-map entry (Table 14.4). -/
structure MapEntry where
  woff : Nat
  soff : Nat
  pbase : Nat
  precond : Nat
  rows : Nat
  cols : Nat
  h : Nat
  deriving DecidableEq, Repr

/-- The entry of an ordinal, if its address passes R60 and R200. -/
def State.mapEntry (s : State) (p ord : Nat) : Option MapEntry :=
  match s.resolve (.part p) (s.latched p Reg.UPD.MAP_BASE.map_base + 32 * ord) 32 with
  | .error _ => none
  | .ok a =>
    let w := s.readN (a + 24) 4
    some ⟨field (s.readN a 8) 39 0, field (s.readN (a + 8) 8) 39 0, field (s.readN (a + 16) 8) 38 0, field w 31 16,
      field w 13 7, field w 6 0, field (s.readN (a + 28) 4) 2 0⟩

/-- Row and column in its weight block of element `e` of part `h` (R286). -/
def elemRow (h e : Nat) : Nat := 32 * (h % 2) + e % 32
/-- Column. -/
def elemCol (h e : Nat) : Nat := 16 * (h / 2) + e / 32

/-- Is an element padding (R293)? -/
def MapEntry.pads (m : MapEntry) (e : Nat) : Bool := decide (m.rows ≤ elemRow m.h e) || decide (m.cols ≤ elemCol m.h e)

/-- The physical place of `n` bytes at a base and offset. -/
def State.updPlace (s : State) (p base off n : Nat) : Option Nat :=
  match s.resolve (.part p) (base + off) n with
  | .ok a => some a
  | .error _ => none

/-- An owned run with its entry and its four places: weights and state in the ACTIVE buffer, then in the write buffer. -/
structure UpdRun where
  ord : Nat
  bucket : Nat
  lcore : Nat
  grads : List Word
  result : Nat
  ent : MapEntry
  w0 : Nat
  s0 : Nat
  w1 : Nat
  s1 : Nat
  deriving DecidableEq, Repr

/-- The run's record, if its entry is valid (R294). -/
def State.updRun (s : State) (p b : Nat) (x : Nat × Nat × Run × Int × Nat) : Option UpdRun :=
  match s.mapEntry p x.1 with
  | none => none
  | some m =>
    if 64 < m.rows ∨ 64 < m.cols then none
    else match s.updPlace p (s.wBase p b) m.woff 4224, s.updPlace p (s.sBase p b) m.soff 2080,
        s.updPlace p (s.wBase p (1 - b)) m.woff 4224, s.updPlace p (s.sBase p (1 - b)) m.soff 2080 with
      | some a, some c, some d, some e =>
        some ⟨x.1, x.2.1, x.2.2.1.lcore, (s.runGrads p x.2.2.2.1 x.2.2.2.2).zipIdx.map (fun g => if m.pads g.2 then 0 else g.1),
          x.2.2.2.2, m, a, c, d, e⟩
      | _, _, _, _ => none

/-! ## The packed record (R286-R289) -/

/-- The value of a weight element without flushing its subnormals (R287). -/
def weightVal (code bits : Nat) : Val :=
  if code = 7 then decElem 7 bits
  else
    let (eb, mb, bias) := mxLayout code
    if field bits (eb + mb - 1) mb = 0 then .num (bits.testBit (eb + mb)) (bits % 2 ^ mb) (1 - (bias : Int) - mb)
    else decElem code bits

/-- The exponent of u, the spacing of the element format at an element under scale exponent `sc` (R287). -/
def spacing (code bits : Nat) (sc : Int) : Int :=
  if code = 7 then sc - 6
  else
    let (eb, mb, bias) := mxLayout code
    sc + max (field bits (eb + mb - 1) mb : Int) 1 - bias - mb

/-- The master weight of an element from its pattern, scale byte and residual (R287). -/
def joinWeight (code bits scale lo : Nat) : Word :=
  let sc : Int := (scale : Int) - 127
  match scaleVal scale (weightVal code bits) with
  | .num n m e => (dyF32 false (Dy.add (Val.dy (.num n m e)) ⟨sext 16 lo, spacing code bits sc - 15⟩)).1
  | v => (encF32 .nearest v).1

/-- The largest finite element of a format as an exact value. -/
def maxElem (code : Nat) : Dy := (decElem code (mxMaxBits code)).dy

/-- Is an FP32 value finite? -/
def finite (w : Word) : Bool := match decF32 w with
  | .num .. => true
  | _ => false

/-- The scale exponent of a block of finite masters (R288 step 2); none where all are zero. -/
def weightScale (code : Nat) (ws : List Word) : Option Int :=
  let ds := (ws.map (fun w => Dy.abs (decF32 w).dy)).filter (fun d => d.m != 0)
  match ds with
  | [] => none
  | d :: rest =>
    let a := rest.foldl (fun x y => if Dy.lt x y then y else x) d
    let s := a.ilog - mxEmax code
    some (max (-127) (if Dy.lt ((maxElem code).scale s) a then s + 1 else s))

/-- Element pattern and residual of a master under a scale exponent (R288 steps 3, 4). -/
def splitWeight (code : Nat) (s : Int) (w : Word) : Nat × Nat :=
  match decF32 w with
  | .num n m e =>
    let bits := signElem code n (roundElem code .nearest m (e - s)).1
    let d := Dy.sub (Val.dy (.num n m e)) ((weightVal code bits).dy.scale s)
    let r := (roundAt .nearest d.m.natAbs (d.e + 15 - spacing code bits s) 0).1
    (bits, (BitVec.ofInt 16 (if d.m < 0 then -(r : Int) else r)).toNat)
  | _ => (0, 0)

/-- Scale byte, patterns and residuals of a block (R288 steps 2 to 4). -/
def splitBlock (code : Nat) (ws : List Word) : Nat × List Nat × List Nat :=
  match weightScale code ws with
  | none => (0, ws.map (fun _ => 0), ws.map (fun _ => 0))
  | some s =>
    let xs := ws.map (splitWeight code s)
    ((s + 127).toNat, xs.map Prod.fst, xs.map Prod.snd)

/-- Bytes of one row piece of a run: 16 elements. -/
def pieceBytes (code : Nat) : Nat := 2 * elemBits code

/-- Offset of row `i` (0 to 31) of a part from its weight block. -/
def pieceOff (code h i : Nat) : Nat := (32 * (h % 2) + i) * (8 * elemBits code) + h / 2 * pieceBytes code

/-- Offset of a part's 16 scales. -/
def scaleOff (h : Nat) : Nat := 4096 + h % 2 * 64 + 16 * (h / 2)

/-- The element patterns of a part, in element order. -/
def State.partElems (s : State) (code a h : Nat) : List Nat :=
  let rows := (upTo 32).map (fun i => s.readN (a + pieceOff code h i) (pieceBytes code))
  (upTo 512).map (fun e => planeElem (elemBits code) (rows.getD (e % 32) 0) (e / 32))

/-- The packed bytes of a part's patterns and scales, as they lie piece by piece (R298). -/
def partBytes (code : Nat) (es scs : List Nat) : List Byte :=
  (upTo 32).flatMap (fun i => leBytes (pieceBytes code) (packPlane (elemBits code) ((upTo 16).map (fun c => es.getD (32 * c + i) 0)))) ++
    scs.map (BitVec.ofNat 8)

/-- Write a part's packed bytes at a weight block. -/
def State.putPart (s : State) (code a h : Nat) (bs : List Byte) : State :=
  let n := pieceBytes code
  ((upTo 32).foldl (fun t i => t.writeBytes (a + pieceOff code h i) ((bs.drop (n * i)).take n)) s).writeBytes (a + scaleOff h)
    ((bs.drop (32 * n)).take 16)

/-- A moment as read (R150, R287). -/
def momentVal (code bits scale : Nat) : Word := (encF32 .nearest (scaleVal scale (decElem code bits))).1

/-- Rounding of a moment draw: element `p` of the shard, `k` 0 for MN, 1 for VN (R289). -/
def State.momentRnd (s : State) (p elem k : Nat) : Rounding :=
  let mode := s.latched p Reg.UPD.CFG.mv_round
  if mode = 1 ∨ mode = 2 then
    let l := s.latched p Reg.UPD.INDEX_BASE.index_base + s.step16 p * 2 ^ 40 + 2 * elem + k
    .stochastic (if mode = 1 then 4 else 3)
      (rngWord (BitVec.ofNat 64 (s.seed p (s.latched p Reg.UPD.CFG.seed_slot))) (BitVec.ofNat 64 l))
  else .nearest

/-- A block of new moments converted (R289): scale byte, patterns, how many saturated. -/
def momentBlock (code : Nat) (xs : List (Word × Rounding)) : Nat × List Nat × Nat :=
  let ys : List (SrcEl × Rounding) := xs.map (fun x => (⟨decF32 x.1, x.1.msb, false⟩, x.2))
  let r := convBlock code ys
  (r.1, r.2.1, if r.1 = 255 then 0 else
    (ys.filter (fun y => match y.1.v with
      | .num .. => (convElem code ((r.1 : Int) - 127) y.2 y.1).2 &&& flSaturate != 0
      | _ => false)).length)

/-! ## One run -/

/-- The elements of a run after the program: WN, and MN and VN where the program writes them. -/
def State.runProgram (s : State) (p : Nat) (kappa : Word) (x : UpdRun) (pg : List Word) :
    List (Word × Option Word × Option Word) :=
  let wc := s.wFmt p
  let es := s.partElems wc x.w0 x.ent.h
  let consts : Map Word := (upTo 16).map (fun i => (16 + i, s.progConst p i))
  let prog := program (s.progWords p)
  (upTo 512).map (fun e =>
    let j := e / 32
    if x.ent.pads e then (0, some 0, some 0)
    else
      let w := joinWeight wc (es.getD e 0) (s.readN (x.w0 + scaleOff x.ent.h + j) 1) (s.readN (x.s0 + 2 * e) 2)
      let m := momentVal (s.mFmt p) (s.readN (x.s0 + 1024 + e) 1) (s.readN (x.s0 + 2048 + j) 1)
      let v := momentVal (s.vFmt p) (s.readN (x.s0 + 1536 + e) 1) (s.readN (x.s0 + 2064 + j) 1)
      let env := progRun ([(8, x.grads.getD e 0), (9, pg.getD e 0), (10, w), (11, m), (12, v), (13, kappa)] ++ consts) prog
      (Map.getD env 40 0, Map.find env 14, Map.find env 15))

/-- A moment plane of a run: converted where the program wrote it, else its old bytes: (512 element bytes, 16 scale bytes, how
many saturated). Padding elements are written 0 either way (R293). -/
def State.momentPlane (s : State) (p code elemOff sclOff k : Nat) (x : UpdRun) (new : List (Option Word)) (written : Bool) :
    List Byte × List Byte × Nat :=
  if written then
    let bs := (upTo 16).map (fun j => momentBlock code ((upTo 32).map (fun i =>
      ((new.getD (32 * j + i) none).getD 0, s.momentRnd p (x.ent.pbase + 32 * j + i) k))))
    (bs.flatMap (fun b => b.2.1.map (BitVec.ofNat 8)), bs.map (fun b => BitVec.ofNat 8 b.1), bs.foldl (fun n b => n + b.2.2) 0)
  else
    ((upTo 512).map (fun e => if x.ent.pads e then 0 else BitVec.ofNat 8 (s.readN (x.s0 + elemOff + e) 1)),
      s.readBytes (x.s0 + sclOff) 16, 0)

/-- Queue a run's weights for every other member (R298). -/
def State.queueGather (s : State) (p : Nat) (x : UpdRun) (bs : List Byte) : State :=
  let it : GatherItem := ⟨x.ent.woff, x.ent.h, s.burgee p x.bucket, bs⟩
  ((upTo (s.members p)).filter (fun i => i != s.memberIdx p)).foldl (fun t i =>
    t.onUpd p (fun u => { u with queues := Map.adjust u.queues i [] (fun l => l ++ [it]) })) s

/-- The pennant of the version that a learner step makes (R23). -/
def nextPennant (q : Nat) : Nat := slotOf q * 2 ^ 24 + (versionOf q + 1) % 2 ^ 24

/-- The write buffer becomes FILLING at its first write (R298). -/
def State.fillWrite (s : State) (p : Nat) : State :=
  match s.readBuf p with
  | some (n, b) => if s.bufState p n (1 - b) = 0 then s.setBuf p n (1 - b) 1 (nextPennant (s.bufPennant p n b)) else s
  | none => s

/-- One owned run: read, updated, written, queued for the other members; or a cause and an address (R288, R300). -/
def State.updateRun (s : State) (p : Nat) (kappa : Word) (x : UpdRun) (pg : List Word) : Except (Nat × Nat) State :=
  let wc := s.wFmt p
  let n := pieceBytes wc
  let badRow := (upTo 32).find? (fun i => s.poisoned (x.w0 + pieceOff wc x.ent.h i) n)
  if s.poisoned x.result 4096 then .error (5, x.result)
  else if badRow.isSome ∨ s.poisoned (x.w0 + scaleOff x.ent.h) 16 then .error (5, x.w0)
  else if s.poisoned x.s0 2080 then .error (5, x.s0)
  else
    let out := s.runProgram p kappa x pg
    if !(out.all (fun o => finite o.1)) then .error (2, 0)
    else
      let blocks := (upTo 16).map (fun j => splitBlock wc ((out.map (fun o => o.1)).drop (32 * j) |>.take 32))
      let bs := partBytes wc (blocks.flatMap (fun b => b.2.1)) (blocks.map (fun b => b.1))
      let wrote := fun d => (program (s.progWords p)).any (fun w => progDst w == d)
      let m := s.momentPlane p (s.mFmt p) 1024 2048 0 x (out.map (fun o => o.2.1)) (wrote 9)
      let v := s.momentPlane p (s.vFmt p) 1536 2064 1 x (out.map (fun o => o.2.2)) (wrote 10)
      let st := (blocks.flatMap (fun b => b.2.2)).flatMap (fun r => leBytes 2 r) ++ m.1 ++ v.1 ++ m.2.1 ++ v.2.1
      let s1 := (((s.fillWrite p).putPart wc x.w1 x.ent.h bs).writeBytes x.s1 st).queueGather p x bs
      .ok (((s1.bump Reg.UPD.STATUS.runs_done p 1).bump Reg.UPD.SATURATED.saturated p (m.2.2 + v.2.2)).bump
        Reg.UPD.ELEMENTS.elements p ((upTo 512).filter (fun e => !(x.ent.pads e))).length)

/-! ## Preconditioners (R295-R297) -/

/-- A matrix, row by row. -/
abbrev Mat := List (List Word)

/-- An FP32 value rounded to BF16, kept as FP32. -/
def bfW (w : Word) : Word := BitVec.ofNat 32 ((convFloat 1 .nearest ⟨decF32 w, w.msb, false⟩).1 * 65536)

/-- Products of BF16 pairs summed in order from +0, each sum rounded (R106). -/
def macSum (l : List (Word × Word)) : Word := l.foldl (fun a x => (ffma x.1 x.2 a).1) 0

/-- A sum over k in the order of R106: one array pass per 64 values of k, each added to the tile. -/
def arrayDot (xs ys : List Word) : Word :=
  match chunks 64 (xs.length + 1) (List.zip xs ys) with
  | [] => 0
  | c :: cs => cs.foldl (fun acc d => fAdd acc (macSum d)) (macSum c)

/-- Transpose of a matrix of `n` columns. -/
def transpose (n : Nat) (m : Mat) : Mat := (upTo n).map (fun j => m.map (fun r => r.getD j 0))

/-- A product of matrices on the array: operands to BF16, sums in FP32; `n` columns of the second. -/
def matMul (n : Nat) (a b : Mat) : Mat :=
  let bt := (transpose n b).map (fun c => c.map bfW)
  a.map (fun r => bt.map (fun c => arrayDot (r.map bfW) c))

/-- Element by element. -/
def matMap (f : Word → Word) (m : Mat) : Mat := m.map (fun r => r.map f)
/-- Element by element over two. -/
def matZip (f : Word → Word → Word) (a b : Mat) : Mat := List.zipWith (List.zipWith f) a b
/-- `c` times the unit matrix. -/
def matEye (d : Nat) (c : Word) : Mat := (upTo d).map (fun i => (upTo d).map (fun j => if i = j then c else 0))
/-- The ordered sum of a matrix, row-major (R179). -/
def matSum (m : Mat) : Word := orderedSum m.flatten
/-- Ordered sum of the squares. -/
def matSq (m : Mat) : Word := matSum (matZip fMul m m)

/-- SQRT. -/
def fSqrt (w : Word) : Word := (sfEval 0x09 w).1
/-- RSQRT. -/
def fRsqrt (w : Word) : Word := (sfEval 0x08 w).1
/-- RECIP. -/
def fRecip (w : Word) : Word := (sfEval 0x07 w).1

/-- Two, three, one half. -/
def fTwo : Word := 0x40000000#32
/-- Three. -/
def fThree : Word := 0x40400000#32
/-- One half. -/
def fHalf : Word := 0x3F000000#32

/-- The coupled iteration of R297. -/
def coupled (d : Nat) : Nat → Mat → Mat → Mat × Mat
  | 0, y, z => (y, z)
  | n + 1, y, z =>
    let m := matMap (fMul fHalf) (matZip fSub (matEye d fThree) (matMul d z y))
    coupled d n (matMul d y m) (matMul d m z)

/-- The inverse iteration of R297. -/
def invIter (d : Nat) (a : Mat) : Nat → Mat → Mat
  | 0, x => x
  | n + 1, x => invIter d a n (matMul d x (matZip fSub (matEye d fTwo) (matMul d a x)))

/-- A refreshed preconditioner from S' (R297), in FP32. -/
def refresh (d mode iters : Nat) (eps : Word) (sq : Mat) : Mat :=
  let t := fSqrt (matSq sq)
  let a := matZip fAdd (matMap (fun x => fMul x (fRecip t)) sq) (matEye d eps)
  if mode = 0 then
    let x := invIter d a iters (matMap (fun v => fMul v (fRecip (matSq a))) a)
    matMap (fun v => fMul v (fRecip t)) x
  else
    let z := (coupled d iters a (matEye d fOne)).2
    if mode = 2 then
      let q := matSq z
      let b := matMap (fun v => fMul v (fRsqrt q)) z
      let y2 := (coupled d iters b (matEye d fOne)).1
      matMap (fun v => fMul (fMul v (fSqrt (fSqrt (fSqrt q)))) (fRsqrt (fSqrt t))) y2
    else matMap (fun v => fMul v (fRsqrt t)) z

/-- An entry of the preconditioner table (R295): state offset of S, d, logical core. -/
def State.precondEntry (s : State) (p i : Nat) : Option (Nat × Nat × Nat) :=
  match s.resolve (.part p) (s.latched p Reg.UPD.PTAB_BASE.ptab_base + 16 * i) 16 with
  | .error _ => none
  | .ok a => some (field (s.readN a 8) 39 0, 64 * (field (s.readN (a + 8) 4) 11 10 + 1), field (s.readN (a + 8) 4) 9 0)

/-- A run's column band and its first row in its preconditioned block of `d` rows. -/
def precondBand (d : Nat) (m : MapEntry) : Nat × Nat :=
  let q := Config.precondPlace m.precond m.woff
  (4 * q.2 + m.h / 2, 64 * (q.1 % (d / 64)) + 32 * (m.h % 2))

/-- Runs that name a preconditioned block. -/
def namers (xs : List UpdRun) (i : Nat) : List UpdRun := xs.filter (fun x => x.ent.precond == i)

/-- The column bands that runs hold, ascending. -/
def bands (d : Nat) (xs : List UpdRun) : List Nat :=
  sortBy (fun a b => decide (a ≤ b)) ((xs.map (fun x => (precondBand d x.ent).1)).eraseDups)

/-- Does a preconditioned block meet R295: one core, every row of each column once? -/
def precondOk (e : Nat × Nat × Nat) (xs : List UpdRun) : Bool :=
  xs.all (fun x => x.lcore == e.2.2) &&
  (bands e.2.1 xs).all (fun c => (upTo (e.2.1 / 32)).all (fun r =>
    (xs.filter (fun x => precondBand e.2.1 x.ent == (c, 32 * r))).length == 1))

/-- The preconditioned blocks that runs name, ascending. -/
def precondBlocks (xs : List UpdRun) : List Nat :=
  sortBy (fun a b => decide (a ≤ b)) (((xs.map (fun x => x.ent.precond)).filter (fun i => i != 0xFFFF)).eraseDups)

/-- The gradient matrix of a preconditioned block, rounded to BF16. -/
def gradMat (d : Nat) (xs : List UpdRun) : Mat :=
  let cols := bands d xs
  (upTo d).map (fun r => cols.flatMap (fun c =>
    match xs.find? (fun x => precondBand d x.ent == (c, r / 32 * 32)) with
    | some x => (upTo 16).map (fun j => bfW (x.grads.getD (32 * j + r % 32) 0))
    | none => List.replicate 16 0))

/-- A row-major FP32 matrix in memory. -/
def State.readMat (s : State) (a d : Nat) : Mat :=
  (upTo d).map (fun r => (upTo d).map (fun c => BitVec.ofNat 32 (s.readN (a + 4 * (d * r + c)) 4)))

/-- A row-major BF16 matrix in memory. -/
def State.readMatB (s : State) (a d : Nat) : Mat :=
  (upTo d).map (fun r => (upTo d).map (fun c => BitVec.ofNat 32 (s.readN (a + 2 * (d * r + c)) 2 * 65536)))

/-- The preconditioned gradients of a block: ordinal and PG of each run's elements; S' and P are written (R296). -/
def State.precondition (s : State) (p b i : Nat) (e : Nat × Nat × Nat) (xs : List UpdRun) :
    Except (Nat × Nat) (State × List (Nat × List Word)) :=
  let d := e.2.1
  match s.updPlace p (s.sBase p b) e.1 (6 * d * d), s.updPlace p (s.sBase p (1 - b)) e.1 (6 * d * d) with
  | some a0, some a1 =>
    if s.poisoned a0 (6 * d * d) then .error (5, a0)
    else match xs.find? (fun x => s.poisoned x.result 4096) with
      | some x => .error (5, x.result)
      | none =>
        let g := gradMat d xs
        let n := 16 * (bands d xs).length
        let c := matMul d g (transpose n g)
        let beta := BitVec.ofNat 32 (s.latched p Reg.UPD.PC_PARAM.beta)
        let om := fSub fOne beta
        let s2 := matZip (fun x y => (ffma beta x (fMul om y)).1) (s.readMat a0 d) c
        let pOld := s.readMatB (a0 + 4 * d * d) d
        let pg := matMul n pOld g
        let k := s.latched p Reg.UPD.CFG.refresh_k
        let due := decide (k ≠ 0) && i % k == (s.red p).step % k
        let eps0 := BitVec.ofNat 32 (s.latched p Reg.UPD.PC_PARAM.eps)
        let eps := if flt fOne eps0 then fOne else eps0
        let pNew := refresh d (s.latched p Reg.UPD.CFG.pc_mode) (max 1 (s.latched p Reg.UPD.CFG.ns_iters)) eps s2
        let pBf := matMap bfW pNew
        let good := pBf.all (fun r => r.all finite)
        let s3 := if !due then s else if good then s.bump Reg.UPD.REFRESHES.refreshes p 1
          else (s.bump Reg.UPD.PC_STALE.stale p 1).raise 0x0500 p 0 (s.step16 p * 2 ^ 16 + i)
        let pOut := if due ∧ good then pBf else pOld
        let s4 := (s3.fillWrite p).writeBytes a1 (s2.flatMap (fun r => r.flatMap (fun w => leBytes 4 w.toNat)) ++
          pOut.flatMap (fun r => r.flatMap (fun w => leBytes 2 (w.toNat / 65536))))
        let cols := bands d xs
        .ok (s4, xs.map (fun x => (x.ord, (upTo 512).map (fun el =>
          ((pg.getD ((precondBand d x.ent).2 + el % 32) []).getD (16 * cols.idxOf (precondBand d x.ent).1 + el / 32) 0)))))
  | _, _ => .error (4, 0)

/-! ## The update (R284-R292) -/

/-- Every owned run with its entry, in ascending ordinal; none where an entry is invalid. -/
def State.updRuns (s : State) (p b : Nat) : Option (List UpdRun) :=
  let rs := s.ownedRuns p
  let xs := rs.filterMap (s.updRun p b)
  if xs.length = rs.length then some xs else none

/-- Precondition every block, gathering PG. -/
def State.preconditionAll (s : State) (p b : Nat) (xs : List UpdRun) : List Nat → List (Nat × List Word) →
    Except (Nat × Nat × State) (State × List (Nat × List Word))
  | [], pg => .ok (s, pg)
  | i :: is, pg =>
    match s.precondEntry p i with
    | none => .error (4, 0, s)
    | some e =>
      match s.precondition p b i e (namers xs i) with
      | .error (c, a) => .error (c, a, s)
      | .ok (t, l) => t.preconditionAll p b xs is (pg ++ l)

/-- Update every run in turn, up to the first failure. -/
def State.updateAll (s : State) (p : Nat) (kappa : Word) (pg : List (Nat × List Word)) : List UpdRun → State
  | [] => (s.onUpd p (fun u => { u with ran := true })).set Reg.UPD.STATUS.state p 3
  | x :: xs =>
    match s.updateRun p kappa x ((Map.find pg x.ord).getD x.grads) with
    | .error (c, a) => s.updFails p c a
    | .ok t => t.updateAll p kappa pg xs

/-- The clip factor of a squared norm (R285); none for NaN and +∞. -/
def clipFactor (q clip : Word) : Option Word :=
  match decF32 q with
  | .num .. =>
    let n := fSqrt q
    some (if !(flt clip n) then fOne else fMul clip (fRecip n))
  | _ => none

/-- Send queued runs to a member while sub-credits from it are held (R314). -/
def State.pumpGather (s : State) (p i : Nat) : Nat → State
  | 0 => s
  | n + 1 =>
    match Map.getD (s.upd p).queues i [], s.memberDevice p i with
    | it :: rest, some dev =>
      let held := Map.getD (s.upd p).credits i 0
      if held = 0 then s
      else
        let k := mkPacket dev 3 1 (s.owner p) it.burgee 0 (it.part * 2 ^ 40 + it.woff) it.bytes
        ((s.onUpd p (fun u => { u with queues := Map.put u.queues i rest, credits := Map.put u.credits i (held - 1) })).send
          { k with last := true }).pumpGather p i n
    | _, _ => s

/-- Send to every member. -/
def State.pumpAll (s : State) (p : Nat) : State :=
  (upTo (s.members p)).foldl (fun t i => t.pumpGather p i (Map.getD (t.upd p).queues i []).length) s

/-- Runs that each member owns in the step. -/
def State.runsPerMember (s : State) (p : Nat) : Nat :=
  (upTo (s.bucketCount p)).foldl (fun n b => n + (match s.bucketDef p b with
    | some d => d.runs / s.members p
    | none => 0)) 0

/-- Grant a member update-gather packets: `n`, of those its runs still need (R298, R314). -/
def State.grantGather (s : State) (p i n : Nat) : State :=
  let given := Map.getD (s.upd p).granted i 0
  let k := min n (s.runsPerMember p - given)
  match s.memberDevice p i with
  | none => s
  | some dev =>
    if k = 0 then s
    else (s.onUpd p (fun u => { u with granted := Map.put u.granted i (given + k) })).send
      (mkPacket dev 0 0 (s.owner p) (s.redGroup p) 0 (2 ^ 48 + s.memberIdx p * 2 ^ 32 + k) [])

/-- Grant every other member its first packets, once the write buffer is EMPTY (R27, R298). -/
def State.openGather (s : State) (p : Nat) : State :=
  match s.readBuf p with
  | some (n, b) =>
    if s.bufState p n (1 - b) ≠ 0 ∨ !(s.red p).isOpen ∨ !((s.upd p).granted.isEmpty) then s
    else ((upTo (s.members p)).filter (fun i => i != s.memberIdx p)).foldl (fun t i => t.grantGather p i Config.gatherWindow) s
  | none => s

/-- Microseconds between two fabric times. -/
def microsBetween (a b : Nat) : Nat := (b - a) * 1000000 / 2 ^ 30

/-- The update of the open step starts, holds, or cannot start yet (R284). -/
def State.updateStart (s : State) (p : Nat) : State :=
  let u := s.upd p
  match (s.red p).norm, s.readBuf p with
  | some q, some (n, b) =>
    if !(s.redPasses p) ∨ u.cause.isSome ∨ u.ran then s
    else if s.bufState p n (1 - b) ≠ 0 ∧ (s.bufState p n (1 - b) ≠ 1 ∨ u.landed.isEmpty) then
      if u.heldFrom.isSome then s
      else (s.onUpd p (fun u => { u with heldFrom := some s.timer })).set Reg.UPD.STATUS.state p 1
    else
      let s1 := (match u.heldFrom with
        | some t => s.bump Reg.UPD.HOLD_US.hold_us p (microsBetween t s.timer)
        | none => s).set Reg.UPD.STATUS.state p 2
      match clipFactor q (BitVec.ofNat 32 (s.latched p Reg.UPD.CLIP.clip_norm)) with
      | none => s1.updFails p 1 0
      | some kappa =>
        let s2 := s1.set Reg.UPD.NORM.kappa p kappa.toNat
        let s3 := if flt kappa fOne then s2.bump Reg.UPD.CLIPPED.clipped p 1 else s2
        match s3.updRuns p b with
        | none => s3.updFails p 4 0
        | some xs =>
          let blocks := if s.latched p Reg.UPD.CFG.pc_enable = 1 then precondBlocks xs else []
          match s3.preconditionAll p b xs blocks [] with
          | .error (c, a, t) => t.updFails p c a
          | .ok (t, pg) => (t.updateAll p kappa pg xs).pumpAll p
  | _, _ => s

/-- UPDATE_START. -/
def execUpdateStart (pid : Nat) (s : State) : Res := onPid pid (.next (s.updateStart pid))

/-- A WEIGHT_GATHER of the open step: written at the same place of the write buffer, its sub-credit returned (R298). -/
def State.gatherIn (s : State) (p : Nat) (k : Packet) : State :=
  let wc := s.wFmt p
  let woff := field k.arg 39 0
  let h := field k.arg 42 40
  match s.readBuf p with
  | some (n, b) =>
    let st := s.bufState p n (1 - b)
    if !(s.red p).isOpen ∨ k.tag / 65536 ≠ s.step16 p ∨ (st ≠ 0 ∧ st ≠ 1) ∨
        (pktPayload k).length ≠ 32 * pieceBytes wc + 16 then s
    else match s.updPlace p (s.wBase p (1 - b)) woff 4224 with
      | none => s
      | some a =>
        let s1 := (s.fillWrite p).putPart wc a h (pktPayload k)
        let s2 := if k.poison ≠ 0 then (upTo 32).foldl (fun t i => t.poisonRange (a + pieceOff wc h i) (pieceBytes wc)) s1 else s1
        let s3 := s2.onUpd p (fun u => { u with landed := if u.landed.contains (woff, h) then u.landed else u.landed ++ [(woff, h)] })
        match (upTo (s.members p)).find? (fun i => s.memberDevice p i == some k.src) with
        | some i => s3.grantGather p i 1
        | none => s3
  | none => s

/-- WEIGHT_GATHER. -/
def execWeightGather (pid : Nat) (pkt : Packet) (s : State) : Res :=
  onPid pid (.next (if s.reach .firmware (regOff Reg.UPD.STATUS.reg pid) then
    if pkt.tenant = s.owner pid then (s.gatherIn pid pkt).ackPacket pkt else s.packetViolation 0x0500 pid
    else s))

/-- Have all runs of other owners landed? -/
def State.gathered (s : State) (p : Nat) : Bool :=
  decide ((s.runsPerMember p) * (s.members p - 1) ≤ (s.upd p).landed.length)

/-- Is the step a digest step (R403)? -/
def State.digestStep (s : State) (p : Nat) : Bool :=
  let i := s.get Reg.CHECK.DIGEST.interval p
  (s.checks p).replay || (decide (i ≠ 0) && (s.red p).step % i == 0)

/-- The learner's own digest lanes (R403). -/
def digestLanes (d : DWord) : List Nat := [d.toNat, (~~~d).toNat, 0, 0, 0, 0, 0, 0]

/-- A shard digest goes to the publish leader (R334): to the device's own tables where it is the leader. -/
def State.reportDigest (s : State) (p n : Nat) (d : DWord) : State :=
  let shard := s.getB Reg.PUB.SLOT_CFG.shard p n
  if s.getB Reg.PUB.SLOT_CFG.leader p n = 1 then
    s.onPart p (fun k => { k with pub := { k.pub with digests := Map.put k.pub.digests n (Map.put (Map.getD k.pub.digests n []) shard d) } })
  else if s.getB Reg.PUB.SLOT_CFG.report_digest p n = 1 then s.emit (.shardDigest p n shard d)
  else s

/-- UPDATE_STAGED: the buffer is complete; its digest forms and, on a digest step, enters the group's MAX. -/
def State.updateStaged (s : State) (p : Nat) : State :=
  let u := s.upd p
  match s.readBuf p with
  | some (n, b) =>
    if !u.ran ∨ u.cause.isSome ∨ u.complete ∨ !(s.gathered p) ∨ s.bufState p n (1 - b) ≠ 1 then s
    else
      let s1 := (s.setBuf p n (1 - b) 2 (s.bufPennant p n (1 - b))).onUpd p (fun u => { u with complete := true })
      let d := s1.shardDigest p n (1 - b)
      let s2 := (s1.set Reg.UPD.STATUS.state p 4).reportDigest p n d
      if s.digestStep p then
        s2.hareEnter p (s.get Reg.CHECK.DIGEST.combine_group p) (s.red p).step 0x02 .digest (laneBytes 8 (digestLanes d))
      else s2
  | none => s

/-- UPDATE_STAGED. -/
def execUpdateStaged (pid : Nat) (s : State) : Res := onPid pid (.next (s.updateStaged pid))

/-- GATHER_TIMEOUT: gather_us after this device's last run. -/
def execGatherTimeout (pid : Nat) (s : State) : Res :=
  onPid pid (.next (if (s.upd pid).ran ∧ !(s.gathered pid) then s.updFails pid 6 0 else s))

/-! ## The open (R273, R291, R295, R301, R407) -/

/-- Does the partition learn now? -/
def State.learning (s : State) (p : Nat) : Bool := s.role p == 1 || (s.role p == 2 && (s.part p).sched.learnPhase)

/-- Is a block of the preconditioner table in breach of R295? -/
def State.precondBad (s : State) (p : Nat) : Bool :=
  match s.readBuf p with
  | none => false
  | some (_, b) =>
    let xs := ((s.ownedRuns p).filterMap (s.updRun p b))
    (precondBlocks xs).any (fun i => match s.precondEntry p i with
      | none => true
      | some e => !(precondOk e (namers xs i)))

/-- The held open completes: results are zeroed, counts cleared, the UPD page latched and its program checked. -/
def State.stepOpens (s : State) (p : Nat) : State :=
  let r := s.red p
  match r.want with
  | none => s
  | some w =>
    if r.isOpen ∨ r.noisy ∨ !(s.live p) ∨ !(s.learning p) then s
    else
      let step := fullStep r.step w
      let c := s.checks p
      let replay := c.owed && step == r.step
      let s1 := (s.zeroResults p).onRed p (fun r => { r with step := step, isOpen := true, want := none, buckets := [], norm := none })
      let s2 := ((((s1.set Reg.RED.STATUS.step p (step % 65536)).set Reg.RED.STATUS.complete p 0).set Reg.RED.STATUS.failed p 0).set
        Reg.RED.STATUS.open_ p 1)
      let latch : Map Nat := updLatched.map (fun o => (o, s.regAt (o + p * 0x1000)))
      let s3 := s2.onUpd p (fun u => { Upd.zero with latch := latch, credits := u.credits })
      let s4 := ((s3.set Reg.UPD.STATUS.step p (step % 65536)).set Reg.UPD.STATUS.state p 0).set Reg.UPD.STATUS.runs_done p 0
      let s5 := (s4.onChecks p (fun c => { c with fail := none, digest := none, replay := replay, owed := false })).set
        Reg.CHECK.OWL_STATUS.boosted p (ofBool replay)
      let s6 := if s5.programOk p then s5 else s5.updFails p 3 0
      let s7 := if s6.latched p Reg.UPD.CFG.pc_enable = 1 ∧ s6.precondBad p then s6.updFails p 4 0 else s6
      s7.openGather p

/-- STEP_OPEN_DONE. -/
def execStepOpenDone (pid : Nat) (s : State) : Res := onPid pid (.next (s.stepOpens pid))

end Sys2Proof.Machine
end

