-- ==== Sys2Proof/Machine/Checking.lean ====
section
/-! DEFINITION. Checking (chapter 19): owl verdicts (R400-R402), replica digests (R403, R404), the fault ring (R410). Commands
OWL_VERDICT, OWL_LATE, DIGEST_RESULT, FAULT_RING_RESTART. -/
namespace Sys2Proof.Machine

/-- Ticks of fabric time in `n` milliseconds (R440). -/
def msTicks (n : Nat) : Nat := n * 2 ^ 30 / 1000

/-- window_ms, at least 1 (R410). -/
def State.owlWindow (s : State) (p : Nat) : Nat := msTicks (max 1 (s.get Reg.CHECK.OWL.window_ms p))

/-- The partners with which a core has mismatched inside the window. -/
def State.apart (s : State) (p c : Nat) : List Nat :=
  (((s.checks p).recent.filter (fun x => x.1 == c && decide (s.timer ≤ x.2.2 + s.owlWindow p))).map (fun x => x.2.1)).eraseDups

/-- A core that has mismatched with two partners is suspect (R402). -/
def State.suspect (s : State) (p c partner : Nat) : State :=
  if (s.apart p c).length < 2 then s
  else
    let s1 := ((s.set Reg.CHECK.SUSPECT.core p c).set Reg.CHECK.SUSPECT.partner p partner).raise 0x05C0 p 1 (partner * 1024 + c)
    if s.getBit Reg.CHECK.OWL.auto_retire p then s1.retireCore c else s1

/-- A chain of core `c` ends in a mismatch, or its verdict is late (R400, R401). -/
def State.mismatch (s : State) (p c : Nat) (v : Verdict) (late : Bool) : State :=
  let partner := (s.checkerOf p c).getD c
  let step := ((s.gen p).steps.head?.map (fun x => x.seq)).getD (s.get Reg.REQ.STEP_SEQ.step_seq p)
  let id := if s.generating p ∧ v.stepTask then step else v.taskId
  let seq := s.get Reg.CHECK.FAULT_SEQ.next_seq p
  let r : FaultRec := ⟨4, 0, 0, id, v.pennant, s.logical p c, c, 0, 0, partner + ofBool late * 1024 + v.number.toNat * 2 ^ 32⟩
  let s1 := ((s.bump Reg.CHECK.OWL_MISMATCH.mismatches p 1).faultRecord p r).raise 0x05C0 p 0 seq
  let s2 := if s.learning p then s1.stepFails p 3 else s1
  let s3 := s2.onChecks p (fun k => { k with recent := k.recent ++ [(c, partner, s.timer), (partner, c, s.timer)] })
  (s3.suspect p c partner).suspect p partner c

/-- The verdict of chain `n` of core `c` leaves the core: formed with `agree`, or late. -/
def State.verdict (s : State) (c : Nat) (n : Word) (agree late : Bool) : State :=
  match s.partOf c, (s.core c).verdicts.find? (fun v => v.number == n) with
  | some p, some v =>
    let s1 := s.onCore c (fun k => { k with verdicts := k.verdicts.erase v })
    let s2 := if late then s1 else s1.bump Reg.CHECK.OWL_SAMPLED.sampled p 1
    if agree then s2 else s2.mismatch p c v late
  | _, _ => s

/-- OWL_VERDICT. -/
def execOwlVerdict (core : Nat) (n : Word) (agree : Bool) (s : State) : Res := onCoreId core (.next (s.verdict core n agree false))

/-- OWL_LATE. -/
def execOwlLate (core : Nat) (n : Word) (s : State) : Res := onCoreId core (.next (s.verdict core n false true))

/-! ## Replica digests (R403, R404) -/

/-- This device's own shard digest of the step. -/
def State.ownDigest (s : State) (p : Nat) : Option DWord :=
  match s.readBuf p with
  | some (n, b) => if s.bufState p n (1 - b) = 2 then some (s.shardDigest p n (1 - b)) else none
  | none => none

/-- The digest MAX forms from this device's lanes and the maximum of the others'. -/
def State.digestFormed (s : State) (p : Nat) (others : List DWord) : State :=
  match s.ownDigest p with
  | none => s
  | some d =>
    if !(s.red p).isOpen ∨ !(s.digestStep p) ∨ (s.checks p).digest.isSome then s
    else
      let hi := BitVec.ofNat 64 (combine64 0x02 d.toNat (others.getD 0 0).toNat)
      let lo := ~~~(BitVec.ofNat 64 (combine64 0x02 (~~~d).toNat (others.getD 1 0).toNat))
      let s1 := (((s.set Reg.CHECK.DIGEST_LAST.own p d.toNat).set Reg.CHECK.DIGEST_MAX.max p hi.toNat).set
        Reg.CHECK.DIGEST_MIN.min p lo.toNat).bump Reg.CHECK.DIGEST_CHECKS.checks p 1
      let s2 := s1.onChecks p (fun k => { k with digest := some (hi == lo) })
      if hi = lo then s2
      else
        let seq := s.get Reg.CHECK.FAULT_SEQ.next_seq p
        (((s2.bump Reg.CHECK.DIGEST_MISMATCH.mismatches p 1).faultRecord p (FaultRec.plain 5 0 (s.red p).step 0 d.toNat)).raise
          0x05C0 p 2 seq).stepFails p 4

/-- DIGEST_RESULT. -/
def execDigestResult (pid : Nat) (othersLanes : List DWord) (s : State) : Res :=
  onPid pid (.next ((s.hareTaken pid .digest).digestFormed pid othersLanes))

/-! ## The fault ring (R410) -/

/-- A write of FAULT_RING or FAULT_CFG: the ring starts again at sequence 0. -/
def State.faultRingWrite (s : State) (r : Requester) (p : Nat) (cfg : Bool) (mask v : Nat) : State :=
  let off := regOff (if cfg then Reg.CHECK.FAULT_CFG.reg else Reg.CHECK.FAULT_RING.reg) p
  let s1 := s.writeReg r off 0 mask v
  if s.rwlClosed r off then s1 else s1.set Reg.CHECK.FAULT_SEQ.next_seq p 0

/-- FAULT_RING_RESTART. -/
def execFaultRingRestart (r : Requester) (pid : Nat) (cfg : Bool) (v : DWord) (s : State) : Res :=
  onPid pid (.next (s.guard r (regOff Reg.CHECK.FAULT_CFG.reg pid) (s.faultRingWrite r pid cfg (2 ^ 64 - 1) v.toNat)))

end Sys2Proof.Machine
end

