-- ==== Sys2Proof/Machine/Kv.lean ====
section
/-! DEFINITION. KV groups of a generator partition (chapter 10): pages and frames (R217, R218), page tables (R219), reference
counts (R223), the changes of a KV plan (R220, R224-R226, R230) and lost frames (R232). -/
namespace Sys2Proof.Machine

/-! ## Layout -/

/-- Bytes of a page of one stripe (R217): 33 × D, or 64 × D for BF16. -/
def State.kvPageBytes (s : State) (p : Nat) : Nat :=
  (if s.get Reg.KV.FORMAT.kv_fmt p = 1 then 64 else 33) * s.get Reg.KV.FORMAT.kv_dim p

/-- Stripes on this device. -/
def State.kvStripes (s : State) (p : Nat) : Nat := s.get Reg.KV.FORMAT.stripes p

/-- Pool size of a group, at most 4,096. -/
def State.kvFrames (s : State) (p g : Nat) : Nat := min 4096 (s.getB Reg.KV.GROUP_CFG.frames p g)

/-- Spill slots of a group. -/
def State.kvSpillSlots (s : State) (p g : Nat) : Nat := s.getB Reg.KV.GROUP_CFG.spill_slots p g

/-- Requests a group may hold, at most 64. -/
def State.kvMaxReqs (s : State) (p g : Nat) : Nat := min 64 (s.getB Reg.KV.GROUP_CFG.max_requests p g)

/-- The physical address of frame `f` of group `g` in stripe `st` (R215, R218); none where the home map names no core of the
partition or the page leaves its slice. -/
def State.frameAddr (s : State) (p g st f : Nat) : Option Nat :=
  let a := s.get Reg.KV.HOME_MAP.home_map p + 8 * (g * s.kvStripes p + st)
  let e := s.readN a 8
  let off := field e 23 0 + f * s.kvPageBytes p
  match s.physical p (field e 33 24) with
  | none => none
  | some c => if t1Ok a 8 ∧ off + s.kvPageBytes p ≤ sliceBytes then some (t0Addr c off) else none

/-- The T1 address of the page of stripe `st` in spill slot `k` of group `g`: groups in ascending order from SPILL_BASE, a
slot stripe by stripe (DEDUCED, log entry 19); none where that is no T1 range. -/
def State.spillAddr (s : State) (p g k st : Nat) : Option Nat :=
  let before := (upTo g).foldl (fun acc i => acc + s.kvSpillSlots p i) 0
  let a := s.get Reg.KV.SPILL_BASE.spill_base p + ((before + k) * s.kvStripes p + st) * s.kvPageBytes p
  if t1Ok a (s.kvPageBytes p) then some a else none

/-! ## Groups and page tables -/

/-- A KV group. -/
def State.kvGroup (s : State) (p g : Nat) : KvGroup := Map.getD (s.gen p).groups g KvGroup.zero

/-- Change a KV group. -/
def State.onKv (s : State) (p g : Nat) (f : KvGroup → KvGroup) : State :=
  s.onGen p (fun x => { x with groups := Map.put x.groups g (f (Map.getD x.groups g KvGroup.zero)) })

/-- The page table of member `m` of group `g`. -/
def State.kvTable (s : State) (p g m : Nat) : Map PageLoc := Map.getD (s.gen p).tables (64 * g + m) []

/-- A page-table entry (Table 10.3). -/
def entryWord : Option PageLoc → Nat
  | none => 0
  | some (.frame f) => 2 ^ 30 + f % 2 ^ 16
  | some (.spill k) => 2 ^ 31 + k % 2 ^ 16

/-- Set a page-table entry, in T1 too (R219). -/
def State.setPage (s : State) (p g m page : Nat) (loc : Option PageLoc) : State :=
  let a := s.get Reg.KV.TABLE_BASE.table_base p + 65536 * (64 * g + m) + 4 * page
  let s1 := s.onGen p (fun x => { x with tables := Map.put x.tables (64 * g + m) (Map.putOpt (Map.getD x.tables (64 * g + m) []) page loc) })
  if t1Ok a 4 then s1.writeN a 4 (entryWord loc) else s1

/-- References on a frame. -/
def State.frameRefs (s : State) (p g f : Nat) : Nat := Map.getD (s.kvGroup p g).refs f 0

/-- Frames of a group that may be taken: the pool less frames held, retired and reserved (R229). -/
def State.freeFrames (s : State) (p g : Nat) : Nat :=
  let k := s.kvGroup p g
  s.kvFrames p g - k.refs.length - k.retired.length - k.reserved

/-- The lowest `n` free frames (DESIGN CHOICE, log entry 19: R218 names no order). -/
def State.takeFrames (s : State) (p g n : Nat) : List Nat :=
  let k := s.kvGroup p g
  ((upTo (s.kvFrames p g)).filter (fun f => !(Map.has k.refs f) && !(k.retired.contains f))).take n

/-- The lowest `n` free spill slots. -/
def State.takeSpills (s : State) (p g n : Nat) : List Nat :=
  ((upTo (s.kvSpillSlots p g)).filter (fun i => !((s.kvGroup p g).spills.contains i))).take n

/-! ## Frames -/

/-- Act on the page of each stripe of a frame. -/
def State.eachStripe (s : State) (p : Nat) (f : State → Nat → State) : State := (upTo (s.kvStripes p)).foldl f s

/-- Copy a frame into another (R225). -/
def State.copyFrame (s : State) (p g a b : Nat) : State :=
  s.eachStripe p (fun t st => match s.frameAddr p g st a, s.frameAddr p g st b with
    | some x, some y => t.copyRange x y (s.kvPageBytes p)
    | _, _ => t)

/-- Copy a frame into a spill slot (R230). -/
def State.spillFrame (s : State) (p g f k : Nat) : State :=
  s.eachStripe p (fun t st => match s.frameAddr p g st f, s.spillAddr p g k st with
    | some x, some y => t.copyRange x y (s.kvPageBytes p)
    | _, _ => t)

/-- Copy a spill slot into a frame. -/
def State.fillFrame (s : State) (p g k f : Nat) : State :=
  s.eachStripe p (fun t st => match s.frameAddr p g st f, s.spillAddr p g k st with
    | some x, some y => t.copyRange y x (s.kvPageBytes p)
    | _, _ => t)

/-- Does a frame hold an uncorrectable error? -/
def State.framePoisoned (s : State) (p g f : Nat) : Bool :=
  (upTo (s.kvStripes p)).any (fun st => match s.frameAddr p g st f with
    | some x => s.poisoned x (s.kvPageBytes p)
    | none => false)

/-- One failure of a frame (R232). -/
def State.frameFails (s : State) (p g f : Nat) : State := s.onKv p g (fun k => { k with failed := k.failed ++ [f] })

/-- Take a reference on a frame. -/
def State.refFrame (s : State) (p g f : Nat) : State :=
  s.onKv p g (fun k => { k with refs := Map.put k.refs f (Map.getD k.refs f 0 + 1) })

/-- A frame returns to the pool: one that failed is refilled with zeros, one that failed twice is retired (R232). -/
def State.poolFrame (s : State) (p g f : Nat) : State :=
  let n := (s.kvGroup p g).failed.count f
  let s0 := s.onKv p g (fun k => { k with refs := Map.del k.refs f })
  let s1 := if n = 0 then s0 else s0.eachStripe p (fun t st => match s.frameAddr p g st f with
    | some x => t.zeroRange x (s.kvPageBytes p)
    | none => t)
  if n < 2 then s1
  else (s1.onKv p g (fun k => { k with retired := k.retired ++ [f] })).bump Reg.KV.RETIRED.retired p 1

/-- Drop a reference on a frame (R223). -/
def State.unrefFrame (s : State) (p g f : Nat) : State :=
  let n := s.frameRefs p g f
  if n = 0 then s
  else if n = 1 then s.poolFrame p g f
  else s.onKv p g (fun k => { k with refs := Map.put k.refs f (n - 1) })

/-! ## Variants (R226) -/

/-- The variant-table entry of variant `v` of a model slot: T1 offset of its stored pages and its pages. -/
def State.variantEntry (s : State) (slot v : Nat) : Nat × Nat :=
  let e := s.readN (t1Addr (Config.variantTable slot + 8 * v)) 8
  (field e 63 16, ceilDiv (min 256 (field e 8 0)) 16)

/-- Key of a variant in a group: model slot and index. -/
def variantKey (slot v : Nat) : Nat := slot * 4096 + v

/-- Load a variant's stored pages, kept stripe by stripe in page order, into frames. -/
def State.loadVariant (s : State) (p g slot v : Nat) (frames : List Nat) : State :=
  let e := s.variantEntry slot v
  s.eachStripe p (fun t st => frames.zipIdx.foldl (fun u x =>
    match s.frameAddr p g st x.1 with
    | some y => u.copyRange (t1Addr (e.1 + (st * e.2 + x.2) * s.kvPageBytes p)) y (s.kvPageBytes p)
    | none => u) t)

/-! ## The KV plan (R220) -/

/-- Apply one change of a KV plan; every device of the instance applies them in the plan's order. -/
def State.kvApply (s : State) (p : Nat) : KvAct → State
  | .share g m page f => (s.refFrame p g f).setPage p g m page (some (.frame f))
  | .alloc g m page f => (s.refFrame p g f).setPage p g m page (some (.frame f))
  | .copy g m page old f =>
    (((((s.refFrame p g f).copyFrame p g old f).setPage p g m page (some (.frame f))).unrefFrame p g old)).bump
      Reg.KV.COPIES.copies p 1
  | .drop g m page (.frame f) => (s.unrefFrame p g f).setPage p g m page none
  | .drop g m page (.spill k) =>
    (s.onKv p g (fun x => { x with spills := x.spills.erase k })).setPage p g m page none
  | .spill g m page f k =>
    (((s.spillFrame p g f k).onKv p g (fun x => { x with spills := x.spills ++ [k] })).unrefFrame p g f).setPage p g m page
      (some (.spill k))
  | .fill g m page k f =>
    (((s.refFrame p g f).fillFrame p g k f).onKv p g (fun x => { x with spills := x.spills.erase k })).setPage p g m page
      (some (.frame f))
  | .variant g slot v frames =>
    ((frames.foldl (fun t f => t.refFrame p g f) s).loadVariant p g slot v frames).onKv p g
      (fun x => { x with variants := Map.put x.variants (variantKey slot v) frames })
  | .dropVariant g slot v =>
    (((Map.getD (s.kvGroup p g).variants (variantKey slot v) []).foldl (fun t f => t.unrefFrame p g f) s)).onKv p g
      (fun x => { x with variants := Map.del x.variants (variantKey slot v) })
  | .handle g h x =>
    (x.frames.foldl (fun t f => t.refFrame p g f) s).onKv p g (fun k => { k with handles := Map.put k.handles h x })
  | .dropHandle g h =>
    match Map.find (s.kvGroup p g).handles h with
    | none => s
    | some x => (x.frames.foldl (fun t f => t.unrefFrame p g f) s).onKv p g (fun k => { k with handles := Map.del k.handles h })

/-- The step leader makes a change and puts it into the plan of the step being prepared. -/
def State.kvDo (s : State) (p : Nat) (a : KvAct) : State :=
  (s.kvApply p a).onGen p (fun x => { x with plan := x.plan ++ [a] })

/-- Make changes in order. -/
def State.kvDoAll (s : State) (p : Nat) (l : List KvAct) : State := l.foldl (fun t a => t.kvDo p a) s

end Sys2Proof.Machine
end

