-- ==== Sys2Proof/Machine/Requests.lean ====
section
/-! DEFINITION. Requests (chapter 11): the request block (R234), its checks (R235), streamer entries and credit (R246, R247),
terminal status and records (R249-R253), and the commands REQUEST, CANCEL, PREFIX_CREATE, PREFIX_RELEASE, NOP (R385). -/
namespace Sys2Proof.Machine

/-! ## The request block (Table 11.1) -/

/-- request_id. -/
def rqId (b : List Byte) : Nat := descField b 0 8
/-- stream_addr. -/
def rqStreamAddr (b : List Byte) : Nat := descField b 8 8
/-- stream_rkey. -/
def rqStreamKey (b : List Byte) : Nat := descField b 16 4
/-- stream_qp. -/
def rqStreamQp (b : List Byte) : Nat := field (descField b 20 4) 31 20
/-- stream_log2. -/
def rqStreamLog (b : List Byte) : Nat := field (descField b 20 4) 4 0
/-- prompt_addr. -/
def rqPrompt (b : List Byte) : Nat := descField b 24 8
/-- prompt_len. -/
def rqPromptLen (b : List Byte) : Nat := field (descField b 32 4) 17 0
/-- max_new. -/
def rqMaxNew (b : List Byte) : Nat := field (descField b 36 4) 17 0
/-- inv_temp. -/
def rqInvTemp (b : List Byte) : Word := BitVec.ofNat 32 (descField b 40 4)
/-- top_p. -/
def rqTopP (b : List Byte) : Word := BitVec.ofNat 32 (descField b 44 4)
/-- Bytes 51:48. -/
def rqWord48 (b : List Byte) : Nat := descField b 48 4
/-- model_slot. -/
def rqSlot (b : List Byte) : Nat := field (rqWord48 b) 31 24
/-- variant. -/
def rqVariant (b : List Byte) : Nat := field (rqWord48 b) 23 12
/-- handle. -/
def rqHandle (b : List Byte) : Nat := field (rqWord48 b) 11 6
/-- use_handle. -/
def rqUseHandle (b : List Byte) : Bool := bit (rqWord48 b) 5
/-- use_variant. -/
def rqUseVariant (b : List Byte) : Bool := bit (rqWord48 b) 4
/-- seed_slot. -/
def rqSeed (b : List Byte) : Nat := field (rqWord48 b) 3 0
/-- Bytes 55:52. -/
def rqWord52 (b : List Byte) : Nat := descField b 52 4
/-- kv_group. -/
def rqGroup (b : List Byte) : Nat := field (rqWord52 b) 31 24
/-- top_k. -/
def rqTopK (b : List Byte) : Nat := field (rqWord52 b) 23 16
/-- credit_index. -/
def rqCredit (b : List Byte) : Nat := field (rqWord52 b) 10 0
/-- sample_base. -/
def rqSampleBase (b : List Byte) : DWord := BitVec.ofNat 64 (descField b 56 8)
/-- Is a token a stop token? -/
def rqStops (b : List Byte) (t : Nat) : Bool :=
  (upTo 8).any (fun j => descField b (64 + 4 * j) 4 == t && t != 0xFFFFFFFF)
/-- The variant a request names, by key. -/
def rqVariantKey (b : List Byte) : Option Nat := if rqUseVariant b then some (variantKey (rqSlot b) (rqVariant b)) else none

/-- Tokens delivered. -/
def Req.newTokens (r : Req) : Nat := r.len - rqPromptLen r.block
/-- The committed length c: the position of the last delivered token (R227). -/
def Req.committed (r : Req) : Nat := r.len - 1
/-- The ID of a request. -/
def Req.id (r : Req) : Nat := rqId r.block
/-- The KV group of a request. -/
def Req.group (r : Req) : Nat := rqGroup r.block
/-- Has the request a batch slot? -/
def Req.admitted (r : Req) : Bool := r.state != .queued

/-! ## The requests of a partition -/

/-- A request by its ID. -/
def State.req (s : State) (p id : Nat) : Option Req := (s.gen p).reqs.find? (fun r => r.id == id)

/-- Change the request with an ID. -/
def State.onReq (s : State) (p id : Nat) (f : Req → Req) : State :=
  s.onGen p (fun g => { g with reqs := g.reqs.map (fun r => if r.id = id then f r else r) })

/-- Drop the request with an ID. -/
def State.dropReq (s : State) (p id : Nat) : State :=
  s.onGen p (fun g => { g with reqs := g.reqs.filter (fun r => r.id != id) })

/-- Requests of a group that hold a batch slot. -/
def State.groupReqs (s : State) (p g : Nat) : List Req := (s.gen p).reqs.filter (fun r => r.admitted && r.group == g)

/-- F (R244), a value above 4 taken as 4. -/
def State.foxHeads (s : State) (p : Nat) : Nat := min 4 (s.get Reg.REQ.CFG.fox_heads p)

/-- The prefill chunk: a multiple of 64 within 64 to 16,384 (R254). -/
def State.prefillChunk (s : State) (p : Nat) : Nat :=
  max 64 (min 16384 (s.get Reg.REQ.CFG.prefill_chunk p / 64 * 64))

/-! ## Streamer (R246, R247) -/

/-- Bytes of a streamer entry (Table 11.5). -/
def streamBytes (value lp pennant flags position phase : Nat) : List Byte :=
  leBytes 4 value ++ leBytes 4 lp ++ leBytes 4 pennant ++ leBytes 4 (phase * 2 ^ 31 + flags * 2 ^ 27 + position % 2 ^ 18)

/-- Hand entry `i` of a request's streamer to its queue pair. `flags`: terminal 8, last 4, speculative 2, pennant_change 1. -/
def State.streamPut (s : State) (p : Nat) (b : List Byte) (i value lp pennant flags position : Nat) : State :=
  let n := rqStreamLog b
  s.hostEntry (s.owner p) (rqStreamQp b) (rqStreamAddr b + 16 * (i % 2 ^ n)) (BitVec.ofNat 32 (rqStreamKey b))
    (streamBytes value lp pennant flags position (phaseBit n i)) none

/-- The credit word of a request; 0 where its base is no T1 address. -/
def State.creditWord (s : State) (p : Nat) (b : List Byte) : Nat :=
  let a := s.get Reg.REQ.CREDIT_BASE.credit_base p + 8 * rqCredit b
  if t1Ok a 8 then s.readN a 8 else 0

/-- Free entries of a request's streamer. -/
def State.streamRoom (s : State) (p : Nat) (r : Req) : Nat :=
  2 ^ rqStreamLog r.block - unconsumed r.written (s.creditWord p r.block)

/-! ## Terminal status (R249-R253) -/

/-- The experience record of Table 1.8 and the step-record entry of Table 11.7: BIND with BIND_HI. -/
def bindRec (slot id promptLen : Nat) : SRec :=
  ⟨slot, leBytes 4 0xFFFFFFFF ++ leBytes 8 id ++ leBytes 4 (slot * 2 ^ 18 + promptLen % 2 ^ 18),
    leBytes 8 (id % 2 ^ 32 * 2 ^ 32 + 2 * 2 ^ 30 + slot * 2 ^ 18 + promptLen % 2 ^ 18) ++
    leBytes 8 (id / 2 ^ 32 * 2 ^ 32 + 3 * 2 ^ 30 + slot * 2 ^ 18)⟩

/-- END in both. -/
def endRec (e : PendEnd) : SRec :=
  ⟨e.slot, leBytes 4 0xFFFFFFFE ++ leBytes 4 e.status ++ leBytes 4 e.pennant ++ leBytes 4 (e.slot * 2 ^ 18 + e.len % 2 ^ 18),
    leBytes 8 (e.status * 2 ^ 32 + 1 * 2 ^ 30 + e.slot * 2 ^ 18 + e.len % 2 ^ 18)⟩

/-- TOKEN in both. `flags`: last 4, speculative 2, pennant_change 1. -/
def tokenRec (slot token lp pennant flags position : Nat) : SRec :=
  ⟨slot, leBytes 4 token ++ leBytes 4 lp ++ leBytes 4 pennant ++ leBytes 4 (flags * 2 ^ 29 + slot * 2 ^ 18 + position % 2 ^ 18),
    leBytes 8 (token * 2 ^ 32 + flags / 2 % 2 * 2 ^ 29 + slot * 2 ^ 18 + position % 2 ^ 18)⟩

/-- The records of a pending END: its request's BIND first where none was written (R42). -/
def PendEnd.recs (e : PendEnd) : List SRec :=
  (match e.bind with
   | some (id, n) => [bindRec e.slot id.toNat n]
   | none => []) ++ [endRec e]

/-- Release what a request's page table names (R223). -/
def State.releasePages (s : State) (p : Nat) (r : Req) : State :=
  (s.kvTable p r.group r.member).foldl (fun t x => t.kvDo p (.drop r.group r.member x.1 x.2)) s

/-- Count an ending by its status (Table 11.10). -/
def State.countEnd (s : State) (p status : Nat) : State :=
  if status = stComplete then s.bump Reg.REQ.ENDS_COMPLETE.complete p 1
  else if status = stCancelled then s.bump Reg.REQ.ENDS_CANCELLED.cancelled p 1
  else s.bump Reg.REQ.ENDS_TIER_LATE.tier_late p 1

/-- Change a step in flight. -/
def State.onStep (s : State) (p seq : Nat) (f : StepRec → StepRec) : State :=
  s.onGen p (fun g => { g with steps := g.steps.map (fun t => if t.seq = seq then f t else t) })

/-- Put records into a step in flight. -/
def State.addRecs (s : State) (p seq : Nat) (l : List SRec) : State :=
  s.onStep p seq (fun t => { t with recs := t.recs ++ l })

/-- Take the terminal status of a request (R249: the first one stands): its terminal streamer entry, its END in the step
in flight or pending, a paused request's frames freed at once; a queued request leaves and writes no record (R250). -/
def State.endReq (s : State) (p id status : Nat) : State :=
  match s.req p id with
  | none => s
  | some r =>
    if r.status.isSome then s
    else
      let s1 := s.countEnd p status
      let s2 := if r.lost then s1 else s1.streamPut p r.block r.written status 0 r.pennant 8 r.len
      if r.state = .queued then s2.dropReq p id
      else
        let e : PendEnd := ⟨r.slot, status, r.pennant, r.len,
          if r.bound then none else some (BitVec.ofNat 64 r.id, rqPromptLen r.block)⟩
        let s3 := s2.onReq p id (fun x => { x with state := .ended, status := some status, written := x.written + 1, bound := true })
        let s4 := match r.step with
          | some seq => s3.addRecs p seq e.recs
          | none => s3.onGen p (fun g => { g with ends := g.ends ++ [e] })
        if r.state = .paused then s4.releasePages p r else s4

/-- STREAM_LOST (R247): no terminal entry can reach the streamer. -/
def State.streamLost (s : State) (p id : Nat) : State :=
  match s.req p id with
  | none => s
  | some r =>
    if r.status.isSome ∨ r.lost then s
    else ((s.onReq p id (fun x => { x with lost := true })).raise 0x0440 p 3 (id % 2 ^ 32 * 2 ^ 32 + r.slot)).endReq p id stCancelled

/-- STREAM_LOST. -/
def execStreamLost (pid : Nat) (reqId : DWord) (s : State) : Res := onPid pid (.next (s.streamLost pid reqId.toNat))

/-! ## Checks of a request block (R235) -/

/-- Is an FP32 value negative (by its sign), NaN or infinite? -/
def badTemp (w : Word) : Bool := w.msb || isNaN32 w || w &&& 0x7FFFFFFF#32 == 0x7F800000#32

/-- 1.0. -/
def wOne : Word := 0x3F800000#32

/-- Is top_p NaN or outside (0, 1]? -/
def badTopP (w : Word) : Bool := isNaN32 w || w.msb || w == 0 || wOne.ult w

/-- Check 1 of Table 11.2 on the block alone. Misaligned addresses count as out of range (DEDUCED, log entry 20). -/
def blockInvalid (b : List Byte) : Bool :=
  field (descField b 20 4) 19 5 != 0 || field (descField b 32 4) 31 18 != 0 || field (descField b 36 4) 31 18 != 0 ||
  field (rqWord52 b) 15 11 != 0 ||
  decide (rqStreamLog b < 6) || decide (16 < rqStreamLog b) || rqPromptLen b == 0 || rqMaxNew b == 0 || decide (64 < rqTopK b) ||
  badTemp (rqInvTemp b) || badTopP (rqTopP b) || (rqTopP b != wOne && rqTopK b == 0) ||
  rqStreamAddr b % 64 != 0 || rqPrompt b % 4 != 0

/-- Check 1: with what the partition holds. -/
def State.requestInvalid (s : State) (p : Nat) (b : List Byte) : Bool :=
  blockInvalid b || s.kvMaxReqs p (rqGroup b) == 0 ||
  (s.gen p).reqs.any (fun r => r.id == rqId b || rqCredit r.block == rqCredit b) || s.shardLen p (rqSlot b) == 0

/-- Does R224 refuse the handle that a block names? -/
def State.handleRefused (s : State) (p : Nat) (b : List Byte) : Bool :=
  rqUseHandle b && (match Map.find (s.kvGroup p (rqGroup b)).handles (rqHandle b) with
    | none => true
    | some h => h.variant != rqVariantKey b)

/-- The status of a request block (Table 11.2). -/
def State.requestStatus (s : State) (p : Nat) (b : List Byte) : Nat :=
  if s.requestInvalid p b then stRequestInvalid
  else if spaceOf (rqPrompt b) ≠ 1 then codeUnmapped
  else match s.resolve (.part p) (rqPrompt b) (4 * rqPromptLen b) with
    | .error c => c
    | .ok _ =>
      if !(bit (s.get Reg.RNG.SEED_STATUS.valid p) (rqSeed b)) ∧ !(bit (s.get Reg.RNG.SEED_STATUS.expanding p) (rqSeed b)) then
        stSeedInvalid
      else if s.handleRefused p b then stPrefixInvalid
      else if s.activePennant p (rqSlot b) = 0 then stSlotEmpty
      else stComplete

/-- A queued request. -/
def Req.queued (b : List Byte) (order : Nat) : Req :=
  { block := b, state := .queued, slot := 0, member := 0, prefilled := 0, len := rqPromptLen b, guesses := [], lastTok := 0,
    written := 0, order := order, status := none, pennant := 0, tokPennant := 0, step := none, bound := false, pausedAt := 0,
    landing := false, learnPaused := false, shared := 0, lost := false }

/-- Take a request block: queue it, or refuse it with one terminal streamer entry at index 0 where its stream fields are
valid. -/
def State.takeRequest (s : State) (p : Nat) (b : List Byte) : State × Nat :=
  let st := s.requestStatus p b
  if st = stComplete then
    (s.onGen p (fun g => { g with reqs := g.reqs ++ [Req.queued b g.order], order := g.order + 1 }), st)
  else
    let s1 := s.bump Reg.REQ.REFUSED.refused p 1
    let okStream := decide (6 ≤ rqStreamLog b) && decide (rqStreamLog b ≤ 16) && rqStreamAddr b % 64 == 0 &&
      field (descField b 20 4) 19 5 == 0
    (if okStream then s1.streamPut p b 0 st 0 0 8 (rqPromptLen b) else s1, st)

/-- Take a cancel (R249-R251): the status it completes with. -/
def State.takeCancel (s : State) (p id : Nat) : State × Nat :=
  match s.req p id with
  | none => (s, stRequestInvalid)
  | some r =>
    match r.status with
    | some st => (s, st)
    | none => (s.endReq p id stCancelled, stCancelled)

/-! ## Prefix handles (R224) -/

/-- Frames of the pages that cover positions below `n`; none where one does not lie in a frame. -/
def State.prefixFrames (s : State) (p : Nat) (r : Req) (n : Nat) : Option (List Nat) :=
  (upTo (ceilDiv n 16)).foldr (fun i acc =>
    match acc, Map.find (s.kvTable p r.group r.member) i with
    | some l, some (.frame f) => some (f :: l)
    | _, _ => none) (some [])

/-- Make a prefix handle over the first `n` positions of a request that has finished its prefill. -/
def State.takePrefixCreate (s : State) (p id n handle group : Nat) : State × Nat :=
  match s.req p id with
  | none => (s, stPrefixInvalid)
  | some r =>
    let ready := r.newTokens != 0 && (r.state == .running || r.state == .held || r.state == .paused) && r.group == group
    if !ready ∨ r.committed < n ∨ (Map.find (s.kvGroup p group).handles handle).isSome then (s, stPrefixInvalid)
    else
      match s.prefixFrames p r n with
      | none => (s, stPrefixInvalid)
      | some fs => (s.kvDo p (.handle group handle ⟨fs, n, rqVariantKey r.block⟩), stComplete)

/-- Release a prefix handle. -/
def State.takePrefixRelease (s : State) (p handle group : Nat) : State × Nat :=
  if (Map.find (s.kvGroup p group).handles handle).isSome then (s.kvDo p (.dropHandle group handle), stComplete)
  else (s, stPrefixInvalid)

/-! ## The take of a command entry (R385) -/

/-- Take a command of a partition: a completion entry is reserved, the command runs, its completion is written. With a full
completion ring the head waits, cq_full is set and CQ_FULL is raised once a wait. `gen` says that the command belongs to
generators, and is COMMAND_INVALID on a learner partition. -/
def State.takeCommand (s : State) (p : Nat) (cmdId : DWord) (opcode : Nat) (gen : Bool) (run : State → State × Nat) : State :=
  let t := s.owner p
  if !(s.live p) ∨ s.boot.stopped then s
  else if !(s.cqRoom t) then
    if (s.part p).sched.cqWait then s
    else ((s.onSched p (fun d => { d with cqWait := true })).set Reg.HOST.STATUS.cq_full t 1).raise 0x0200 t 0 p
  else
    let s0 := (s.cqReserve t).onSched p (fun d => { d with cqWait := false })
    let s1 := if s0.parts.any (fun k => k.2.sched.cqWait && s0.owner k.1 == t) then s0 else s0.set Reg.HOST.STATUS.cq_full t 0
    let x := if gen ∧ s.role p = 1 then (s1, stCommandInvalid) else run s1
    x.1.complete p cmdId.toNat x.2 0 (opcode * 2 ^ 24)

/-- REQUEST. -/
def execRequest (pid : Nat) (cmdId : DWord) (block : List Byte) (s : State) : Res :=
  onPid pid (.next (s.takeCommand pid cmdId 0x01 true (fun t => t.takeRequest pid ((block ++ leBytes 96 0).take 96))))

/-- CANCEL. -/
def execCancel (pid : Nat) (cmdId reqId : DWord) (s : State) : Res :=
  onPid pid (.next (s.takeCommand pid cmdId 0x02 true (fun t => t.takeCancel pid reqId.toNat)))

/-- PREFIX_CREATE. -/
def execPrefixCreate (pid : Nat) (cmdId reqId : DWord) (n handle group : Nat) (s : State) : Res :=
  onPid pid (.next (s.takeCommand pid cmdId 0x04 true
    (fun t => t.takePrefixCreate pid reqId.toNat (n % 2 ^ 18) (handle % 64) (group % 256))))

/-- PREFIX_RELEASE. -/
def execPrefixRelease (pid : Nat) (cmdId : DWord) (handle group : Nat) (s : State) : Res :=
  onPid pid (.next (s.takeCommand pid cmdId 0x05 true (fun t => t.takePrefixRelease pid (handle % 64) (group % 256))))

/-- NOP. -/
def execNop (pid : Nat) (cmdId : DWord) (s : State) : Res :=
  onPid pid (.next (s.takeCommand pid cmdId 0x06 false (fun t => (t, stComplete))))

end Sys2Proof.Machine
end

