-- ==== Sys2Proof/Machine/Plan.lean ====
section
/-! DEFINITION. The phase plan (R29, R30): its entries (Table 1.3), their checks, the entries taken at a decode-step boundary
(SWAP, ROLE_LEARN), and the commands PLAN, SWAP and ROLE_LEARN. -/
namespace Sys2Proof.Machine

/-! ## Entries -/

/-- fabric_time. -/
def peTime (b : List Byte) : Nat := descField b 0 8
/-- Bytes 11:8. -/
def peWord (b : List Byte) : Nat := descField b 8 4
/-- Action. -/
def peAction (b : List Byte) : Nat := field (peWord b) 31 24
/-- allow_late. -/
def peAllowLate (b : List Byte) : Bool := bit (peWord b) 16
/-- sequence. -/
def peSeq (b : List Byte) : Nat := field (peWord b) 15 0
/-- pennant. -/
def pePennant (b : List Byte) : Nat := descField b 12 4
/-- arg. -/
def peArg (b : List Byte) : Nat := descField b 16 4

/-- Is the action valid for a role (Table 1.4)? -/
def actionFits (role action : Nat) : Bool :=
  match action with
  | 1 => role == 2
  | 2 => role == 2
  | 3 => role != 1
  | 4 => role != 0
  | 5 => true
  | _ => false

/-- PLAN_INVALID of an entry (R29). -/
def planInvalid (role : Nat) (b : List Byte) : Bool :=
  !(actionFits role (peAction b)) || field (peWord b) 23 17 != 0 || leNat ((b.drop 20).take 12) != 0 ||
  (peAction b != 3 && pePennant b != 0) || (peAction b != 4 && peAction b != 5 && peArg b != 0)

/-- The status of a plan entry (R29). -/
def State.planStatus (s : State) (p : Nat) (b : List Byte) : Nat :=
  if 64 ≤ (s.part p).plan.length then stPlanFull
  else if planInvalid (s.role p) b then stPlanInvalid
  else if !(peAllowLate b) ∧ peTime b < s.now then stPlanLate
  else stComplete

/-- Take a plan entry into the plan or refuse it. -/
def State.takePlan (s : State) (p : Nat) (b : List Byte) : State × Nat :=
  let st := s.planStatus p b
  if st = stComplete then
    (s.onPart p (fun k => { k with plan := k.plan ++ [⟨b, k.plan.foldl (fun m e => max m (e.order + 1)) 0⟩] }), st)
  else (s, st)

/-- PLAN. -/
def execPlan (pid : Nat) (cmdId : DWord) (entry : List Byte) (s : State) : Res :=
  onPid pid (.next (s.takeCommand pid cmdId 0x03 false (fun t => t.takePlan pid ((entry ++ leBytes 32 0).take 32))))

/-- Does entry `a` stand before entry `b` in plan order: by fabric time, sequence, acceptance? -/
def PlanEntry.before (a b : PlanEntry) : Bool :=
  if peTime a.bytes ≠ peTime b.bytes then decide (peTime a.bytes < peTime b.bytes)
  else if peSeq a.bytes ≠ peSeq b.bytes then decide (peSeq a.bytes < peSeq b.bytes)
  else decide (a.order < b.order)

/-- The entry at the head of the plan, once it is due (R12, R30). -/
def State.dueEntry (s : State) (p : Nat) : Option PlanEntry :=
  match (s.part p).plan with
  | [] => none
  | e :: l =>
    let h := l.foldl (fun a b => if b.before a then b else a) e
    if peTime h.bytes ≤ s.now then some h else none

/-- The due entry at the head, if its action is `action`. -/
def State.dueAction (s : State) (p action : Nat) : Option PlanEntry :=
  (s.dueEntry p).filter (fun e => peAction e.bytes == action)

/-- An entry leaves the plan, and the partition is Active (R448). -/
def State.dropEntry (s : State) (p : Nat) (e : PlanEntry) : State :=
  (s.onPart p (fun k => { k with plan := k.plan.filter (fun x => x.order != e.order) })).wakeUp p

/-- PLAN_ENTRY_FAILED (R29). -/
def State.entryFailed (s : State) (p : Nat) (b : List Byte) (status : Nat) : State :=
  s.raise 0x02C0 p 4 (pePennant b * 2 ^ 32 + peAction b * 2 ^ 24 + status * 2 ^ 16 + peSeq b)

/-! ## SWAP (R29, R36, R341) -/

/-- Is this a device of an instance whose step leader is another one: it has begun steps and launched none (R220, R335)? -/
def State.follows (s : State) (p : Nat) : Bool :=
  (s.gen p).follow.isSome && (s.gen p).steps.isEmpty && s.get Reg.REQ.STEP_SEQ.step_seq p == 0

/-- A due SWAP takes effect: a STAGED pennant becomes the swap target, one found ACTIVE has no effect, any other fails. On a
device other than the step leader the entry has no effect (R335). -/
def State.swapEntry (s : State) (p : Nat) (e : PlanEntry) : State :=
  let q := pePennant e.bytes
  let s1 := s.dropEntry p e
  if s.follows p then s1
  else match s.holds p q with
  | some 2 => s1.addSwap p ⟨q, peTime e.bytes, peTime e.bytes, true, false⟩
  | some 3 => s1
  | _ => s1.entryFailed p e.bytes stPlanInvalid

/-! ## ROLE_LEARN (R30, R31) -/

/-- Running requests are paused at the step boundary; they keep their frames. -/
def State.pauseForLearn (s : State) (p : Nat) : State :=
  s.onGen p (fun g => { g with reqs := g.reqs.map (fun r =>
    if (r.state = .running ∨ r.state = .held) ∧ r.status = none then { r with state := .paused, learnPaused := true } else r) })

/-- A due ROLE_LEARN takes effect at a boundary with no step in flight; in the learn phase it leaves the plan. -/
def State.learnEntry (s : State) (p : Nat) (e : PlanEntry) : State :=
  if (s.part p).sched.learnPhase then s.dropEntry p e
  else if s.stepsInFlight p then s
  else ((s.dropEntry p e).onSched p (fun d => { d with learnPhase := true })).pauseForLearn p

/-- ROLE_LEARN. -/
def execRoleLearn (pid : Nat) (s : State) : Res :=
  onPid pid (.next (match s.dueAction pid 2 with
    | none => s
    | some e => s.learnEntry pid e))

/-! ## Entries due at a decode-step boundary (R30) -/

/-- Take the due entries of the head that act at a decode-step boundary, one at a time in plan order (fuel: the plan holds
64). -/
def State.takeDue (s : State) (p : Nat) : Nat → State
  | 0 => s
  | n + 1 =>
    match s.dueEntry p with
    | none => s
    | some e =>
      if !(s.generating p) then s
      else if peAction e.bytes = 3 then (s.swapEntry p e).takeDue p n
      else if peAction e.bytes = 1 then (s.dropEntry p e).takeDue p n
      else if peAction e.bytes = 2 ∧ !(s.stepsInFlight p) then (s.learnEntry p e).takeDue p n
      else s

end Sys2Proof.Machine
end

