-- ==== Sys2Proof/Machine/Seeds.lean ====
section
/-! DEFINITION. Seed slots (R190). Commands RNG_SEED_WRITE, SEED_EXPANSION_DONE. The origin states that the expansion stores are a
function of the seed (R181), and draws compute them from it. -/
namespace Sys2Proof.Machine

/-- The seed register of a slot. -/
def seedFld (n : Nat) : Fld := ⟨Reg.RNG.SEED.reg.reg + 8 * (n % 16), 63, 0⟩

/-- The descriptors in a queue's ring from its head on, as far as their phase stamps are current (R352). -/
def State.queued (s : State) (p q : Nat) : List (List Byte) :=
  if s.getB Reg.SCHED.QUEUE_CFG.enable p q = 0 then []
  else
    let k := s.queueLog p q
    let base := s.getB Reg.SCHED.QUEUE_ADDR.queue_addr p q
    let head := s.getB Reg.SCHED.QUEUE_HEAD.head p q
    ((upTo (2 ^ k)).map (fun j => (head + j, s.readBytes (base + 64 * ((head + j) % 2 ^ k)) 64))).takeWhile
      (fun x => t1Ok (base + 64 * (x.1 % 2 ^ k)) 64 && dPhase x.2 == phaseBit k x.1) |>.map Prod.snd

/-- Does a running or queued task of the partition name seed slot `n`? -/
def State.seedNamed (s : State) (p n : Nat) : Bool :=
  (s.part p).sched.cores.any (fun c => (s.core c).task.any (fun t => dSeed t.desc == n) ||
    (s.core c).saved.any (fun v => dSeed v.task.desc == n)) ||
  (s.part p).sched.stepHeads.any (fun d => dSeed d == n) ||
  (upTo 16).any (fun q => (s.queued p q).any (fun d => dSeed d == n))

/-- A slot begins its expansion. -/
def State.expandSeed (s : State) (p n : Nat) : State :=
  (s.set Reg.RNG.SEED_STATUS.expanding p (setBit (s.get Reg.RNG.SEED_STATUS.expanding p) n true)).set Reg.RNG.SEED_STATUS.valid p
    (setBit (s.get Reg.RNG.SEED_STATUS.valid p) n false)

/-- A write to a seed: dropped while the slot is in use. -/
def State.seedWrite (s : State) (r : Requester) (p n mask v : Nat) : State :=
  let off := regOff (seedFld n) p
  if s.seedNamed p (n % 16) then s.regFault off stSeedBusy else (s.writeReg r off 0 mask v).expandSeed p (n % 16)

/-- RNG_SEED_WRITE. -/
def execRngSeedWrite (r : Requester) (pid slot : Nat) (seed : DWord) (s : State) : Res :=
  onPid pid (.next (s.guard r (regOff (seedFld slot) pid) (s.seedWrite r pid slot (2 ^ 64 - 1) seed.toNat)))

/-- The expansion of a slot completes. -/
def State.seedReady (s : State) (p n : Nat) : State :=
  if bit (s.get Reg.RNG.SEED_STATUS.expanding p) n then
    (s.set Reg.RNG.SEED_STATUS.expanding p (setBit (s.get Reg.RNG.SEED_STATUS.expanding p) n false)).set Reg.RNG.SEED_STATUS.valid p
      (setBit (s.get Reg.RNG.SEED_STATUS.valid p) n true)
  else s

/-- SEED_EXPANSION_DONE. -/
def execSeedExpansionDone (pid slot : Nat) (s : State) : Res := onPid pid (.next (s.seedReady pid (slot % 16)))

end Sys2Proof.Machine
end

