-- ==== Sys2Proof/Machine/Twin.lean ====
section
/-! DEFINITION. The twin (R411-R417), its store (R418, R422), checkpoints (R420-R423) and restore (R424-R426). Commands PAIR to
RESTORE_PULL_DONE, and CHECKPOINT. -/
namespace Sys2Proof.Machine

/-! ## Pairing (Table 20.1): 0 UNPAIRED, 1 PAIRING, 2 PAIRED, 3 LOST -/

/-- The pairing state. -/
def State.pairing (s : State) : Nat := s.get Reg.TWIN_LINK.STATUS.state 0

/-- Move the pairing to a state. -/
def State.setPairing (s : State) (v : Nat) : State := s.set Reg.TWIN_LINK.STATUS.state 0 v

/-- Raise event `n` of the twin link, naming a device and a serial. -/
def State.twinEvent (s : State) (n device : Nat) (serial : DWord) : State :=
  s.raise 0x0140 0 n (device % 65536 * 2 ^ 48 + serial.toNat % 2 ^ 48)

/-- Is a warm reset in progress? -/
def State.inWarmReset (s : State) : Bool := s.boot.warm && s.bootState != 4

/-- Has the liveness counter stood still for fw_stall_ms? -/
def State.fwStalled (s : State) : Bool := decide (s.twin.fwAt + msTicks (s.get Reg.TWIN_LINK.CFG.fw_stall_ms 0) ≤ s.timer)

/-- The state that a heartbeat reports (R412). -/
def State.beatState (s : State) : Nat :=
  if s.boot.stopped then 4 else if s.inWarmReset then 5 else if s.fwStalled then 4 else s.pairing

/-- The payload of a heartbeat (Table 20.2). -/
def State.beatBytes (s : State) (seq : Nat) : List Byte :=
  leBytes 8 s.now ++ leBytes 4 seq ++ leBytes 4 (s.beatState * 2 ^ 24 + s.deviceId) ++ leBytes 8 s.fuses.serial.toNat ++
    leBytes 4 s.twin.fwCount.toNat ++ leBytes 36 0

/-- One heartbeat on a twin port that carries traffic. -/
def State.beat (s : State) (port : Nat) : State :=
  if s.portUp port then
    let n := (s.twin.seq + 1) % 2 ^ 32
    (s.onTwin (fun t => { t with seq := n })).emit (.heartbeat port (s.beatBytes n))
  else s

/-- The firmware's liveness counter as last written. -/
def State.liveness (s : State) (fw : Word) : State :=
  if s.twin.fwCount = fw then s else s.onTwin (fun t => { t with fwCount := fw, fwAt := s.timer })

/-- HEARTBEAT_SEND. -/
def execHeartbeatSend (fwCount : Word) (s : State) : Res :=
  let s1 := s.liveness fwCount
  .next (if s1.pairing = 0 then s1 else (s1.beat 36).beat 37)

/-- PAIR (R411). -/
def execPair (r : Requester) (s : State) : Res :=
  .next (s.guard r Reg.TWIN_LINK.CMD.reg.reg (if s.pairing = 0 then s.setPairing 1 else s))

/-! ## Checkpoints at the writer -/

/-- CKPT.STATUS.state: 0 idle, 1 writing, 2 scanning, 3 agreeing, 4 pulling. -/
def State.ckptState (s : State) (p : Nat) : Nat := s.get Reg.CKPT.STATUS.state p

/-- A checkpoint of step `step` fails (R422). -/
def State.ckptFails (s : State) (p step cause : Nat) : State :=
  let s1 := (s.onCkpt p (fun c => { c with job := none })).set Reg.CKPT.STATUS.fail_cause p cause
  (((if (s.ckpt p).job.isSome then s1.set Reg.CKPT.STATUS.state p 0 else s1)).bump Reg.CKPT.FAILED.failed p 1).raise 0x0600 p 1
    (step * 2 ^ 32 + cause)

/-- The checkpoint being written, if any, fails. -/
def State.jobFails (s : State) (p cause : Nat) : State :=
  match (s.ckpt p).job with
  | some j => s.ckptFails p j.step cause
  | none => s

/-- Round up to 4 KiB. -/
def page4k (n : Nat) : Nat := ceilDiv n 4096 * 4096

/-- Bytes of the weight section of a partition's slot. -/
def State.weightLen (s : State) (p n : Nat) : Nat := page4k (s.shardLen p n)

/-- Bytes of the state section. -/
def State.stateLen (s : State) (p : Nat) : Nat := s.get Reg.CKPT.STATE_LEN.state_len p

/-- The physical place of the host block of a step (R421). -/
def State.hostBlock (s : State) (p step : Nat) : Option Nat :=
  match s.resolve (.part p) (s.get Reg.CKPT.DATA_POS.data_pos p + 128 * (step % 4)) 128 with
  | .ok a => some a
  | .error _ => none

/-- Slot bytes 0x0100 to 0x0FFF (Table 20.3). -/
def State.ckptHead (s : State) (p block : Nat) : List Byte :=
  (upTo 16).flatMap (fun n => leBytes 8 (s.seed p n)) ++ leBytes 8 (s.get Reg.RNG.SEED_STATUS.valid p) ++
    leBytes 8 (s.get Reg.UPD.INDEX_BASE.index_base p) ++ leBytes 112 0 ++ s.readBytes block 128 ++ leBytes 3456 0

/-- The state base of a buffer as its register now stands. -/
def State.sBaseNow (s : State) (p b : Nat) : Nat :=
  s.get (if b = 0 then Reg.UPD.SBASE0.sbase0 else Reg.UPD.SBASE1.sbase1) p

/-- Does another LIVE checkpointing partition of the device name the channel (R418)? -/
def State.channelTaken (s : State) (p : Nat) : Bool :=
  s.parts.any (fun k => k.1 != p && s.live k.1 && s.getBit Reg.CKPT.CFG.enable k.1 &&
    s.get Reg.CKPT.CFG.channel k.1 == s.get Reg.CKPT.CFG.channel p)

/-- A trigger asks for a checkpoint into slot `x` (R420); while the twin is in a warm reset it waits (R457). -/
def State.ckptTrigger (s : State) (p x : Nat) : State :=
  let c := s.ckpt p
  if !(s.getBit Reg.CKPT.CFG.enable p) then s
  else if s.ckptState p ≠ 0 then (s.bump Reg.CKPT.SKIPPED.skipped p 1).raise 0x0600 p 2 (c.step * 2 ^ 32)
  else if s.pairing ≠ 2 then s.ckptFails p c.step 1
  else if s.channelTaken p then s.ckptFails p c.step 5
  else match s.readBuf p with
    | none => s
    | some (n, b) =>
      if s.get Reg.TWIN_LINK.STORE_CFG.slot_len 0 < 0x1000 + s.weightLen p n + s.stateLen p then s.ckptFails p c.step 3
      else match s.hostBlock p c.step with
        | none => s.ckptFails p c.step 4
        | some h =>
          if s.poisoned h 128 then s.ckptFails p c.step 4
          else
            let j : CkptJob :=
              { slot := x, step := c.step, model := n, buf := b, pennant := s.bufPennant p n b, time := c.time,
                sbase := s.sBaseNow p b, head := s.ckptHead p h, phase := if s.twin.hold then 3 else 0 }
            let s1 := (s.onCkpt p (fun c => { c with job := some j })).set Reg.CKPT.STATUS.state p 1
            if s.twin.hold then s1 else s1.emit (.ckpt (.clear (s.get Reg.CKPT.CFG.channel p) x p))

/-- The twin reports PAIRED again: a checkpoint that waited for it starts (R457). -/
def State.ckptStart (s : State) (p : Nat) : State :=
  match (s.ckpt p).job with
  | some j =>
    if j.phase = 3 then
      (s.onCkpt p (fun c => { c with job := some { j with phase := 0 } })).emit (.ckpt (.clear (s.get Reg.CKPT.CFG.channel p) j.slot p))
    else s
  | none => s

/-- The triggers of the commit of the last step, `before` being the fabric time of the one before it (R420). -/
def State.commitTriggers (s : State) (p before : Nat) : State :=
  let c := s.ckpt p
  let every := s.get Reg.CKPT.CFG.every_steps p
  let period := s.get Reg.CKPT.PERIOD.period p
  let s1 := if every ≠ 0 ∧ c.step % every = 0 then s.ckptTrigger p (c.step / every % 2) else s
  if period ≠ 0 ∧ before / period < c.time / period then s1.ckptTrigger p (c.time / period % 2) else s1

/-- The weight and state sections of a checkpoint, and whether they can be read; none where the state area is not there. -/
def State.ckptSections (s : State) (p : Nat) (j : CkptJob) : Option (List Byte × Bool) :=
  let w := s.bufBase p j.model j.buf
  let n := s.shardLen p j.model
  let k := s.stateLen p
  match s.updPlace p j.sbase 0 k with
  | none => none
  | some a => some (s.readBytes w n ++ leBytes (s.weightLen p j.model - n) 0 ++ s.readBytes a k, s.poisoned w n || s.poisoned a k)

/-- Manifest bytes 0 to 63 (Table 20.4). -/
def State.manifestHead (s : State) (p : Nat) (j : CkptJob) : List Byte :=
  ascii "PLXCKPT1" ++ leBytes 8 (s.get Reg.CKPT.RUN_ID.run_id p) ++ leBytes 4 j.step ++ leBytes 4 j.pennant ++
    leBytes 2 s.deviceId ++ leBytes 2 p ++ leBytes 1 j.slot ++ leBytes 3 0 ++ leBytes 8 (s.weightLen p j.model) ++
    leBytes 8 (s.stateLen p) ++ leBytes 8 j.time ++ leBytes 8 0

/-- A manifest: its first 64 bytes, the digest over the slot's data and them, reserved bytes. -/
def manifestOf (data head : List Byte) : List Byte := head ++ shake256 (data ++ head) 64 ++ leBytes 128 0

/-- The holder has zeroed the manifest, or refused (R422): the data is sent. -/
def State.clearedAck (s : State) (p : Nat) (busy : Bool) : State :=
  match (s.ckpt p).job with
  | some j =>
    if j.phase ≠ 0 then s
    else if busy then s.jobFails p 5
    else match s.ckptSections p j with
      | some (bs, false) =>
        ((s.onCkpt p (fun c => { c with job := some { j with phase := 1 } })).bump Reg.CKPT.BYTES.bytes p (j.head ++ bs).length).emit
          (.ckpt (.data (s.get Reg.CKPT.CFG.channel p) j.slot 0x100 (j.head ++ bs)))
      | _ => s.jobFails p 4
  | none => s

/-- Every data byte is acknowledged: the manifest is sent. -/
def State.dataAck (s : State) (p : Nat) : State :=
  match (s.ckpt p).job with
  | some j =>
    if j.phase ≠ 1 then s
    else match s.ckptSections p j with
      | some (bs, _) =>
        ((s.onCkpt p (fun c => { c with job := some { j with phase := 2 } })).bump Reg.CKPT.BYTES.bytes p 256).emit
          (.ckptEnd (.manifest (s.get Reg.CKPT.CFG.channel p) j.slot (manifestOf (j.head ++ bs) (s.manifestHead p j))))
      | none => s.jobFails p 4
  | none => s

/-- The holder's answer to the manifest. -/
def State.manifestAck (s : State) (p : Nat) (ok : Bool) : State :=
  match (s.ckpt p).job with
  | some j =>
    if j.phase ≠ 2 then s
    else if !ok then s.jobFails p 6
    else
      let s1 := ((s.onCkpt p (fun c => { c with job := none })).set Reg.CKPT.STATUS.state p 0).bump Reg.CKPT.TAKEN.taken p 1
      ((s1.set Reg.CKPT.STATUS.last_step p j.step).set Reg.CKPT.STATUS.last_slot p j.slot).raise 0x0600 p 0
        (j.step * 2 ^ 32 + j.slot)
  | none => s

/-! ## The store at the holder -/

/-- Bytes per slot of the store. -/
def State.slotLen (s : State) : Nat := s.get Reg.TWIN_LINK.STORE_CFG.slot_len 0

/-- The address of slot `x` of channel `c` (R418); none outside the store. -/
def State.storeSlot (s : State) (c x : Nat) : Option Nat :=
  if c < s.get Reg.TWIN_LINK.STORE_CFG.channels 0 ∧ x < 2 then
    some (s.get Reg.TWIN_LINK.STORE_BASE.store_base 0 + (2 * c + x) * s.slotLen)
  else none

/-- Does this device hold a store that its twin may write: PAIRED and not frozen (R414)? -/
def State.storeOpen (s : State) : Bool := s.pairing == 2 && !s.twin.frozen

/-- The zeroing of a manifest (R422): BUSY where another partition writes the channel. -/
def State.storeClear (s : State) (c x w : Nat) : State :=
  match s.storeSlot c x with
  | none => s
  | some a =>
    if (Map.find s.twin.writers c).any (fun k => k.writer != w) then s.emit (.ckpt (.cleared w true))
    else ((s.zeroRange a 256).onTwin (fun t => { t with writers := Map.put t.writers c ⟨x, w, 0x100⟩ })).emit (.ckpt (.cleared w false))

/-- Bytes of a slot being written: taken in ascending order, inside the slot. -/
def State.storeData (s : State) (c x off : Nat) (bs : List Byte) : State :=
  match s.storeSlot c x, Map.find s.twin.writers c with
  | some a, some k =>
    if k.slot ≠ x ∨ off ≠ k.upTo ∨ s.slotLen < off + bs.length then s
    else ((s.writeBytes (a + off) bs).onTwin (fun t => { t with writers := Map.put t.writers c { k with upTo := off + bs.length } })).emit
      (.ckpt (.dataAcked k.writer))
  | _, _ => s

/-- A manifest at the holder: written only if its digest is the holder's. -/
def State.storeManifest (s : State) (c x : Nat) (m : List Byte) : State :=
  match s.storeSlot c x, Map.find s.twin.writers c with
  | some a, some k =>
    if k.slot ≠ x ∨ m.length ≠ 256 then s
    else
      let ok := (shake256 (s.readBytes (a + 0x100) (k.upTo - 0x100) ++ m.take 64) 64) == (m.drop 64).take 64
      let s1 := if ok then s.writeBytes a m else s
      (s1.onTwin (fun t => { t with writers := Map.del t.writers c })).emit (.ckptEnd (.answer k.writer ok))
  | _, _ => s

/-- The end of the state section that a slot's manifest gives. -/
def State.slotEnd (s : State) (a : Nat) : Nat := 0x1000 + s.readN (a + 32) 8 + s.readN (a + 40) 8

/-- What a scan finds in a slot (R425). -/
def State.scanSlot (s : State) (a : Nat) (runId : DWord) : SlotScan :=
  let e := s.slotEnd a
  let good := s.readBytes a 8 == ascii "PLXCKPT1" && s.readN (a + 8) 8 == runId.toNat && decide (e ≤ s.slotLen) &&
    !(s.poisoned a e) && shake256 (s.readBytes (a + 0x100) (e - 0x100) ++ s.readBytes a 64) 64 == s.readBytes (a + 64) 64
  if good then ⟨s.readN (a + 16) 4, s.readN (a + 20) 4⟩ else ⟨-1, 0⟩

/-- A scan of a channel for the twin's partition: reads only. -/
def State.storeScan (s : State) (c p : Nat) (runId : DWord) : State :=
  match s.storeSlot c 0, s.storeSlot c 1 with
  | some a, some b => s.emit (.ckpt (.scanned p (s.scanSlot a runId) (s.scanSlot b runId)))
  | _, _ => s.emit (.ckpt (.scanned p ⟨-1, 0⟩ ⟨-1, 0⟩))

/-- A pull of a slot. -/
def State.storePull (s : State) (c x p : Nat) : State :=
  match s.storeSlot c x with
  | some a =>
    let e := min (s.slotEnd a) s.slotLen
    s.emit (.ckptPulled p (s.readBytes a e) (s.poisoned a e))
  | none => s

/-! ## Restore (R424-R426) -/

/-- A restore ends with a status. -/
def State.restoreEnds (s : State) (p status : Nat) : State :=
  ((s.onCkpt p (fun c => { c with restore := none })).set Reg.CKPT.STATUS.last_status p status).set Reg.CKPT.STATUS.state p 0

/-- The lanes of an agreement: v_A, NOT v_A, v_B, NOT v_B. -/
def restoreLanes (a b : Int) : List Nat := [lane64 a, lane64 (-a - 1), lane64 b, lane64 (-b - 1), 0, 0, 0, 0]

/-- The scan's result arrives: the device enters the agreement (R425). -/
def State.scanned (s : State) (p : Nat) (a b : SlotScan) : State :=
  if s.ckptState p ≠ 2 then s
  else
    ((s.onCkpt p (fun c => { c with restore := some ⟨a, b, none⟩ })).set Reg.CKPT.STATUS.state p 3).hareEnter p
      (s.get Reg.CKPT.CFG.combine_group p) (s.get Reg.CKPT.RESTORE_VERSION.version p) 0x02 .restore
      (laneBytes 8 (restoreLanes a.step b.step))

/-- A scan without a twin (R425). -/
def State.scanNone (s : State) (p : Nat) : State := s.scanned p ⟨-1, 0⟩ ⟨-1, 0⟩

/-- Does the partition hold a task? -/
def State.holdsTask (s : State) (p : Nat) : Bool :=
  (s.part p).sched.cores.any (fun c => (s.core c).task.isSome || !(s.core c).saved.isEmpty)

/-- Is buffer `b` of a slot read by a checkpoint (R423)? -/
def State.ckptReads (s : State) (p n b : Nat) : Bool := (s.ckpt p).job.any (fun j => j.model == n && j.buf == b)

/-- Is a shard of the slot on its way to a child? -/
def State.relaying (s : State) (p n : Nat) : Bool :=
  (s.wslot p n).children.any (fun c => decide (c.2.pennant ≠ 0) && !c.2.sent)

/-- Has a decode step work left on this device: tasks that wait or run, or running lists? -/
def State.stepWork (s : State) (p : Nat) : Bool :=
  !(s.part p).sched.stepHeads.isEmpty || (s.part p).tiers.lists.any (fun x => x.2.step) ||
  (s.part p).sched.cores.any (fun c => (s.core c).task.any (fun t => t.queue.isNone))

/-- Does a step tagged with the pennant remain in flight on the device (R26)? -/
def State.stepReads (s : State) (p pennant : Nat) : Bool :=
  (s.gen p).steps.any (fun t => t.pennant == pennant) || (s.stepWork p && (s.gen p).follow.any (fun f => f.2 == pennant))

/-- Is a buffer of any slot read by a step, a relay or a checkpoint? -/
def State.buffersRead (s : State) (p : Nat) : Bool :=
  !(s.gen p).steps.isEmpty || s.stepWork p || (s.ckpt p).job.isSome || (s.part p).pub.slots.any (fun x => s.relaying p x.1)

/-- A write of RESTORE (R424). -/
def State.restoreStart (s : State) (p : Nat) : State :=
  if s.holdsTask p ∨ (s.red p).isOpen ∨ s.buffersRead p ∨ s.ckptState p ≠ 0 then s.regFault (regOff Reg.CKPT.CMD.reg p) stSchedBusy
  else
    let s1 := s.set Reg.CKPT.STATUS.state p 2
    if s.pairing = 2 then s1.emit (.ckpt (.scan (s.get Reg.CKPT.CFG.channel p) p (BitVec.ofNat 64 (s.get Reg.CKPT.RUN_ID.run_id p))))
    else s1.scanNone p

/-- CKPT_RESTORE. -/
def execCkptRestore (r : Requester) (pid : Nat) (s : State) : Res :=
  onPid pid (.next (s.guard r (regOff Reg.CKPT.CMD.reg pid) (s.restoreStart pid)))

/-- The step at which slot `x` is complete in the formed lanes; none where it is not (R425). -/
def completeAt (l : List Nat) (x : Nat) : Option Nat :=
  let v := l.getD (2 * x) 0
  if 0 ≤ sext 64 v ∧ v = 2 ^ 64 - 1 - l.getD (2 * x + 1) 0 then some v else none

/-- The complete slot with the higher step. -/
def chooseSlot (l : List Nat) : Option (Nat × Nat) :=
  match completeAt l 0, completeAt l 1 with
  | some a, some b => if a < b then some (1, b) else some (0, a)
  | some a, none => some (0, a)
  | none, some b => some (1, b)
  | none, none => none

/-- The agreement forms from this device's lanes and the maximum of the others' (R425), and the restore begins (R426). -/
def State.restoreAgreed (s : State) (p : Nat) (others : List DWord) : State :=
  match (s.ckpt p).restore with
  | none => s
  | some x =>
    if s.ckptState p ≠ 3 then s
    else
      let own := restoreLanes x.a.step x.b.step
      let l := own.zipIdx.map (fun v => combine64 0x02 v.1 ((others.map BitVec.toNat).getD v.2 v.1))
      match chooseSlot l with
      | none => s.restoreEnds p stRestoreIncomplete
      | some (k, step) =>
        let q := (if k = 0 then x.a else x.b).pennant
        if s.get Reg.CKPT.RESTORE_VERSION.version p ≤ versionOf q then s.restoreEnds p stPubInvalid
        else
          let n := slotOf q
          (((((s.setBuf p n 0 0 0).setBuf p n 1 0 0).onWslot p n (fun w => { w with fill := none })).onCkpt p (fun c =>
            { c with restore := some { x with chosen := some (k, step) } })).set Reg.CKPT.STATUS.state p 4).emit
            (.ckpt (.pull (s.get Reg.CKPT.CFG.channel p) k p))

/-- RESTORE_AGREEMENT. -/
def execRestoreAgreement (pid : Nat) (othersLanes : List DWord) (s : State) : Res :=
  onPid pid (.next ((s.hareTaken pid .restore).restoreAgreed pid othersLanes))

/-- RESTORE_AGREE_TIMEOUT. -/
def execRestoreAgreeTimeout (pid : Nat) (s : State) : Res :=
  onPid pid (.next (if s.ckptState pid = 3 then (s.hareTaken pid .restore).restoreEnds pid stRestoreIncomplete else s))

/-- `n` little-endian bytes at an offset. -/
def bytesN (d : List Byte) (off n : Nat) : Nat := leNat ((d.drop off).take n)

/-- The seeds of a pulled slot: every seed written, those of the mask expanded (R190). -/
def State.restoreSeeds (s : State) (p : Nat) (d : List Byte) : State :=
  let s1 := (upTo 16).foldl (fun t n => t.set (seedFld n) p (bytesN d (0x100 + 8 * n) 8)) s
  (s1.set Reg.RNG.SEED_STATUS.expanding p (bytesN d 0x180 8 % 2 ^ 16)).set Reg.RNG.SEED_STATUS.valid p 0

/-- The chosen slot has been pulled: `d` is the slot from its offset 0 (R426). -/
def State.restorePulled (s : State) (p : Nat) (d : List Byte) : State :=
  match (s.ckpt p).restore.bind (fun x => x.chosen.map (fun k => (x, k))) with
  | none => s
  | some (x, k, step) =>
    if s.ckptState p ≠ 4 then s
    else
      let n := slotOf (if k = 0 then x.a else x.b).pennant
      let wl := bytesN d 32 8
      let sl := bytesN d 40 8
      match s.updPlace p (s.sBaseNow p 0) 0 sl, s.hostBlock p step with
      | some a, some h =>
        if d.length < 0x1000 + wl + sl ∨ wl ≠ s.weightLen p n ∨ !(s.regionHolds p n 0) then s.restoreEnds p stRestoreIncomplete
        else
          let s1 := ((s.writeBytes (s.bufBase p n 0) ((d.drop 0x1000).take (s.shardLen p n))).writeBytes a
            ((d.drop (0x1000 + wl)).take sl)).restoreSeeds p d
          let s2 := (s1.set Reg.UPD.INDEX_BASE.index_base p (bytesN d 0x188 8)).writeBytes h ((d.drop 0x200).take 128)
          let s3 := s2.setBuf p n 0 3 (n * 2 ^ 24 + s.get Reg.CKPT.RESTORE_VERSION.version p)
          let s4 := ((s3.onRed p (fun r => { r with step := step })).set Reg.RED.STATUS.step p (step % 65536)).onCkpt p (fun c =>
            { c with step := step, time := bytesN d 48 8 })
          s4.restoreEnds p stComplete
      | _, _ => s.restoreEnds p stRestoreIncomplete

/-- RESTORE_PULL_DONE. -/
def execRestorePullDone (pid : Nat) (data : List Byte) (s : State) : Res := onPid pid (.next (s.restorePulled pid data))

/-! ## Checkpoint messages -/

/-- A checkpoint message: one for the holder is taken while its store is open, one for the writer always. -/
def State.ckptMsg (s : State) : CkptMsg → State
  | .clear c x w => if s.storeOpen then s.storeClear c x w else s
  | .data c x off bs => if s.storeOpen then s.storeData c x off bs else s
  | .scan c p r => if s.pairing = 2 then s.storeScan c p r else s
  | .pull c x p => if s.pairing = 2 then s.storePull c x p else s
  | .cleared p busy => s.clearedAck p busy
  | .dataAcked p => s.dataAck p
  | .scanned p a b => s.scanned p a b

/-- CKPT_DATA_RECEIVE. -/
def execCkptDataReceive (m : CkptMsg) (s : State) : Res := .next (s.ckptMsg m)

/-- CKPT_MANIFEST. -/
def execCkptManifest (m : CkptEnd) (s : State) : Res :=
  .next (match m with
    | .manifest c x bs => if s.storeOpen then s.storeManifest c x bs else s
    | .answer p ok => s.manifestAck p ok)

/-! ## Loss and pairing -/

/-- The twin is LOST (R414): its part of the store is frozen, checkpoints to it end, scans of it find nothing. -/
def State.twinLost (s : State) : State :=
  let (d, x) := s.twin.peer.getD (0, 0)
  let s1 := ((s.setPairing 3).onTwin (fun t => { t with frozen := true, hold := false, writers := [] })).twinEvent 1 d x
  s1.parts.foldl (fun t k => let u := t.jobFails k.1 2; if u.ckptState k.1 = 2 then u.scanNone k.1 else u) s1

/-- A heartbeat from the twin is accepted. -/
def State.seen (s : State) (hb : Heartbeat) : State := s.set Reg.TWIN_LINK.LAST_SEEN.last_seen 0 hb.sendTime.toNat

/-- The device enters PAIRED with a twin (R413, R416). -/
def State.paired (s : State) (hb : Heartbeat) : State :=
  ((s.setPairing 2).onTwin (fun t => { t with peer := some (hb.device, hb.serial), hold := false, frozen := false })).twinEvent 0
    hb.device hb.serial

/-- The hold of a warm reset is over at a heartbeat in PAIRED: what waited starts (R414, R457). -/
def State.holdOver (s : State) : State :=
  let s1 := s.onTwin (fun t => { t with hold := false })
  s1.parts.foldl (fun t k => t.ckptStart k.1) s1

/-- Is the heartbeat from the device and serial that the registers name? -/
def State.namedTwin (s : State) (hb : Heartbeat) : Bool :=
  hb.device == s.get Reg.TWIN_LINK.CFG.twin_device 0 && hb.serial.toNat == s.get Reg.TWIN_LINK.TWIN_SERIAL.serial 0

/-- A heartbeat that is not from the twin. -/
def State.strangeBeat (s : State) : State := s.bump Reg.TWIN_LINK.MISSES.misses 0 1

/-- A heartbeat on a twin port (R413-R416). -/
def State.heartbeat (s : State) (hb : Heartbeat) : State :=
  let mine := s.twin.peer == some (hb.device, hb.serial)
  match s.pairing with
  | 1 => if !(s.namedTwin hb) then s.strangeBeat
    else if hb.state = 1 ∨ hb.state = 2 then (s.seen hb).paired hb else s
  | 2 => if !mine then s.strangeBeat
    else if hb.state = 4 then (s.seen hb).twinLost
    else if hb.state = 5 then (s.seen hb).onTwin (fun t => { t with hold := true })
    else if hb.state = 2 then (s.seen hb).holdOver
    else s.seen hb
  | 3 => if mine then
      if 1 ≤ hb.state ∧ hb.state ≤ 3 then
        (((s.seen hb).setPairing 2).onTwin (fun t => { t with hold := false, frozen := false })).twinEvent 2 hb.device hb.serial
      else s
    else if s.getBit Reg.TWIN_LINK.CFG.adopt 0 ∧ s.namedTwin hb ∧ s.twin.peer.all (fun k => k.2 != hb.serial) then
      if hb.state = 1 ∨ hb.state = 2 then ((s.seen hb).paired hb).set Reg.TWIN_LINK.CFG.adopt 0 0 else s
    else s.strangeBeat
  | _ => if s.namedTwin hb then s else s.strangeBeat

/-- HEARTBEAT_RECEIVE. -/
def execHeartbeatReceive (port : Nat) (hb : Heartbeat) (s : State) : Res :=
  onPort port (.next (if 36 ≤ port then s.heartbeat hb else s.portLost port))

/-- HEARTBEAT_MISS: miss_limit periods without a heartbeat (R414). -/
def execHeartbeatMiss (s : State) : Res :=
  .next (if s.pairing = 2 ∧ !s.twin.hold then
    (s.bump Reg.TWIN_LINK.MISSES.misses 0 (max 2 (s.get Reg.TWIN_LINK.CFG.miss_limit 0))).twinLost else s)

/-- RESET_HOLD_EXPIRY. -/
def execResetHoldExpiry (s : State) : Res := .next (if s.pairing = 2 ∧ s.twin.hold then s.twinLost else s)

/-- DETACH: the twin's part of the store is released (R417). -/
def State.detach (s : State) : State :=
  let s1 := (s.setPairing 0).onTwin (fun t => { t with peer := none, hold := false, frozen := false, writers := [] })
  s1.parts.foldl (fun t k => let u := t.jobFails k.1 1; if u.ckptState k.1 = 2 then u.scanNone k.1 else u) s1

/-- DETACH. -/
def execDetach (r : Requester) (s : State) : Res := .next (s.guard r Reg.TWIN_LINK.CMD.reg.reg s.detach)

/-! ## CHECKPOINT plan entries (R30, R420) -/

/-- Take a due CHECKPOINT entry. -/
def State.ckptEntry (s : State) (p : Nat) (e : PlanEntry) : State := (s.dropEntry p e).ckptTrigger p (peArg e.bytes % 2)

/-- CHECKPOINT outside a commit or failure: the idle learn phase of a mixed partition. -/
def execCheckpoint (pid : Nat) (s : State) : Res :=
  onPid pid (.next (match s.dueAction pid 4 with
    | none => s
    | some e => if s.role pid = 2 ∧ s.learning pid ∧ !(s.red pid).isOpen then s.ckptEntry pid e else s))

end Sys2Proof.Machine
end

