-- ==== Sys2Proof/Machine/Publish.lean ====
section
/-! DEFINITION. Publication: the relay of a version (R336-R339), records (R34, R337, R38), readiness (R340), host loads (R335),
drained buffers (R26), the commit of a learner step (R32, R33, R405-R407), the return to the generate phase (R30, R31). -/
namespace Sys2Proof.Machine

/-! ## Edges (R336) -/

/-- The edges of a slot: (port, device) of its children and of its holders, and whether the list marks too many. -/
structure Edges where
  children : List (Nat × Nat)
  holders : List (Nat × Nat)
  tooMany : Bool
  deriving DecidableEq, Repr

/-- The edge list of a slot. -/
def State.edges (s : State) (p n : Nat) : Edges :=
  match s.resolve (.part p) (s.getB Reg.PUB.EDGE_ADDR.edge_addr p n) 64 with
  | .error _ => ⟨[], [], false⟩
  | .ok a =>
    let es := ((upTo 16).map (fun i => s.readN (a + 4 * i) 4)).filter (fun e => bit e 31)
    let at_ := fun e => (field e 20 16, field e 15 0)
    let cs := (es.filter (fun e => !(bit e 30))).map at_
    let hs := (es.filter (fun e => bit e 30)).map at_
    ⟨cs.take 8, hs.take 3, decide (8 < cs.length) || decide (3 < hs.length)⟩

/-- Reading a list that marks too many edges is a fault of the page. -/
def State.edgesRead (s : State) (p n : Nat) : State :=
  if (s.edges p n).tooMany then s.regFault (regOff Reg.PUB.EDGE_ADDR.reg p) stPubInvalid else s

/-! ## Sending to a child (R338) -/

/-- Bytes of a chunk. -/
def chunkBytes : Nat := 262144

/-- Chunks of a shard. -/
def State.shardChunks (s : State) (p n : Nat) : Nat := ceilDiv (s.shardLen p n) chunkBytes

/-- Packets of a shard's data. -/
def State.shardPackets (s : State) (p n : Nat) : Nat := ceilDiv (s.shardLen p n) 2048

/-- The buffer of a slot that holds a pennant, with its state. -/
def State.bufOf (s : State) (p n pennant : Nat) : Option (Nat × Nat) :=
  ([0, 1].find? (fun b => s.bufState p n b != 0 && s.bufPennant p n b == pennant)).map (fun b => (b, s.bufState p n b))

/-- Data packets of a pennant that may be sent now: those of every landed chunk of a relay fill, all of a complete version. -/
def State.sendable (s : State) (p n pennant : Nat) : Nat :=
  match s.bufOf p n pennant with
  | some (_, 1) => (match (s.wslot p n).fill with
    | some f => if f.relay then min (128 * f.chunk) (s.shardPackets p n) else 0
    | none => 0)
  | some _ => s.shardPackets p n
  | none => 0

/-- The digest that goes out after the last chunk: the version's own, or the one received with it. -/
def State.sendDigest (s : State) (p n pennant : Nat) : Option DWord :=
  match s.bufOf p n pennant with
  | some (_, 1) => (s.wslot p n).digest
  | some (b, _) => some (s.shardDigest p n b)
  | none => none

/-- The poison bits of a packet whose bytes lie at `a`. -/
def State.packetPoison (s : State) (a n : Nat) : Nat :=
  (upTo (ceilDiv n 256)).foldl (fun m i => if s.poisoned (a + 256 * i) (min 256 (n - 256 * i)) then m + 2 ^ i else m) 0

/-- A RELAY packet of a slot. -/
def State.relayPacket (s : State) (p n dev pennant arg : Nat) (bs : List Byte) : Packet :=
  mkPacket dev 4 0 (s.owner p) (s.getB Reg.PUB.SLOT_CFG.shard p n) pennant arg bs

/-- Data packet `k` of a pennant. -/
def State.dataPacket (s : State) (p n dev pennant k : Nat) : Packet :=
  let b := ((s.bufOf p n pennant).map Prod.fst).getD 0
  let a := s.bufBase p n b + 2048 * k
  let len := min 2048 (s.shardLen p n - 2048 * k)
  { s.relayPacket p n dev pennant (k / 128) (s.readBytes a len) with
    last := k % 128 == 127 || k + 1 == s.shardPackets p n, poison := s.packetPoison a len }

/-- Change an outgoing relay. -/
def State.onChild (s : State) (p n i : Nat) (f : Child → Child) : State :=
  s.onWslot p n (fun w => { w with children := Map.adjust w.children i ⟨0, 0, 0, false⟩ f })

/-- An outgoing relay. -/
def State.child (s : State) (p n i : Nat) : Child := Map.getD (s.wslot p n).children i ⟨0, 0, 0, false⟩

/-- Send to child `i` at (port, device) what its sub-credits and the landed chunks allow (fuel: the packets of a shard). -/
def State.pumpChild (s : State) (p n i port dev : Nat) : Nat → State
  | 0 => s
  | fuel + 1 =>
    let c := s.child p n i
    if c.credits = 0 ∨ c.sent then s
    else if c.pennant = 0 then
      let q := (s.wslot p n).named
      if q = 0 then s else (s.onChild p n i (fun c => { c with pennant := q, next := 0 })).pumpChild p n i port dev fuel
    else if c.next < s.shardPackets p n then
      if s.sendable p n c.pennant ≤ c.next then s
      else
        let k := s.dataPacket p n dev c.pennant c.next
        let s1 := (s.onChild p n i (fun c => { c with credits := c.credits - 1, next := c.next + 1 })).sendBy port k
        (if k.last then s1.bump Reg.PUB.CHUNKS_OUT.chunks_out p 1 else s1).pumpChild p n i port dev fuel
    else match s.sendDigest p n c.pennant with
      | none => s
      | some d =>
        if s.sendable p n c.pennant < s.shardPackets p n then s
        else (s.onChild p n i (fun c => { c with credits := c.credits - 1, sent := true })).sendBy port
          (s.relayPacket p n dev c.pennant 0xFFFFFFFF (leBytes 8 d.toNat ++ leBytes 24 0))

/-- Send to every child of a slot. -/
def State.pumpSlot (s : State) (p n : Nat) : State :=
  (s.edges p n).children.zipIdx.foldl (fun t e => t.pumpChild p n e.2 e.1.1 e.1.2 (s.shardPackets p n + 2)) (s.edgesRead p n)

/-- Relay sub-credits arrive from a device (R337, R338): 2,048 of them ask for the shard from chunk 0. -/
def State.relayCredit (s : State) (p n dev count : Nat) : State :=
  match (s.edges p n).children.zipIdx.find? (fun e => e.1.2 == dev) with
  | none => s
  | some e =>
    let s1 := s.onChild p n e.2 (fun c => if count = 2048 then ⟨2048, 0, 0, false⟩ else { c with credits := c.credits + count })
    s1.pumpChild p n e.2 e.1.1 e.1.2 (s.shardPackets p n + 2)

/-- Make every child start again from chunk 0 of a pennant: a restart packet, sent without a sub-credit (R339). -/
def State.restartChildren (s : State) (p n pennant : Nat) : State :=
  (s.edges p n).children.zipIdx.foldl (fun t e =>
    let t1 := t.onChild p n e.2 (fun c => if c.pennant = pennant then { c with next := 0, sent := false } else c)
    t1.sendBy e.1.1 (s.relayPacket p n e.1.2 pennant 0xFFFFFFFE [])) (s.edgesRead p n)

/-! ## Fills -/

/-- Grant relay sub-credits to a holder (R314). -/
def State.grantRelay (s : State) (p n dev count : Nat) : State :=
  s.send (mkPacket dev 0 0 (s.owner p) n 0 (2 * 2 ^ 48 + count) [])

/-- The holder being granted. -/
def State.holder (s : State) (p n : Nat) (f : Fill) : Option (Nat × Nat) := (s.edges p n).holders[f.holder]?

/-- Grant a fill's holder its first sub-credits. -/
def State.grantFirst (s : State) (p n : Nat) (f : Fill) : State :=
  let s1 := (s.onWslot p n (fun w => { w with fill := some f })).edgesRead p n
  match s.holder p n f with
  | some h => s1.grantRelay p n h.2 2048
  | none => s1

/-- Begin a fill of buffer `b` by relay (R337). -/
def State.startFill (s : State) (p n b pennant : Nat) : State :=
  ((s.setBuf p n b 1 pennant).onWslot p n (fun w => { w with digest := none })).grantFirst p n
    { buf := b, relay := true, holder := 0, chunk := 0, got := 0, fails := 0 }

/-- Pennant of a publication record. -/
def prPennant (r : List Byte) : Nat := leNat (r.take 4)

/-- The slot's pending record starts once a buffer is EMPTY (R337). -/
def State.startPending (s : State) (p n : Nat) : State :=
  match (s.wslot p n).pending, s.bufIn p n 0 with
  | some r, some b =>
    ((s.onWslot p n (fun w => { w with pending := none })).setB Reg.PUB.PENDING.pending p n 0).startFill p n b (prPennant r)
  | _, _ => s

/-- A buffer becomes EMPTY: what waited for it starts (R26, R27, R284). -/
def State.bufferEmpty (s : State) (p n b : Nat) : State :=
  let s1 := (s.setBuf p n b 0 0).startPending p n
  if s1.learning p then s1.openGather p else s1

/-- The readiness of a pennant on this device: its 1 is entered, once (R340). -/
def State.enterReady (s : State) (p n pennant : Nat) : State :=
  if (Map.find (s.wslot p n).ready pennant).isSome then s
  else (s.onWslot p n (fun w => { w with ready := Map.put w.ready pennant ⟨true, none⟩ })).emit (.readyEntered p pennant)

/-- A packet of the relay is discarded and counted. -/
def State.relayLost (s : State) (p n : Nat) (f : Fill) : State :=
  match s.holder p n f with
  | some h => s.portLost h.1
  | none => s

/-- A failed fetch (R35, R339): the shard is asked for again of the next holder, at most twice. -/
def State.failedFetch (s : State) (p n : Nat) (f : Fill) (stall : Bool) : State :=
  let q := s.bufPennant p n f.buf
  let s1 := s.bump Reg.PUB.REFETCHES.refetches p 1
  let s2 := if stall then s1.raise 0x0580 p 6 (q * 2 ^ 32 + ((s.holder p n f).map Prod.snd).getD 0) else s1
  if 2 ≤ f.fails then
    let s3 := (s2.onWslot p n (fun w => { w with
      fill := none, digest := none, failedTop := max w.failedTop (versionOf q), swaps := w.swaps.filter (fun x => x.pennant != q),
      children := Map.mapVal (fun _ c => if c.pennant = q then ⟨0, 0, 0, false⟩ else c) w.children }))
    (s3.raise 0x0580 p 3 (q * 2 ^ 32 + s.getB Reg.PUB.SLOT_CFG.shard p n)).bufferEmpty p n f.buf
  else
    let k := (s.edges p n).holders.length
    let f1 := { f with holder := if k = 0 then 0 else (f.holder + 1) % k, chunk := 0, got := 0, fails := f.fails + 1 }
    ((s2.onWslot p n (fun w => { w with digest := none })).restartChildren p n q).grantFirst p n f1

/-- A landed packet is granted to the holder again (R314, R337). -/
def State.regrant (s : State) (p n : Nat) (f : Fill) : State :=
  match s.holder p n f with
  | some h => s.grantRelay p n h.2 1
  | none => s

/-- A data packet from the holder being granted. -/
def State.relayData (s : State) (p n : Nat) (f : Fill) (k : Packet) : State :=
  let c := field k.arg 31 0
  let bs := pktPayload k
  let len := min chunkBytes (s.shardLen p n - chunkBytes * f.chunk)
  let got := f.got + bs.length
  if c ≠ f.chunk ∨ s.shardChunks p n ≤ c ∨ len < got ∨ (k.last ∧ got < len) then (s.relayLost p n f).failedFetch p n f false
  else if !(s.regionHolds p n f.buf) then s.relayLost p n f
  else
    let a := s.bufBase p n f.buf + chunkBytes * c + f.got
    let s1 := s.writeBytes a bs
    let s2 := (upTo 8).foldl (fun t i => if k.poison.testBit i then t.poisonRange (a + 256 * i) (min 256 (bs.length - 256 * i)) else t) s1
    let f1 := if got = len then { f with chunk := c + 1, got := 0 } else { f with got := got }
    let s3 := s2.onWslot p n (fun w => { w with fill := some f1 })
    let s4 := if got = len then s3.bump Reg.PUB.CHUNKS_IN.chunks_in p 1 else s3
    (s4.regrant p n f1).pumpSlot p n

/-- The digest packet: forwarded as received, then compared (R35, R338). -/
def State.relayDigest (s : State) (p n : Nat) (f : Fill) (k : Packet) : State :=
  if f.chunk < s.shardChunks p n then (s.relayLost p n f).failedFetch p n f false
  else
    let d := BitVec.ofNat 64 (leNat ((pktPayload k).take 8))
    let q := s.bufPennant p n f.buf
    let s1 := ((s.onWslot p n (fun w => { w with digest := some d })).regrant p n f).pumpSlot p n
    if s1.shardDigest p n f.buf = d then
      ((s1.setBuf p n f.buf 2 q).onWslot p n (fun w => { w with fill := none })).enterReady p n q
    else s1.failedFetch p n f false

/-- A restart packet: the chunks are discarded and the shard is expected again from the same parent (R339). -/
def State.relayRestart (s : State) (p n : Nat) (f : Fill) : State :=
  (s.onWslot p n (fun w => { w with fill := some { f with chunk := 0, got := 0 }, digest := none })).restartChildren p n
    (s.bufPennant p n f.buf)

/-- A RELAY packet (R306, R339): one from the holder being granted that carries the buffer's pennant and the own shard index is
taken; any other is discarded. -/
def State.relayIn (s : State) (p : Nat) (k : Packet) : State :=
  let n := slotOf k.pennant
  if k.tenant ≠ s.owner p then s.packetViolation 0x0580 p
  else match (s.wslot p n).fill with
    | some f =>
      let from_ := ((s.holder p n f).map Prod.snd) == some k.src
      if !f.relay ∨ !from_ ∨ k.pennant ≠ s.bufPennant p n f.buf ∨ k.tag ≠ s.getB Reg.PUB.SLOT_CFG.shard p n then s.relayLost p n f
      else if field k.arg 31 0 = 0xFFFFFFFF then s.relayDigest p n f k
      else if field k.arg 31 0 = 0xFFFFFFFE then s.relayRestart p n f
      else s.relayData p n f k
    | none => match (s.edges p n).holders.head? with
      | some h => s.portLost h.1
      | none => s

/-- Does a packet of a partition's page reach it: is the partition LIVE? -/
def State.pubLive (s : State) (p : Nat) : Bool := s.reach .firmware (regOff Reg.PUB.SLOT_SEL.reg p)

/-- RELAY_CHUNK_PACKET. -/
def execRelayChunkPacket (pid : Nat) (pkt : Packet) (s : State) : Res :=
  onPid pid (.next (if s.pubLive pid then s.relayIn pid pkt else s))

/-- RELAY_DIGEST_PACKET. -/
def execRelayDigestPacket (pid : Nat) (pkt : Packet) (s : State) : Res :=
  onPid pid (.next (if s.pubLive pid then s.relayIn pid pkt else s))

/-- RELAY_RESTART_PACKET. -/
def execRelayRestartPacket (pid : Nat) (pkt : Packet) (s : State) : Res :=
  onPid pid (.next (if s.pubLive pid then s.relayIn pid pkt else s))

/-- RELAY_STALL: no chunk landed for stall_us. -/
def execRelayStall (pid slot : Nat) (s : State) : Res :=
  onPid pid (.next (match (s.wslot pid (slot % 256)).fill with
    | some f => if f.relay then s.failedFetch pid (slot % 256) f true else s
    | none => s))

/-! ## Publication records (R34, R38, R337) -/

/-- publish_group of a record. -/
def prGroup (r : List Byte) : Nat := leNat ((r.drop 4).take 2)
/-- commit_time. -/
def prCommit (r : List Byte) : Nat := leNat ((r.drop 8).take 8)
/-- swap_time. -/
def prSwap (r : List Byte) : Nat := leNat ((r.drop 16).take 8)

/-- The highest version that a new record must exceed (R38). -/
def State.topVersion (s : State) (p n : Nat) : Nat :=
  let w := s.wslot p n
  let pend := (w.pending.map (fun r => versionOf (prPennant r))).getD 0
  max (max (versionOf (s.bufPennant p n 0)) (versionOf (s.bufPennant p n 1))) (max pend w.failedTop)

/-- A record is accepted: its swap time is held, lower readiness operations are abandoned, and it is what the relay now
sends. -/
def State.recordTaken (s : State) (p n : Nat) (r : List Byte) : State :=
  let q := prPennant r
  (s.onWslot p n (fun w => { w with
    named := q, ready := Map.keep (fun _ x => x.formed.isSome) w.ready })).addSwap p ⟨q, prSwap r, prCommit r, false, false⟩

/-- A publication record at a receiving device: R38, then a fill or the pending record (R337). -/
def State.takeRecord (s : State) (p n : Nat) (r : List Byte) : State :=
  let q := prPennant r
  if versionOf q ≤ s.topVersion p n then s.raise 0x0580 p 4 (q * 2 ^ 32)
  else
    let s1 := s.recordTaken p n r
    match s.bufIn p n 0 with
    | some b => (s1.startFill p n b q).pumpSlot p n
    | none =>
      let s2 := match (s.wslot p n).pending with
        | some old => (s1.dropSwap p (prPennant old)).raise 0x0580 p 5 (prPennant old * 2 ^ 32)
        | none => s1
      (s2.onWslot p n (fun w => { w with pending := some r })).setB Reg.PUB.PENDING.pending p n q

/-- A record reaches a partition: of the slot's publish group, for a slot that is served. A learner has the version already. -/
def State.recordIn (s : State) (p : Nat) (rec : List Byte) : State :=
  let r := (rec ++ leBytes 64 0).take 64
  let n := slotOf (prPennant r)
  if s.shardLen p n = 0 ∨ prGroup r ≠ s.getB Reg.PUB.SLOT_CFG.publish_group p n then s
  else if s.role p = 1 ∨ (s.role p = 2 ∧ (s.holds p (prPennant r)).isSome) then s
  else s.takeRecord p n r

/-- PUBLICATION_RECORD. -/
def execPublicationRecord (pid : Nat) (rec : List Byte) (s : State) : Res :=
  onPid pid (.next (if s.pubLive pid then s.recordIn pid rec else s))

/-- The readiness AND forms for the highest pennant still unformed (R36, R340). -/
def State.readyFormed (s : State) (p n : Nat) (ready : Bool) (formed : DWord) : State :=
  match ((s.wslot p n).ready.filter (fun x => x.2.own && x.2.formed.isNone)).getLast? with
  | some (q, x) => s.onWslot p n (fun w => { w with ready := Map.put w.ready q { x with formed := some (formed.toNat, ready) } })
  | none => s

/-- READINESS_RESULT. -/
def execReadinessResult (pid slot : Nat) (ready : Bool) (formed : DWord) (s : State) : Res :=
  onPid pid (.next (s.readyFormed pid (slot % 256) ready formed))

/-! ## Drained buffers (R26, R423) -/

/-- Is buffer `b` of a slot still read by a step, an outgoing relay or a checkpoint? -/
def State.bufRead (s : State) (p n b : Nat) : Bool :=
  let q := s.bufPennant p n b
  s.stepReads p q || s.ckptReads p n b || (s.wslot p n).children.any (fun c => c.2.pennant == q && decide (q ≠ 0) && !c.2.sent)

/-- A DRAINING buffer that nothing reads becomes EMPTY. -/
def State.drained (s : State) (p n : Nat) : State :=
  match s.bufIn p n 4 with
  | some b => if s.bufRead p n b then s else s.bufferEmpty p n b
  | none => s

/-- BUFFER_DRAINED. -/
def execBufferDrained (pid slot : Nat) (s : State) : Res := onPid pid (.next (s.drained pid (slot % 256)))

/-! ## Host loads (R335) -/

/-- A refused PUB.LOAD. -/
def State.loadRefused (s : State) (p code : Nat) : State := s.regFault (regOff Reg.PUB.LOAD.reg p) code

/-- The selected slot. -/
def State.slotSel (s : State) (p : Nat) : Nat := s.get Reg.PUB.SLOT_SEL.slot p

/-- LOAD_BEGIN. -/
def State.loadBegin (s : State) (p pennant : Nat) : State :=
  let n := s.slotSel p
  match s.bufIn p n 0 with
  | none => s.loadRefused p stPubInvalid
  | some b =>
    if slotOf pennant ≠ n ∨ versionOf pennant = 0 ∨ versionOf pennant ≤ versionOf (s.bufPennant p n 0) ∨
        versionOf pennant ≤ versionOf (s.bufPennant p n 1) ∨ !(s.regionHolds p n b) then s.loadRefused p stPubInvalid
    else (s.setBuf p n b 1 pennant).onWslot p n (fun w => { w with
      fill := some { buf := b, relay := false, holder := 0, chunk := 0, got := 0, fails := 0 } })

/-- LOAD_BEGIN. -/
def execLoadBegin (r : Requester) (pid : Nat) (pennant : Word) (s : State) : Res :=
  onPid pid (.next (s.guard r (regOff Reg.PUB.LOAD.reg pid) (s.loadBegin pid pennant.toNat)))

/-- LOAD_END. -/
def State.loadEnd (s : State) (p : Nat) : State :=
  let n := s.slotSel p
  match (s.wslot p n).fill with
  | none => s.loadRefused p stPubInvalid
  | some f =>
    if f.relay ∨ !(s.regionHolds p n f.buf) then s.loadRefused p stPubInvalid
    else
      let q := s.bufPennant p n f.buf
      let s1 := s.onWslot p n (fun w => { w with fill := none })
      if (s.shardDigest p n f.buf).toNat = s.get Reg.PUB.LOAD_DIGEST.digest p then
        if s.role p = 1 then s1.setBuf p n f.buf (if (s.bufIn p n 3).isNone then 3 else 2) q
        else (s1.setBuf p n f.buf 2 q).enterReady p n q
      else (s1.raise 0x0580 p 3 (q * 2 ^ 32 + s.getB Reg.PUB.SLOT_CFG.shard p n)).bufferEmpty p n f.buf

/-- LOAD_END. -/
def execLoadEnd (r : Requester) (pid : Nat) (_pennant : Word) (s : State) : Res :=
  onPid pid (.next (s.guard r (regOff Reg.PUB.LOAD.reg pid) (s.loadEnd pid)))

/-- Is either buffer of the slot in use (R335)? -/
def State.slotInUse (s : State) (p n : Nat) : Bool :=
  (s.gen p).reqs.any (fun r => rqSlot r.block == n && r.state != .ended) || [0, 1].any (fun b => s.bufState p n b != 0 && s.bufRead p n b) ||
  ((s.red p).isOpen && s.learnSlot p == some n)

/-- UNLOAD. -/
def State.unload (s : State) (p : Nat) : State :=
  let n := s.slotSel p
  if s.slotInUse p n then s.loadRefused p stSlotBusy
  else
    (((s.setBuf p n 0 0 0).setBuf p n 1 0 0).onWslot p n (fun w => { w with
      fill := none, digest := none, failedTop := 0, lead := 0, swaps := []
      children := Map.mapVal (fun _ c => { c with pennant := 0, next := 0, sent := false }) w.children })).startPending p n

/-- UNLOAD. -/
def execUnload (r : Requester) (pid : Nat) (_pennant : Word) (s : State) : Res :=
  onPid pid (.next (s.guard r (regOff Reg.PUB.LOAD.reg pid) (s.unload pid)))

/-! ## Hare messages (R334) -/

/-- A hare MSG is delivered: a shard digest to the publish leader of its slot, any other as it is. -/
def State.hareMsg (s : State) : HareMsg → State
  | .digest p n shard d =>
    if s.getB Reg.PUB.SLOT_CFG.leader p (n % 256) = 1 then
      s.onPart p (fun k => { k with pub := { k.pub with
        digests := Map.put k.pub.digests (n % 256) (Map.put (Map.getD k.pub.digests (n % 256) []) (shard % 256) d) } })
    else s
  | .other k => s.onFab (fun f => { f with inbox := f.inbox ++ [k] })

/-- HARE_MSG_RECEIVE. -/
def execHareMsgReceive (msg : HareMsg) (s : State) : Res :=
  match msg with
  | .digest p _ _ _ => onPid p (.next (s.hareMsg msg))
  | .other _ => .next (s.hareMsg msg)

/-! ## The return to the generate phase (R30, R31) -/

/-- The generate phase begins: requests paused by the learn phase may resume. -/
def State.generatePhase (s : State) (p : Nat) : State :=
  (s.onSched p (fun d => { d with learnPhase := false })).onGen p (fun g => { g with
    reqs := g.reqs.map (fun r => { r with learnPaused := false }) })

/-- Due entries that act at a learn-phase boundary, taken one at a time in plan order (fuel: the plan holds 64). -/
def State.takeLearnDue (s : State) (p : Nat) : Nat → State
  | 0 => s
  | k + 1 =>
    match s.dueEntry p with
    | none => s
    | some e =>
      if !(s.learning p) then s
      else match peAction e.bytes with
        | 1 => ((s.dropEntry p e).generatePhase p).takeLearnDue p k
        | 2 => (s.dropEntry p e).takeLearnDue p k
        | 4 => (s.ckptEntry p e).takeLearnDue p k
        | _ => s

/-- ROLE_GENERATE: in the generate phase the entry leaves with no effect; in an idle learn phase it takes effect. -/
def execRoleGenerate (pid : Nat) (s : State) : Res :=
  onPid pid (.next (match s.dueAction pid 1 with
    | none => s
    | some e =>
      if !(s.learning pid) then s.dropEntry pid e
      else if (s.red pid).isOpen then s
      else (s.dropEntry pid e).generatePhase pid))

/-! ## The commit (R32, R33, R405-R407) -/

/-- The shard digests of a slot's group in shard order, once the leader holds them all. -/
def State.digestSet (s : State) (p n : Nat) : Option (List DWord) :=
  let l := (upTo (s.getB Reg.PUB.SLOT_CFG.shards p n)).map (fun i => Map.find (Map.getD (s.part p).pub.digests n []) i)
  if l.all Option.isSome then some (l.filterMap id) else none

/-- Does any core of the partition still wait for an owl verdict? -/
def State.verdictsPending (s : State) (p : Nat) : Bool :=
  (s.part p).sched.cores.any (fun c => !(s.core c).verdicts.isEmpty)

/-- The version that the step would commit, with the slot and the write buffer. -/
def State.committing (s : State) (p : Nat) : Option (Nat × Nat × Nat) :=
  (s.readBuf p).map (fun k => (k.1, 1 - k.2, nextPennant (s.bufPennant p k.1 k.2)))

/-- Would the version pass 0xFF_FFFF (R24)? -/
def State.exhausted (s : State) (p : Nat) : Bool :=
  match s.readBuf p with
  | some (n, b) => versionOf (s.bufPennant p n b) == 0xFFFFFF
  | none => false

/-- Is the step blocked (R407)? -/
def State.stepBlocked (s : State) (p : Nat) : Bool :=
  s.getBit Reg.CHECK.STEP_FAIL.blocked p && (s.checks p).blockedStep == (s.red p).step

/-- This device's own failure, if it has one: a failed condition, or the exhausted pennant. -/
def State.ownFailure (s : State) (p : Nat) : Option Nat :=
  match (s.checks p).fail with
  | some c => some c
  | none => if s.exhausted p then some 6 else none

/-- The pass bit this device contributes to the commit AND, once it is decided (R32, R282, R334, R401, R407). -/
def State.passBit (s : State) (p : Nat) : Option Bool :=
  if !(s.red p).isOpen ∨ s.verdictsPending p then none
  else if (s.ownFailure p).isSome ∨ s.stepBlocked p then some false
  else match s.committing p with
    | none => none
    | some (n, _, _) =>
      if !(s.upd p).complete ∨ (s.digestStep p ∧ (s.checks p).digest.isNone) ∨
          (s.getB Reg.PUB.SLOT_CFG.leader p n = 1 ∧ (s.digestSet p n).isNone) then none
      else some (s.redPasses p)

/-- The publication record of a commit (Table 1.6). max_chunks is at least the own shard's chunks; what the largest shard has,
the spec gives the leader no way to know: a free value. -/
def State.record (s : State) (p n pennant : Nat) : List Byte :=
  let set := (s.digestSet p n).getD []
  leBytes 4 pennant ++ leBytes 2 (s.getB Reg.PUB.SLOT_CFG.publish_group p n) ++ leBytes 1 0 ++ leBytes 1 (s.latched p Reg.UPD.CFG.w_fmt) ++
    leBytes 8 s.now ++ leBytes 8 (s.now + s.getB Reg.PUB.SLOT_CFG.swap_offset p n) ++ leBytes 4 (s.red p).step ++
    leBytes 4 (max (s.shardChunks p n) (Config.freeWord s.free).toNat) ++
    shake256 (set.flatMap (fun d => leBytes 8 d.toNat)) 8 ++ leBytes 24 0

/-- What both ends of a step do: it is no longer open, its check replay and digests are over, the setts are emptied (R264). -/
def State.stepEnds (s : State) (p n : Nat) : State :=
  ((((s.onRed p (fun r => { r with isOpen := false })).set Reg.RED.STATUS.open_ p 0).set Reg.CHECK.OWL_STATUS.boosted p 0).onPart p
    (fun k => { k with pub := { k.pub with digests := Map.del k.pub.digests n } })).emptySetts p

/-- The step commits: the STAGED buffer becomes ACTIVE, and the commit is the publication (R32, R33). -/
def State.commits (s : State) (p n pennant : Nat) : State :=
  let before := (s.ckpt p).time
  let s1 := if s.getB Reg.PUB.SLOT_CFG.leader p n = 1 then
      { s.emit (.publication p (s.record p n pennant)) with free := s.free + 1 } else s
  let s2 := ((s1.activate p pennant).onWslot p n (fun w => { w with
    named := if s.getB Reg.PUB.SLOT_CFG.source p n = 1 then pennant else 0 })).stepEnds p n
  let s3 := (s2.onCkpt p (fun c => { c with step := (s.red p).step, time := s.now })).pumpSlot p n
  (s3.commitTriggers p before).takeLearnDue p 64

/-- The failed attempts of a step in CHECK.STEP_FAIL. -/
def State.attempts (s : State) (p step : Nat) : Nat :=
  if s.get Reg.CHECK.STEP_FAIL.step p = step then s.get Reg.CHECK.STEP_FAIL.attempts p + 1 else 1

/-- The step is not committed, for a cause of Table 19.2 (R405-R407): its buffer is emptied and the group quiesces. -/
def State.uncommitted (s : State) (p cause : Nat) : State :=
  let step := (s.red p).step
  let check := decide (cause = 3) || decide (cause = 4)
  let s1 := ((s.set Reg.CHECK.STEP_FAIL.attempts p (s.attempts p step)).set Reg.CHECK.STEP_FAIL.step p step).set Reg.CHECK.STEP_FAIL.cause p cause
  let s2 := s1.raise 0x05C0 p 3 (step * 2 ^ 32 + cause)
  let s3 := if check ∧ (s.checks p).replay then
      ((s2.set Reg.CHECK.STEP_FAIL.blocked p 1).onChecks p (fun c => { c with blockedStep := step })).raise 0x05C0 p 4 (step * 2 ^ 32 + cause)
    else s2
  let s4 := (s3.onChecks p (fun c => { c with owed := check })).onUpd p (fun u => { u with queues := [], credits := [], granted := [], landed := [] })
  let s5 := match s.committing p with
    | some (n, w, _) => (s4.stepEnds p n).setBuf p n w (if s.bufState p n w = 1 ∨ s.bufState p n w = 2 then 0 else s.bufState p n w) (s.bufPennant p n w)
    | none => s4.stepEnds p 0
  let s6 := ((s5.onRed p (fun r => { r with noisy := true })).set Reg.RED.STATUS.quiescing p 1).hareEnter p (s.redGroup p)
    (Config.quiesceTag step) 0x04 .quiesce (laneFirst 1)
  s6.takeLearnDue p 64

/-- LEARNER_COMMIT: the AND of this device's pass bit and the others'. A failure that only others know has a free cause. -/
def State.learnerCommit (s : State) (p : Nat) (others : Bool) : State :=
  match s.passBit p with
  | none => s
  | some pass =>
    let s1 := s.emit (.commitEntered p (s.red p).step pass)
    if pass ∧ others then
      match s.committing p with
      | some (n, _, q) => s1.commits p n q
      | none => s1
    else
      match s.ownFailure p with
      | some c => s1.uncommitted p c
      | none =>
        if s.stepBlocked p then s1.uncommitted p (s.get Reg.CHECK.STEP_FAIL.cause p)
        else { s1 with free := s.free + 1 }.uncommitted p ((Config.freeWord s.free).toNat % 6 + 1)

/-- LEARNER_COMMIT. -/
def execLearnerCommit (pid : Nat) (othersAnd : Bool) (s : State) : Res := onPid pid (.next (s.learnerCommit pid othersAnd))

end Sys2Proof.Machine
end

