-- ==== Sys2Proof/Machine/Steps.lean ====
section
/-! DEFINITION. Decode steps: the actions at a boundary (R240, Table 11.4), page pressure and admission (R229, R230, R237),
the fill rule (R144), ring space (R44, R248), launch (R36, R239, R341), commit (R241-R245, R249), the records made visible
(R42, R43, R248), abort (R211, R252). Commands DECODE_STEP_LAUNCH to EXP_HEADER_WRITE, and SWAP. -/
namespace Sys2Proof.Machine

/-! ## The experience ring (R43-R45, Table 1.9) -/

/-- Base of a partition's ring. -/
def State.expBase (s : State) (p : Nat) : Nat := s.get Reg.PARTITION.T1_BASE.t1_base p

/-- Records a ring holds. -/
def State.expSize (s : State) (p : Nat) : Nat := 2 ^ s.get Reg.PARTITION.CFG.exp_log2 p

/-- producer_index. -/
def State.producer (s : State) (p : Nat) : Nat := s.readN (s.expBase p) 8

/-- Active readers, within 1 to 4. -/
def State.readers (s : State) (p : Nat) : Nat := max 1 (min 4 (s.readN (s.expBase p + 0x11) 1))

/-- consumer_index of reader `r`. -/
def State.consumer (s : State) (p r : Nat) : Nat := s.readN (s.expBase p + 0x18 + 8 * r) 8

/-- Free records (R44). -/
def State.expFree (s : State) (p : Nat) : Nat :=
  let least := (upTo (s.readers p)).foldl (fun m r => min m (s.consumer p r)) (s.consumer p 0)
  s.expSize p - (s.producer p - least)

/-- EXP_RING_HIGH (R44): raised once each time free space falls below the threshold, armed again when it is back. -/
def State.expWatch (s : State) (p : Nat) : State :=
  let low := decide (s.expFree p < s.get Reg.REQ.EXP_HIGH.threshold p)
  let was := (s.gen p).expLow
  let s1 := s.onGen p (fun g => { g with expLow := low })
  if low ∧ !was then s1.raise 0x0440 p 1 (s.expFree p % 2 ^ 32) else s1

/-- Append records and advance the producer index after them; one more step visible (R43). -/
def State.expPublish (s : State) (p : Nat) (recs : List (List Byte)) : State :=
  let base := s.expBase p
  let i0 := s.producer p
  let s1 := recs.zipIdx.foldl (fun t x => t.writeBytes (base + 64 + 16 * ((i0 + x.2) % s.expSize p)) x.1) s
  ((s1.writeN base 8 (i0 + recs.length)).writeN (base + 8) 8 (s.readN (base + 8) 8 + 1)).expWatch p

/-! ## The step ring (R248) -/

/-- n of the step ring (R254): 0 none, else within 6 to 20. -/
def State.stepLog (s : State) (p : Nat) : Nat :=
  let n := s.get Reg.REQ.STEP_RING_CFG.step_log2 p
  if n = 0 then 0 else max 6 (min 20 n)

/-- Free units. -/
def State.stepFree (s : State) (p : Nat) : Nat :=
  2 ^ s.stepLog p - unconsumed (s.gen p).units (s.get Reg.REQ.STEP_CREDIT.units_consumed p)

/-- Does the step ring take records? -/
def State.stepRingOn (s : State) (p : Nat) : Bool := s.stepLog p != 0 && !(s.gen p).ringLost

/-- The header of a step record (Table 11.6). -/
def stepHeader (seq pennant entries launch commit units phase : Nat) : List Byte :=
  leBytes 8 seq ++ leBytes 4 pennant ++ leBytes 4 entries ++ leBytes 8 launch ++ leBytes 8 commit ++ leBytes 4 units ++
  leBytes 20 0 ++ leBytes 8 phase

/-- Cut bytes into units of 64, the last one filled with zeros (fuel: the number of bytes). -/
def units64 : Nat → List Byte → List (List Byte)
  | 0, _ => []
  | _ + 1, [] => []
  | n + 1, l => (l.take 64 ++ leBytes (64 - min 64 l.length) 0) :: units64 n (l.drop 64)

/-- Write a step record: the entries first, the header last. -/
def State.stepPublish (s : State) (p seq pennant launch : Nat) (ents : List Byte) : State :=
  if !(s.stepRingOn p) then s
  else
    let n := s.stepLog p
    let u := (s.gen p).units
    let us := units64 ents.length ents
    let addr := fun (i : Nat) => s.get Reg.REQ.STEP_RING_ADDR.step_addr p + 64 * (i % 2 ^ n)
    let qp := s.get Reg.REQ.STEP_RING_CFG.step_qp p
    let key := BitVec.ofNat 32 (s.get Reg.REQ.STEP_RING_CFG.step_rkey p)
    let s1 := us.zipIdx.foldl (fun t x => t.hostSend (s.owner p) qp (addr (u + 1 + x.2)) key x.1 none) s
    (s1.hostEntry (s.owner p) qp (addr u) key
      (stepHeader seq pennant (ents.length / 8) launch s.now (1 + us.length) (phaseBit n u)) none).onGen p
        (fun g => { g with units := u + 1 + us.length })

/-- STEP_RING_LOST: step_qp is in error; raised once. -/
def State.stepRingLost (s : State) (p : Nat) : State :=
  if (s.gen p).ringLost ∨ s.stepLog p = 0 then s
  else (s.onGen p (fun g => { g with ringLost := true })).raise 0x0440 p 5 ((s.gen p).units % 2 ^ 32)

/-- STEP_RING_LOST. -/
def execStepRingLost (pid : Nat) (s : State) : Res := onPid pid (.next (s.stepRingLost pid))

/-- A write of REQ.STEP_RING_ADDR or STEP_RING_CFG (R248, R254): dropped with REQ_BUSY while the partition holds requests,
but for a lost ring; the ring starts at unit 0, and STEP_RING_CFG ends its loss. -/
def State.stepRingWrite (s : State) (r : Requester) (p : Nat) (cfg : Bool) (mask v : Nat) : State :=
  let off := regOff (if cfg then Reg.REQ.STEP_RING_CFG.reg else Reg.REQ.STEP_RING_ADDR.reg) p
  if s.rwlClosed r off then s.regFault off stLockViolation
  else if !(s.gen p).reqs.isEmpty ∧ !(s.gen p).ringLost then s.regFault off stReqBusy
  else ((s.writeReg r off 0 mask v).set Reg.REQ.STEP_CREDIT.units_consumed p 0).onGen p
    (fun g => { g with units := 0, ringLost := g.ringLost && !cfg })

/-- STEP_RING_RESTART. -/
def execStepRingRestart (r : Requester) (pid : Nat) (cfg : Bool) (v : DWord) (s : State) : Res :=
  onPid pid (.next (s.guard r (regOff Reg.REQ.STEP_RING_CFG.reg pid) (s.stepRingWrite r pid cfg (halfMask 0 true) v.toNat)))

/-! ## Leaves (R223, R237, action 1) -/

/-- Drop the group's reference on a variant when its last request has left (R226). -/
def State.dropVariant (s : State) (p : Nat) (r : Req) : State :=
  match rqVariantKey r.block with
  | none => s
  | some k =>
    if (s.groupReqs p r.group).any (fun x => rqVariantKey x.block == some k) then s
    else s.kvDo p (.dropVariant r.group (k / 4096) (k % 4096))

/-- A request leaves: frames, spill slots, batch slot and credit index are released. -/
def State.leaveReq (s : State) (p : Nat) (r : Req) : State :=
  (((s.releasePages p r).dropReq p r.id).dropVariant p r).onGen p (fun g => { g with tables := Map.del g.tables (64 * r.group + r.member) })

/-- Every request whose terminal status was taken leaves. -/
def State.leaveAll (s : State) (p : Nat) : State :=
  ((s.gen p).reqs.filter (fun r => r.state == .ended)).foldl (fun t r => t.leaveReq p r) s

/-! ## Page pressure (R229, R230, action 2) -/

/-- Requests of a group that count as running at a boundary: RUNNING or HELD, in no step in flight, their pages landed;
oldest first. -/
def State.kvRunning (s : State) (p g : Nat) : List Req :=
  sortBy (fun a b => decide (a.order ≤ b.order)) ((s.groupReqs p g).filter (fun r =>
    (r.state == .running || r.state == .held) && r.status.isNone && r.step.isNone && !r.landing))

/-- The pages of positions c to c + F that a request lacks (none) or must copy (the shared frame). -/
def State.tailWants (s : State) (p : Nat) (r : Req) : List (Nat × Option Nat) :=
  let c := r.committed
  let hi := min 16383 ((c + s.foxHeads p) / 16)
  (upTo (hi + 1 - c / 16)).filterMap (fun i =>
    let pg := c / 16 + i
    match Map.find (s.kvTable p r.group r.member) pg with
    | none => some (pg, none)
    | some (.frame f) => if 1 < s.frameRefs p r.group f then some (pg, some f) else none
    | some (.spill _) => none)

/-- tail_need: 0 for a held request (R240). -/
def State.tailNeed (s : State) (p : Nat) (r : Req) : Nat := if r.state = .held then 0 else (s.tailWants p r).length

/-- The sum of the tail needs of a group. -/
def State.sumTail (s : State) (p g : Nat) : Nat := (s.kvRunning p g).foldl (fun acc r => acc + s.tailNeed p r) 0

/-- Take the frames of a request's tail: new pages, and copies of shared ones (R225). -/
def State.allocTail (s : State) (p : Nat) (r : Req) : State :=
  let w := s.tailWants p r
  s.kvDoAll p ((w.zip (s.takeFrames p r.group w.length)).map (fun x =>
    match x.1.2 with
    | none => .alloc r.group r.member x.1.1 x.2
    | some old => .copy r.group r.member x.1.1 old x.2))

/-- Frames that a request holds alone: page and frame. -/
def State.aloneFrames (s : State) (p : Nat) (r : Req) : List (Nat × Nat) :=
  (s.kvTable p r.group r.member).filterMap (fun x =>
    match x.2 with
    | .frame f => if s.frameRefs p r.group f = 1 then some (x.1, f) else none
    | .spill _ => none)

/-- KV_POOL_EXHAUSTED and KV_SPILL_FULL. -/
def State.kvEvent (s : State) (p n : Nat) (r : Req) : State := s.raise 0x0400 p n (r.slot * 256 + r.group)

/-- Pause a request (R230): the frames it holds alone move to spill slots, the launch is held until they are read; a frame
with an uncorrectable error ends it (R232). -/
def State.pauseReq (s : State) (p : Nat) (r : Req) : State :=
  let alone := s.aloneFrames p r
  let lost := alone.filter (fun x => s.framePoisoned p r.group x.2)
  let s1 := (s.onReq p r.id (fun x => { x with state := .paused, pausedAt := (s.gen p).boundary })).bump Reg.KV.PAUSES.pauses p 1
  let s2 := lost.foldl (fun t x => t.frameFails p r.group x.2) s1
  let s3 := s2.kvDoAll p ((alone.zip (s.takeSpills p r.group alone.length)).map (fun x => .spill r.group r.member x.1.1 x.1.2 x.2))
  let s4 := if alone.isEmpty then s3 else s3.onGen p (fun g => { g with hold := some .spill, holdAt := s.timer })
  if lost.isEmpty then s4 else s4.endReq p r.id stTierLate

/-- Pause or end the youngest until the tail needs fit (fuel: the requests of the group). -/
def State.pressLoop (s : State) (p g : Nat) : Nat → State
  | 0 => s
  | n + 1 =>
    let rs := s.kvRunning p g
    if s.sumTail p g ≤ s.freeFrames p g then s
    else
      match rs.getLast? with
      | none => s
      | some y =>
        (if rs.length = 1 then (s.endReq p y.id stTierLate).kvEvent p 1 y
         else if s.kvSpillSlots p g < (s.kvGroup p g).spills.length + (s.aloneFrames p y).length then
           (s.endReq p y.id stTierLate).kvEvent p 2 y
         else s.pauseReq p y).pressLoop p g n

/-- Pages of a request in spill slots. -/
def State.spilledPages (s : State) (p : Nat) (r : Req) : List (Nat × Nat) :=
  (s.kvTable p r.group r.member).filterMap (fun x =>
    match x.2 with
    | .spill k => some (x.1, k)
    | .frame _ => none)

/-- Reserve frames at this boundary. -/
def State.reserve (s : State) (p g n : Nat) : State := s.onKv p g (fun k => { k with reserved := k.reserved + n })

/-- Resume a paused request (R230): its spilled pages move back into frames; it runs once they have landed. -/
def State.resumeReq (s : State) (p : Nat) (r : Req) : State :=
  let sp := s.spilledPages p r
  let s1 := s.kvDoAll p ((sp.zip (s.takeFrames p r.group sp.length)).map (fun x => .fill r.group r.member x.1.1 x.1.2 x.2))
  ((s1.reserve p r.group 1).onReq p r.id (fun x => { x with state := .running, landing := true })).bump Reg.KV.RESUMES.resumes p 1

/-- Resume in the order of pausing while the frames last. -/
def State.resumeLoop (s : State) (p g : Nat) : List Req → State
  | [] => s
  | r :: l => if s.freeFrames p g < (s.spilledPages p r).length + 1 then s else (s.resumeReq p r).resumeLoop p g l

/-- Requests of a group paused by page pressure. -/
def State.kvPaused (s : State) (p g : Nat) : List Req :=
  (s.groupReqs p g).filter (fun r => r.state == .paused && !r.learnPaused)

/-! ## Admission (R224, R226, R229, R237) -/

/-- The handle a join names, and the positions it shares. -/
def State.joinHandle (s : State) (p : Nat) (r : Req) : Option Handle :=
  if rqUseHandle r.block then Map.find (s.kvGroup p r.group).handles (rqHandle r.block) else none

/-- Frames of a variant that a join would load first. -/
def State.variantNeed (s : State) (p : Nat) (r : Req) : Nat :=
  match rqVariantKey r.block with
  | none => 0
  | some k => if Map.has (s.kvGroup p r.group).variants k then 0 else (s.variantEntry (k / 4096) (k % 4096)).2

/-- join_need: prompt pages not shared whole, one spare, and the pages of a variant not yet in the group (log entry 19). -/
def State.joinNeed (s : State) (p : Nat) (r : Req) : Nat :=
  let whole := match s.joinHandle p r with
    | some h => min h.n (rqPromptLen r.block) / 16
    | none => 0
  ceilDiv (rqPromptLen r.block) 16 - whole + 1 + s.variantNeed p r

/-- The lowest batch slot free. -/
def State.freeBatchSlot (s : State) (p : Nat) : Option Nat :=
  (upTo 2048).find? (fun i => !((s.gen p).reqs.any (fun r => r.admitted && r.slot == i)))

/-- The lowest member number free in a group. -/
def State.freeMember (s : State) (p g : Nat) : Nat :=
  ((upTo 64).find? (fun i => !((s.groupReqs p g).any (fun r => r.member == i)))).getD 0

/-- Does a join fit now: frames, batch slot, room in its group, its seed valid? -/
def State.joinFits (s : State) (p : Nat) (r : Req) : Bool :=
  decide (s.joinNeed p r ≤ s.freeFrames p r.group) && (s.freeBatchSlot p).isSome &&
  decide ((s.groupReqs p r.group).length < s.kvMaxReqs p r.group) && bit (s.get Reg.RNG.SEED_STATUS.valid p) (rqSeed r.block)

/-- Load the variant of a join that is the first of its variant in the group. -/
def State.admitVariant (s : State) (p : Nat) (r : Req) : State :=
  match rqVariantKey r.block with
  | none => s
  | some k =>
    if Map.has (s.kvGroup p r.group).variants k then s
    else s.kvDo p (.variant r.group (k / 4096) (k % 4096) (s.takeFrames p r.group (s.variantNeed p r)))

/-- Admit a join whole: batch slot, member, the handle's frames, frames for its other prompt pages; a partial page of the
handle that the prompt goes on into is copied. -/
def State.admitOne (s : State) (p : Nat) (r : Req) : State :=
  let g := r.group
  let n := rqPromptLen r.block
  let need := s.joinNeed p r - s.variantNeed p r
  let slot := (s.freeBatchSlot p).getD 0
  let m := s.freeMember p g
  let s0 := s.admitVariant p r
  let h := s.joinHandle p r
  let sh := (h.map (fun x => min x.n n)).getD 0
  let frames := (h.map (fun x => x.frames)).getD []
  let s1 := s0.kvDoAll p ((frames.take (ceilDiv sh 16)).zipIdx.map (fun x => .share g m x.2 x.1))
  let cut := decide (sh < n) && sh % 16 != 0
  let s2 := if cut then s1.kvDoAll p ((s1.takeFrames p g 1).map (fun f => .copy g m (sh / 16) (frames.getD (sh / 16) 0) f)) else s1
  let rest := (upTo (ceilDiv n 16)).filter (fun i => decide (ceilDiv sh 16 ≤ i))
  let s3 := s2.kvDoAll p ((rest.zip (s2.takeFrames p g rest.length)).map (fun x => .alloc g m x.1 x.2))
  (s3.reserve p g (need - rest.length - ofBool cut)).onReq p r.id (fun x =>
    { x with state := .prefill, slot := slot, member := m, prefilled := min sh (n - 1), shared := sh })

/-- Admit queued joins in arrival order; one that does not fit keeps the later ones queued. -/
def State.admitLoop (s : State) (p : Nat) : List Req → State
  | [] => s
  | r :: l => if s.joinFits p r then (s.admitOne p r).admitLoop p l else s

/-- The admission loop of a group: none while a request of it is paused. -/
def State.admitGroup (s : State) (p g : Nat) : State :=
  if !(s.kvPaused p g).isEmpty then s
  else s.admitLoop p (sortBy (fun a b => decide (a.order ≤ b.order))
    ((s.gen p).reqs.filter (fun r => r.state == .queued && r.group == g)))

/-- Page pressure of one group at a boundary. -/
def State.pressGroup (s : State) (p g : Nat) : State :=
  let s0 := s.onKv p g (fun k => { k with reserved := 0 })
  let s1 := s0.pressLoop p g 65
  let s2 := ((s1.kvRunning p g).filter (fun r => r.state == .running)).foldl (fun t r => t.allocTail p r) s1
  let old := (s2.kvPaused p g).filter (fun r => decide (r.pausedAt < (s2.gen p).boundary))
  let s3 := s2.resumeLoop p g (sortBy (fun a b =>
    if a.pausedAt = b.pausedAt then decide (b.order ≤ a.order) else decide (a.pausedAt ≤ b.pausedAt)) old)
  s3.admitGroup p g

/-- The groups that hold or await a request, ascending. -/
def State.kvGroups (s : State) (p : Nat) : List Nat :=
  (upTo 256).filter (fun g => (s.gen p).reqs.any (fun r => r.group == g))

/-! ## Streamer holds (R247, action 3) -/

/-- Hold a running request without room, or let a held one run again. -/
def State.streamHold (s : State) (p : Nat) (r : Req) : State :=
  if s.streamRoom p r < s.foxHeads p + 2 then
    let s1 := s.bump Reg.REQ.STREAM_HELD.held p 1
    if r.state = .held then s1
    else (s1.onReq p r.id (fun x => { x with state := .held })).raise 0x0440 p 2 (r.id % 2 ^ 32 * 2 ^ 32 + r.slot)
  else if r.state = .held ∧ (s.tailWants p r).length ≤ s.freeFrames p r.group then
    (s.allocTail p r).onReq p r.id (fun x => { x with state := .running })
  else s

/-- The holds of a boundary. -/
def State.streamHolds (s : State) (p : Nat) : State :=
  ((s.kvGroups p).flatMap (fun g => s.kvRunning p g)).foldl (fun t r => t.streamHold p r) s

/-! ## The rows of a step (R144, R238, R239) -/

/-- Is a request ready to take part in a step? -/
def State.ready (s : State) (p : Nat) (r : Req) : Bool :=
  r.step.isNone && r.status.isNone && !r.landing &&
  (r.state == .prefill || (r.state == .running && (s.tailWants p r).isEmpty))

/-- Token rows a request gives to a step. -/
def State.rowsOf (s : State) (p : Nat) (r : Req) : Nat :=
  if r.state = .prefill then min (s.prefillChunk p) (rqPromptLen r.block - r.prefilled) else 1 + r.guesses.length

/-- The model slot whose turn it is, with its ready requests by batch slot. -/
def State.stepRows (s : State) (p : Nat) : Option (Nat × List Req) :=
  let rs := (s.gen p).reqs.filter (fun r => s.ready p r)
  let slots := rs.map (fun r => rqSlot r.block)
  let last := (s.gen p).lastSlot
  match ((upTo 256).filter (fun n => slots.contains n)) with
  | [] => none
  | n :: l =>
    let m := (((n :: l).find? (fun k => decide (last < k)))).getD n
    some (m, sortBy (fun a b => decide (a.slot ≤ b.slot)) (rs.filter (fun r => rqSlot r.block == m)))

/-- Experience records a launch needs free (R44, R253). -/
def expNeed (f b j : Nat) : Nat := (1 + f) * b + 2 * j + b

/-- Step-ring units a launch needs free (R248). -/
def stepNeed (f b j pend : Nat) : Nat := 1 + ceilDiv ((2 + f) * b + 3 * j + pend) 8

/-! ## The beginning of a step on this device (R341, R204, R356) -/

/-- The descriptors of the step task table as the dispatcher takes them. -/
def State.stepDescs (s : State) (p seq pennant : Nat) : List (List Byte) :=
  let a := s.get Reg.SCHED.STEP_TASKS.table p * 65536
  (upTo (s.get Reg.SCHED.STEP_TASKS.count p)).filterMap (fun i =>
    if t1Ok (a + 64 * i) 64 then
      let d := s.readBytes (a + 64 * i) 64
      some (d.take 24 ++ leBytes 8 (descField d 24 8 + seq % 2 ^ 16 * 2 ^ 44) ++ leBytes 4 pennant ++ d.drop 36)
    else none)

/-- The step list is started, its flags armed, then the step's tasks are at the dispatcher. -/
def State.beginWork (s : State) (p seq pennant : Nat) : State :=
  let l := s.get Reg.TIER.STEP_LIST.step_list p
  let s1 := if l = 0 then s else s.startList p l true
  s1.onSched p (fun d => { d with stepHeads := d.stepHeads ++ s.stepDescs p seq pennant })

/-! ## Visibility and abort (R42, R43, R252) -/

/-- The records of a step become visible together, by slot (R42, R43), and the step is over. -/
def State.publishStep (s : State) (p : Nat) (t : StepRec) : State :=
  let rs := sortBy (fun a b => decide (a.slot ≤ b.slot)) t.recs
  ((s.onGen p (fun g => { g with steps := g.steps.filter (fun x => x.seq != t.seq) })).expPublish p
    (rs.map (fun r => r.exp))).stepPublish p t.seq t.pennant t.launch (rs.flatMap (fun r => r.ents))

/-- Abort a step on the step leader: every request of it not yet ended ends with TIER_LATE, its END records alone. -/
def State.abortStep (s : State) (p seq : Nat) : State :=
  match (s.gen p).steps.find? (fun t => t.seq == seq) with
  | none => s
  | some t =>
    let ids := t.rows.map (fun r => r.id.toNat)
    let s1 := ids.foldl (fun u id => (u.onReq p id (fun r => { r with bound := true })).endReq p id stTierLate) s
    let s2 := ids.foldl (fun u id => u.onReq p id (fun r => { r with step := none })) s1
    match (s2.gen p).steps.find? (fun x => x.seq == seq) with
    | none => s2
    | some x => s2.publishStep p x

/-- STEP_ABORT. -/
def execStepAbort (pid seq : Nat) (s : State) : Res := onPid pid (.next (s.abortStep pid seq))

/-- Abandon the step this device is running (R211, R342): its lists stop, its tasks end with TIER_LATE, and the step leader
is told, or, on the leader, aborts it. -/
def State.abandonStep (s : State) (p : Nat) : State :=
  let s1 := (s.stopStepLists p).onSched p (fun d => { d with stepHeads := [] })
  let s2 := (s.part p).sched.cores.foldl (fun t c =>
    match (t.core c).task with
    | some k => if k.queue.isNone then t.endTask p c stTierLate else t
    | none => t) s1
  match (s.gen p).follow with
  | none => s2
  | some (seq, _) =>
    if (s.gen p).steps.any (fun t => t.seq == seq) then s2.abortStep p seq else s2.emit (.stepAbort p seq)

/-- A step stamped with a pennant begins here: the swap is taken where the pennant is new; a pennant neither ACTIVE nor
STAGED abandons the step (R342). -/
def State.beginStep (s : State) (p seq pennant : Nat) : State :=
  let s0 := s.onGen p (fun g => { g with follow := some (seq, pennant) })
  match s.holds p pennant with
  | some 2 => (s0.stepBegins p pennant).beginWork p seq pennant
  | some 3 => (s0.stepBegins p pennant).beginWork p seq pennant
  | _ => (s0.abandonStep p).raise 0x0580 p 2 (pennant * 2 ^ 32 + seq % 2 ^ 32)

/-! ## Launch (actions 4 to 7) -/

/-- The input tokens of a request's rows. -/
def State.inputTokens (s : State) (p : Nat) (r : Req) : List Nat :=
  if r.state = .prefill then
    match s.resolve (.part p) (rqPrompt r.block + 4 * r.prefilled) (4 * s.rowsOf p r) with
    | .ok a => (upTo (s.rowsOf p r)).map (fun i => s.readN (a + 4 * i) 4)
    | .error _ => []
  else r.lastTok :: r.guesses

/-- Slots with a SWAP entry that this boundary launches no step of: their swap takes effect here (R30). -/
def State.quietSwaps (s : State) (p : Nat) : State :=
  let busy := fun (n : Nat) => (s.gen p).steps.any (fun t => slotOf t.pennant == n) ||
    (s.gen p).reqs.any (fun r => s.ready p r && rqSlot r.block == n)
  ((s.part p).pub.slots.filter (fun x => !(busy x.1))).foldl (fun t x => t.quietSwap p x.1) s

/-- Launch a step of a model slot with its rows: the pennant, the sequence number, the pending ENDs, the message. -/
def State.launchStep (s : State) (p slot : Nat) (rows : List Req) : State :=
  let (pennant, s1) := (s.quietSwaps p).choosePennant p slot
  let seq := (s.get Reg.REQ.STEP_SEQ.step_seq p + 1) % 2 ^ 64
  let toks := rows.map (fun r => (r.slot, s.inputTokens p r))
  let rec_ : StepRec := ⟨seq, pennant, s.now,
    rows.map (fun r => ⟨r.slot, BitVec.ofNat 64 r.id, if r.state = .prefill then s.rowsOf p r else 0, false⟩),
    (s.gen p).ends.flatMap PendEnd.recs, []⟩
  let s2 := (s1.set Reg.REQ.STEP_SEQ.step_seq p seq).onGen p (fun g => { g with
    steps := g.steps ++ [rec_], ends := [], hold := none, filled := false, expWait := false, stepWait := false,
    lastSlot := slot, plan := [],
    reqs := g.reqs.map (fun r => if rows.any (fun x => x.id == r.id) then { r with step := some seq } else r) })
  (((s2.wakeUp p).emit (.launch p seq pennant (s.gen p).plan toks))).beginStep p seq pennant

/-- Action 5: ring space. The first lack of each ring in a wait raises its event. -/
def State.ringSpace (s : State) (p : Nat) (rows : List Req) : Bool × State :=
  let f := s.foxHeads p
  let b := rows.length
  let j := (rows.filter (fun r => !r.bound)).length
  let pend := (s.gen p).ends.length
  let e := decide (expNeed f (b + pend) j ≤ s.expFree p)
  let t := !(s.stepRingOn p) || decide (stepNeed f b j pend ≤ s.stepFree p)
  let s1 := if !e ∧ !(s.gen p).expWait then
    (s.onGen p (fun g => { g with expWait := true })).raise 0x0440 p 0 (s.expFree p % 2 ^ 32) else s
  let s2 := if !t ∧ !(s.gen p).stepWait then
    (s1.onGen p (fun g => { g with stepWait := true })).raise 0x0440 p 4 (s.stepFree p % 2 ^ 32) else s1
  (e && t, s2)

/-- No step at this boundary. -/
def State.noStep (s : State) (p : Nat) : State :=
  (s.onGen p (fun g => { g with hold := none, filled := false, expWait := false, stepWait := false })).quietSwaps p

/-- Actions 4 to 7 at the open boundary. -/
def State.proceed (s : State) (p : Nat) : State :=
  match s.stepRows p with
  | none => s.noStep p
  | some (slot, rows) =>
    let count := rows.foldl (fun acc r => acc + s.rowsOf p r) 0
    let target := max 1 (s.get Reg.ARRAY.FILL_CTRL.fill_target p)
    let wait := min 2000 (s.get Reg.ARRAY.FILL_CTRL.fill_hold p)
    if !(s.gen p).filled ∧ count < target ∧ wait ≠ 0 then
      if (s.gen p).hold = some .fill then s
      else (s.bump Reg.ARRAY.FILL_HOLDS.holds_begun p 1).onGen p (fun g => { g with hold := some .fill, holdAt := s.timer })
    else
      let (ok, s1) := (s.onGen p (fun g => { g with filled := true })).ringSpace p rows
      if ok then s1.launchStep p slot rows else s1.onGen p (fun g => { g with hold := some .ring })

/-- Does the step leader launch steps: a LIVE partition in its generate phase, its scheduler running? -/
def State.launches (s : State) (p : Nat) : Bool := s.dispatching p && s.role p != 1 && s.generating p

/-- A decode-step boundary: due plan entries, then the actions of Table 11.4. -/
def State.boundary (s : State) (p : Nat) : State :=
  let s0 := s.takeDue p 64
  if !(s0.launches p) then s0
  else
    let s1 := (s0.onGen p (fun g => { g with boundary := g.boundary + 1 })).leaveAll p
    let s2 := ((s1.kvGroups p).foldl (fun t g => t.pressGroup p g) s1).streamHolds p
    if (s2.gen p).hold = some .spill then s2 else s2.proceed p

/-- DECODE_STEP_LAUNCH: a boundary, or another look at a launch that waits for ring space. -/
def State.launchCommand (s : State) (p : Nat) : State :=
  if !(s.launches p) then s
  else match (s.gen p).hold with
    | none => s.boundary p
    | some .ring => s.proceed p
    | some _ => s

/-- DECODE_STEP_LAUNCH. -/
def execDecodeStepLaunch (pid : Nat) (s : State) : Res := onPid pid (.next (s.launchCommand pid))

/-- FILL_HOLD_EXPIRY. -/
def State.fillExpires (s : State) (p : Nat) : State :=
  if (s.gen p).hold = some .fill ∧ s.launches p then
    ((s.bump Reg.ARRAY.FILL_HOLDS.holds_expired p 1).onGen p (fun g => { g with filled := true, hold := none })).proceed p
  else s

/-- FILL_HOLD_EXPIRY. -/
def execFillHoldExpiry (pid : Nat) (s : State) : Res := onPid pid (.next (s.fillExpires pid))

/-- A join that arrives during a hold runs the admission loop, and may fill the step. -/
def State.joinInHold (s : State) (p : Nat) : State :=
  if (s.gen p).hold = some .fill ∧ s.launches p then ((s.kvGroups p).foldl (fun t g => t.admitGroup p g) s).proceed p else s

/-- JOIN_DURING_HOLD. -/
def execJoinDuringHold (pid : Nat) (s : State) : Res := onPid pid (.next (s.joinInHold pid))

/-- Microseconds between two fabric times (2^30 ticks a second). -/
def usBetween (a b : Nat) : Nat := (b - a) * 1000000 / 2 ^ 30

/-- SPILL_READ_DONE: the launch held for spill reads goes on. -/
def State.spillsRead (s : State) (p : Nat) : State :=
  if (s.gen p).hold = some .spill then
    let s1 := (s.bump Reg.KV.HOLD_US.hold_us p (usBetween (s.gen p).holdAt s.timer)).onGen p (fun g => { g with hold := none })
    if s.launches p then s1.proceed p else s1
  else s

/-- SPILL_READ_DONE. -/
def execSpillReadDone (pid : Nat) (s : State) : Res := onPid pid (.next (s.spillsRead pid))

/-- RESUME_PAGES_LANDED: the request runs from the next boundary, or ends where a page was lost (R232). -/
def State.pagesLanded (s : State) (p id : Nat) (ok : Bool) : State :=
  match s.req p id with
  | none => s
  | some r =>
    if !r.landing then s
    else
      let lost := (s.kvTable p r.group r.member).any (fun x => match x.2 with
        | .frame f => s.framePoisoned p r.group f
        | .spill _ => false)
      let s1 := s.onReq p id (fun x => { x with landing := false })
      if ok ∧ !lost then s1 else s1.endReq p id stTierLate

/-- RESUME_PAGES_LANDED. -/
def execResumePagesLanded (pid : Nat) (reqId : DWord) (ok : Bool) (s : State) : Res :=
  onPid pid (.next (s.pagesLanded pid reqId.toNat ok))

/-- SWAP: a due SWAP entry; with no step in flight and none to launch it takes effect at once (R30). -/
def State.swapCommand (s : State) (p : Nat) : State :=
  match s.dueAction p 3 with
  | none => s
  | some e =>
    if !(s.generating p) then s
    else
      let s1 := s.swapEntry p e
      if s1.stepsInFlight p ∨ (s1.stepRows p).isSome then s1 else s1.quietSwaps p

/-- SWAP. -/
def execSwap (pid : Nat) (s : State) : Res := onPid pid (.next (s.swapCommand pid))

/-! ## A launch message on a device of the instance (R220, R341) -/

/-- The first group whose pool or spill slots differ from the leader's. -/
def State.kvMismatch (s : State) (p : Nat) (l : List (Nat × Nat × Nat)) : Option Nat :=
  (l.find? (fun x => s.kvFrames p x.1 != x.2.1 || s.kvSpillSlots p x.1 != x.2.2)).map Prod.fst

/-- A step the leader itself launched has begun here already; a device whose configuration differs refuses the first launch;
else the KV plan is applied and the step begins. -/
def State.launchMessage (s : State) (p : Nat) (m : LaunchMsg) : State :=
  if (s.gen p).steps.any (fun t => t.seq == m.seq) ∨ !(s.launches p) then s
  else
    match (if (s.gen p).follow.isNone then s.kvMismatch p m.groups else none) with
    | some g => s.raise 0x0400 p 0 (g % 256)
    | none => ((m.plan.foldl (fun t a => t.kvApply p a) s).wakeUp p).beginStep p m.seq m.pennant

/-- STEP_LAUNCH_MESSAGE. -/
def execStepLaunchMessage (pid : Nat) (msg : LaunchMsg) (s : State) : Res := onPid pid (.next (s.launchMessage pid msg))

/-! ## Commit (R241-R245, R249) -/

/-- The draw settings of a request. -/
def State.drawCfg (s : State) (p : Nat) (r : Req) : DrawCfg :=
  ⟨rqInvTemp r.block, rqTopP r.block, rqTopK r.block, BitVec.ofNat 64 (s.seed p (rqSeed r.block)), rqSampleBase r.block⟩

/-- A token that the spec does not name: a free value within the row's vocabulary (log entry 10). -/
def freeToken (n : Nat) (row : List (List (List Word))) : Nat :=
  (Config.freeWord n).toNat % max 1 ((row.map List.flatten).flatten.length)

/-- The tokens of a step from row c on: the guesses accepted while they equal the draws, then one draw (R245). Each is
(token, logprob, speculative). `free` numbers the free values used. -/
def verify (cfg : DrawCfg) : List Nat → Nat → List (List (List (List Word))) → Nat → List (Nat × Word × Bool)
  | guesses, q, rows, free =>
    match guesses with
    | [] =>
      let d := drawToken cfg q (rows.headD [])
      [(d.1.getD (freeToken free (rows.headD [])), d.2, false)]
    | g :: gs =>
      let d := drawToken cfg q (rows.headD [])
      let t := d.1.getD (freeToken free (rows.headD []))
      if t = g then (t, d.2, true) :: verify cfg gs (q + 1) (rows.drop 1) (free + 1)
      else [(t, d.2, false)]

/-- Deliver one token (R39, R245, R246): streamer entry, records. -/
def State.deliver (s : State) (p id seq pennant : Nat) (x : Nat × Word × Bool) : State :=
  match s.req p id with
  | none => s
  | some r =>
    if r.status.isSome then s
    else
      let pos := r.len
      let last := rqStops r.block x.1 || decide (rqMaxNew r.block ≤ r.newTokens + 1) || decide (262143 ≤ pos)
      let change := r.newTokens != 0 && r.tokPennant != pennant
      let fl := ofBool last * 4 + ofBool x.2.2 * 2 + ofBool change
      let s1 := (s.streamPut p r.block r.written x.1 x.2.1.toNat pennant fl pos).addRecs p seq
        [tokenRec r.slot x.1 x.2.1.toNat pennant fl pos]
      let s2 := s1.onReq p id (fun y => { y with len := y.len + 1, written := y.written + 1, lastTok := x.1, tokPennant := pennant, pennant := pennant })
      if last then s2.endReq p id stComplete else s2

/-- Bytes of the guesses after row `a` (R244): the lowest ID among each fox head's largest logits. -/
def guessesAt (n : Nat) (fox : List (List (List Word))) (a f : Nat) : List Nat :=
  (upTo f).map (fun h =>
    let z := (fox.getD a []).getD h []
    (argMax z).getD ((Config.freeWord (n + h)).toNat % max 1 z.length))

/-- The rows of a request commit: BIND with its first step, its tokens, its next guesses. -/
def State.commitRows (s : State) (p : Nat) (t : StepRec) (row : StepRow) (r : Req) (res : SlotResult) : State :=
  let s0 := if r.bound then s else (s.addRecs p t.seq [bindRec r.slot r.id (rqPromptLen r.block)]).onReq p r.id (fun x => { x with bound := true })
  if r.state = .prefill ∧ r.prefilled + row.rows < rqPromptLen r.block then
    s0.onReq p r.id (fun x => { x with prefilled := x.prefilled + row.rows, pennant := t.pennant })
  else
    let toks := verify (s.drawCfg p r) r.guesses r.committed res.rows s.free
    let a := (toks.filter (fun x => x.2.2)).length
    let s1 := { s0 with free := s.free + 16 }
    let s2 := s1.onReq p r.id (fun x => { x with
      state := if x.state = .prefill then .running else x.state, prefilled := rqPromptLen x.block, pennant := t.pennant,
      guesses := guessesAt (s.free + 8) res.fox a (s.foxHeads p) })
    let s3 := ((s2.bump Reg.REQ.SPEC_PROPOSED.proposed p r.guesses.length).bump Reg.REQ.SPEC_ACCEPTED.accepted p a).bump
      Reg.KV.STALE_SLOTS.stale p (r.guesses.length - a)
    toks.foldl (fun u x => u.deliver p r.id t.seq t.pennant x) s3

/-- The frame that a lost page of a request names. -/
def State.lostFrame (s : State) (p : Nat) (r : Req) (page : Nat) : Option Nat :=
  match Map.find (s.kvTable p r.group r.member) page with
  | some (.frame f) => some f
  | _ => none

/-- A slot's turn to commit: nothing is delivered for a request already ended; a lost page ends it (R232). -/
def State.commitSlot (s : State) (p : Nat) (t : StepRec) (row : StepRow) (res : SlotResult) : State :=
  let id := row.id.toNat
  let s1 := match s.req p id with
    | none => s
    | some r =>
      if r.status.isSome ∨ r.step ≠ some t.seq then s
      else match res.lost.bind (s.lostFrame p r) with
        | some f =>
          let s0 := if t.lost.contains (r.group, f) then s
            else (s.frameFails p r.group f).onStep p t.seq (fun x => { x with lost := x.lost ++ [(r.group, f)] })
          s0.endReq p id stTierLate
        | none => s.commitRows p t row r res
  let s2 := (s1.onReq p id (fun r => if r.step = some t.seq then { r with step := none } else r)).onStep p t.seq (fun x =>
    { x with rows := x.rows.map (fun y => if y.slot = row.slot then { y with done := true } else y) })
  match (s2.gen p).steps.find? (fun x => x.seq == t.seq) with
  | none => s2
  | some x => if x.rows.all (fun y => y.done) then s2.publishStep p x else s2

/-- SLOT_COMMIT: of the oldest step in flight, the lowest slot not yet committed. -/
def State.slotCommit (s : State) (p seq slot : Nat) (res : SlotResult) : State :=
  match (s.gen p).steps with
  | [] => s
  | t :: _ =>
    match t.rows.find? (fun r => !r.done) with
    | none => s
    | some row => if t.seq = seq ∧ row.slot = slot then s.commitSlot p t row res else s

/-- SLOT_COMMIT. -/
def execSlotCommit (pid seq slot : Nat) (res : SlotResult) (s : State) : Res := onPid pid (.next (s.slotCommit pid seq slot res))

/-! ## Ring headers (R45) -/

/-- A write into an experience ring header of `n` bytes at ring offset `off`: reader_count and a consumer_index, each whole,
clamped; any other write is refused. -/
def State.ringHeaderWrite (s : State) (p off n v : Nat) : Option State :=
  let base := s.expBase p
  if s.expRingBytes p = 0 then none
  else if off = 0x11 ∧ n = 1 then some ((s.writeN (base + 0x11) 1 (max 1 (min 4 v))).expWatch p)
  else if n = 8 ∧ (off = 0x18 ∨ off = 0x20 ∨ off = 0x28 ∨ off = 0x30) then
    let r := (off - 0x18) / 8
    let w := min v (s.producer p)
    if w < s.consumer p r then some s else some ((s.writeN (base + off) 8 w).expWatch p)
  else none

/-- A launch that waits for ring space is looked at again. -/
def State.ringWoken (s : State) (p : Nat) : State :=
  if (s.gen p).hold = some .ring ∧ s.launches p then s.proceed p else s

/-- EXP_HEADER_WRITE: a whole write of the field at `off`. -/
def execExpHeaderWrite (pid off : Nat) (v : DWord) (s : State) : Res :=
  onPid pid (.next (match s.ringHeaderWrite pid off (if off = 0x11 then 1 else 8) (if off = 0x11 then v.toNat % 256 else v.toNat) with
    | none => s
    | some t => t.ringWoken pid))

end Sys2Proof.Machine
end

