-- ==== Sys2Proof/Machine/Collect.lean ====
section
/-! DEFINITION. Collectives (R322-R327), sub-credits (R314), acknowledgements (R305), experience reads and credits over the fabric
(R328). Commands GROUP_TABLE_LOAD to EXP_OP_TIMEOUT, LAUNCH, SUBCREDIT_RECEIVE, ACK_RECEIVE. -/
namespace Sys2Proof.Machine

/-! ## Group entries (Table 15.5) and descriptors (Table 15.6) -/

/-- N of a group. -/
def CollGroup.n (g : CollGroup) : Nat := bytesN g.entry 0 2
/-- This device's member index. -/
def CollGroup.me (g : CollGroup) : Nat := bytesN g.entry 2 2
/-- Packets of the early-arrival pool. -/
def CollGroup.early (g : CollGroup) : Nat := bytesN g.entry 4 2
/-- The deadline in units of 10 µs; 0 for none. -/
def CollGroup.deadline (g : CollGroup) : Nat := field (bytesN g.entry 6 2) 15 4
/-- Logarithm of the descriptor ring. -/
def CollGroup.descLog (g : CollGroup) : Nat := field (bytesN g.entry 6 2) 3 0
/-- Members other than this device. -/
def CollGroup.others (g : CollGroup) : List Nat := (upTo g.n).filter (fun i => i != g.me)

/-- Bytes 7:4 of a descriptor. -/
def cdWord (d : List Byte) : Nat := bytesN d 4 4
/-- op: 1 ALLREDUCE, 2 REDUCE_SCATTER, 3 ALLGATHER, 4 BROADCAST. -/
def cdOp (d : List Byte) : Nat := field (cdWord d) 31 28
/-- fmt. -/
def cdFmt (d : List Byte) : Nat := field (cdWord d) 27 24
/-- Chunk bytes. -/
def cdChunk (d : List Byte) : Nat := 2 ^ (13 + field (cdWord d) 23 20)
/-- root. -/
def cdRoot (d : List Byte) : Nat := field (cdWord d) 19 12
/-- Arrival flag. -/
def cdFlag (d : List Byte) : Nat := field (cdWord d) 11 6
/-- Logical core. -/
def cdCore (d : List Byte) : Nat := field (bytesN d 8 4) 31 22
/-- Vector bytes per member. -/
def cdBytes (d : List Byte) : Nat := bytesN d 12 4
/-- Global address of the input. -/
def cdSrc (d : List Byte) : Nat := bytesN d 16 8
/-- Global address of the output. -/
def cdDst (d : List Byte) : Nat := bytesN d 24 8
/-- Offset of the progress word. -/
def cdProgress (d : List Byte) : Nat := field (bytesN d 32 4) 19 0
/-- Chunks of the vector. -/
def cdChunks (d : List Byte) : Nat := ceilDiv (cdBytes d) (cdChunk d)
/-- Bytes of chunk `c`. -/
def cdLen (d : List Byte) (c : Nat) : Nat := min (cdChunk d) (cdBytes d - c * cdChunk d)
/-- Packets of chunk `c`. -/
def cdPackets (d : List Byte) (c : Nat) : Nat := ceilDiv (cdLen d c) 2048

/-- Is the descriptor's op with its fmt listed, and its chunk size? -/
def cdListed (d : List Byte) : Bool :=
  decide (field (cdWord d) 23 20 ≤ 7) &&
  (((cdOp d == 1 || cdOp d == 2) && (cdFmt d == 0 || cdFmt d == 9)) || ((cdOp d == 3 || cdOp d == 4) && cdFmt d == 0xA))

/-- Group of a guidon. -/
def guidonGroup (g : Nat) : Nat := field g 31 16
/-- Sequence of a guidon. -/
def guidonSeq (g : Nat) : Nat := field g 15 0

/-- A loaded group that is not disabled. -/
def State.collGroup (s : State) (p g : Nat) : Option CollGroup :=
  if min 4096 (s.get Reg.FAB.GROUP_CFG.groups p) ≤ g then none
  else (Map.find (s.bulk p).groups g).filter (fun x => x.n != 0)

/-- The collective of a guidon, if it has started here and not left. -/
def State.coll (s : State) (p guidon : Nat) : Option Coll := (s.bulk p).colls.find? (fun c => c.guidon == guidon)

/-- Change the collective of a guidon. -/
def State.onColl (s : State) (p guidon : Nat) (f : Coll → Coll) : State :=
  s.onBulk p (fun b => { b with colls := b.colls.map (fun c => if c.guidon = guidon then f c else c) })

/-- Drop the collectives that have ended and have nothing left to send. -/
def State.collsLeave (s : State) (p : Nat) : State :=
  s.onBulk p (fun b => { b with colls := b.colls.filter (fun c => c.state == 0 || c.queues.any (fun q => !q.2.isEmpty)) })

/-! ## Sub-credits (R314, R324) -/

/-- The key of a member of a group. -/
def memberKey (g m : Nat) : Nat := g * 2 ^ 16 + m

/-- Sub-credits of a group granted and not yet used. -/
def State.outstanding (s : State) (p g : Nat) : Nat :=
  ((s.bulk p).granted.filter (fun x => x.1 / 2 ^ 16 == g)).foldl (fun n x => n + x.2) 0

/-- Pooled packets of a group. -/
def State.pooled (s : State) (p g : Nat) : Nat := ((s.bulk p).pool.filter (fun k => guidonGroup k.tag == g)).length

/-- Grant a member of a group `n` sub-credits. -/
def State.grantColl (s : State) (p g : Nat) (x : CollGroup) (m n : Nat) : State :=
  match x.devices[m]? with
  | none => s
  | some dev =>
    (s.onBulk p (fun b => { b with granted := Map.adjust b.granted (memberKey g m) 0 (fun k => k + n) })).send
      (mkPacket dev 0 0 (s.owner p) g 0 (x.me * 2 ^ 32 + n) [])

/-- A member has used a sub-credit. -/
def State.creditUsed (s : State) (p g m : Nat) : State :=
  s.onBulk p (fun b => { b with granted := Map.adjust b.granted (memberKey g m) 0 (fun k => k - 1) })

/-- A pooled packet is replaced by a new sub-credit while the pool has room for it; else the member is owed one. -/
def State.regrantPooled (s : State) (p g : Nat) (x : CollGroup) (m : Nat) : State :=
  if s.pooled p g + s.outstanding p g < x.early then s.grantColl p g x m 1
  else s.onBulk p (fun b => { b with owed := Map.adjust b.owed (memberKey g m) 0 (fun k => k + 1) })

/-- Give the members of a group what they are owed, as far as the pool has room (fuel: what is owed). -/
def State.payOwed (s : State) (p g : Nat) (x : CollGroup) : Nat → State
  | 0 => s
  | n + 1 =>
    match (s.bulk p).owed.find? (fun o => o.1 / 2 ^ 16 == g && decide (0 < o.2)) with
    | none => s
    | some o =>
      if x.early ≤ s.pooled p g + s.outstanding p g then s
      else ((s.onBulk p (fun b => { b with owed := Map.put b.owed o.1 (o.2 - 1) })).grantColl p g x (o.1 % 2 ^ 16) 1).payOwed p g x n

/-- What a group's members are owed. -/
def State.owedTo (s : State) (p g : Nat) : Nat :=
  ((s.bulk p).owed.filter (fun x => x.1 / 2 ^ 16 == g)).foldl (fun n x => n + x.2) 0

/-! ## Sending -/

/-- Send a member of a group its next packet, from the group's oldest collective that has one (fuel: sub-credits held). -/
def State.pumpMember (s : State) (p g : Nat) (x : CollGroup) (m : Nat) : Nat → State
  | 0 => s
  | n + 1 =>
    let held := Map.getD (s.bulk p).credits (memberKey g m) 0
    match (s.bulk p).colls.find? (fun c => guidonGroup c.guidon == g && !(Map.getD c.queues m []).isEmpty), x.devices[m]? with
    | some c, some dev =>
      (match held, Map.getD c.queues m [] with
      | k + 1, it :: rest =>
        let pkt := { mkPacket dev 3 0 (s.owner p) c.guidon 0 (it.index % 256 * 2 ^ 32 + it.chunk) it.bytes with
          last := it.last, poison := it.poison }
        let s1 := (s.onColl p c.guidon (fun c => { c with queues := Map.put c.queues m rest })).onBulk p (fun b =>
          { b with credits := Map.put b.credits (memberKey g m) k })
        (s1.send pkt).pumpMember p g x m n
      | _, _ => s)
    | _, _ => s

/-- Send to every member of a group. -/
def State.pumpGroup (s : State) (p g : Nat) (x : CollGroup) : State :=
  (x.others.foldl (fun t m => t.pumpMember p g x m (Map.getD (t.bulk p).credits (memberKey g m) 0)) s).collsLeave p

/-! ## Progress and the end (R326, R327) -/

/-- The chunks of this member's output, in order: number and packets. -/
def outChunks (x : CollGroup) (d : List Byte) : List (Nat × Nat) :=
  let cs := (upTo (cdChunks d)).map (fun c => (c, cdPackets d c))
  if cdOp d = 3 then (upTo x.n).flatMap (fun m => cs.map (fun c => (m * cdChunks d + c.1, c.2)))
  else if cdOp d = 2 then cs.filter (fun c => c.1 % x.n == x.me)
  else cs

/-- Is an output chunk complete? -/
def Coll.chunkDone (c : Coll) (o : Nat × Nat) : Bool := (upTo o.2).all (fun i => c.done.contains (o.1, i))

/-- Complete leading chunks. -/
def Coll.leading (c : Coll) (x : CollGroup) : Nat := ((outChunks x c.desc).takeWhile c.chunkDone).length

/-- Write the progress word. -/
def State.writeProgress (s : State) (p : Nat) (c : Coll) (x : CollGroup) (state : Nat) : State :=
  match s.physical p (cdCore c.desc) with
  | some k => if cdProgress c.desc + 8 ≤ 2 ^ 20 then s.writeN (nearAddr k (cdProgress c.desc)) 8 (state * 2 ^ 56 + c.leading x) else s
  | none => s

/-- The flag of a collective lands. -/
def State.landColl (s : State) (p : Nat) (c : Coll) : State :=
  match s.physical p (cdCore c.desc) with
  | some k => s.landOn p k (cdFlag c.desc)
  | none => s

/-- COLLECTIVE_FAILED. -/
def State.collEvent (s : State) (p guidon cause : Nat) : State :=
  (s.bump Reg.FAB.COLL_FAILED.failed p 1).raise 0x0540 p 0 (cause * 2 ^ 32 + guidon)

/-- A running collective fails (R327): the step that uses it goes with it. -/
def State.collFails (s : State) (p : Nat) (c : Coll) (x : CollGroup) (cause : Nat) : State :=
  let s1 := ((s.onColl p c.guidon (fun c => { c with state := 2, queues := [], parts := [] })).onBulk p (fun b =>
    { b with pool := b.pool.filter (fun k => k.tag != c.guidon) })).writeProgress p c x 2
  let s2 := ((s1.landColl p c).collEvent p c.guidon cause).collsLeave p
  let s3 := if s2.stepWork p then s2.abandonStep p else s2
  if s3.learning p then s3.stepFails p 5 else s3

/-- A leading chunk is complete: the progress word; at the end the flag and the count. -/
def State.collProgress (s : State) (p : Nat) (c : Coll) (x : CollGroup) : State :=
  if (outChunks x c.desc).all c.chunkDone then
    ((((s.writeProgress p c x 1).landColl p c).bump Reg.FAB.COLL_DONE.done p 1).onColl p c.guidon (fun c => { c with state := 1 })).collsLeave p
  else s.writeProgress p c x 0

/-- COLLECTIVE_CHUNK_DONE. -/
def execCollectiveChunkDone (pid : Nat) (guidon : Word) (s : State) : Res :=
  onPid pid (.next (match s.coll pid guidon.toNat, s.collGroup pid (guidonGroup guidon.toNat) with
    | some c, some x => if c.state = 0 then s.collProgress pid c x else s
    | _, _ => s))

/-- COLLECTIVE_DEADLINE. -/
def execCollectiveDeadline (pid : Nat) (guidon : Word) (s : State) : Res :=
  onPid pid (.next (match s.coll pid guidon.toNat, s.collGroup pid (guidonGroup guidon.toNat) with
    | some c, some x => if c.state = 0 ∧ x.deadline ≠ 0 then s.collFails pid c x 2 else s
    | _, _ => s))

/-! ## Landing (R324, R325) -/

/-- Put output bytes in place; an output address that fails R60 fails the collective. -/
def State.collPut (s : State) (p : Nat) (c : Coll) (x : CollGroup) (off out idx : Nat) (bs : List Byte) : State :=
  match s.resolve (.part p) (cdDst c.desc + off) bs.length with
  | .ok a => (s.writeBytes a bs).onColl p c.guidon (fun c => { c with done := if c.done.contains (out, idx) then c.done else c.done ++ [(out, idx)] })
  | .error _ => s.collFails p c x 1

/-- The sum of contributions in member order (R325). -/
def collSum (fmt : Nat) : List (List Byte) → List Byte
  | [] => []
  | b :: bs => bs.foldl (fun acc v =>
      if fmt = 0 then (upTo (acc.length / 4)).flatMap (fun i =>
        leBytes 4 (fAdd (BitVec.ofNat 32 (bytesN acc (4 * i) 4)) (BitVec.ofNat 32 (bytesN v (4 * i) 4))).toNat)
      else (upTo (acc.length / 8)).flatMap (fun i => leBytes 8 (bytesN acc (8 * i) 8 + bytesN v (8 * i) 8))) b

/-- Where packet `idx` of chunk `c` of a reduction's result lies in the output. -/
def reducePlace (x : CollGroup) (d : List Byte) (c idx : Nat) : Nat :=
  (if cdOp d = 2 then Config.scatterPlace c x.n (cdChunk d) else c * cdChunk d) + 2048 * idx

/-- The owner has every member's part of a packet: it sums, keeps, and in an ALLREDUCE sends the result. -/
def State.collReduce (s : State) (p : Nat) (c : Coll) (x : CollGroup) (chunk idx : Nat) : State :=
  let parts := (upTo x.n).map (fun m => c.parts.find? (fun q => q.member == m && q.chunk == chunk && q.index == idx))
  if !(parts.all Option.isSome) then s
  else
    let bs := collSum (cdFmt c.desc) (parts.filterMap (fun q => q.map (fun q => q.bytes)))
    let it : CollItem := ⟨chunk, idx, idx + 1 == cdPackets c.desc chunk, bs, 0⟩
    let s1 := s.onColl p c.guidon (fun c => { c with
      parts := c.parts.filter (fun q => !(q.chunk == chunk && q.index == idx))
      queues := if cdOp c.desc = 1 then x.others.foldl (fun m i => Map.adjust m i [] (fun l => l ++ [it])) c.queues else c.queues })
    s1.collPut p c x (reducePlace x c.desc chunk idx) chunk idx bs

/-- A part of a reduction lands at the chunk's owner. -/
def State.collPart (s : State) (p guidon : Nat) (x : CollGroup) (q : CollPart) : State :=
  let s1 := s.onColl p guidon (fun c => { c with parts := c.parts ++ [q] })
  match s1.coll p guidon with
  | some c => s1.collReduce p c x q.chunk q.index
  | none => s1

/-- The place in its chunk of a packet whose index mod 256 is `i`: the first not yet landed. -/
def placeOf (landed : List Nat) (n i : Nat) : Option Nat := (upTo n).find? (fun k => k % 256 == i && !(landed.contains k))

/-- A packet of a running collective from member `m` (R324). One that fits nowhere is discarded. -/
def State.collLand (s : State) (p : Nat) (c : Coll) (x : CollGroup) (m : Nat) (k : Packet) : State :=
  let d := c.desc
  let chunk := field k.arg 31 0
  let i := field k.arg 39 32
  let bs := pktPayload k
  let reduce := cdOp d = 1 ∨ cdOp d = 2
  let fits := fun (idx : Nat) => decide (bs.length = min 2048 (cdLen d chunk - 2048 * idx))
  if k.poison ≠ 0 then s.collFails p c x 3
  else if reduce ∧ chunk % x.n = x.me then
    match placeOf ((c.parts.filter (fun q => q.member == m && q.chunk == chunk)).map (fun q => q.index) ++
        (c.done.filter (fun o => o.1 == chunk)).map Prod.snd) (cdPackets d chunk) i with
    | some idx => if fits idx then s.collPart p c.guidon x ⟨m, chunk, idx, bs⟩ else s
    | none => s
  else
    let out := if cdOp d = 3 then m * cdChunks d + chunk else chunk
    let from_ := (cdOp d = 1 ∧ m = chunk % x.n) ∨ cdOp d = 3 ∨ (cdOp d = 4 ∧ m = cdRoot d)
    match placeOf ((c.done.filter (fun o => o.1 == out)).map Prod.snd) (cdPackets d chunk) i with
    | some idx =>
      if from_ ∧ fits idx ∧ chunk < cdChunks d then
        s.collPut p c x ((if cdOp d = 3 then m * cdBytes d else 0) + chunk * cdChunk d + 2048 * idx) out idx bs
      else s
    | none => s

/-- Has a guidon of the group started here: is its sequence at or before the last one? -/
def startedSeq (x : CollGroup) (seq : Nat) : Bool :=
  match x.last with
  | none => false
  | some l => decide ((l + 2 ^ 16 - seq) % 2 ^ 16 < 2 ^ 15)

/-- COLL_DATA of a group: landed, pooled, or, for a collective that has ended, discarded. -/
def State.collData (s : State) (p : Nat) (k : Packet) : State :=
  let g := guidonGroup k.tag
  match s.collGroup p g with
  | none => s
  | some x =>
    match x.others.find? (fun m => x.devices[m]? == some k.src) with
    | none => s
    | some m =>
      let s1 := s.creditUsed p g m
      match s.coll p k.tag with
      | some c =>
        if c.state ≠ 0 then s1 else ((s1.collLand p c x m k).grantColl p g x m 1).pumpGroup p g x
      | none =>
        if startedSeq x (guidonSeq k.tag) ∨ x.early ≤ s.pooled p g then s1
        else
          ((s1.onBulk p (fun b => { b with pool := b.pool ++ [k] })).bump Reg.FAB.EARLY_PACKETS.early p 1).regrantPooled p g x m

/-- Does a packet of the FAB page reach the partition? -/
def State.fabLive (s : State) (p : Nat) : Bool := s.reach .firmware (regOff Reg.FAB.GROUP_CFG.reg p)

/-- COLL_DATA_RECEIVE. -/
def execCollDataReceive (pid : Nat) (pkt : Packet) (s : State) : Res :=
  onPid pid (.next (if !(s.fabLive pid) then s
    else if pkt.tenant ≠ s.owner pid then s.packetViolation 0x0540 pid
    else (s.collData pid pkt).ackPacket pkt))

/-! ## Starting (R323) -/

/-- The packets of one chunk of an input at `a`. -/
def State.chunkItems (s : State) (d : List Byte) (a c : Nat) : List CollItem :=
  (upTo (cdPackets d c)).map (fun i =>
    let off := a + c * cdChunk d + 2048 * i
    let n := min 2048 (cdLen d c - 2048 * i)
    ⟨c, i, i + 1 == cdPackets d c, s.readBytes off n, s.packetPoison off n⟩)

/-- What a collective begins with: its queues, its own parts, its own output (output offset, output chunk, item). -/
def collBegin (x : CollGroup) (d : List Byte) (items : List CollItem) :
    Map (List CollItem) × List CollPart × List (Nat × Nat × CollItem) :=
  let toAll : Map (List CollItem) := x.others.map (fun m => (m, items))
  match cdOp d with
  | 3 => (toAll, [], items.map (fun it => (x.me * cdBytes d + it.chunk * cdChunk d + 2048 * it.index, x.me * cdChunks d + it.chunk, it)))
  | 4 => if cdRoot d = x.me then (toAll, [], items.map (fun it => (it.chunk * cdChunk d + 2048 * it.index, it.chunk, it))) else ([], [], [])
  | _ => ((x.others.map (fun m => (m, items.filter (fun it => it.chunk % x.n == m)))),
      (items.filter (fun it => it.chunk % x.n == x.me)).map (fun it => ⟨x.me, it.chunk, it.index, it.bytes⟩), [])

/-- Keep a collective going while it runs. -/
def State.whileRunning (s : State) (p guidon : Nat) (f : Coll → State) : State :=
  match s.coll p guidon with
  | some c => if c.state = 0 then f c else s
  | none => s

/-- A collective starts with its input at `a`: its own share, then the pooled packets, in order. -/
def State.collRun (s : State) (p guidon : Nat) (x : CollGroup) (d : List Byte) (a : Nat) : State :=
  let g := guidonGroup guidon
  let items := (upTo (cdChunks d)).flatMap (fun c => s.chunkItems d a c)
  let b := collBegin x d items
  let x1 := { x with last := some (guidonSeq guidon) }
  let armed := match s.physical p (cdCore d) with
    | some k => (s.armOn k (cdFlag d)).getD s
    | none => s
  let s1 := armed.onBulk p (fun u => { u with
    groups := Map.put u.groups g x1, colls := u.colls ++ [{ guidon := guidon, desc := d, queues := b.1, parts := [], done := [], state := 0 }] })
  let ownBad := items.any (fun it => decide (it.poison ≠ 0) && (b.2.1.any (fun q => q.chunk == it.chunk && q.index == it.index) || !b.2.2.isEmpty))
  let s2 := if ownBad then s1.whileRunning p guidon (fun c => s1.collFails p c x1 3) else s1
  let s3 := b.2.2.foldl (fun t o => t.whileRunning p guidon (fun c => t.collPut p c x1 o.1 o.2.1 o.2.2.index o.2.2.bytes)) s2
  let s4 := b.2.1.foldl (fun t q => t.whileRunning p guidon (fun _ => t.collPart p guidon x1 q)) s3
  let waiting := (s.bulk p).pool.filter (fun k => k.tag == guidon)
  let s5 := s4.onBulk p (fun u => { u with pool := u.pool.filter (fun k => k.tag != guidon) })
  let s6 := waiting.foldl (fun t k => t.whileRunning p guidon (fun c =>
    match x1.others.find? (fun m => x1.devices[m]? == some k.src) with
    | some m => t.collLand p c x1 m k
    | none => t)) s5
  (s6.payOwed p g x1 (s6.owedTo p g)).pumpGroup p g x1

/-- The descriptor of a guidon. -/
def State.collDesc (s : State) (p guidon : Nat) (x : CollGroup) : Option (List Byte) :=
  match s.resolve (.part p) (bytesN x.entry 16 8 + 64 * (guidonSeq guidon % 2 ^ x.descLog)) 64 with
  | .ok a => some (s.readBytes a 64)
  | .error _ => none

/-- Does the start break R323? -/
def State.startInvalid (s : State) (p guidon : Nat) (x : CollGroup) (d : List Byte) : Bool :=
  bytesN d 0 4 != guidon || !(cdListed d) || (x.last.any (fun l => guidonSeq guidon != (l + 1) % 2 ^ 16)) ||
  decide (2 ^ x.descLog ≤ ((s.bulk p).colls.filter (fun c => guidonGroup c.guidon == guidonGroup guidon && c.state == 0)).length)

/-- Start the collective of a guidon, or fail it with INVALID. -/
def State.collStart (s : State) (p guidon : Nat) : State :=
  match s.collGroup p (guidonGroup guidon) with
  | none => s.collEvent p guidon 1
  | some x =>
    match s.collDesc p guidon x with
    | none => s.collEvent p guidon 1
    | some d =>
      if s.startInvalid p guidon x d then s.collEvent p guidon 1
      else match s.resolve (.part p) (cdSrc d) (cdBytes d) with
        | .ok a => s.collRun p guidon x d a
        | .error _ => s.collEvent p guidon 1

/-- COLL_GO. -/
def execCollGo (r : Requester) (pid : Nat) (guidon : Word) (s : State) : Res :=
  onPid pid (.next (s.guard r (regOff Reg.FAB.COLL_GO.reg pid) (s.collStart pid guidon.toNat)))

/-- LAUNCH: a due entry at the head starts its collective (R12, R30). -/
def execLaunch (pid : Nat) (s : State) : Res :=
  onPid pid (.next (match s.dueAction pid 5 with
    | none => s
    | some e => (s.dropEntry pid e).collStart pid (peArg e.bytes)))

/-! ## The group table (R322) -/

/-- A group entry as loaded, with its members' devices; the sequence of its last start stays. -/
def State.groupAt (s : State) (p g : Nat) : Option CollGroup :=
  match s.resolve (.part p) (s.get Reg.FAB.GROUP_TABLE.group_addr p + 32 * g) 32 with
  | .error _ => none
  | .ok a =>
    let e := s.readBytes a 32
    let devs := (upTo (min 256 (bytesN e 0 2))).map (fun i =>
      match s.resolve (.part p) (bytesN e 8 8 + 4 * i) 4 with
      | .ok b => s.readN b 4 % 2 ^ 16
      | .error _ => 0xFFFF)
    some ⟨e, devs, (Map.find (s.bulk p).groups g).bind (fun x => x.last)⟩

/-- Load every entry and grant the early sub-credits. -/
def State.loadGroups (s : State) (p : Nat) : State :=
  let l := (upTo (min 4096 (s.get Reg.FAB.GROUP_CFG.groups p))).filterMap (fun g => (s.groupAt p g).map (fun x => (g, x)))
  let s1 := s.onBulk p (fun b => { b with groups := l })
  l.foldl (fun t x => if x.2.n < 2 then t
    else x.2.others.foldl (fun u m => u.grantColl p x.1 x.2 m (x.2.early / (x.2.n - 1))) t) s1

/-- A write of FAB.GROUP_CFG. -/
def State.groupWrite (s : State) (r : Requester) (p mask v : Nat) : State :=
  let off := regOff Reg.FAB.GROUP_CFG.reg p
  if (s.bulk p).colls.any (fun c => c.state == 0) then s.regFault off stFabBusy
  else
    let s1 := s.writeReg r off 0 mask v
    if s.rwlClosed r off then s1 else s1.loadGroups p

/-- GROUP_TABLE_LOAD. -/
def execGroupTableLoad (r : Requester) (pid : Nat) (val : DWord) (s : State) : Res :=
  onPid pid (.next (s.guard r (regOff Reg.FAB.GROUP_CFG.reg pid) (s.groupWrite r pid (2 ^ 64 - 1) val.toNat)))

/-! ## Experience operations (R328) -/

/-- The status that comes first: COMMAND_INVALID, ADDR_UNMAPPED, PARTITION_VIOLATION, TIER_LATE. -/
def firstCode (l : List Nat) : Nat :=
  ([stCommandInvalid, codeUnmapped, codeViolation, stTierLate].find? (fun c => l.contains c)).getD (l.headD stComplete)

/-- An operation ends: its status goes into its block and its flag lands. -/
def State.expEnds (s : State) (p id : Nat) (o : ExpOp) : State :=
  ((s.onBulk p (fun b => { b with exps := Map.del b.exps id })).writeN (nearAddr o.core (o.block + 24)) 4 (firstCode o.codes)).landOn p
    o.core o.flag

/-- An operation goes on without request `q`. -/
def State.expAnswered (s : State) (p id : Nat) (o : ExpOp) (q : ExpReq) (code : Option Nat) : State :=
  let o1 := { o with reqs := o.reqs.erase q, codes := o.codes ++ code.toList }
  if o1.reqs.isEmpty then s.expEnds p id o1 else s.onBulk p (fun b => { b with exps := Map.put b.exps id o1 })

/-- An entry of the source table: reader index, partition, device. -/
def State.expSource (s : State) (p i : Nat) : Option (Nat × Nat × Nat) :=
  match s.resolve (.part p) (s.get Reg.FAB.EXP_TABLE.exp_table p + 8 * i) 8 with
  | .ok a => if bit (s.readN a 8) 63 then some (field (s.readN a 8) 49 48, field (s.readN a 8) 41 32, field (s.readN a 8) 15 0) else none
  | .error _ => none

/-- Send the requests of an operation and remember them. -/
def State.expSend (s : State) (p id : Nat) (o : ExpOp) : List (Packet × ExpReq) → State
  | [] => s.onBulk p (fun b => { b with exps := Map.put b.exps id o, nextExp := id + 1 })
  | (k, q) :: l => (s.send k).expSend p id { o with reqs := o.reqs ++ [{ q with seq := s.nextSeq k.dst k.vc }] } l

/-- An operation that ends before anything is sent. -/
def State.expRefused (s : State) (p : Nat) (o : ExpOp) (code : Nat) : State := s.expEnds p (s.bulk p).nextExp { o with codes := [code] }

/-- A READ of `len` bytes. -/
def State.expRead (s : State) (p : Nat) (o : ExpOp) (src : Nat × Nat × Nat) (len off dst : Nat) : State :=
  if len % 16 ≠ 0 ∨ len < 16 ∨ 65536 < len then s.expRefused p o stCommandInvalid
  else
    let sp := spaceOf dst
    match (if sp = 0 ∨ sp = 1 ∨ sp = 3 then s.resolve (.part p) dst len else .error codeUnmapped) with
    | .error _ => s.expRefused p o codeUnmapped
    | .ok a => s.expSend p (s.bulk p).nextExp o ((upTo (ceilDiv len 2048)).map (fun i =>
        let n := min 2048 (len - 2048 * i)
        (mkPacket src.2.2 6 0 (s.owner p) src.2.1 0 (n * 2 ^ 40 + (off + 2048 * i) % 2 ^ 36) [],
          ⟨0, src.2.2, src.2.1, off + 2048 * i, n, a + 2048 * i⟩)))

/-- A CREDIT with a new consumer_index. -/
def State.expCredit (s : State) (p : Nat) (o : ExpOp) (src : Nat × Nat × Nat) (v : Nat) : State :=
  s.expSend p (s.bulk p).nextExp o [({ mkPacket src.2.2 6 1 (s.owner p) src.2.1 0 src.1 (leBytes 8 v) with ackReq := true },
    ⟨0, src.2.2, src.2.1, 0, 0, 0⟩)]

/-- A store to FAB.EXP_GO by core `c`. -/
def State.expGo (s : State) (p c val : Nat) : State :=
  let flag := field val 25 20
  let block := field val 19 0
  let bad := fun code => s.regFault (regOff Reg.FAB.EXP_GO.reg p) code
  if 2 ^ 20 < block + 32 then bad codeUnmapped
  else match s.armOn c flag with
    | none => bad stFlagBusy
    | some t =>
      let at_ := fun off n => s.readN (nearAddr c (block + off)) n
      let op := field (at_ 0 4) 31 30
      let o : ExpOp := ⟨c, flag, block, op == 1, [], []⟩
      match s.expSource p (field (at_ 0 4) 5 0) with
      | none => t.expRefused p o stCommandInvalid
      | some src =>
        if op = 1 then t.expRead p o src (at_ 4 4) (field (at_ 8 8) 35 0) (at_ 16 8)
        else if op = 2 then t.expCredit p o src (at_ 8 8)
        else t.expRefused p o stCommandInvalid

/-- EXP_GO_READ. -/
def execExpGoRead (core : Nat) (val : Word) (s : State) : Res :=
  onCoreId core (.next (s.coreStore core Reg.FAB.EXP_GO.reg (fun p _ => s.expGo p core val.toNat)))

/-- EXP_GO_CREDIT. -/
def execExpGoCredit (core : Nat) (val : Word) (s : State) : Res :=
  onCoreId core (.next (s.coreStore core Reg.FAB.EXP_GO.reg (fun p _ => s.expGo p core val.toNat)))

/-- A REFUSAL of a request. -/
def State.refuse (s : State) (k : Packet) (code : Nat) : State :=
  s.send (mkPacket k.src 0 3 k.tenant k.tag 0 (code * 2 ^ 32 + k.seq) [])

/-- Checks 1 and 2 of R328 for a request at a generator: the ring's partition, or the state in which it is refused. -/
def State.ringOf (s : State) (k : Packet) : Except State Nat :=
  let p := k.tag
  if 1024 ≤ p ∨ !(s.live p) ∨ s.expRingBytes p = 0 then .error (s.refuse k codeUnmapped)
  else if k.tenant ≠ s.owner p then .error ((s.packetViolation 0x0440 p).refuse k codeViolation)
  else .ok p

/-- EXP_READ at the generator's device. -/
def State.expServe (s : State) (k : Packet) : State :=
  match s.ringOf k with
  | .error t => t
  | .ok p =>
    let len := field k.arg 51 40
    let off := field k.arg 35 0
    if len % 16 ≠ 0 ∨ len < 16 ∨ 2048 < len ∨ off % 16 ≠ 0 then s.refuse k stCommandInvalid
    else if s.expRingBytes p < off + len then s.refuse k codeUnmapped
    else
      let a := s.get Reg.PARTITION.T1_BASE.t1_base p + off
      s.send { mkPacket k.src 0 2 k.tenant k.tag 0 k.arg (s.readBytes a len) with poison := s.packetPoison a len }

/-- EXP_READ_SERVE. -/
def execExpReadServe (pkt : Packet) (s : State) : Res := .next (s.expServe pkt)

/-- EXP_CREDIT at the generator's device. -/
def State.creditServe (s : State) (k : Packet) : State :=
  match s.ringOf k with
  | .error t => t
  | .ok p =>
    if (pktPayload k).length ≠ 8 then s.refuse k stCommandInvalid
    else
      let s1 := match s.ringHeaderWrite p (0x18 + 8 * field k.arg 1 0) 8 (leNat (pktPayload k)) with
        | some t => t.ringWoken p
        | none => s
      s1.send (mkPacket k.src 0 1 k.tenant k.tag 0 k.seq [])

/-- EXP_CREDIT_RECEIVE. -/
def execExpCreditReceive (pkt : Packet) (s : State) : Res := .next (s.creditServe pkt)

/-- The operation and request of a partition that a packet answers. -/
def State.expAsked (s : State) (p : Nat) (f : ExpOp → ExpReq → Bool) : Option (Nat × ExpOp × ExpReq) :=
  ((s.bulk p).exps.filterMap (fun x => (x.2.reqs.find? (fun q => f x.2 q)).map (fun q => (x.1, x.2, q)))).head?

/-- A RESPONSE, ACK or REFUSAL to an experience operation (R328). -/
def State.expResponse (s : State) (p : Nat) (k : Packet) : State :=
  let from_ := fun (q : ExpReq) => q.device == k.src && q.ring == k.tag
  match k.cls with
  | 2 =>
    match s.expAsked p (fun o q => o.read && from_ q && k.arg == q.len * 2 ^ 40 + q.off % 2 ^ 36 && (pktPayload k).length == q.len) with
    | some (id, o, q) =>
      let s1 := s.writeBytes q.dst (pktPayload k)
      let s2 := (upTo 8).foldl (fun t i => if k.poison.testBit i then t.poisonRange (q.dst + 256 * i) (min 256 (q.len - 256 * i)) else t) s1
      (s2.bump Reg.FAB.EXP_BYTES.exp_bytes p q.len).expAnswered p id o q none
    | none => s
  | 1 =>
    match s.expAsked p (fun o q => !o.read && from_ q && q.seq == field k.arg 31 0) with
    | some (id, o, q) => s.expAnswered p id o q none
    | none => s
  | 3 =>
    match s.expAsked p (fun _ q => from_ q && q.seq == field k.arg 31 0) with
    | some (id, o, q) => s.expAnswered p id o q (some (field k.arg 39 32))
    | none => s
  | _ => s

/-- EXP_RESPONSE. -/
def execExpResponse (pid : Nat) (pkt : Packet) (s : State) : Res :=
  onPid pid (.next (if pkt.tenant = s.owner pid then s.expResponse pid pkt else s))

/-- EXP_OP_TIMEOUT: W has passed. -/
def execExpOpTimeout (pid op : Nat) (s : State) : Res :=
  onPid pid (.next (match Map.find (s.bulk pid).exps op with
    | some o => s.expEnds pid op { o with codes := o.codes ++ [stTierLate] }
    | none => s))

/-- ACK_RECEIVE: the requests of this device that ask for an ACK and wait for it are experience credits (R328). -/
def execAckReceive (pid : Nat) (pkt : Packet) (s : State) : Res :=
  onPid pid (.next (if pkt.tenant = s.owner pid ∧ pkt.cls = 1 then s.expResponse pid pkt else s))

/-! ## SUBCREDIT (R314) -/

/-- Sub-credits of a kind arrive: what waited for them is sent. -/
def State.subcredit (s : State) (p : Nat) (k : Packet) : State :=
  let tag := field k.tag 15 0
  let m := field k.arg 47 32
  let n := field k.arg 15 0
  match field k.arg 49 48 with
  | 0 =>
    match s.collGroup p tag with
    | some x => (s.onBulk p (fun b => { b with credits := Map.adjust b.credits (memberKey tag m) 0 (fun c => c + n) })).pumpGroup p tag x
    | none => s
  | 1 =>
    if tag ≠ s.redGroup p then s
    else
      let s1 := s.onUpd p (fun u => { u with credits := Map.adjust u.credits m 0 (fun c => c + n) })
      s1.pumpGather p m (Map.getD (s1.upd p).queues m []).length
  | 2 => s.relayCredit p (tag % 256) k.src n
  | _ => s

/-- SUBCREDIT_RECEIVE. -/
def execSubcreditReceive (pid : Nat) (pkt : Packet) (s : State) : Res :=
  onPid pid (.next (if pkt.tenant = s.owner pid then s.subcredit pid pkt else s.packetViolation 0x0540 pid))

end Sys2Proof.Machine
end

