-- ==== Sys2Proof/Machine/Host.lean ====
section
/-! DEFINITION. Host ports (R371-R375, R392), queue pairs (R376, R377, R390) and the host rings' ends (R388-R390). Commands
HOST_FRAME_RECEIVE to CM_DREQ, RNR_NAK to EVENTS_LOST. -/
namespace Sys2Proof.Machine

/-! ## Ports and the Ethernet layer -/

/-- Is a host port UP? -/
def State.hportUp (s : State) (port : Nat) : Bool := s.get Reg.HPORT.STATUS.state port == 2

/-- Run a command of a host port that is up. -/
def State.atHport (s : State) (port : Nat) (t : State) : Res := onHport port (.next (if s.hportUp port then t else s))

/-- A frame is discarded (R371). -/
def State.rxDrop (s : State) (port : Nat) : State := s.bump Reg.HPORT.RX_DROPS.drops port 1

/-- Does the device terminate the frame (R371)? -/
def frameTaken (f : HostFrame) : Bool :=
  decide (f.tags ≤ 1) && decide (f.ipBytes ≤ 4352) &&
  match f.kind with
  | .udp p => p == 4791
  | .arp own => own
  | .neighbour own => own
  | .echo => true
  | .ptp => true
  | .lldp => true
  | .pfc => true
  | .other => false

/-- XOFF bytes of a port (R374). -/
def State.xoffBytes (s : State) (port : Nat) : Nat := min 1536 (s.get Reg.HPORT.PFC.xoff_kib port) * 1024

/-- The receive buffer of a priority holds `backlog` bytes: XOFF above xoff_kib, XON below half of it, on the priorities that
HPORT.PFC enables (R374). -/
def State.rxBuffer (s : State) (port prio backlog : Nat) : State :=
  let k := 8 * port + prio
  let x := s.xoffBytes port
  if !(bit (s.get Reg.HPORT.PFC.enabled port) prio) then s
  else if s.host.xoff.contains k then
    if 2 * backlog < x then (s.onHost (fun h => { h with xoff := h.xoff.filter (fun y => y != k) })).emit (.pfc port prio false)
    else s
  else if x < backlog then (s.onHost (fun h => { h with xoff := h.xoff ++ [k] })).emit (.pfc port prio true)
  else s

/-- HOST_FRAME_RECEIVE. No frame is forwarded (R372). -/
def execHostFrameReceive (port : Nat) (f : HostFrame) (s : State) : Res :=
  s.atHport port (if frameTaken f then s.rxBuffer port (f.priority % 8) f.backlog else s.rxDrop port)

/-- A port's MAC address, read from fuses. -/
def State.mac (s : State) (port : Nat) : Nat := s.fuses.macs.getD port 0 % 2 ^ 48

/-- The EUI-64 of a MAC address. -/
def eui64 (mac : Nat) : Nat := (field mac 47 24).xor 0x020000 * 2 ^ 40 + 0xFFFE * 2 ^ 24 + field mac 23 0

/-- The port's own IPv6 addresses: the one set, and the link-local one of its EUI-64 (R429). -/
def State.ownV6 (s : State) (port a : Nat) : Bool :=
  let g := s.get Reg.HPORT.IPV6_HI.ipv6_hi port * 2 ^ 64 + s.get Reg.HPORT.IPV6_LO.ipv6_lo port
  (g != 0 && a == g) || a == 0xFE80 * 2 ^ 112 + eui64 (s.mac port)

/-- The port's own IPv4 address; 0 none. -/
def State.ownV4 (s : State) (port a : Nat) : Bool := a != 0 && a == s.get Reg.HPORT.IPV4.ipv4 port

/-- ARP_REQUEST. -/
def execArpRequest (port target sender : Nat) (s : State) : Res :=
  s.atHport port (if s.ownV4 port target then s.emit (.neighbourReply port target sender (s.mac port)) else s.rxDrop port)

/-- NEIGHBOUR_SOLICITATION. -/
def execNeighbourSolicitation (port target sender : Nat) (s : State) : Res :=
  s.atHport port (if s.ownV6 port target then s.emit (.neighbourReply port target sender (s.mac port)) else s.rxDrop port)

/-- ECHO_REQUEST. -/
def execEchoRequest (port : Nat) (v6 : Bool) (dst src : Nat) (data : List Byte) (s : State) : Res :=
  s.atHport port (if (if v6 then s.ownV6 port dst else s.ownV4 port dst) then s.emit (.echoReply port v6 dst src data)
    else s.rxDrop port)

/-- LLDP_RECEIVE. -/
def execLldpReceive (port : Nat) (chassis : List Byte) (s : State) : Res :=
  s.atHport port (s.set Reg.HPORT.LLDP_PEER.chassis port (leNat (chassis.take 8)))

/-- LLDP_TRANSMIT. -/
def execLldpTransmit (port : Nat) (s : State) : Res :=
  s.atHport port (s.emit (.lldp port s.fuses.serial s.deviceId ((s.twin.peer.map Prod.fst).getD 0)))

/-- A PFC frame: pause quanta for the priorities in `enable` that HPORT.PFC enables; 0 ends a pause (R374). -/
def State.pfcIn (s : State) (port enable : Nat) (pause : List Nat) : State :=
  (upTo 8).foldl (fun t p =>
    if bit enable p ∧ bit (s.get Reg.HPORT.PFC.enabled port) p then
      let q := pause.getD p 0 % 65536
      t.onHost (fun h => { h with paused := if q = 0 then Map.del h.paused (8 * port + p) else Map.put h.paused (8 * port + p) q })
    else t) s

/-- PFC_FRAME. -/
def execPfcFrame (port enable : Nat) (pause : List Nat) (s : State) : Res := s.atHport port (s.pfcIn port enable pause)

/-- PTP_MESSAGE: after a Sync on the port in mode 1, the count minus the PTP time in ticks (R392). -/
def execPtpMessage (port : Nat) (sync : Bool) (fabricAt ptpTicks : DWord) (s : State) : Res :=
  s.atHport port (if sync ∧ s.getBit Reg.HPORT.PTP.mode port then
    s.set Reg.HPORT.PTP_OFFSET.offset port (fabricAt - ptpTicks).toNat else s)

/-! ## Queue pairs -/

/-- Put a queue pair. -/
def State.setQp (s : State) (q : Nat) (k : Qp) : State := s.onHost (fun h => { h with qps := Map.put h.qps q k })

/-- Queue pairs in use: those in the error state have left. -/
def State.qpsHeld (s : State) : Map Qp := Map.keep (fun _ k => k.state != .error) s.host.qps

/-- Queue pairs that count against a tenant's quota (R377). -/
def State.qpsOf (s : State) (t : Nat) : Nat := (s.qpsHeld.filter (fun k => k.2.tenant == some t && !k.2.boot)).length

/-- The lowest queue pair not in use. -/
def State.freeQp (s : State) : Option Nat := (upTo 4096).find? (fun q => !(Map.has s.qpsHeld q))

/-- The line rate in Mbit/s (R371). -/
def lineRate : Nat := 400000

/-- A tenant's current key, and the tenant it names (R379). -/
def State.keyTenant (s : State) (key : Word) : Option Nat :=
  let t := field key.toNat 31 22
  if (s.tenant t).key = some key then some t else none

/-- Is it the device key? -/
def State.isDeviceKey (s : State) (key : Word) : Bool := s.host.deviceKey == some key

/-- Accept a queue pair: its REP is sent, and it waits for the RTU. -/
def State.acceptQp (s : State) (port : Nat) (tenant : Option Nat) (boot : Bool) (p : Nat) (bound : Bool) : State :=
  match s.freeQp with
  | none => s.emit (.cmRej port)
  | some q => (s.setQp q ⟨port, tenant, boot, p, bound, .connecting, lineRate, none, none, 0⟩).emit (.cmRep port q)

/-- Is the boot responder open (R429, R430)? -/
def State.responderOpen (s : State) : Bool := !s.pins.resetLow && (s.get Reg.BOOT.STATUS.state 0 != 0 || s.boot.bridgeFailed)

/-- A CM REQ with its 8 bytes of private data (R377, R430). -/
def State.cmReq (s : State) (port : Nat) (priv : DWord) : State :=
  let key := BitVec.ofNat 32 (field priv.toNat 63 32)
  let p := field priv.toNat 31 22
  let bound := bit priv.toNat 21
  if priv = 0 then
    if s.responderOpen ∧ !(s.qpsHeld.any (fun k => k.2.boot && k.2.port == port)) then s.acceptQp port none true 0 false
    else s.emit (.cmRej port)
  else if s.isDeviceKey key then
    if bound ∧ !(s.live p) then s.emit (.cmRej port) else s.acceptQp port none false p bound
  else
    match s.keyTenant key with
    | none => s.emit (.cmRej port)
    | some t =>
      if s.life p ≠ 0 ∧ s.owner p = t ∧ s.qpsOf t < s.get Reg.HOST.QPS.qp_quota t then s.acceptQp port (some t) false p bound
      else s.emit (.cmRej port)

/-- CM_REQ. -/
def execCmReq (port : Nat) (priv : DWord) (s : State) : Res := s.atHport port (s.cmReq port priv)

/-- CM_RTU: the connection stands. -/
def execCmRtu (qp : Nat) (s : State) : Res :=
  onQp qp (.next (match s.qp qp with
    | none => s
    | some k => if k.state = .connecting then s.setQp qp { k with state := .connected } else s))

/-- CM_DREQ: the queue pair is gone, and a DREP answers. -/
def execCmDreq (qp : Nat) (s : State) : Res :=
  onQp qp (.next (match s.qp qp with
    | none => s
    | some _ => (s.onHost (fun h => { h with qps := Map.del h.qps qp })).emit (.cmDrep qp)))

/-- Tenants whose rings a queue pair may carry: its own, or any for the device owner's. -/
def State.qpTenants (s : State) (k : Qp) : List Nat :=
  match k.tenant with
  | some t => [t]
  | none => Map.keys s.tenants

/-- A queue pair carries a tenant's rings no longer: cq_lost and CQ_LOST, or eq_lost (R390). -/
def State.ringsLost (s : State) (q t : Nat) : State :=
  let s1 := if s.get Reg.HOST.CQ_CFG.cq_log2 t ≠ 0 ∧ s.get Reg.HOST.CQ_CFG.cq_qp t = q ∧ !(s.getBit Reg.HOST.STATUS.cq_lost t) then
    (s.set Reg.HOST.STATUS.cq_lost t 1).raise 0x0200 t 1 0 else s
  if s1.get Reg.HOST.EQ_CFG.eq_log2 t ≠ 0 ∧ s1.get Reg.HOST.EQ_CFG.eq_qp t = q then s1.set Reg.HOST.STATUS.eq_lost t 1 else s1

/-- The streamers and the step ring of a partition on a queue pair that failed (R247, R248). -/
def State.streamsLost (s : State) (q p : Nat) : State :=
  let s1 := ((s.gen p).reqs.filter (fun r => rqStreamQp r.block == q)).foldl (fun t r => t.streamLost p r.id) s
  if s.get Reg.REQ.STEP_RING_CFG.step_qp p = q then s1.stepRingLost p else s1

/-- A queue pair enters the error state. -/
def State.qpFails (s : State) (q : Nat) : State :=
  match s.qp q with
  | none => s
  | some k =>
    if k.state = .error then s
    else
      let ts := s.qpTenants k
      let s1 := ts.foldl (fun u t => u.ringsLost q t) (s.setQp q { k with state := .error })
      (s.parts.filter (fun x => s.live x.1 && ts.contains (s.owner x.1))).foldl (fun u x => u.streamsLost q x.1) s1

/-- Every queue pair of a kind enters the error state. -/
def State.qpsFail (s : State) (f : Qp → Bool) : State := (s.host.qps.filter (fun k => f k.2)).foldl (fun t k => t.qpFails k.1) s

/-- QP_ERROR. -/
def execQpError (qp : Nat) (s : State) : Res := onQp qp (.next (s.qpFails qp))

/-- RNR_NAK: seven retries, then the error state (R382). -/
def execRnrNak (qp : Nat) (s : State) : Res :=
  onQp qp (.next (match s.qp qp with
    | none => s
    | some k =>
      if k.state ≠ .connected then s
      else if k.rnr < 7 then (s.setQp qp { k with rnr := k.rnr + 1 }).emit (.rnrRetry qp)
      else s.qpFails qp))

/-- CNP_RECEIVE: the send rate halves, at most once per 50 µs (R375). -/
def execCnpReceive (qp : Nat) (s : State) : Res :=
  onQp qp (.next (match s.qp qp with
    | none => s
    | some k =>
      if (match k.cutAt with
        | some t => decide (s.timer < t + usTicks 50)
        | none => false) then s
      else s.setQp qp { k with rate := k.rate / 2, cutAt := some s.timer }))

/-- RATE_RECOVERY: a throttled rate rises by rate_step_mbps, up to the line rate (R375). -/
def execRateRecovery (qp : Nat) (s : State) : Res :=
  onQp qp (.next (match s.qp qp with
    | none => s
    | some k => s.setQp qp { k with rate := min lineRate (k.rate + s.get Reg.HPORT.ECN.rate_step_mbps k.port) }))

/-! ## Ring restarts (R390, R394) -/

/-- A ring size as the page takes it (R394). -/
def ringLog (n : Nat) : Nat := if n = 0 then 0 else max 6 (min 20 n)

/-- A write of HOST.CQ_CFG: the completion ring restarts at index 0. -/
def State.cqWrite (s : State) (r : Requester) (t mask v : Nat) : State :=
  let s1 := s.writeReg r (regOff Reg.HOST.CQ_CFG.reg t) 0 mask v
  let s2 := (s1.set Reg.HOST.CQ_CFG.cq_log2 t (ringLog (s1.get Reg.HOST.CQ_CFG.cq_log2 t))).set Reg.HOST.STATUS.cq_lost t 0
  s2.setTenant t { s2.tenant t with cqIndex := 0 }

/-- CQ_RING_RESTART. -/
def execCqRingRestart (r : Requester) (tenant : Nat) (v : DWord) (s : State) : Res :=
  onTid tenant (.next (s.guard r (regOff Reg.HOST.CQ_CFG.reg tenant) (s.cqWrite r tenant (2 ^ 64 - 1) v.toNat)))

/-- A write of HOST.EQ_CFG: the event ring restarts at index 0, and lost events can be reported. -/
def State.eqWrite (s : State) (r : Requester) (t mask v : Nat) : State :=
  let s1 := s.writeReg r (regOff Reg.HOST.EQ_CFG.reg t) 0 mask v
  let s2 := (s1.set Reg.HOST.EQ_CFG.eq_log2 t (ringLog (s1.get Reg.HOST.EQ_CFG.eq_log2 t))).set Reg.HOST.STATUS.eq_lost t 0
  (s2.setTenant t { s2.tenant t with eqIndex := 0 }).reportLost t

/-- EQ_RING_RESTART. -/
def execEqRingRestart (r : Requester) (tenant : Nat) (v : DWord) (s : State) : Res :=
  onTid tenant (.next (s.guard r (regOff Reg.HOST.EQ_CFG.reg tenant) (s.eqWrite r tenant (2 ^ 64 - 1) v.toNat)))

/-- EVENTS_LOST: the count of lost events is reported once room has returned (R389). -/
def execEventsLost (tenant : Nat) (s : State) : Res := onTid tenant (.next (s.reportLost tenant))

end Sys2Proof.Machine
end

