-- ==== Sys2Proof/Machine/Power.lean ====
section
/-! DEFINITION. Power states (R446-R449), the governor and the thermal trip (R450-R452, R477, R478), rails, PMBus and the cold
reset (R494, R496, R498, R500). Commands PARK_REQUEST to THERMAL_SHUTDOWN, RAIL_FAULT, PMBUS_POLL, PMBUS_ALERT, COLD_RESET. -/
namespace Sys2Proof.Machine

/-! ## Partition power states -/

/-- PARTITION.STATE.power: 0 Active, 1 Idle, 2 Park. -/
def State.power (s : State) (p : Nat) : Nat := s.get Reg.PARTITION.STATE.power p

/-- Does the partition hold what refuses Park (R447): a running task, an open step, a queued or admitted request? -/
def State.parkBusy (s : State) (p : Nat) : Bool :=
  s.anyTask p || (s.red p).isOpen || s.stepsInFlight p || (s.gen p).reqs.any (fun r => r.status.isNone)

/-- What a power-gated core keeps: contexts saved in its slice, verdicts awaited, the chain counter, its sync unit. -/
def Core.gated (k : Core) : Core :=
  { k with file := RegFile.zero, spec := Special.zero, block := none, poison := [], rset := none, dset := none, chains := [] }

/-- A write to PARTITION.POWER.park (R446-R448). -/
def State.parkWrite (s : State) (p : Nat) (park : Bool) : State :=
  if !(s.live p) then s.set Reg.PARTITION.POWER.park p (ofBool park)
  else if !park then (s.set Reg.PARTITION.POWER.park p 0).wakeUp p
  else if s.parkBusy p then s.regFault (regOff Reg.PARTITION.POWER.reg p) stSchedBusy
  else
    (s.part p).sched.cores.foldl (fun t c => t.onCore c Core.gated)
      ((s.set Reg.PARTITION.POWER.park p 1).set Reg.PARTITION.STATE.power p 2)

/-- PARK_REQUEST. -/
def execParkRequest (r : Requester) (pid : Nat) (s : State) : Res :=
  onPid pid (.next (s.guard r (regOff Reg.PARTITION.POWER.reg pid) (s.parkWrite pid true)))

/-- WAKE_REQUEST. -/
def execWakeRequest (r : Requester) (pid : Nat) (s : State) : Res :=
  onPid pid (.next (s.guard r (regOff Reg.PARTITION.POWER.reg pid) (s.parkWrite pid false)))

/-- PARK_PLAN_WAKE: a Parked partition with a plan entry at most 25 µs away wakes (R448). -/
def State.planWake (s : State) (p : Nat) : State :=
  if s.live p ∧ s.power p = 2 ∧ !s.deep ∧ (s.part p).plan.any (fun e => decide (peTime e.bytes ≤ s.now + usTicks 25))
  then s.wakeUp p else s

/-- PARK_PLAN_WAKE. -/
def execParkPlanWake (pid : Nat) (s : State) : Res := onPid pid (.next (s.planWake pid))

/-- IDLE_ENTRY: no running task, no step in flight, no stamped descriptor (R446). -/
def State.goIdle (s : State) (p : Nat) : State :=
  if s.live p ∧ s.power p = 0 ∧ !(s.anyTask p) ∧ !(s.stepsInFlight p) ∧ !(s.red p).isOpen ∧ (s.part p).sched.stepHeads.isEmpty ∧
      (upTo 16).all (fun q => (s.queueHead p q).isNone)
  then s.set Reg.PARTITION.STATE.power p 1 else s

/-- IDLE_ENTRY. -/
def execIdleEntry (pid : Nat) (s : State) : Res := onPid pid (.next (s.goIdle pid))

/-! ## Deep (R447, R449) -/

/-- Does something refuse Deep: a partition not in Park, a saved context, a region with its home in T0? -/
def State.deepBusy (s : State) : Bool :=
  s.parts.any (fun k => (s.life k.1 != 0 && s.power k.1 != 2) || k.2.tiers.regions.any (fun r => spaceOf r.2.base == 0)) ||
  s.cores.any (fun k => !k.2.saved.isEmpty)

/-- ENTER_DEEP: compute dies off, fabric and far-memory ports dark. -/
def State.enterDeep (s : State) : State :=
  if s.deep then s
  else if s.deepBusy then s.regFault Reg.GOV.CMD.reg.reg stSchedBusy
  else
    let s1 := (s.set Reg.GOV.STATE.deep 0 2).deviceStatus 2 true
    let s2 := (upTo 36).foldl (fun t p => t.portDown p) s1
    { s2 with gov := { s2.gov with rise := none }, cores := Map.mapVal (fun _ k => k.gated) s2.cores }

/-- ENTER_DEEP. -/
def execEnterDeep (r : Requester) (s : State) : Res := .next (s.guard r Reg.GOV.CMD.reg.reg s.enterDeep)

/-- Is a physical address in T0 or a near store? -/
def volatileAddr (a : Nat) : Bool := decide (a < 2 ^ 52) || (decide (3 * 2 ^ 52 ≤ a) && decide (a < 4 * 2 ^ 52))

/-- T0 and the near stores read as zero. -/
def State.zeroVolatile (s : State) : State :=
  { s with mem := Map.keep (fun a _ => !(volatileAddr a)) s.mem, poison := Map.keep (fun w _ => !(volatileAddr (8 * w))) s.poison }

/-- Prefix handles, KV frames and setts are released (Table 22.3); a frame retired (R232) stays so. -/
def Part.released (k : Part) : Part :=
  { k with setts := [],
           gen := { k.gen with groups := Map.mapVal (fun _ g => { KvGroup.zero with retired := g.retired }) k.gen.groups,
                               tables := [], plan := [] } }

/-- EXIT_DEEP. -/
def State.exitDeep (s : State) : State :=
  if !s.deep then s
  else
    let s1 := ((s.set Reg.GOV.STATE.deep 0 0).deviceStatus 2 false).zeroVolatile
    { s1 with parts := Map.mapVal (fun _ k => k.released) s1.parts }

/-- EXIT_DEEP. -/
def execExitDeep (r : Requester) (s : State) : Res := .next (s.guard r Reg.GOV.CMD.reg.reg s.exitDeep)

/-! ## The governor -/

/-- v_min and v_max in force, in steps of 5 mV (R477, R494). -/
def State.vRange (s : State) : Nat × Nat :=
  (ceilDiv (max 620 (min 850 (s.get Reg.GOV.BOUNDS.v_min 0))) 5 * 5, max 620 (min 850 (s.get Reg.GOV.BOUNDS.v_max 0)) / 5 * 5)

/-- The lowest voltage that the critical-path monitors pass at a frequency, in steps of 5 mV (R450). -/
def vNeed (j : Nat) : Nat := ceilDiv (Config.criticalPath j) 5 * 5

/-- The set point for a frequency, inside the bounds. -/
def State.vFor (s : State) (j : Nat) : Nat := max s.vRange.1 (min s.vRange.2 (vNeed j))

/-- Is a read or write on PMB0 failing (R500)? -/
def State.pmbFailing (s : State) : Bool := s.getB Reg.GOV.RAIL.status_word 0 0 == 0xFFFF

/-- Send a set point, unless it is the one in force. -/
def State.setVcore (s : State) (mv : Nat) : State :=
  if s.get Reg.GOV.STATE.vcore_mv 0 = mv then s else (s.set Reg.GOV.STATE.vcore_mv 0 mv).emit (.voutCommand mv)

/-- The frequency changes (R451), counted. -/
def State.setFreq (s : State) (j : Nat) : State :=
  let s1 := { s with gov := { s.gov with rise := none, changed := some s.timer } }
  (s1.set Reg.GOV.STATE.j 0 j).bump Reg.GOV.CHANGES.changes 0 1

/-- The frequencies that the bounds allow: f_min, and the highest up to f_max whose voltage v_max allows. -/
def State.fRange (s : State) : Nat × Nat :=
  let lo := min 8 (s.get Reg.GOV.BOUNDS.f_min 0)
  let hi := min 8 (s.get Reg.GOV.BOUNDS.f_max 0)
  (lo, (((upTo (hi + 1)).filter (fun j => decide (lo ≤ j) && decide (vNeed j ≤ s.vRange.2))).getLast?).getD lo)

/-- Move toward frequency `j` (R451, R494): VCORE rises before the frequency and falls after it. -/
def State.moveFreq (s : State) (j : Nat) : State :=
  let cur := s.get Reg.GOV.STATE.j 0
  let v := s.vFor j
  let old := s.get Reg.GOV.STATE.vcore_mv 0
  let ready := match s.gov.changed with
    | none => true
    | some t => decide (t + usTicks 100 ≤ s.timer)
  if j = cur then
    if s.pmbFailing ∧ old < v then s else { s with gov := { s.gov with rise := none } }.setVcore v
  else if !ready then s
  else if j < cur then (s.setFreq j).setVcore v
  else if s.pmbFailing ∨ s.gov.rise.isSome then s
  else if v ≤ old then s.setFreq j
  else { s with gov := { s.gov with rise := some ⟨j, false, false⟩ } }.setVcore v

/-- Power, temperatures and energy as read. -/
def State.telemetry (s : State) (powerW : Nat) (temps : List Nat) : State :=
  let e := s.gov.energy + powerW * (s.timer - s.gov.energyAt)
  let s1 := { s with gov := { s.gov with energy := e, energyAt := s.timer } }
  let t := (temps ++ [0, 0, 0, 0, 0]).take 5
  (((s1.set Reg.GOV.ENERGY.mj 0 (e * 1000 / 2 ^ 30)).set Reg.GOV.STATE.power_w 0 powerW).set Reg.GOV.STATE.hottest 0
    (t.foldl max 0)).set Reg.GOV.DIE_TEMP.temps 0 (leNat (t.map (fun x => BitVec.ofNat 8 x)))

/-- A tick of the governor: telemetry, then, while the firmware runs, the bound that holds (R478) and the move toward the
frequency `j` that its loop asks for, inside the bounds. -/
def State.governor (s : State) (j powerW : Nat) (temps : List Nat) : State :=
  let s1 := s.telemetry powerW temps
  if s.deep ∨ s.get Reg.BOOT.STATUS.state 0 ≠ 4 ∨ s.gov.trip then s1
  else
    let r := s1.fRange
    (s1.set Reg.GOV.STATE.bound 0 (if j < r.1 then 1 else if r.2 < j then 2 else 0)).moveFreq (max r.1 (min r.2 j))

/-- GOVERNOR_TICK. -/
def execGovernorTick (j powerW : Nat) (temps : List Nat) (s : State) : Res := .next (s.governor j powerW temps)

/-- VCORE has settled, or 60 µs are over; once both have come the frequency rises (R494). -/
def State.vcoreSettled (s : State) (readMv : Nat) (timedOut : Bool) : State :=
  match s.gov.rise with
  | none => s
  | some x =>
    let v := s.get Reg.GOV.STATE.vcore_mv 0
    let y : Rise := { x with seen := x.seen || (decide (readMv ≤ v + 10) && decide (v ≤ readMv + 10)), timed := x.timed || timedOut }
    if y.seen ∧ y.timed ∧ !s.pmbFailing then s.setFreq y.j else { s with gov := { s.gov with rise := some y } }

/-- VCORE_SETTLED. -/
def execVcoreSettled (readMv : Nat) (timedOut : Bool) (s : State) : Res := .next (s.vcoreSettled readMv timedOut)

/-! ## The thermal trip -/

/-- A sensor of die 0 to 4 reads `temp`. -/
def State.dieTemp (s : State) (die temp : Nat) : State :=
  (s.set Reg.GOV.STATE.hottest 0 (max (s.get Reg.GOV.STATE.hottest 0) temp)).set
    ⟨Reg.GOV.DIE_TEMP.reg.reg, 8 * (die % 5) + 7, 8 * (die % 5)⟩ 0 temp

/-- THERMAL_TRIP: 0.55 GHz, whatever f_min holds (R452). -/
def State.thermalTrip (s : State) (die temp : Nat) : State :=
  if s.gov.trip ∨ temp < 105 then s
  else
    let s1 := s.dieTemp die temp
    let s2 := if s1.get Reg.GOV.STATE.j 0 = 0 then { s1 with gov := { s1.gov with rise := none } } else s1.setFreq 0
    (({ s2 with gov := { s2.gov with trip := true } }.set Reg.GOV.STATE.bound 0 3).bump Reg.GOV.TRIPS.trips 0 1).raise 0x0080 0 0
      (temp % 256 * 2 ^ 16 + die % 5)

/-- THERMAL_TRIP. -/
def execThermalTrip (die temp : Nat) (s : State) : Res := .next (s.thermalTrip die temp)

/-- THERMAL_TRIP_RELEASE: every sensor has read 95 °C or below for 10 ms. -/
def State.tripRelease (s : State) : State :=
  if s.gov.trip ∧ (upTo 5).all (fun i => decide (field (s.get Reg.GOV.DIE_TEMP.temps 0) (8 * i + 7) (8 * i) ≤ 95))
  then { s with gov := { s.gov with trip := false } }.set Reg.GOV.STATE.bound 0 0 else s

/-- THERMAL_TRIP_RELEASE. -/
def execThermalTripRelease (s : State) : Res := .next s.tripRelease

/-- THERMAL_SHUTDOWN: DEVICE_FAULT, FAULT heartbeats, THERMTRIP_N low (R452, R498). -/
def State.thermalShutdown (s : State) : State :=
  if s.pins.thermtripLow then s
  else
    let s1 := ({ s with pins := { s.pins with thermtripLow := true } }.raise 0 0 0 2).deviceStatus 1 true
    s1.onBoot (fun b => { b with stopped := true })

/-- THERMAL_SHUTDOWN. -/
def execThermalShutdown (s : State) : Res := .next s.thermalShutdown

/-! ## Rails -/

/-- The device in cold reset again (R453): the fuses, what it has sent and the commands that wait are kept. -/
def State.coldReset (s : State) : State :=
  { State.reset with fuses := s.fuses, out := s.out, free := s.free, pending := s.pending }

/-- COLD_RESET. -/
def execColdReset (s : State) : Res := .next s.coldReset

/-- RAIL_FAULT: the carrier drives RESET_N low and removes the rails, a cold reset (R496). -/
def execRailFault (rail : Nat) (s : State) : Res := .next (if rail < 7 then s.coldReset else s)

/-- PMBUS_POLL: the readings of a rail; after a second failure the old ones stand and status_word reads 0xFFFF (R500). -/
def State.pmbusPoll (s : State) (rail mv ma stageC statusWord : Nat) (ok : Bool) : State :=
  if 7 ≤ rail then s
  else if !ok then s.setB Reg.GOV.RAIL.status_word 0 rail 0xFFFF
  else (((s.setB Reg.GOV.RAIL.mv 0 rail mv).setB Reg.GOV.RAIL.ma 0 rail ma).setB Reg.GOV.RAIL.stage_c 0 rail stageC).setB
    Reg.GOV.RAIL.status_word 0 rail statusWord

/-- PMBUS_POLL. -/
def execPmbusPoll (rail mv ma stageC statusWord : Nat) (ok : Bool) (s : State) : Res :=
  .next (s.pmbusPoll rail mv ma stageC statusWord ok)

/-- The segment of a rail (R500). -/
def railSegment (rail : Nat) : Nat := if rail = 0 then 0 else if rail < 4 then 1 else 2

/-- PMBUS_ALERT: STATUS_WORD of a rail on the segment is read at once. -/
def execPmbusAlert (segment rail statusWord : Nat) (s : State) : Res :=
  .next (if rail < 7 ∧ railSegment rail = segment then s.setB Reg.GOV.RAIL.status_word 0 rail statusWord else s)

end Sys2Proof.Machine
end

