-- ==== Sys2Proof/Machine/Reset.lean ====
section
/-! DEFINITION. Partition commands (R347, R475), resets (R453-R457) and GO (R431, R435). Commands BOOT_GO, WARM_RESET, CREATE to
KEY_ROLL, PARTITION_RESET_DONE. -/
namespace Sys2Proof.Machine

/-! ## Registers after a reset (R18, R453) -/

/-- A register's value after a warm reset. -/
def warmValue (off v : Nat) : Nat :=
  (rowsAt off).foldl (fun acc r => match r.warm with
    | none => acc
    | some w => setField acc r.hi r.lo w) v

/-- The registers of the pages that `f` picks, by class and instance, take their After warm values. -/
def State.warmRegs (s : State) (f : Nat → Nat → Bool) : State :=
  { s with regs := Map.mapVal (fun k v =>
      let off := k % 2 ^ 32
      if f (classOf off) (instOf off) then warmValue off v else v) s.regs }

/-- LOCK of the pages that `f` picks is cleared. -/
def State.unlock (s : State) (f : Nat → Nat → Bool) : State :=
  { s with regs := Map.mapVal (fun k v =>
      let off := k % 2 ^ 32
      if f (classOf off) (instOf off) ∧ pageOff off = 0x40 then setBit v 0 false else v) s.regs }

/-- The pages of partition `p`. -/
def partPages (p cls i : Nat) : Bool := decide (0x280 ≤ cls) && i == p

/-- The pages of tenant `t`. -/
def tenantPages (t cls i : Nat) : Bool := (cls == 0x200 || cls == 0x240) && i == t

/-! ## A partition reset, steps 1 to 6 (R454) -/

/-- Step 3: CANCELLED for every request; their ENDs are pending (R253), those of an abandoned step too. In a warm reset no
streamer is written. -/
def State.cancelAll (s : State) (p : Nat) (warm : Bool) : State :=
  let again := (s.gen p).reqs.filterMap (fun r =>
    match r.status, r.step with
    | some st, some _ => some (⟨r.slot, st, r.pennant, r.len, none⟩ : PendEnd)
    | _, _ => none)
  let s1 := s.onGen p (fun g => { g with reqs := g.reqs.map (fun r => { r with step := none, lost := r.lost || warm }),
                                         ends := g.ends ++ again })
  let s2 := ((s.gen p).reqs).foldl (fun t r => t.endReq p r.id stCancelled) s1
  s2.onGen p (fun g => { g with reqs := [], steps := [], hold := none, filled := false, expWait := false, stepWait := false,
                                plan := [], follow := none })

/-- Completion entries that the tasks of a core have reserved. -/
def Core.reserved (k : Core) : Nat :=
  ((k.task.toList ++ k.saved.map (fun v => v.task)).filter (fun t => dDoneCq t.desc)).length

/-- Step 4 on a core: its task and saved contexts are gone, its registers lost. In a warm reset the task ends under steps 1 and
2 of R355; else nothing of it completes. -/
def State.dropTasks (s : State) (p c : Nat) (warm : Bool) : State :=
  let s1 := if warm ∧ (s.core c).task.isSome then
    let t := s.drainCore p c
    t.releaseSems p c (t.core c).sync.sems else s
  let t := s.owner p
  (s1.onCore c (fun k => { k.clearTask.gated with sync := SyncUnit.zero, saved := [] })).setTenant t
    { s1.tenant t with cqReserved := (s1.tenant t).cqReserved - (s.core c).reserved }

/-- Semaphores take their initial values. -/
def State.semsInit (s : State) (p : Nat) : State :=
  (upTo 64).foldl (fun t n => t.setB Reg.SCHED.SEM.count p n (t.getB Reg.SCHED.SEM.init p n)) s

/-- Step 6: the engines abandon the open step, collectives and experience operations; a checkpoint being written ends, for a
cause the spec does not name; a restore ends. -/
def State.abandonEngines (s : State) (p : Nat) : State :=
  let x := s.drawFree
  let s1 := if (s.ckpt p).job.isSome then x.2.jobFails p ((Config.freeWord x.1).toNat % 16) else s
  let s2 := s1.onPart p (fun k => { k with
    red := { Red.zero with step := k.red.step }, upd := Upd.zero, checks := Checks.zero,
    bulk := { k.bulk with colls := [], pool := [], owed := [], exps := [] }, ckpt := { k.ckpt with restore := none } })
  s2.onFab (fun f => { f with ops := f.ops.filter (fun o => o.pid != p), formed := f.formed.filter (fun o => o.pid != p) })

/-- What of the scheduling side ends with the tasks. -/
def Sched.stopped (d : Sched) : Sched :=
  { d with barriers := [], barPassed := [], flights := [], stepHeads := [], cqWait := false }

/-- Steps 1 to 6: the reset of a scope begins; a DESTROY's life is DESTROYING. -/
def State.resetStart (s : State) (p scope : Nat) (byDevice : Bool) : State :=
  let warm := scope == 3
  let s1 := (s.wakeUp p).set Reg.PARTITION.STATE.life p (if scope = 4 then 4 else 3)
  let s2 := (s1.onSched p (fun d => { d with resetting := some ⟨scope, byDevice⟩ })).cancelAll p warm
  let d := (s.part p).sched
  let s3 := (d.cores ++ d.spares).foldl (fun t c => t.dropTasks p c warm) s2
  let s4 := (if warm then s3 else s3.semsInit p).onSched p Sched.stopped
  (s4.onTiers p (fun t => { t with lists := [] })).abandonEngines p

/-! ## A partition reset, steps 7 and 8 -/

/-- Publication (step 7): pending records are discarded, and but for a warm reset FILLING buffers become EMPTY. -/
def State.dropFills (s : State) (p : Nat) (warm : Bool) : State :=
  (Map.keys (s.part p).pub.slots).foldl (fun t n =>
    let t1 := (t.onWslot p n (fun w => { w with pending := none })).setB Reg.PUB.PENDING.pending p n 0
    if warm then t1
    else
      ([0, 1].foldl (fun u b => if u.bufState p n b = 1 then u.setBuf p n b 0 0 else u) t1).onWslot p n
        (fun w => { w with fill := none })) s

/-- A new tenant key (R379): the tenant, and 22 bits chosen at random. -/
def State.newKey (s : State) (t : Nat) : State :=
  let x := s.drawFree
  x.2.setTenant t { x.2.tenant t with key := some (BitVec.ofNat 32 (t * 2 ^ 22 + (Config.freeWord x.1).toNat % 2 ^ 22)) }

/-- What ends a tenant reset (R455): queue pairs, key, M7, rings. -/
def State.tenantDone (s : State) (t p : Nat) (byDevice : Bool) : State :=
  let s1 := ((s.qpsFail (fun k => k.tenant == some t)).newKey t).extendMeas (measTenant t) (Config.measData 4 p)
  let s2 := s1.warmRegs (tenantPages t)
  let s3 := if byDevice then s2.unlock (tenantPages t) else s2
  s3.setTenant t { s3.tenant t with cqIndex := 0, cqReserved := 0, eqIndex := 0, eqUnreported := 0 }

/-- DESTROY ends: cores, slices and allotments return to the device (R475). -/
def State.destroyed (s : State) (p : Nat) : State :=
  let t := s.owner p
  let s1 := (s.setPart p Part.zero).onFab (fun f => { f with groups := Map.keep (fun _ g => g.pid != p) f.groups })
  let s2 := (((s1.set Reg.PARTITION.STATE.life p 0).set Reg.PARTITION.T1_BASE.t1_base p 0).set Reg.PARTITION.T2_BASE.t2_base p 0).set
    Reg.PARTITION.SPARES.spares p 0
  (s2.extendMeas 5 (Config.measData 2 p)).extendMeas (measTenant t) (Config.measData 2 p)

/-- Steps 3 and 4 of a warm reset (R457), once every partition has quiesced: queue pairs in error, ports DOWN, After warm values,
HOLDOVER, and the verification of the retained image. The ROM trains the host ports again. -/
def State.warmContinue (s : State) : State :=
  let s1 := (upTo 38).foldl (fun t p => t.portDown p) (s.qpsFail (fun _ => true))
  let s2 := (s1.setTimeState 3).noSource
  let s3 := ((s2.warmRegs (fun _ _ => true)).set Reg.TIME.STATUS.state 0 3).noSource
  let s4 := (upTo 4).foldl (fun u p => (u.set Reg.HPORT.STATUS.state p 2).set Reg.HPORT.STATUS.lanes_up p 3) s3
  let s5 := s4.onBoot (fun b => { b with meas := [], dik := some s.identityKey, ak := none, latched := [] })
  let s6 := ((s5.setMeas 0 Config.romDigest).setMeas 3 (shake256 (fuseWords s.fuses) 64)).extendMeas 4 (Config.measData 0 0)
  let s7 := { s6 with
    tenants := Map.mapVal (fun _ k => { k with cqIndex := 0, cqReserved := 0, eqIndex := 0, eqUnreported := 0 }) s6.tenants
    host := { s6.host with paused := [], xoff := [], producers := [] }
    time := TimeUnit.zero
    gov := { s6.gov with rise := none }
    bench := ⟨[]⟩ }
  let s8 := (s7.onFab (fun f => { f with ops := [], held := [], formed := [], results := [] })).deviceStatus 0 false
  s8.beginVerify s.boot.image true

/-- Does a partition still wait in a reset? -/
def State.anyResetting (s : State) (f : Nat → ResetJob → Bool) : Bool :=
  s.parts.any (fun k => match k.2.sched.resetting with
    | none => false
    | some j => f k.1 j)

/-- Steps 7 and 8, and what then ends with the last partition (R454, R455, R457). -/
def State.resetDone (s : State) (p : Nat) : State :=
  match (s.part p).sched.resetting with
  | none => s
  | some j =>
    let t := s.owner p
    let warm := j.scope == 3
    let clear := j.scope == 4 || (j.byDevice && !warm)
    let s1 := ((s.emptySetts p).onPart p (fun k => { k.released with plan := [] })).dropFills p warm
    let s2 := (s1.warmRegs (partPages p)).setB Reg.HOST.CMD_HEAD.head t p 0
    let s3 := (if clear then s2.unlock (partPages p) else s2).onHost (fun h => { h with producers := Map.del h.producers p })
    let s4 := (s3.onSched p (fun d => { d with resetting := none })).set Reg.PARTITION.STATE.last_status p stComplete
    let s5 := (if (s4.part p).sched.retiring.isEmpty then s4 else s4.setSchedState p 1).raise 0x0280 p 0
      (if j.scope = 4 then 1 else j.scope)
    let s6 := if j.scope = 4 then s5.destroyed p else s5.set Reg.PARTITION.STATE.life p 2
    let s7 := if j.scope = 2 ∧ !(s6.anyResetting (fun q x => x.scope == 2 && s6.owner q == t)) then s6.tenantDone t p j.byDevice
      else s6
    if s7.boot.warm ∧ s7.bootState = 0 ∧ !(s7.anyResetting (fun _ _ => true)) then s7.warmContinue else s7

/-- PARTITION_RESET_DONE. -/
def execPartitionResetDone (pid : Nat) (s : State) : Res := onPid pid (.next (s.resetDone pid))

/-! ## WARM_RESET (R457) and GO (R431, R435) -/

/-- A warm reset begins while the firmware runs: every LIVE partition is reset; it goes on once none waits. One in progress is
not begun again. -/
def State.warmReset (s : State) (len : Nat) : State :=
  if s.bootState ≠ 4 then s
  else
    let s1 := (s.exitDeep.onBoot (fun b => { b with warm := true, image := len })).setBootState 0
    let s2 := (s.parts.filter (fun k => s.live k.1)).foldl (fun t k => t.resetStart k.1 3 false) s1
    if s2.anyResetting (fun _ _ => true) then s2 else s2.warmContinue

/-- WARM_RESET: a write of 1 to DEVICE.CMD, or the firmware. -/
def execWarmReset (r : Requester) (s : State) : Res := .next (s.guard r Reg.DEVICE.CMD.reg.reg (s.warmReset s.boot.image))

/-- The boot responder's queue pair on a port. -/
def State.bootQp (s : State) (port : Nat) : Option Nat :=
  (s.host.qps.find? (fun k => k.2.boot && k.2.port == port && k.2.state == .connected)).map Prod.fst

/-- A request is turned away with a NAK, which moves its queue pair to the error state (R378). -/
def State.nakAccess (s : State) (q : Nat) : State := (s.emit (.nak q .access)).qpFails q

/-- A GO is refused. -/
def State.goRefused (s : State) (port : Nat) : State :=
  match s.bootQp port with
  | none => s
  | some q => s.nakAccess q

/-- A GO that ends at once (R55, R486). -/
def State.goFails (s : State) (result : Nat) : State :=
  (s.set Reg.BOOT.STATUS.result 0 result).bump Reg.BOOT.FAILS.fails 0 1

/-- A write to BOOT.GO on a port's boot queue pair. -/
def State.bootGo (s : State) (port len : Nat) : State :=
  let s1 := s.set Reg.BOOT.STATUS.go_port 0 port
  if s.bootQp port = none then s
  else if s.boot.bridgeFailed then s1.goFails 9
  else if s.bootState = 1 then
    if s.get Reg.DEVICE.T1.t1_bytes 0 = 0 then s1.goFails 8 else s1.beginVerify len s.boot.warm
  else if s.bootState = 4 ∧ s.fwStalled then s1.warmReset len
  else s.goRefused port

/-- BOOT_GO. -/
def execBootGo (port len : Nat) (s : State) : Res := s.atHport port (s.bootGo port len)

/-! ## Partition commands (R475) -/

/-- May the requester give the command? CREATE and DESTROY are the device key's. -/
def mayCommand (r : Requester) (tenantToo : Bool) : Bool :=
  match r with
  | .deviceKey => true
  | .firmware => true
  | .tenantKey _ => tenantToo
  | .coreCode _ => false

/-- Did the device key request it? -/
def byOwner (r : Requester) : Bool := r == .deviceKey

/-- A partition command: it is dropped where the page does not answer, the requester may not give it, or the partition's life
is not the one it needs and it is not merged into a reset that runs. -/
def State.partCommand (s : State) (r : Requester) (p : Nat) (tenantToo : Bool) (life : Nat) (merges : ResetJob → Bool)
    (run : State) : State :=
  let off := regOff Reg.PARTITION.CMD.reg p
  if !(s.reach r off) then s
  else if !(mayCommand r tenantToo) then s.regFault off stLockViolation
  else if s.life p = life then run
  else
    match (s.part p).sched.resetting with
    | none => s.regFault off stSchedBusy
    | some j =>
      if merges j then s.onSched p (fun d => { d with resetting := some { j with byDevice := j.byDevice || byOwner r } })
      else s.regFault off stSchedBusy

/-- The cores or slices of a set of 16 registers. -/
def State.setOf (s : State) (f : Fld) (p : Nat) : List Nat :=
  (upTo 1024).filter (fun c => (s.get ⟨f.reg + 8 * (c / 64), 63, 0⟩ p).testBit (c % 64))

/-- The ranges of a tier that allotments or the device itself hold: first byte and end, as offsets. -/
def State.heldRanges (s : State) (tier : Nat) : List (Nat × Nat) :=
  let parts := (s.parts.filter (fun k => s.life k.1 != 0)).map (fun k =>
    let r := s.allotRange k.1 tier
    (r.1 % 2 ^ 52, r.2 % 2 ^ 52))
  if tier = 1 then
    let b := s.get Reg.TWIN_LINK.STORE_BASE.store_base 0 % 2 ^ 52
    let n := 2 * s.get Reg.TWIN_LINK.STORE_CFG.channels 0 * s.get Reg.TWIN_LINK.STORE_CFG.slot_len 0
    parts ++ [(b, b + n), (stagingBase % 2 ^ 52, stagingBase % 2 ^ 52 + stagingBytes),
      (Config.firmwareArea.1, Config.firmwareArea.1 + Config.firmwareArea.2)]
  else parts

/-- The lowest offset, aligned to 1 MiB, of a clear range of `n` bytes below `size` (R347): 0, or the end of a range held. -/
def lowestClear (held : List (Nat × Nat)) (size n : Nat) : Option Nat :=
  let starts := sortBy (fun a b => decide (a ≤ b)) (0 :: held.map (fun r => ceilDiv r.2 (2 ^ 20) * 2 ^ 20))
  starts.find? (fun a => decide (a + n ≤ size) && held.all (fun r => decide (r.2 ≤ a) || decide (a + n ≤ r.1) || decide (r.2 ≤ r.1)))

/-- Where an allotment goes: 0 for none; no place where none is clear. -/
def State.placeAllot (s : State) (tier mib : Nat) : Option Nat :=
  if mib = 0 then some 0
  else
    let size := if tier = 1 then s.get Reg.DEVICE.T1.t1_bytes 0 else s.get Reg.DEVICE.T2_ATTACHED.t2_attached 0
    (lowestClear (s.heldRanges tier) size (mib * 2 ^ 20)).map (fun a => tier * 2 ^ 52 + a)

/-- Is a core active: by its fuse, and not retired? -/
def State.usable (s : State) (c : Nat) : Bool := s.active c && !(s.retired c)

/-- Is a field of PARTITION.CFG or ALLOT out of range, or a set not one that may be given (Table 23.7)? -/
def State.createInvalid (s : State) (p : Nat) (cores slices : List Nat) : Bool :=
  let k := s.get Reg.PARTITION.CFG.exp_log2 p
  let l := s.get Reg.PARTITION.CFG.lcores p
  let role := s.role p
  decide (2 < role) || decide (l < 1) || decide (1024 < l) || decide (cores.length < l) ||
  (if role = 1 then k != 0 else decide (k < 16) || decide (28 < k) ||
    decide (s.get Reg.PARTITION.ALLOT.t1_mib p * 2 ^ 20 < (64 + 16 * 2 ^ k + 2047) / 2048 * 2048)) ||
  cores.any (fun c => !(s.usable c)) || slices.any (fun c => s.active c)

/-- The ring header of a new partition is zero except size_log2 and reader_count (R45). -/
def State.newExpRing (s : State) (p base : Nat) : State :=
  if s.role p = 1 then s
  else ((s.writeBytes base (leBytes 64 0)).writeN (base + 0x10) 1 (s.get Reg.PARTITION.CFG.exp_log2 p)).writeN (base + 0x11) 1 1

/-- Build the partition (R347). -/
def State.buildPart (s : State) (p t1 t2 : Nat) (cores slices : List Nat) : State :=
  let l := s.get Reg.PARTITION.CFG.lcores p
  let t := s.owner p
  let x := s.drawFree
  let s1 := x.2.setPart p { Part.zero with sched := { Sched.zero with cores := cores.take l, spares := cores.drop l, slices := slices } }
  let s2 := ((s1.set Reg.PARTITION.T1_BASE.t1_base p t1).set Reg.PARTITION.T2_BASE.t2_base p t2).set Reg.PARTITION.SPARES.spares p
    (cores.drop l).length
  let s3 := (s2.set Reg.TIER.T1_USE.allot_mib p (s.get Reg.PARTITION.ALLOT.t1_mib p)).set Reg.KV.FORMAT.stripes p
    (Config.freeWord x.1).toNat
  let s4 := (upTo 16).foldl (fun u n =>
    let f : Fld := ⟨Reg.PARTITION.RETIRED.reg.reg + 8 * n, 63, 0⟩
    u.set f p (u.get f p &&& u.get ⟨Reg.DEVICE.RETIRED.reg.reg + 8 * n, 63, 0⟩ 0)) s3
  let s5 := (s4.newExpRing p t1).semsInit p
  let s6 := if (s5.tenant t).key.isNone then s5.newKey t else s5
  let s7 := (s6.extendMeas 5 (Config.measData 1 p)).extendMeas (measTenant t) (Config.measData 1 p)
  cores.foldl (fun u c => u.setCore c Core.idle)
    ((s7.set Reg.PARTITION.STATE.life p 2).set Reg.PARTITION.STATE.last_status p stComplete)

/-- CREATE: the checks of Table 23.7, then the partition. -/
def State.createPart (s : State) (p : Nat) : State :=
  let cores := s.setOf Reg.PARTITION.CORE_SET.reg p
  let slices := s.setOf Reg.PARTITION.SLICE_SET.reg p
  let refuse := fun (code : Nat) => s.set Reg.PARTITION.STATE.last_status p code
  if s.createInvalid p cores slices then refuse stCommandInvalid
  else if (cores ++ slices).any (fun c => (s.sliceOwner c).isSome) then refuse codeViolation
  else
    match s.placeAllot 1 (s.get Reg.PARTITION.ALLOT.t1_mib p), s.placeAllot 2 (s.get Reg.PARTITION.ALLOT.t2_mib p) with
    | some a, some b => s.buildPart p a b cores slices
    | _, _ => refuse codeViolation

/-- A tenant reset (R455): every partition of the tenant at once; one already in a partition reset goes on as part of it. -/
def State.tenantReset (s : State) (p : Nat) (byDevice : Bool) : State :=
  let t := s.owner p
  (s.parts.filter (fun k => s.owner k.1 == t)).foldl (fun u k =>
    if u.life k.1 = 2 then u.resetStart k.1 2 byDevice
    else u.onSched k.1 (fun d => { d with resetting := d.resetting.map (fun j =>
      if j.scope = 1 then ⟨2, j.byDevice || byDevice⟩ else j) })) s

/-- KEY_ROLL (R379). -/
def State.keyRoll (s : State) (p : Nat) : State :=
  ((s.newKey (s.owner p)).extendMeas (measTenant (s.owner p)) (Config.measData 5 p)).set Reg.PARTITION.STATE.last_status p stComplete

/-- A write of PARTITION.CMD (Table 23.7); another value is ignored. -/
def State.partCmd (s : State) (r : Requester) (p cmd : Nat) : State :=
  match cmd with
  | 1 => s.partCommand r p false 0 (fun _ => false) (s.createPart p)
  | 2 => s.partCommand r p false 2 (fun _ => false) (s.resetStart p 4 true)
  | 3 => s.partCommand r p true 2 (fun j => j.scope != 4) (s.resetStart p 1 (byOwner r))
  | 4 => s.partCommand r p true 2 (fun j => j.scope == 2 || j.scope == 3) (s.tenantReset p (byOwner r))
  | 5 => s.partCommand r p true 2 (fun _ => false) (s.keyRoll p)
  | _ => s

/-- CREATE. -/
def execCreate (r : Requester) (pid : Nat) (s : State) : Res := onPid pid (.next (s.partCmd r pid 1))

/-- DESTROY. -/
def execDestroy (r : Requester) (pid : Nat) (s : State) : Res := onPid pid (.next (s.partCmd r pid 2))

/-- RESET: merged into any reset that covers the partition. -/
def execReset (r : Requester) (pid : Nat) (s : State) : Res := onPid pid (.next (s.partCmd r pid 3))

/-- TENANT_RESET. -/
def execTenantReset (r : Requester) (pid : Nat) (s : State) : Res := onPid pid (.next (s.partCmd r pid 4))

/-- KEY_ROLL. -/
def execKeyRoll (r : Requester) (pid : Nat) (s : State) : Res := onPid pid (.next (s.partCmd r pid 5))

end Sys2Proof.Machine
end

