-- ==== Sys2Proof/Machine/Rings.lean ====
section
/-! DEFINITION. Command rings in space 1 (R383-R385, R387): an entry and its command, the take in ring order. -/
namespace Sys2Proof.Machine

/-- k of a partition's command ring, held within 4 to 16 (R394). -/
def State.cmdLog (s : State) (p : Nat) : Nat := max 4 (min 16 (s.getB Reg.HOST.CMD_CFG.cmd_log2 (s.owner p) p))

/-- Is the ring read? -/
def State.cmdEnabled (s : State) (p : Nat) : Bool := s.getB Reg.HOST.CMD_CFG.enable (s.owner p) p == 1

/-- Is the ring SEND-fed (R384)? -/
def State.cmdSendFed (s : State) (p : Nat) : Bool := s.getB Reg.HOST.CMD_CFG.feed (s.owner p) p == 1

/-- Entries taken. -/
def State.cmdHead (s : State) (p : Nat) : Nat := s.getB Reg.HOST.CMD_HEAD.head (s.owner p) p

/-- Entries that a SEND-fed ring has been given. -/
def State.cmdProducer (s : State) (p : Nat) : Nat := Map.getD s.host.producers p 0

/-- The address of entry `i`. -/
def State.cmdAddr (s : State) (p i : Nat) : Nat :=
  s.getB Reg.HOST.CMD_ADDR.cmd_addr (s.owner p) p / 128 * 128 + 128 * (i % 2 ^ s.cmdLog p)

/-- Does the ring lie within the partition's T1 allotment (R383)? -/
def State.cmdRingOk (s : State) (p : Nat) : Bool :=
  let a := s.cmdAddr p 0
  let n := 128 * 2 ^ s.cmdLog p
  t1Ok a n && decide ((s.allotRange p 1).1 ≤ a) && decide (a + n ≤ (s.allotRange p 1).2)

/-- The entry at the head, if the ring holds one: stamped, or below the producer index (R383, R384). -/
def State.cmdEntry (s : State) (p : Nat) : Option (List Byte) :=
  let i := s.cmdHead p
  let a := s.cmdAddr p i
  if !(s.cmdEnabled p) ∨ !(s.cmdRingOk p) then none
  else
    let e := s.readBytes a 128
    if s.cmdSendFed p then (if i < s.cmdProducer p then some e else none)
    else if descField e 120 8 % 2 = phaseBit (s.cmdLog p) i then some e else none

/-- Are bytes [a, 112) of the body zero? -/
def bodyZero (e : List Byte) (a : Nat) : Bool := (e.take 112).drop a |>.all (fun b => b == 0)

/-- Are the reserved bits outside the body zero? The phase word of a SEND-fed entry is ignored. -/
def entryZero (e : List Byte) (sendFed : Bool) : Bool :=
  descField e 8 3 == 0 && descField e 12 4 == 0 && descField e 112 8 == 0 && (sendFed || descField e 120 8 / 2 == 0)

/-- Are the reserved bits of the body zero, and the opcode known (Table 18.3)? -/
def bodyOk (e : List Byte) : Bool :=
  match descField e 11 1 with
  | 0x01 => true
  | 0x02 => bodyZero e 24
  | 0x03 => bodyZero e 48
  | 0x04 => bodyZero e 32 && descField e 24 4 / 2 ^ 18 == 0 && descField e 28 4 / 2 ^ 14 == 0
  | 0x05 => bodyZero e 20 && descField e 16 4 / 2 ^ 14 == 0
  | 0x06 => bodyZero e 16
  | _ => false

/-- What the command of an entry does, and the status it completes with. -/
def State.runEntry (s : State) (p : Nat) (e : List Byte) : State × Nat :=
  let w := descField e 28 4
  match descField e 11 1 with
  | 0x01 => s.takeRequest p ((e.drop 16).take 96)
  | 0x02 => s.takeCancel p (descField e 16 8)
  | 0x03 => s.takePlan p ((e.drop 16).take 32)
  | 0x04 => s.takePrefixCreate p (descField e 16 8) (descField e 24 4) (field w 13 8) (field w 7 0)
  | 0x05 => s.takePrefixRelease p (field (descField e 16 4) 13 8) (field (descField e 16 4) 7 0)
  | _ => (s, stComplete)

/-- Does the command belong to generators? -/
def entryGen (e : List Byte) : Bool :=
  let o := descField e 11 1
  o == 0x01 || o == 0x02 || o == 0x04 || o == 0x05

/-- Take entry `e` of the head: COMMAND_INVALID for one that breaks Table 18.2 or 18.3. -/
def State.takeEntry (s : State) (p : Nat) (e : List Byte) : State :=
  let ok := entryZero e (s.cmdSendFed p) && bodyOk e
  s.takeCommand p (BitVec.ofNat 64 (descField e 0 8)) (descField e 11 1) (ok && entryGen e)
    (fun t => if ok then t.runEntry p e else (t, stCommandInvalid))

/-- Take entries in ring order until the ring is empty or a head waits; at most `fuel` of them. -/
def State.takeRing (s : State) (p : Nat) : Nat → State
  | 0 => s
  | fuel + 1 =>
    match s.cmdEntry p with
    | none => s
    | some e =>
      let t := s.takeEntry p e
      if !(s.live p) ∨ s.boot.stopped ∨ !(s.cqRoom (s.owner p)) then t
      else (t.setB Reg.HOST.CMD_HEAD.head (s.owner p) p (s.cmdHead p + 1)).takeRing p fuel

/-- Take what a ring holds. -/
def State.takeAll (s : State) (p : Nat) : State := s.takeRing p (2 ^ s.cmdLog p)

/-- The heads that wait on a tenant's completion ring are looked at again (R385). -/
def State.retake (s : State) (t : Nat) : State :=
  (s.parts.filter (fun k => k.2.sched.cqWait && s.owner k.1 == t)).foldl (fun u k => u.takeAll k.1) s

/-- Bytes have landed at physical T1 addresses [a, a + n): the stamp-fed rings they touch are read (R385). -/
def State.stampsLand (s : State) (a n : Nat) : State :=
  (s.parts.filter (fun k => s.live k.1 && s.cmdEnabled k.1 && !(s.cmdSendFed k.1))).foldl (fun u k =>
    let b := s.getB Reg.HOST.CMD_ADDR.cmd_addr (s.owner k.1) k.1
    if a < b + 128 * 2 ^ s.cmdLog k.1 ∧ b < a + n then u.takeAll k.1 else u) s

end Sys2Proof.Machine
end

