-- ==== Sys2Proof/Machine/Test.lean ====
section
/-! DEFINITION. Loop-backs and self-tests (R479-R487) and the test access port (R488). Commands T0_SELF_TEST to HIGHZ. -/
namespace Sys2Proof.Machine

/-! ## Port loops (R480-R483) -/

/-- The LOOP register of an optical or a host port: its depth, state and cause. -/
def loopReg (host : Bool) : Fld := if host then Reg.HPORT.LOOP.reg else Reg.PORT.LOOP.reg
/-- Depth. -/
def loopDepth (host : Bool) : Fld := if host then Reg.HPORT.LOOP.depth else Reg.PORT.LOOP.depth
/-- State: 0 idle, 1 running, 2 pass, 3 fail. -/
def loopState (host : Bool) : Fld := if host then Reg.HPORT.LOOP.state else Reg.PORT.LOOP.state
/-- Cause: 0 none, 1 errors, 2 partner refused, 3 no answer, 4 loss of light. -/
def loopCause (host : Bool) : Fld := if host then Reg.HPORT.LOOP.cause else Reg.PORT.LOOP.cause

/-- A host port goes DOWN: its queue pairs enter the error state (R456). -/
def State.hportDown (s : State) (port : Nat) : State :=
  ((s.set Reg.HPORT.STATUS.state port 0).set Reg.HPORT.STATUS.lanes_up port 0).qpsFail (fun k => k.port == port)

/-- Is a loop on the port turned away (R481)? `via` is the host port by which the write came. -/
def State.loopBusy (s : State) (host : Bool) (port : Nat) (via : Option Nat) : Bool :=
  if host then via == some port || s.getBit Reg.HPORT.PTP.mode port
  else decide (36 ≤ port) && s.get Reg.TWIN_LINK.STATUS.state 0 == 2 && s.portState (if port = 36 then 37 else 36) != 2

/-- The counters of a loop are cleared (R487). -/
def State.loopClear (s : State) (host : Bool) (port : Nat) : State :=
  if host then (s.set Reg.HPORT.LOOP_FRAMES.frames port 0).set Reg.HPORT.LOOP_ERRORS.errors port 0
  else ((s.set Reg.PORT.LOOP_SYMBOLS.symbols port 0).set Reg.PORT.LOOP_CORRECTED.corrected port 0).set
    Reg.PORT.LOOP_UNCORR.uncorr port 0

/-- A port no longer retimes for its partner (R483). -/
def State.retimingOver (s : State) (port : Nat) : State :=
  { s.set Reg.PORT.LOOP.retiming port 0 with bench := ⟨Map.del s.bench.retiming port⟩ }

/-- The loop of a depth just written starts: the port goes DOWN; a far-end loop asks the partner. -/
def State.loopBegin (s : State) (host : Bool) (port : Nat) : State :=
  let s1 := if host then s.hportDown port else (s.retimingOver port).portDown port
  let s2 := ((s1.loopClear host port).set (loopState host) port 1).set (loopCause host) port 0
  if !host ∧ s.get Reg.PORT.LOOP.depth port = 4 then s2.emit (.farLoop port (s.get Reg.PORT.LOOP.lanes port)) else s2

/-- The loop of a port is over: a run becomes idle, and the port trains. -/
def State.loopOver (s : State) (host : Bool) (port depth : Nat) : State :=
  let s1 := if s.get (loopState host) port = 1 then s.set (loopState host) port 0 else s
  if host then (s1.set Reg.HPORT.STATUS.state port 2).set Reg.HPORT.STATUS.lanes_up port 3
  else
    let s2 := if s.getBit Reg.PORT.CFG.enable port then s1.set Reg.PORT.STATUS.state port 1 else s1
    if depth = 4 ∧ s.get (loopState host) port = 1 then s2.emit (.farLoop port 0) else s2

/-- A write of a LOOP register (R480, R481, R487). A depth that Table 24.1 does not list is not taken. -/
def State.loopWrite (s : State) (r : Requester) (host : Bool) (port : Nat) (via : Option Nat) (mask v : Nat) : State :=
  let off := regOff (loopReg host) port
  let old := s.get (loopDepth host) port
  let t := s.writeReg r off 0 mask v
  let d := t.get (loopDepth host) port
  if mask % 8 = 0 then t
  else if d = 0 then if old = 0 then t else t.loopOver host port old
  else if (if host then 3 else 4) < d then s
  else if s.loopBusy host port via then s.regFault off stSchedBusy
  else t.loopBegin host port

/-- Run a command of an optical or a host port. -/
def onAnyPort (host : Bool) (port : Nat) (r : Res) : Res := if host then onHport port r else onPort port r

/-- LOOP_START: a non-zero depth. -/
def execLoopStart (r : Requester) (host : Bool) (port : Nat) (via : Option Nat) (v : DWord) (s : State) : Res :=
  onAnyPort host port (.next (s.guard r (regOff (loopReg host) port)
    (if v.toNat % 8 = 0 then s else s.loopWrite r host port via (2 ^ 64 - 1) v.toNat)))

/-- LOOP_STOP: depth 0. -/
def execLoopStop (r : Requester) (host : Bool) (port : Nat) (v : DWord) (s : State) : Res :=
  onAnyPort host port (.next (s.guard r (regOff (loopReg host) port)
    (if v.toNat % 8 = 0 then s.loopWrite r host port none (2 ^ 64 - 1) v.toNat else s)))

/-- Corrected symbols that a depth allows in `n` symbols checked (Table 24.2). -/
def symbolLimit (host : Bool) (depth n : Nat) : Nat :=
  if host then (if depth = 3 then n / 1000000 else 0)
  else if depth = 4 then 24 * n / 100000
  else if depth = 1 then 0 else n / 1000000

/-- Errors of a host-port loop: bad frames, and below the MAC corrected symbols above the limit and uncorrectable codewords. -/
def hostLoopErrors (depth : Nat) (c : LoopCounts) : Nat :=
  c.badFcs + (if depth = 1 then 0 else (c.corrected - symbolLimit true depth c.symbols) + c.uncorr)

/-- Does the loop fail by its counts? -/
def loopErrors (host : Bool) (depth : Nat) (c : LoopCounts) : Bool :=
  if host then hostLoopErrors depth c != 0 else decide (symbolLimit false depth c.symbols < c.corrected) || c.uncorr != 0

/-- A loop ends with a cause; 0 is a pass. -/
def State.loopEnds (s : State) (host : Bool) (port cause : Nat) : State :=
  let s1 := (s.set (loopState host) port (if cause = 0 then 2 else 3)).set (loopCause host) port cause
  if !host ∧ s.get Reg.PORT.LOOP.depth port = 4 then s1.emit (.farLoop port 0) else s1

/-- The counters of a loop that has run. -/
def State.loopCounted (s : State) (host : Bool) (port : Nat) (c : LoopCounts) : State :=
  if host then (s.set Reg.HPORT.LOOP_FRAMES.frames port c.frames).set Reg.HPORT.LOOP_ERRORS.errors port
    (hostLoopErrors (s.get Reg.HPORT.LOOP.depth port) c)
  else ((s.set Reg.PORT.LOOP_SYMBOLS.symbols port c.symbols).set Reg.PORT.LOOP_CORRECTED.corrected port c.corrected).set
    Reg.PORT.LOOP_UNCORR.uncorr port c.uncorr

/-- LOOP_END: duration_ms are over. -/
def State.loopDone (s : State) (host : Bool) (port : Nat) (c : LoopCounts) : State :=
  let d := s.get (loopDepth host) port
  if s.get (loopState host) port ≠ 1 then s
  else (s.loopCounted host port c).loopEnds host port
    (if c.refused ∧ !host ∧ d = 4 then 2 else if c.dark then 4 else if loopErrors host d c then 1 else 0)

/-- LOOP_END. -/
def execLoopEnd (host : Bool) (port : Nat) (c : LoopCounts) (s : State) : Res := onAnyPort host port (.next (s.loopDone host port c))

/-- A far-end loop request, or with no lanes its end: the port retimes if allow_far is 1. -/
def State.farLoopIn (s : State) (port lanes : Nat) : State :=
  if s.getBit Reg.PORT.LOOP.retiming port then
    if lanes % 256 = 0 then (s.retimingOver port).linkReset port
    else { s with bench := ⟨Map.put s.bench.retiming port (lanes % 256)⟩ }
  else if lanes % 256 = 0 ∨ s.get Reg.PORT.LOOP.depth port ≠ 0 then s
  else if s.getBit Reg.PORT.LOOP.allow_far port then
    let t := (s.portDown port).set Reg.PORT.LOOP.retiming port 1
    { t with bench := ⟨Map.put t.bench.retiming port (lanes % 256)⟩ }.emit (.farLoopAnswer port true)
  else s.emit (.farLoopAnswer port false)

/-- FAR_LOOP_REQUEST. -/
def execFarLoopRequest (port lanes : Nat) (s : State) : Res := onPort port (.next (s.farLoopIn port lanes))

/-- RETIMING_TIMEOUT. -/
def execRetimingTimeout (port : Nat) (s : State) : Res :=
  onPort port (.next (if s.getBit Reg.PORT.LOOP.retiming port then (s.retimingOver port).linkReset port else s))

/-- FAR_LOOP_NO_ANSWER. -/
def execFarLoopNoAnswer (port : Nat) (s : State) : Res :=
  onPort port (.next (if s.get Reg.PORT.LOOP.state port = 1 ∧ s.get Reg.PORT.LOOP.depth port = 4 then s.loopEnds false port 3 else s))

/-! ## Memory self-tests (R484, R485) -/

/-- A device test begins. -/
def State.testBegins (s : State) (cmd : Nat) : State :=
  (s.set Reg.DEVICE.TEST_STATUS.last_cmd 0 cmd).set Reg.DEVICE.TEST_STATUS.state 0 1

/-- Does the slice of core `c` belong to a LIVE partition? -/
def State.sliceLive (s : State) (c : Nat) : Bool := (s.sliceOwner c).any (fun p => s.live p)

/-- The T0 self-test starts on every slice that no LIVE partition holds. -/
def State.t0Test (s : State) : State :=
  let s1 := (s.t0Results []).testBegins 1
  (upTo 1024).foldl (fun t c => if s.sliceLive c then t else t.overwriteSlice c) s1

/-- T0_SELF_TEST. -/
def execT0SelfTest (r : Requester) (s : State) : Res := .next (s.guard r Reg.DEVICE.TEST_CMD.reg.reg s.t0Test)

/-- A T1 loop on all 32 interfaces (R485); T1 is in self-refresh and keeps its contents. -/
def State.t1Test (s : State) (cmd : Nat) : State :=
  let twin := s.get Reg.TWIN_LINK.STATUS.state 0
  if s.parts.any (fun k => s.life k.1 != 0) ∨ twin = 1 ∨ twin = 2 ∨ s.deep then s.regFault Reg.DEVICE.TEST_CMD.reg.reg stSchedBusy
  else (s.set Reg.DEVICE.TEST_STATUS.t1_fail 0 0).testBegins cmd

/-- T1_CONTROLLER_LOOP. -/
def execT1ControllerLoop (r : Requester) (s : State) : Res := .next (s.guard r Reg.DEVICE.TEST_CMD.reg.reg (s.t1Test 2))

/-- T1_PHY_LOOP. -/
def execT1PhyLoop (r : Requester) (s : State) : Res := .next (s.guard r Reg.DEVICE.TEST_CMD.reg.reg (s.t1Test 3))

/-- A write of DEVICE.TEST_CMD. -/
def State.testCmd (s : State) (cmd : Nat) : State :=
  match cmd with
  | 1 => s.t0Test
  | 2 => s.t1Test 2
  | 3 => s.t1Test 3
  | _ => s

/-- A device test ends. -/
def State.testDone (s : State) (t1Fail : Nat) (t0Failed : List Nat) : State :=
  if s.get Reg.DEVICE.TEST_STATUS.state 0 ≠ 1 then s
  else
    let t0 := s.get Reg.DEVICE.TEST_STATUS.last_cmd 0 == 1
    let bad := if t0 then !t0Failed.isEmpty else t1Fail % 2 ^ 32 != 0
    (if t0 then s.t0Results t0Failed else s.set Reg.DEVICE.TEST_STATUS.t1_fail 0 t1Fail).set Reg.DEVICE.TEST_STATUS.state 0
      (if bad then 3 else 2)

/-- DEVICE_TEST_DONE. -/
def execDeviceTestDone (t1Fail : Nat) (t0Failed : List Nat) (s : State) : Res := .next (s.testDone t1Fail t0Failed)

/-! ## The test access port (R488) -/

/-- An instruction is in force and its register has captured a value. -/
def State.tapOp (s : State) (op : TapOp) (captured : Nat) : State := { s with tap := { s.tap with op := op, captured := captured } }

/-- BYPASS: the one-bit register captures 0. -/
def execBypass (s : State) : Res := .next (s.tapOp .bypass 0)

/-- The part's identification code: 1,024 active cores, or 896. -/
def State.idCode (s : State) : Nat :=
  if ((upTo 1024).filter (fun c => s.active c)).length = 1024 then 0x19F1056F else 0x19F0E56F

/-- IDCODE. -/
def execIdcode (s : State) : Res := .next (s.tapOp .idcode s.idCode)

/-- SAMPLE_PRELOAD: the lands are sampled (a free value), the cells preloaded. -/
def execSamplePreload (preload : Nat) (s : State) : Res :=
  let x := s.drawFree
  .next { x.2 with tap := ⟨.samplePreload, (Config.freeWord x.1).toNat, preload⟩ }

/-- An instruction accepted only while reset is asserted, and BYPASS otherwise. -/
def State.underReset (s : State) (op : TapOp) : State := s.tapOp (if s.pins.resetLow then op else .bypass) 0

/-- EXTEST: under reset the cells drive the lands, and the lands are captured (a free value). -/
def execExtest (s : State) : Res :=
  let x := s.drawFree
  .next (if s.pins.resetLow then x.2.tapOp .extest (Config.freeWord x.1).toNat else s.tapOp .bypass 0)
/-- CLAMP. -/
def execClamp (s : State) : Res := .next (s.underReset .clamp)
/-- HIGHZ. -/
def execHighz (s : State) : Res := .next (s.underReset .highz)

end Sys2Proof.Machine
end

