-- ==== Sys2Proof/Machine/Window.lean ====
section
/-! DEFINITION. The management window (R459-R478, R506): what every register reads, what a write does. Commands REGISTER_WRITE,
LOCK_SET, FAULT_CLEAR, EVENT_STATUS_CLEAR. -/
namespace Sys2Proof.Machine

/-! ## Banks: registers that act on what another register selects -/

/-- The bank of the register at page offset `o` of instance `i` of class `cls`. -/
def State.bankOf (s : State) (cls i o : Nat) : Nat :=
  match cls with
  | 0x0080 => if o = 0x128 then s.get Reg.GOV.RAIL_SEL.rail 0 else 0
  | 0x0200 => if 0x140 ≤ o ∧ o ≤ 0x150 then s.get Reg.HOST.RING_SEL.partition i else 0
  | 0x02C0 =>
    if 0x110 ≤ o ∧ o ≤ 0x120 then s.get Reg.SCHED.QUEUE_SEL.queue i
    else if o = 0x130 then s.get Reg.SCHED.SEM_SEL.sem i else 0
  | 0x03C0 => if 0x168 ≤ o ∧ o ≤ 0x180 then s.get Reg.TIER.REGION_SEL.region i else 0
  | 0x0400 => if o = 0x128 then s.get Reg.KV.GROUP_SEL.group i else 0
  | 0x0580 => if (0x108 ≤ o ∧ o ≤ 0x120) ∨ (0x130 ≤ o ∧ o ≤ 0x140) then s.get Reg.PUB.SLOT_SEL.slot i else 0
  | _ => 0

/-- The stored value of the register at a window offset, in the bank selected. -/
def State.stored (s : State) (off : Nat) : Nat :=
  s.regAt (s.bankOf (classOf off) (instOf off) (pageOff off) * 2 ^ 32 + off)

/-! ## Reads -/

/-- The common registers that are formed at the read (Table 23.1). -/
def State.commonRead (s : State) (cls i o : Nat) : Option Nat :=
  let info := (classInfo cls).getD (0, 0)
  match o with
  | 0x000 => some (0x00010000 * 2 ^ 32 + cls * 2 ^ 16 + i)
  | 0x008 =>
    some (info.2 * 2 ^ 62 + (if info.2 = 0 then 0 else i) * 2 ^ 52 + (info.1 - 1) * 2 ^ 32 + (if info.2 = 2 then s.lcores i else 0))
  | 0x010 =>
    let pi := pageInst cls i
    let unmasked := s.get Reg.PAGE.EVENT_STATUS.raised pi &&& (2 ^ 64 - 1 - s.get Reg.PAGE.EVENT_MASK.mask pi)
    some (s.get Reg.PAGE.STATUS.block pi * 2 ^ 8 + s.get Reg.PAGE.LOCK.lock pi * 8 + ofBool (unmasked != 0) * 4 +
      s.get Reg.PAGE.FAULT.valid pi * 2 + 1)
  | _ => none

/-- DEVICE registers of the ROM and the fuses (Table 23.5). -/
def State.deviceRead (s : State) (o : Nat) : Option Nat :=
  match o with
  | 0x100 => some (64 * 2 ^ 32 + 64 * 2 ^ 24 + 64 * 2 ^ 16 + ((upTo 1024).filter (fun c => s.active c)).length)
  | 0x108 => some (1024 * 2 ^ 32 + sliceBytes)
  | 0x118 => some 0x38000000000
  | 0x128 => some 0x04020420
  | 0x130 => some 0x0009464C
  | 0x138 => some s.fuses.serial.toNat
  | _ => if 0x140 ≤ o ∧ o < 0x1C0 then some (field s.fuses.coreMask (8 * (o - 0x140) + 63) (8 * (o - 0x140))) else none

/-- The host port in PTP mode (R392). -/
def State.ptpPort (s : State) : Option Nat := (upTo 4).find? (fun h => s.getBit Reg.HPORT.PTP.mode h)

/-- PARTITION registers formed at the read (R474). -/
def State.partitionRead (s : State) (p o : Nat) : Option Nat :=
  match o with
  | 0x138 => some ((s.physical p (s.get Reg.PARTITION.MAP_SEL.lcore p)).getD 0)
  | 0x2C0 => some ((s.ptpPort.map (fun h => s.get Reg.HPORT.PTP_OFFSET.offset h)).getD 0)
  | 0x2C8 => some (ofBool s.ptpPort.isSome)
  | _ => if 0x300 ≤ o ∧ o < 0x400 then some ((s.deviceRead (o - 0x200)).getD (s.regAt (o - 0x200))) else none

/-- The code of TIER.BOUND_STATUS.migration. -/
def State.migrationCode (s : State) (p : Nat) : Nat :=
  let rs := (s.part p).tiers.regions
  let low := s.get Reg.TIER.MIGRATE.low_pct p
  if !(s.getBit Reg.TIER.MIGRATE.enable p) then 2
  else if rs.any (fun x => x.2.state == .migrating) then 1
  else if rs.any (fun x => x.2.hint == 0 && spaceOf x.2.base == 2 && decide (s.get Reg.TIER.MIGRATE.promote_uses p ≤ x.2.use) &&
      decide (low * s.t1Allot p < 100 * (s.t1Use p + x.2.len))) then 3
  else 0

/-- A bound code of R213: 3 during a thermal trip, else not known to the model. -/
def State.boundCode (s : State) (off i : Nat) : Nat :=
  if s.gov.trip then 3 else Config.timed (off + 2 ^ 32 * i) s.timer % 3

/-- The codes of a region's state (R214). -/
def RegionState.code : RegionState → Nat
  | .free => 0 | .resident => 1 | .migrating => 2 | .moving => 3 | .failed => 4

/-- TIER registers formed at the read. -/
def State.tierRead (s : State) (p o off : Nat) : Option Nat :=
  let r := s.region p (s.get Reg.TIER.REGION_SEL.region p)
  match o with
  | 0x120 => some (setField (s.stored off) 31 24 ((s.part p).tiers.lists.length))
  | 0x150 => some (s.boundCode off 4 * 2 ^ 8 + s.boundCode off 3 * 2 ^ 6 + s.boundCode off 2 * 2 ^ 4 + s.boundCode off 1 * 2 ^ 2 +
      s.migrationCode p)
  | 0x158 => some (setField (s.stored off) 31 0 (ceilDiv (s.t1Use p) (2 ^ 20)))
  | 0x168 => r.map (fun x => x.base)
  | 0x170 => r.map (fun x => x.len)
  | 0x178 => r.map (fun x => x.state.code * 2 ^ 12 + x.hint)
  | 0x180 => r.map (fun x => x.use % 2 ^ 32)
  | _ => none

/-- KV.GROUP_STATUS of the selected group. -/
def State.groupStatus (s : State) (p : Nat) : Nat :=
  let g := s.get Reg.KV.GROUP_SEL.group p
  let k := s.kvGroup p g
  let count := fun (f : Req → Bool) => ((s.gen p).reqs.filter (fun r => r.group == g && f r)).length
  k.spills.length * 2 ^ 48 + count (fun r => r.state == .queued) * 2 ^ 40 + count (fun r => r.state == .paused) * 2 ^ 32 +
    count (fun r => r.state == .running) * 2 ^ 24 + k.refs.length

/-- SETT.CORE_STATUS of the selected core. -/
def State.settStatus (s : State) (p : Nat) : Nat :=
  let x := s.sett p (s.get Reg.SETT.CORE_SEL.core p)
  x.frames.length * 2 ^ 48 + (x.frames.filter (fun f => f.place.isSome)).length * 2 ^ 32 + granules x.frames

/-- Registers of a block that are formed at the read; none for one that is stored. -/
def State.blockRead (s : State) (cls i o off : Nat) : Option Nat :=
  match cls with
  | 0x0000 => s.deviceRead o
  | 0x00C0 => if o = 0x100 then some s.now else none
  | 0x0100 => if o = 0x110 then some (s.fuses.minSvn % 64 * 2 ^ 8 + s.fuses.revoked % 16) else none
  | 0x0140 => if o = 0x118 then some (setField (s.stored off) 17 16 (ofBool (s.portUp 37) * 2 + ofBool (s.portUp 36))) else none
  | 0x01C0 => if o = 0x108 then some (s.mac i) else none
  | 0x0200 => if o = 0x170 then some (setField (s.stored off) 11 0 (s.qpsOf i)) else none
  | 0x0280 => s.partitionRead i o
  | 0x0300 => if o = 0x108 ∨ o = 0x110 then some (Config.timed off s.timer) else none
  | 0x0340 =>
    if o = 0x100 then some 0x00010B01
    else if o = 0x110 then
      let r := sftabRead (s.get Reg.SFTAB.READ_SEL.version i) (s.get Reg.SFTAB.READ_SEL.fid i) (s.get Reg.SFTAB.READ_SEL.index i)
      some (r.1 * 2 ^ 32 + r.2)
    else none
  | 0x0380 => if o = 0x110 then some (ntabRead (s.get Reg.RNG.NTAB_SEL.version i) (s.get Reg.RNG.NTAB_SEL.index i)) else none
  | 0x03C0 => s.tierRead i o off
  | 0x0400 => if o = 0x130 then some (s.groupStatus i) else none
  | 0x0440 =>
    if o = 0x130 then
      let q := ((s.gen i).reqs.filter (fun r => r.state == .queued)).length
      some (((s.gen i).reqs.length - q) * 2 ^ 16 + q)
    else none
  | 0x0480 => if o = 0x130 then some (s.settStatus i) else none
  | 0x0540 =>
    if o = 0x130 then some (s.boundCode off 0)
    else if o = 0x150 then some (Config.timed off s.timer)
    else if o = 0x188 then some (setField (s.stored off) 10 0 (s.fab.groups.filter (fun e => e.2.pid == i)).length)
    else none
  | 0x05C0 =>
    if o = 0x108 then some (ofBool (s.noPartner i) * 2 ^ 31 + s.get Reg.CHECK.OWL_STATUS.boosted i * 2 ^ 30 + s.owlCode i) else none
  | _ => none

/-- What the 8-byte register at a window offset (aligned) reads. -/
def State.regRead (s : State) (off : Nat) : Nat :=
  let cls := classOf off
  let i := instOf off
  let o := pageOff off
  ((if o < 0x48 then s.commonRead cls i o else s.blockRead cls i o off).getD (s.stored off)) % 2 ^ 64

/-- What a read of 4 bytes (or of 8) at a window offset returns. -/
def State.windowRead (s : State) (off : Nat) (wide : Bool) : Nat :=
  let v := s.regRead (off / 8 * 8)
  if wide then v else if off % 8 = 0 then v % 2 ^ 32 else v / 2 ^ 32

/-! ## Writes -/

/-- Does the mask cover the command field [31:24], or bit 0, of a register? -/
def lowHalf (mask : Nat) : Bool := mask % 2 ^ 32 != 0

/-- The command of a register whose bits [31:24] hold one; none where they are not written. -/
def cmdOf (mask v : Nat) : Option Nat := if lowHalf mask then some (field v 31 24) else none

/-- A write that nothing but its access types governs. -/
def State.plain (s : State) (r : Requester) (off mask v : Nat) : State :=
  s.writeReg r off (s.bankOf (classOf off) (instOf off) (pageOff off)) mask v

/-- A write that is dropped, with its fault, while something is busy; one that meets a closed field is dropped for that. -/
def State.heldWrite (s : State) (r : Requester) (off mask v : Nat) (busy : Bool) (code : Nat) : State :=
  if s.rwlClosed r off ∧ (rowsAt off).any (fun x => x.acc == .rwl && x.inMask mask) then s.plain r off mask v
  else if busy then s.regFault off code
  else s.plain r off mask v

/-- LOCK (R469). -/
def State.lockWrite (s : State) (r : Requester) (pg : Nat) (one : Bool) : State :=
  let pi := pg / 0x1000
  if s.getBit Reg.PAGE.LOCK.lock pi ∨ isCoreCode r then s.regFault (pg + 0x40) stLockViolation
  else if !one then s
  else match r with
    | .deviceKey => s.set Reg.PAGE.LOCK.lock pi 1
    | .firmware => s.set Reg.PAGE.LOCK.lock pi 1
    | _ => s.regFault (pg + 0x40) stLockViolation

/-- FAULT.valid is written with 1: every field of FAULT and FAULT_ADDR is cleared. -/
def State.faultClear (s : State) (pg : Nat) : State :=
  (s.set Reg.PAGE.FAULT.reg (pg / 0x1000) 0).set Reg.PAGE.FAULT_ADDR.addr (pg / 0x1000) 0

/-- A write of a common register. Core code writes no W1C field (R468). -/
def State.commonWrite (s : State) (r : Requester) (off mask v : Nat) : State :=
  match pageOff off with
  | 0x18 => if bit (mask &&& v) 63 ∧ !(isCoreCode r) then s.faultClear (pageOf off) else s
  | 0x28 => s.plain r off mask v
  | 0x30 => s.plain r off mask v
  | 0x38 => if isCoreCode r then s else s.plain r off mask v
  | 0x40 => if bit mask 0 then s.lockWrite r (pageOf off) (bit v 0) else s
  | _ => s

/-- A write of the DEVICE page. -/
def State.deviceWrite (s : State) (r : Requester) (o off mask v : Nat) : State :=
  match o with
  | 0x1D0 =>
    match cmdOf mask v with
    | some 1 => s.warmReset s.boot.image
    | some 2 => s.commitRoutes
    | _ => s
  | 0x1D8 => s.testCmd ((cmdOf mask v).getD 0)
  | 0x1F0 => if mask = 2 ^ 64 - 1 then s.routeData v else s
  | _ => s.plain r off mask v

/-- Does GOV.BOUNDS hold a minimum above its maximum, after adjustment (R477)? -/
def State.boundsCrossed (s : State) : Bool :=
  let hold := fun v => max 620 (min 850 v)
  decide (min 8 (s.get Reg.GOV.BOUNDS.f_max 0) < min 8 (s.get Reg.GOV.BOUNDS.f_min 0)) ||
  decide (hold (s.get Reg.GOV.BOUNDS.v_max 0) < hold (s.get Reg.GOV.BOUNDS.v_min 0))

/-- A write of the GOV page. -/
def State.govWrite (s : State) (r : Requester) (o off mask v : Nat) : State :=
  match o with
  | 0x100 => let t := s.plain r off mask v; if t.boundsCrossed then s.regFault off stRegOvercommit else t
  | 0x108 =>
    match cmdOf mask v with
    | some 1 => s.enterDeep
    | some 2 => s.exitDeep
    | _ => s
  | _ => s.plain r off mask v

/-- A write of the TIME page. -/
def State.timeWrite (s : State) (r : Requester) (o off mask v : Nat) : State :=
  match o with
  | 0x118 => (s.plain r off mask v).timeSelect
  | 0x120 => (s.plain r off mask v).timeSelect
  | 0x128 => if cmdOf mask v = some 1 then s.forceStep else s
  | _ => s.plain r off mask v

/-- Is a GO taken now without the boot responder's queue pair (R435)? -/
def State.goOpen (s : State) : Bool := s.bootState == 4 && s.fwStalled

/-- A write of the BOOT page. -/
def State.bootWrite (s : State) (r : Requester) (o off mask v : Nat) : State :=
  match o with
  | 0x108 => if lowHalf mask ∧ s.goOpen then s.warmReset (field v 31 0) else s
  | 0x120 => if bit (mask &&& v) 0 then s.commitSvn else s
  | _ => s.plain r off mask v

/-- A write of the TWIN_LINK page. -/
def State.twinWrite (s : State) (r : Requester) (o off mask v : Nat) : State :=
  match o with
  | 0x110 =>
    match cmdOf mask v with
    | some 1 => if s.pairing = 0 then s.setPairing 1 else s
    | some 2 => s.detach
    | _ => s
  | _ => s.heldWrite r off mask v (s.pairing == 2) stSchedBusy

/-- A write of a PORT page: clearing or setting enable resets the link (R456). -/
def State.portWrite (s : State) (r : Requester) (i o off mask v : Nat) : State :=
  match o with
  | 0x108 =>
    let t := s.plain r off mask v
    if t.get Reg.PORT.CFG.enable i = s.get Reg.PORT.CFG.enable i then t else t.linkReset i
  | 0x130 => s.loopWrite r false i none mask v
  | _ => s.plain r off mask v

/-- A write of an HPORT page; a second port does not enter PTP mode (R392). -/
def State.hportWrite (s : State) (r : Requester) (via : Option Nat) (i o off mask v : Nat) : State :=
  match o with
  | 0x140 => if bit (mask &&& v) 0 ∧ s.ptpPort.any (fun h => h != i) then s else s.plain r off mask v
  | 0x160 => s.loopWrite r true i via mask v
  | _ => s.plain r off mask v

/-- A write of a HOST page (R390, R394). -/
def State.hostWrite (s : State) (r : Requester) (t o off mask v : Nat) : State :=
  let p := s.get Reg.HOST.RING_SEL.partition t
  let enabled := s.getB Reg.HOST.CMD_CFG.enable t p == 1
  match o with
  | 0x110 => (s.cqWrite r t mask v).retake t
  | 0x118 => (s.plain r off mask v).retake t
  | 0x128 => s.eqWrite r t mask v
  | 0x130 => (s.plain r off mask v).reportLost t
  | 0x138 =>
    let q := field v 9 0
    if !(lowHalf mask) then s
    else if s.life q ≠ 0 ∧ s.owner q ≠ t then s.regFault off codeViolation
    else s.plain r off mask v
  | 0x140 => s.heldWrite r off mask v enabled stSchedBusy
  | 0x148 => s.heldWrite r off mask v (enabled && (!(lowHalf mask) || bit v 31)) stSchedBusy
  | _ => s.plain r off mask v

/-- A write of an ATTEST page. -/
def State.attestWrite (s : State) (r : Requester) (t o off mask v : Nat) : State :=
  match o with
  | 0x100 => if cmdOf mask v = some 1 then s.quote t
    else if lowHalf mask ∧ s.get Reg.ATTEST.STATUS.state t = 1 then s.regFault off stSchedBusy else s
  | _ => s.heldWrite r off mask v (decide (0x140 ≤ o) && s.get Reg.ATTEST.STATUS.state t == 1) stSchedBusy

/-- A write of a PARTITION page (R474). -/
def State.partitionWrite (s : State) (r : Requester) (p o off mask v : Nat) : State :=
  match o with
  | 0x110 => s.partCmd r p ((cmdOf mask v).getD 0)
  | 0x120 => if bit mask 0 then s.parkWrite p (bit v 0) else s
  | 0x130 => s.plain r off mask v
  | _ => s.heldWrite r off mask v ((o == 0x100 || o == 0x108 || (decide (0x140 ≤ o) && decide (o < 0x240))) && s.life p != 0) stSchedBusy

/-- A write of a SCHED page (R370). -/
def State.schedWrite (s : State) (r : Requester) (p o off mask v : Nat) : State :=
  let busy := s.anyTask p || s.anySaved p
  match o with
  | 0x130 => if lowHalf mask then s.semInit p v else s
  | 0x148 =>
    match cmdOf mask v with
    | some 1 => s.suspend p
    | some 2 => s.restoreCtx p
    | _ => s
  | _ =>
    let queue := o == 0x110 || o == 0x118
    s.heldWrite r off mask v (busy && (o == 0x100 || o == 0x138 ||
      (queue && s.getB Reg.SCHED.QUEUE_CFG.enable p (s.get Reg.SCHED.QUEUE_SEL.queue p) == 1))) stSchedBusy

/-- The floors of every partition, by what each page gives. -/
def State.floors (s : State) (f : State → Nat → Nat) : Nat := (s.parts.filter (fun k => s.life k.1 != 0)).foldl (fun n k => n + f s k.1) 0

/-- A write of a regulator that would raise the sum of floors above the capacity is dropped (R213, R312). -/
def State.floorWrite (s : State) (r : Requester) (off mask v cap : Nat) (f : State → Nat → Nat) : State :=
  let t := s.plain r off mask v
  if s.floors f < t.floors f ∧ cap < t.floors f then s.regFault off stRegOvercommit else t

/-- A write of a TIER page (R213, R214). -/
def State.tierWrite (s : State) (r : Requester) (p o off mask v : Nat) : State :=
  match o with
  | 0x118 => if lowHalf mask then s.listGo p else s
  | 0x130 => s.floorWrite r off mask v 2420 (fun t q => t.get Reg.TIER.REG_T1.floor q + t.get Reg.TIER.REG_T1.ingress_floor q)
  | 0x138 => s.floorWrite r off mask v 780 (fun t q => t.get Reg.TIER.REG_T2.floor q)
  | 0x140 => s.floorWrite r off mask v 16000 (fun t q => t.get Reg.TIER.REG_MESH.floor q)
  | 0x178 => if lowHalf mask then s.regionCtrl p (field v 31 24) (field v 3 0) else s
  | _ => s.plain r off mask v

/-- A write of a KV page (R233). -/
def State.kvWrite (s : State) (r : Requester) (p o off mask v : Nat) : State :=
  let g := s.get Reg.KV.GROUP_SEL.group p
  let busy :=
    if o = 0x128 then (s.gen p).reqs.any (fun x => x.group == g)
    else (o == 0x100 || o == 0x108 || o == 0x110 || o == 0x118) && !(s.gen p).reqs.isEmpty
  s.heldWrite r off mask v busy stKvBusy

/-- A write of a REQ page (R248, R254). -/
def State.reqWrite (s : State) (r : Requester) (p o off mask v : Nat) : State :=
  match o with
  | 0x110 => s.stepRingWrite r p false mask v
  | 0x118 => s.stepRingWrite r p true mask v
  | 0x120 => (s.plain r off mask v).ringWoken p
  | _ => s.heldWrite r off mask v ((o == 0x100 || o == 0x108) && !(s.gen p).reqs.isEmpty) stReqBusy

/-- A write of a register that core code alone writes: its effect by logical and physical core, or the page's fault. -/
def State.coreOnly (s : State) (r : Requester) (p off mask code : Nat) (run : Nat → Nat → State) : State :=
  match r with
  | .coreCode c => if lowHalf mask then run (s.logical p c) c else s
  | _ => s.regFault off code

/-- A write of a SETT page (R265). -/
def State.settWrite (s : State) (r : Requester) (p o off mask v : Nat) : State :=
  match o with
  | 0x120 => s.coreOnly r p off mask stSettInvalid (fun l c => s.settOp p l c (field v 31 0))
  | _ => s.heldWrite r off mask v (decide (o < 0x120) && s.settsHold p) stSettBusy

/-- A write of a RED page (R283). -/
def State.redWrite (s : State) (r : Requester) (p o off mask v : Nat) : State :=
  let w := field v 31 0
  match o with
  | 0x130 => s.coreOnly r p off mask stRedInvalid (fun _ _ => s.redOpen p w)
  | 0x138 => s.coreOnly r p off mask stRedInvalid (fun l c => s.redClose p l c w)
  | 0x140 => s.coreOnly r p off mask stRedInvalid (fun l _ => s.redStaged p l w)
  | 0x148 => s.coreOnly r p off mask stRedInvalid (fun l c => s.redNotify p l c w)
  | _ => s.heldWrite r off mask v (o != 0x120 && decide (o < 0x130) && (s.red p).isOpen) stRedBusy

/-- A write of a FAB page. -/
def State.fabWrite (s : State) (r : Requester) (p o off mask v : Nat) : State :=
  let w := field v 31 0
  match o with
  | 0x100 => s.floorWrite r off mask v 196 (fun t q => t.get Reg.FAB.REG_PORT.floor q)
  | 0x118 => s.groupWrite r p mask v
  | 0x120 => if lowHalf mask then s.collStart p w else s
  | 0x128 => s.coreOnly r p off mask stHareInvalid (fun _ c => s.hareGo p c w)
  | 0x168 => s.coreOnly r p off mask stCommandInvalid (fun _ c => s.expGo p c w)
  | 0x180 => if lowHalf mask then s.combineCommand r p (field v 31 24) (field v 10 0) else s
  | _ => s.plain r off mask v

/-- PUB.LOAD (R335): the pennant half is kept for the command half when they are written apart (R461). -/
def State.loadWrite (s : State) (p off mask v : Nat) : State :=
  let w := mergeBits (s.regAt (2 ^ 32 + off)) mask v
  let t := s.setRegAt (2 ^ 32 + off) w
  if !(lowHalf mask) then t
  else match field w 31 24 with
    | 1 => t.loadBegin p (field w 63 32)
    | 2 => t.loadEnd p
    | 3 => t.unload p
    | _ => t.loadRefused p stPubInvalid

/-- A write of a PUB page (R345). -/
def State.pubWrite (s : State) (r : Requester) (p o off mask v : Nat) : State :=
  let n := s.slotSel p
  match o with
  | 0x148 => s.loadWrite p off mask v
  | _ => s.heldWrite r off mask v (decide (0x108 ≤ o) && decide (o ≤ 0x120) && [0, 1].any (fun b => s.bufState p n b != 0)) stSlotBusy

/-- A write of a CKPT page (R428). -/
def State.ckptWrite (s : State) (r : Requester) (p o off mask v : Nat) : State :=
  match o with
  | 0x128 => if cmdOf mask v = some 1 then s.restoreStart p else s
  | _ => s.heldWrite r off mask v (decide (o ≤ 0x120) && s.ckptState p != 0) stSchedBusy

/-- A write of a block's own register. -/
def State.blockWrite (s : State) (r : Requester) (via : Option Nat) (cls i o off mask v : Nat) : State :=
  match cls with
  | 0x0000 => s.deviceWrite r o off mask v
  | 0x0080 => s.govWrite r o off mask v
  | 0x00C0 => s.timeWrite r o off mask v
  | 0x0100 => s.bootWrite r o off mask v
  | 0x0140 => s.twinWrite r o off mask v
  | 0x0180 => s.portWrite r i o off mask v
  | 0x01C0 => s.hportWrite r via i o off mask v
  | 0x0200 => s.hostWrite r i o off mask v
  | 0x0240 => s.attestWrite r i o off mask v
  | 0x0280 => s.partitionWrite r i o off mask v
  | 0x02C0 => s.schedWrite r i o off mask v
  | 0x0380 => if 0x140 ≤ o ∧ o < 0x1C0 then s.seedWrite r i ((o - 0x140) / 8) mask v else s.plain r off mask v
  | 0x03C0 => s.tierWrite r i o off mask v
  | 0x0400 => s.kvWrite r i o off mask v
  | 0x0440 => s.reqWrite r i o off mask v
  | 0x0480 => s.settWrite r i o off mask v
  | 0x04C0 => s.redWrite r i o off mask v
  | 0x0540 => s.fabWrite r i o off mask v
  | 0x0580 => s.pubWrite r i o off mask v
  | 0x05C0 =>
    if o = 0x130 then s.faultRingWrite r i false mask v else if o = 0x138 then s.faultRingWrite r i true mask v
    else s.plain r off mask v
  | 0x0600 => s.ckptWrite r i o off mask v
  | _ => s.plain r off mask v

/-- A write of 4 bytes (or of 8) at a window offset whose page the requester reaches; `via` is the host port it came by. -/
def State.windowWrite (s : State) (r : Requester) (via : Option Nat) (off : Nat) (wide : Bool) (v : Nat) : State :=
  let reg := off / 8 * 8
  let mask := halfMask off wide
  let w := if wide ∨ off % 8 = 0 then v &&& mask else v % 2 ^ 32 * 2 ^ 32
  let o := pageOff reg
  if o < 0x48 then s.commonWrite r reg mask w
  else if (rowsAt reg).isEmpty then s
  else s.blockWrite r via (classOf reg) (instOf reg) o reg mask w

/-- The first check that fails for core code or a key (R60, R460, R467). -/
def State.windowCheck (s : State) (r : Requester) (off : Nat) : Option Nat :=
  if !(s.pageExists off) then some codeUnmapped else if s.mayReachPage r off then none else some codeViolation

/-! ## Commands -/

/-- REGISTER_WRITE. -/
def execRegisterWrite (r : Requester) (off : Nat) (wide : Bool) (v : DWord) (s : State) : Res :=
  .next (s.guard r off (s.windowWrite r none off wide v.toNat))

/-- LOCK_SET. -/
def execLockSet (r : Requester) (page : Nat) (s : State) : Res := .next (s.guard r page (s.lockWrite r (pageOf page) true))

/-- FAULT_CLEAR. Core code writes no W1C field (R468). -/
def execFaultClear (r : Requester) (page : Nat) (s : State) : Res :=
  .next (s.guard r page (if isCoreCode r then s else s.faultClear (pageOf page)))

/-- EVENT_STATUS_CLEAR: a bit whose event is raised in the same cycle stays set (R465). Core code writes no W1C
field (R468). -/
def execEventStatusClear (r : Requester) (page : Nat) (bits raisedNow : DWord) (s : State) : Res :=
  let pi := page / 0x1000
  let old := BitVec.ofNat 64 (s.get Reg.PAGE.EVENT_STATUS.raised pi)
  .next (s.guard r page (if isCoreCode r then s
    else s.set Reg.PAGE.EVENT_STATUS.raised pi (old &&& ~~~(bits &&& ~~~raisedNow)).toNat))

end Sys2Proof.Machine
end

