-- ==== Sys2Proof/Machine/Scalar.lean ====
section
/-! DEFINITION. The scalar instructions (R81-R85, R72, R94): what each reads, writes and checks, its effect on registers and
memory, and where the program counter goes. -/
namespace Sys2Proof.Machine

/-! ## Code pointers (R63) -/

/-- Bytes of an off unit (R83). -/
def unitBytes (bundle : Bool) : Nat := if bundle then 64 else 4

/-- A program counter: an address beyond the near store wraps within 20 bits (R85). -/
def wrapPc (a : Int) : BitVec 20 := BitVec.ofInt 20 a

/-- A program counter aligned for its mode (R62). -/
def alignPc (pc : BitVec 20) (bundle : Bool) : BitVec 20 := BitVec.ofNat 20 (pc.toNat / unitBytes bundle * unitBytes bundle)

/-- A code pointer: the PC with the mode in bit 0. -/
def codePtr (pc : BitVec 20) (bundle : Bool) : Word := BitVec.ofNat 32 (pc.toNat + ofBool bundle)

/-- The PC and mode that a code pointer names; it is aligned for the mode (R62). -/
def ptrTarget (w : Word) : BitVec 20 × Bool := (alignPc (BitVec.ofNat 20 w.toNat) (w.getLsbD 0), w.getLsbD 0)

/-- Does a JALR or ERET target fail the alignment condition (R85)? -/
def ptrBad (w : Word) : Bool := if w.getLsbD 0 then (w.toNat - 1) % 64 != 0 else w.toNat % 4 != 0

/-- The PC and mode of the instruction or bundle after the one at the PC; a bundle with exit = 1 is followed by scalar mode
(R63, R66). -/
def Special.after (x : Special) (exit : Bool) : BitVec 20 × Bool :=
  (x.pc + BitVec.ofNat 20 (unitBytes x.bundleMode), x.bundleMode && !exit)

/-- The return code pointer that JAL and JALR write (R63): the address after, with the current mode. -/
def Special.ret (x : Special) : Word := codePtr (x.pc + BitVec.ofNat 20 (unitBytes x.bundleMode)) x.bundleMode

/-- The PC `off` units from the current one (R83). -/
def Special.jump (x : Special) (off : Int) : BitVec 20 := wrapPc ((x.pc.toNat : Int) + unitBytes x.bundleMode * off)

/-! ## Operands -/

/-- Size in bytes of a load. -/
def LdOp.size : LdOp → Nat
  | .ldnW | .ldtW | .ldgW => 4
  | .ldnH | .ldnHu => 2
  | .ldnB | .ldnBu => 1

/-- Size in bytes of a store. -/
def StOp.size : StOp → Nat
  | .stnW | .sttW | .stgW => 4
  | .stnH => 2
  | .stnB => 1

/-- The store a load reads: own near store (`some false`), own slice (`some true`), any (`none`). -/
def LdOp.own : LdOp → Option Bool
  | .ldtW => some true
  | .ldgW => none
  | _ => some false

/-- The store a store writes. -/
def StOp.own : StOp → Option Bool
  | .sttW => some true
  | .stgW => none
  | _ => some false

/-- The address of an own access: rs1 + sext(imm), 32 bits. -/
def ownAddr (k : Core) (rs1 : BitVec 5) (imm : BitVec 16) : Nat := (k.rs rs1 + imm.signExtend 32).toNat

/-- The address of a global access: the pair + sext(imm), 64 bits. -/
def globalAddr (k : Core) (rs1 : BitVec 5) (imm : BitVec 16) : Nat := (k.rsPair rs1 + imm.signExtend 64).toNat

/-- The address as issued. -/
def memAddr (own : Option Bool) (k : Core) (rs1 : BitVec 5) (imm : BitVec 16) : Nat :=
  match own with
  | some _ => ownAddr k rs1 imm
  | none => globalAddr k rs1 imm

/-- The register or pair that holds a base. -/
def baseRegs (own : Option Bool) (rs1 : BitVec 5) : List Nat :=
  match own with
  | some _ => [codeS rs1]
  | none => [codeS rs1, codeS (nextReg rs1)]

/-- Does the operation read one register only (R82)? -/
def RROp.unary (op : RROp) : Bool := op == .clz || op == .popc

/-- Codes of the registers a scalar instruction reads. -/
def ScalarOp.srcs : ScalarOp → List Nat
  | .rr op _ a b => if op.unary then [codeS a] else [codeS a, codeS b]
  | .ri _ _ a _ => [codeS a]
  | .shi _ a _ => [codeS a]
  | .load op _ a _ => baseRegs op.own a
  | .store op b a _ => codeS b :: baseRegs op.own a
  | .branch _ a b _ => [codeS a, codeS b]
  | .jalr _ a _ => [codeS a]
  | .mts a _ => [codeS a]
  | _ => []

/-- Codes of the registers a scalar instruction writes (R77). -/
def ScalarOp.dests : ScalarOp → List Nat
  | .rr _ d _ _ => [codeS d]
  | .ri _ d _ _ => [codeS d]
  | .shi d _ _ => [codeS d]
  | .lui d _ => [codeS d]
  | .load _ d _ _ => [codeS d]
  | .jal _ => [codeS 1]
  | .jalr d _ _ => [codeS d]
  | .mfs d _ => [codeS d]
  | .mts _ n => [codeSpec n.toNat]
  | _ => []

/-- Is the instruction one that redirects or ends, and so legal only in scalar slot 1 (R68)? -/
def ScalarOp.control : ScalarOp → Bool
  | .branch _ _ _ _ | .j _ | .jal _ | .jalr _ _ _ | .wide _ | .eret | .halt => true
  | .rr _ _ _ _ | .ri _ _ _ _ | .shi _ _ _ | .lui _ _ | .load _ _ _ _ | .store _ _ _ _ | .mfs _ _ | .mts _ _ | .trap _ => false

/-- ILLEGAL_OP of a scalar instruction beyond its encoding (R68, R82, R83, Table 3.8). -/
def ScalarOp.illegal (k : Core) : ScalarOp → Bool
  | .shi _ _ imm => field imm.toNat 15 14 == 3
  | .load op _ a _ => op.own.isNone && a.getLsbD 0
  | .store op _ a _ => op.own.isNone && a.getLsbD 0
  | .wide _ => k.spec.bundleMode
  | .eret => !k.spec.inTrap
  | .rr _ _ _ _ | .ri _ _ _ _ | .lui _ _ | .branch _ _ _ _ | .j _ | .jal _ | .jalr _ _ _ | .mfs _ _ | .mts _ _ | .trap _
  | .halt => false

/-! ## Special registers (R72, Table 3.4) -/

/-- The value of a special register; none for an unlisted number. -/
def State.specRead (s : State) (p c : Nat) (k : Core) (n : Nat) : Option Word :=
  let x := k.spec
  match n with
  | 0x000 => some (BitVec.ofNat 32 (s.logical p c))
  | 0x002 => some (BitVec.ofNat 32 p)
  | 0x003 => some (BitVec.ofNat 32 (s.owner p))
  | 0x004 => some (BitVec.ofNat 32 (s.lcores p))
  | 0x008 => some (s.clock.cycles.extractLsb' 0 32)
  | 0x009 => some x.cycleHi
  | 0x00A => some (s.clock.ftime.extractLsb' 0 32)
  | 0x00B => some x.ftimeHi
  | 0x010 => some (BitVec.ofNat 32 x.status)
  | 0x011 => some x.cause
  | 0x012 => some x.epc
  | 0x013 => some (x.faddr.extractLsb' 0 32)
  | 0x014 => some (x.faddr.extractLsb' 32 32)
  | 0x015 => some x.evec
  | 0x016 => some x.scratch
  | 0x020 => some x.pennant
  | 0x030 => some x.round
  | 0x031 => some x.fpflags
  | 0x038 => some x.rngCtl
  | 0x040 => some x.edgeRows
  | 0x041 => some x.edgeCols
  | 0x050 => some (BitVec.ofNat 32 k.sync.sems.length)
  | 0x051 => some (BitVec.ofNat 32 (ofBool k.preempt.isSome))
  | _ => none

/-- What a read leaves behind: CYCLE_LO and FTIME_LO latch the upper halves. -/
def State.specLatch (s : State) (k : Core) (n : Nat) : Core :=
  if n = 0x008 then { k with spec := { k.spec with cycleHi := s.clock.cycles.extractLsb' 32 32 } }
  else if n = 0x00A then { k with spec := { k.spec with ftimeHi := s.clock.ftime.extractLsb' 32 32 } }
  else k

/-- Does an MTS of `w` to register `n` raise SPECIAL_ACCESS: an unlisted or read-only register, or a value its rule refuses
(R72, R105, R158, R189)? -/
def State.mtsBad (s : State) (p n : Nat) (w : Word) : Bool :=
  match n with
  | 0x012 | 0x015 | 0x016 | 0x031 => false
  | 0x030 => decide (1 < field w.toNat 1 0) || field w.toNat 31 3 != 0
  | 0x038 => field w.toNat 31 6 != 0 || bit w.toNat 4 || !(bit (s.get Reg.RNG.SEED_STATUS.valid p) (field w.toNat 3 0))
  | 0x040 | 0x041 => w.toNat == 0 || decide (64 < w.toNat)
  | _ => true

/-- MTS (R72): the register takes the value; FPFLAGS keeps its reserved bits zero (R159); a change of RNG_CTL invalidates
both generator sets (R189). -/
def mtsWrite (k : Core) (n : Nat) (w : Word) : Core :=
  let x := k.spec
  match n with
  | 0x012 => { k with spec := { x with epc := w } }
  | 0x015 => { k with spec := { x with evec := w } }
  | 0x016 => { k with spec := { x with scratch := w } }
  | 0x030 => { k with spec := { x with round := w } }
  | 0x031 => { k with spec := { x with fpflags := w &&& 0x1F#32 } }
  | 0x038 =>
    if w = x.rngCtl then k else { k with spec := { x with rngCtl := w }, rset := none, dset := none }
  | 0x040 => { k with spec := { x with edgeRows := w } }
  | 0x041 => { k with spec := { x with edgeCols := w } }
  | _ => k

/-! ## Checks -/

/-- Checks of an own access (R83). -/
def ownExn (t0 : Bool) (a n : Nat) : Option Exn := firstExn [ownRange t0 a 1, alignExn a n]

/-- Checks of a global access by core code: R60 in its order, then the alignment; space 4 by the register pages (R460, R467). -/
def State.globalExn (s : State) (p c a n : Nat) : Option Exn :=
  let e : Option Nat :=
    if spaceOf a = 4 then (if wellPlaced a then s.windowCheck (.coreCode c) (field a 31 0) else some codeUnmapped)
    else match s.resolve (.part p) a n with
      | .ok _ => none
      | .error e => some e
  firstExn [e.map (fun code => ⟨code, a⟩), alignExn a n]

/-- Checks of a load or store. -/
def State.memExn (s : State) (p c : Nat) (own : Option Bool) (a n : Nat) : Option Exn :=
  match own with
  | some t0 => ownExn t0 a n
  | none => s.globalExn p c a n

/-- FETCH_ALIGN of a JALR or ERET (R85). -/
def fetchExn (k : Core) : ScalarOp → Option Exn
  | .jalr _ a imm =>
    let t := k.rs a + imm.signExtend 32
    if ptrBad t then some ⟨0x04, t.toNat⟩ else none
  | .eret => if ptrBad k.spec.epc then some ⟨0x04, k.spec.epc.toNat⟩ else none
  | .rr _ _ _ _ | .ri _ _ _ _ | .shi _ _ _ | .lui _ _ | .load _ _ _ _ | .store _ _ _ _ | .branch _ _ _ _ | .j _ | .jal _
  | .wide _ | .mfs _ _ | .mts _ _ | .trap _ | .halt => none

/-- The exceptions of a scalar instruction that its own rule names. A TRAP is its own exception (R94). -/
def scalarExn (s : State) (p c : Nat) (k : Core) : ScalarOp → Option Exn
  | .load o _ a imm => s.memExn p c o.own (memAddr o.own k a imm) o.size
  | .store o _ a imm => s.memExn p c o.own (memAddr o.own k a imm) o.size
  | .mfs _ n => if (s.specRead p c k n.toNat).isNone then some ⟨0x08, 0⟩ else none
  | .mts a n => if s.mtsBad p n.toNat (k.rs a) then some ⟨0x08, 0⟩ else none
  | .trap _ => some ⟨if k.spec.inTrap then 0x0C else 0x0B, 0⟩
  | .halt => if k.sync.sems.isEmpty then none else some exnSync
  | .rr _ _ _ _ | .ri _ _ _ _ | .shi _ _ _ | .lui _ _ | .branch _ _ _ _ | .j _ | .jal _ | .jalr _ _ _ | .wide _ | .eret => none

/-- The issue checks of a scalar instruction in the order of R92. -/
def scalarCheck (s : State) (p c : Nat) (k : Core) (op : ScalarOp) : Option Exn :=
  firstExn [k.poisonExn op.srcs, scalarExn s p c k op]

/-! ## Effects -/

/-- The physical address of a checked access outside space 4. -/
def State.accessPhys (s : State) (p c : Nat) (own : Option Bool) (a : Nat) : Nat :=
  match own with
  | some t0 => ownPhys t0 c a
  | none => s.physOf p a

/-- The value that a load writes, from the bytes read (R84). -/
def LdOp.extend (op : LdOp) (v : Nat) : Word :=
  match op with
  | .ldnH => (BitVec.ofNat 16 v).signExtend 32
  | .ldnB => (BitVec.ofNat 8 v).signExtend 32
  | _ => BitVec.ofNat 32 v

/-- Does an access reach the register pages? -/
def viaWindow (own : Option Bool) (a : Nat) : Bool := own.isNone && spaceOf a == 4

/-- A load: the register takes the value; uncorrectable data marks it poisoned with the address as issued (R93). -/
def State.scalarLoad (s : State) (p c : Nat) (op : LdOp) (rd : BitVec 5) (a : Nat) : State :=
  if viaWindow op.own a then s.onCore c (fun k => k.setS rd (BitVec.ofNat 32 (s.windowRead (field a 31 0) false)))
  else
    let x := s.accessPhys p c op.own a
    s.onCore c (fun k =>
      let k1 := k.setS rd (op.extend (s.readN x op.size))
      if rd ≠ 0 ∧ s.poisoned x op.size then k1.mark (codeS rd) a else k1)

/-- A store. -/
def State.scalarStore (s : State) (p c : Nat) (op : StOp) (w : Word) (a : Nat) : State :=
  if viaWindow op.own a then s.windowWrite (.coreCode c) none (field a 31 0) false w.toNat
  else s.writeN (s.accessPhys p c op.own a) op.size w.toNat

/-- What a scalar instruction does to registers and memory; `k` is the core as it stood at issue (R74). -/
def scalarEffect (s : State) (p c : Nat) (k : Core) (op : ScalarOp) : State :=
  match op with
  | .rr o d a b => s.onCore c (fun k' => k'.setS d (o.eval (k.rs a) (k.rs b)))
  | .ri o d a imm => s.onCore c (fun k' => k'.setS d (o.eval (k.rs a) imm))
  | .shi d a imm => s.onCore c (fun k' => k'.setS d (shiEval (k.rs a) imm))
  | .lui d imm => s.onCore c (fun k' => k'.setS d ((imm.zeroExtend 32) <<< 11))
  | .load o d a imm => s.scalarLoad p c o d (memAddr o.own k a imm)
  | .store o b a imm => s.scalarStore p c o (k.rs b) (memAddr o.own k a imm)
  | .jal _ => s.onCore c (fun k' => k'.setS 1 k.spec.ret)
  | .jalr d _ _ => s.onCore c (fun k' => k'.setS d k.spec.ret)
  | .mfs d n => s.onCore c (fun k' => (s.specLatch k' n.toNat).setS d ((s.specRead p c k n.toNat).getD 0))
  | .mts a n => s.onCore c (fun k' => mtsWrite k' n.toNat (k.rs a))
  | .eret => s.onCore c (fun k' => { k' with spec := { k'.spec with inTrap := false } })
  | .branch _ _ _ _ | .j _ | .wide _ | .trap _ | .halt => s

/-- Where a scalar instruction redirects to, none where it does not (R63, R83, R85). -/
def redirect (k : Core) : ScalarOp → Option (BitVec 20 × Bool)
  | .branch o a b off => if o.test (k.rs a) (k.rs b) then some (k.spec.jump off.toInt, k.spec.bundleMode) else none
  | .j off => some (k.spec.jump off.toInt, k.spec.bundleMode)
  | .jal off => some (k.spec.jump off.toInt, k.spec.bundleMode)
  | .jalr _ a imm => some (ptrTarget (k.rs a + imm.signExtend 32))
  | .wide off => some (wrapPc ((k.spec.pc.toNat / 64 * 64 : Nat) + 64 * off.toInt), true)
  | .eret => some (ptrTarget k.spec.epc)
  | .rr _ _ _ _ | .ri _ _ _ _ | .shi _ _ _ | .lui _ _ | .load _ _ _ _ | .store _ _ _ _ | .mfs _ _ | .mts _ _ | .trap _
  | .halt => none

end Sys2Proof.Machine
end

