-- ==== Sys2Proof/Machine/Special.lean ====
section
/-! DEFINITION. The special-function slot (R113, R114): what each operation reads, when it is illegal, its effect. -/
namespace Sys2Proof.Machine

/-- The table version an operation names: tver, or tver[7:2] for SNORM (R114). -/
def SfOp.version (op : SfOp) (f : SfFields) : Nat :=
  match op with
  | .snorm => f.tver.toNat / 4
  | _ => f.tver.toNat

/-- ILLEGAL_OP of a special-function operation (R114): an unlisted function, or a version not held. -/
def SfOp.illegal (op : SfOp) (f : SfFields) : Bool :=
  match op with
  | .snorm => !(verHeld (op.version f))
  | _ => !(fidListed f.fid.toNat) || !(verHeld (op.version f))

/-- Registers an operation reads (Table 4.7): SDER takes the saved output or the saved input as its function says. -/
def SfOp.srcs (op : SfOp) (f : SfFields) : List Nat :=
  match op with
  | .sfn => [codeV f.va]
  | .sfnb => [codeV f.va, codeV f.vb]
  | .sfnbs => [codeV f.va, codeV f.vb, codeV f.vc]
  | .sder => if sderFromInput f.fid.toNat then [codeV f.vb, codeV f.vc] else [codeV f.va, codeV f.vb]
  | .snorm => if f.tver.getLsbD 0 then [codeV f.va, codeV f.vb] else [codeV f.va]

/-- The result of one lane (Table 4.7). -/
def SfOp.lane (op : SfOp) (f : SfFields) (a b c : Word) : Word × Flags :=
  let fid := f.fid.toNat
  match op with
  | .sfn => sfEval fid a
  | .sfnb => Sys2Proof.Machine.sfnb fid a b
  | .sfnbs => Sys2Proof.Machine.sfnbs fid a b c
  | .sder => Sys2Proof.Machine.sder fid a b c
  | .snorm => if f.tver.getLsbD 0 then snormBoxMuller (f.tver.getLsbD 1) a b else snormTable a

/-- The effect of a special-function operation of core `c`, whose registers stood as in `k`. -/
def sfEffect (s : State) (c : Nat) (k : Core) (op : SfOp) (f : SfFields) : State :=
  s.putLanes c (k.enabled f.psel f.pinv) f.vd (fun i =>
    op.lane f ((k.vr f.va)[i.val]'i.isLt) ((k.vr f.vb)[i.val]'i.isLt) ((k.vr f.vc)[i.val]'i.isLt))

end Sys2Proof.Machine
end

