-- ==== Sys2Proof/Machine/Issue.lean ====
section
/-! DEFINITION. Issue (R73-R79, R86, R88): an instruction or bundle is decoded, checked and takes effect whole, stalls whole,
or raises one exception (R92-R95). -/
namespace Sys2Proof.Machine

/-! ## The slots -/

/-- ILLEGAL_OP of a slot beyond its encoding. `n` is its number in slot_valid order, 15 in scalar mode. -/
def slotIllegal (k : Core) (n : Nat) : SlotOp → Bool
  | .scalar o => o.illegal k || (n == 0 && o.control)
  | .mat o f => matIllegal k o f
  | .vec o f => o.illegal f
  | .sf o f => o.illegal f
  | .mv o f => mvIllegal k o f
  | .sy o f => o.illegal f

/-- Codes of the registers a slot writes. -/
def SlotOp.dests : SlotOp → List Nat
  | .scalar o => o.dests
  | .mat .mldw _ => [codeBlock]
  | .mat _ f => [codeA f.ad]
  | .vec o f => o.dests f
  | .sf _ f => [codeV f.vd]
  | .mv (.accld _) f => [codeA f.tile]
  | .mv _ _ => []
  | .sy o f => o.dests f

/-- Codes of the tiles a slot reads or writes. -/
def SlotOp.tiles : SlotOp → List Nat
  | .mat .mldw _ => []
  | .mat _ f => [codeA f.ad]
  | .vec o f => (o.srcs f ++ o.dests f).filter (fun c => decide (128 ≤ c))
  | .mv (.accld _) f => [codeA f.tile]
  | .mv (.accst _) f => [codeA f.tile]
  | _ => []

/-- The issue checks of a slot in the order of R92; a wait raises the error it covers (R93). -/
def slotCheck (s : State) (p c : Nat) (k : Core) : SlotOp → Option Exn
  | .scalar o => scalarCheck s p c k o
  | .mat o f => matCheck k o f
  | .vec o f => vecCheck k o f
  | .sf o f => k.poisonExn (o.srcs f)
  | .mv o f => mvCheck s p c k o f
  | .sy o f => firstExn [syCheck s p k o f, syErr k o f]

/-- Does a special-function slot read a function table (R172)? -/
def readsTable (o : SfOp) (f : SfFields) : Bool := o != .snorm || f.tver.getLsbD 0

/-- A table read that failed its ROM check (R172): the destination is poisoned, with no memory address, and the partition
raises SFTAB_ROM_ERROR. -/
def State.romError (s : State) (p c : Nat) (o : SfOp) (f : SfFields) : State :=
  (s.onCore c (fun k => k.mark (codeV f.vd) 0)).raise 0x0340 p 0
    (s.logical p c * 2 ^ 16 + f.fid.toNat * 2 ^ 8 + max 1 (o.version f))

/-- The effect of a slot; `rom` says that a table read of the special-function slot fails its check. -/
def slotEffect (rom : Bool) (p c : Nat) (k : Core) (s : State) : SlotOp → State
  | .scalar o => scalarEffect s p c k o
  | .mat o f => matEffect s p c k o f
  | .vec o f => vecEffect s p c k o f
  | .sf o f =>
    let t := sfEffect s c k o f
    if rom && readsTable o f && k.enabled f.psel f.pinv != 0 then t.romError p c o f else t
  | .mv o f => mvEffect s p c k o f
  | .sy o f => syEffect s p c k o f

/-! ## Exceptions -/

/-- The work after a TIER_LATE (R211): a task of a decode step takes its step with it, any other ends alone. -/
def State.tierLate (s : State) (p c : Nat) (t : TaskRec) : State :=
  let s1 := if t.queue.isNone && s.generating p then s.abandonStep p else s.endTask p c stTierLate
  s1.bump Reg.TIER.LATE.late p 1

/-- Set CAUSE, EPC and FADDR (R92). -/
def Core.setCause (k : Core) (trapNo slot : Nat) (e : Exn) (epc : Word) : Core :=
  { k with spec := { k.spec with cause := causeWord trapNo slot e.code, epc := epc, faddr := BitVec.ofNat 64 e.addr } }

/-- Enter the trap handler (R94). -/
def Core.enterTrap (k : Core) : Core :=
  let t := ptrTarget k.spec.evec
  { k with spec := { k.spec with inTrap := true, pc := t.1, bundleMode := t.2 } }

/-- Raise an exception of core `c` (R92-R95): every operation issued before completes, the cause is recorded, and a TRAP with
a handler enters it; any other ends the task with a fault record. -/
def State.raiseExn (s : State) (p c trapNo slot : Nat) (e : Exn) (exit : Bool) : State :=
  match (s.core c).task with
  | none => s
  | some t =>
    let k := s.core c
    let enters := e.code == 0x0B && k.spec.evec != 0
    let nxt := k.spec.after exit
    let epc := if e.code = 0x0B then codePtr nxt.1 nxt.2 else codePtr k.spec.pc k.spec.bundleMode
    let s1 := (s.drainCore p c).onCore c (fun k => k.setCause trapNo slot e epc)
    if enters then s1.onCore c (fun k => { k.enterTrap with sync := { k.sync with stall := none } })
    else
      let s2 := s1.exnRecord p c t
      if e.code = 0x0A then s2.tierLate p c t else s2.endTask p c e.code

/-- An exception that no slot raises: CAUSE.slot is a free value. -/
def State.raiseWhole (s : State) (p c : Nat) (e : Exn) (exit : Bool) : State :=
  ({ s with free := s.free + 1 }).raiseExn p c 0 ((Config.freeWord s.free).toNat % 16) e exit

/-! ## Issue -/

/-- Is the task held: its grace is over and SEM_HELD is 0, so that its full save is due before anything issues (R358)? -/
def Core.awaitsFullSave (k : Core) : Bool :=
  match k.preempt with
  | some x => x.graceOver && k.sync.sems.isEmpty
  | none => false

/-- Do two slots name one destination (R77)? s0 and p0 are excepted (R71). -/
def conflict (ops : List SlotOp) : Bool :=
  let ds := (ops.flatMap SlotOp.dests).filter (fun c => c != 0 && c != 32)
  decide (ds.eraseDups.length < ds.length)

/-- The tiles that queued ACCLDs will load (R122). -/
def Core.pendingTiles (k : Core) : List Nat :=
  k.sync.moves.filterMap (fun m => match m.op with | .accld _ => some (128 + m.tile) | _ => none)

/-- Stalls on the move queue or on a pending tile (R78, R122). -/
def resourceStall (k : Core) (ops : List SlotOp) : Bool :=
  (decide (16 ≤ k.sync.moves.length) && ops.any (fun o => match o with | .mv _ _ => true | _ => false)) ||
  ops.any (fun o => o.tiles.any (fun c => k.pendingTiles.contains c))

/-- The wait of the sync slot that is not satisfied. -/
def waitOf (s : State) (p : Nat) (k : Core) (ops : List SlotOp) : Option (Wait × Nat) :=
  ops.findSome? (fun o => match o with
    | .sy op f => (syStall s p k op f).map (fun w => (w, (k.rs f.rs).toNat))
    | _ => none)

/-- The trap number of a slot. -/
def SlotOp.trapNo : SlotOp → Nat
  | .scalar (.trap n) => n.toNat
  | _ => 0

/-- Where fetch continues (R69): a taken branch or jump takes precedence over exit. -/
def nextFetch (k : Core) (slots : List (Nat × SlotOp)) (exit : Bool) : BitVec 20 × Bool :=
  (slots.findSome? (fun x => match x.2 with | .scalar o => redirect k o | _ => none)).getD (k.spec.after exit)

/-- Does a HALT issue? -/
def halts (slots : List (Nat × SlotOp)) : Bool := slots.any (fun x => x.2 == .scalar .halt)

/-- The operations take effect together (R73, R74): each slot in slot_valid order on the operands read at issue, then the
program counter; a HALT ends the task (R95). -/
def State.perform (s : State) (p c : Nat) (slots : List (Nat × SlotOp)) (exit rom : Bool) : State :=
  let k := s.core c
  let t := nextFetch k slots exit
  let s1 := slots.foldl (fun u x => slotEffect rom p c k u x.2) s
  let s2 := s1.onCore c (fun k' =>
    { k' with spec := { k'.spec with pc := t.1, bundleMode := t.2 }, sync := { k'.sync with stall := none } })
  if halts slots then s2.endTask p c stComplete else s2

/-- Decoded and legal operations reach issue: stalls of resources, then the checks of each slot, then the wait of the sync
slot, then the effects (R78, R92). -/
def State.issue (s : State) (p c : Nat) (slots : List (Nat × SlotOp)) (exit rom : Bool) : State :=
  let k := s.core c
  let ops := slots.map Prod.snd
  if resourceStall k ops then s
  else match slots.findSome? (fun x => (slotCheck s p c k x.2).map (fun e => (x, e))) with
    | some (x, e) => s.raiseExn p c x.2.trapNo x.1 e exit
    | none => match waitOf s p k ops with
      | some (w, n) => (s.arrive p k w n).onCore c (fun k => { k with sync := { k.sync with stall := some w } })
      | none => s.perform p c slots exit rom

/-- FETCH_ALIGN of an operation. -/
def fetchOf (k : Core) : SlotOp → Option Exn
  | .scalar o => fetchExn k o
  | _ => none

/-- FETCH_ALIGN, then ILLEGAL_OP, BUNDLE_CONFLICT and CHEAP_POINT_HELD (R88, R92); what is legal goes on to issue. `bad` says
that decoding failed at a slot, or for the bundle as a whole; `cheap` that the bundle's mark is in force. -/
def State.decoded (s : State) (p c : Nat) (slots : List (Nat × SlotOp)) (bad : Option (Option Nat)) (cheap exit rom : Bool) :
    State :=
  let k := s.core c
  match slots.findSome? (fun x => (fetchOf k x.2).map (fun e => (x.1, e))) with
  | some (n, e) => s.raiseExn p c 0 n e exit
  | none => match bad with
    | some (some n) => s.raiseExn p c 0 n ⟨0x01, 0⟩ exit
    | some none => s.raiseWhole p c ⟨0x01, 0⟩ exit
    | none =>
      if conflict (slots.map Prod.snd) then s.raiseWhole p c ⟨0x02, 0⟩ exit
      else if cheap && !k.sync.sems.isEmpty then s.raiseWhole p c ⟨0x03, 0⟩ exit
      else s.issue p c slots exit rom

/-- Run `f` for the task of a core; a core without a task, or one that awaits its full save, issues nothing. -/
def State.ofTask (s : State) (c : Nat) (f : Nat → State) : State :=
  let k := s.core c
  match s.partOf c with
  | none => s
  | some p => if k.task.isNone || k.awaitsFullSave then s else f p

/-- The slot that an operation takes when it issues alone in bundle mode. -/
def SlotOp.slot : SlotOp → Nat
  | .scalar o => if o.control then 1 else 0
  | .mat _ _ => 2
  | .vec _ _ => 3
  | .sf _ _ => 5
  | .mv _ _ => 6
  | .sy _ _ => 7

/-- The number of the slot in which an operation given alone issues: 15 for a scalar instruction in scalar mode. -/
def issueSlot (k : Core) (o : SlotOp) : Nat :=
  match o with
  | .scalar _ => if k.spec.bundleMode then o.slot else 15
  | _ => o.slot

/-- One operation issues alone: a scalar instruction in scalar mode, else a bundle of one slot. -/
def State.runOne (s : State) (c : Nat) (rom : Bool) (o : SlotOp) : State :=
  s.ofTask c (fun p =>
    let n := issueSlot (s.core c) o
    s.decoded p c [(n, o)] (if slotIllegal (s.core c) n o then some (some n) else none) false false rom)

/-- The command of one operation of a core. -/
def runOp (c : Nat) (o : SlotOp) (s : State) : Res := onCoreId c (.next (s.runOne c false o))

/-- The command of one operation whose table read may fail. -/
def runSf (c : Nat) (rom : Bool) (o : SfOp) (f : SfFields) (s : State) : Res := onCoreId c (.next (s.runOne c rom (.sf o f)))

/-- A bundle as its slots decode (R65-R68): reserved bits, then the first slot that is not legal. -/
def State.runDecoded (s : State) (p c w : Nat) (rom : Bool) : State :=
  let k := s.core c
  let exit := bit w 30
  let valid := (decSlots w).filter (fun x => bit w (29 - x.1))
  let slots := valid.filterMap (fun x => (x.2.bind id).map (fun o => (x.1, o)))
  let bad := valid.find? (fun x => match x.2 with
    | none => true
    | some none => false
    | some (some o) => slotIllegal k x.1 o)
  s.decoded p c slots (if field w 511 496 ≠ 0 then some none else bad.map (fun x => some x.1)) (k.cheapHere (BitVec.ofNat 32 w)) exit rom

/-- A bundle reaches issue (R73): at a cheap point it waits for a preemption that is pending (R86) or raises CHEAP_POINT_HELD
(R88); the marks are ignored in a trap handler and in PX8 mode (R89). -/
def State.runBundle (s : State) (c w : Nat) (rom : Bool) : State :=
  s.ofTask c (fun p =>
    let k := s.core c
    if !k.spec.bundleMode then s
    else if k.cheapHere (BitVec.ofNat 32 w) && k.sync.sems.isEmpty && k.preempt.isSome then
      s.onCore c (fun k => { k with sync := { k.sync with stall := some .drain } })
    else s.runDecoded p c w rom)

/-- BUNDLE. -/
def execBundle (core : Nat) (rom : Bool) (w : BitVec 512) (s : State) : Res := onCoreId core (.next (s.runBundle core w.toNat rom))

/-! ## The outside of a core: moves, messages, the watchdog -/

/-- Those of `as` inside one of the ranges `rs`. -/
def insideRanges (rs : List (Nat × Nat)) (as : List Nat) : List Nat :=
  as.filter (fun a => rs.any (fun r => decide (r.1 ≤ a) && decide (a < r.1 + r.2)))

/-- MOVE_COMPLETE (R122): one of the four oldest moves of a core completes; `ue` names addresses of its source whose words
turn out uncorrectable, each an error that TIER.UE counts (R212). -/
def State.moveLands (s : State) (c i : Nat) (ue : List Nat) : State :=
  match s.partOf c, (s.core c).sync.moves[i]? with
  | some p, some m =>
    if 3 < i then s
    else
      let bad := insideRanges m.srcRanges ue
      let s1 := bad.foldl (fun t a => t.poisonRange (s.physOf p a) 1) s
      (if bad.isEmpty then s1 else s1.bump Reg.TIER.UE.ue p bad.length).finishMove p c i
  | _, _ => s

/-- MOVE_COMPLETE. -/
def execMoveComplete (core : Nat) (i : Nat) (ue : List Nat) (s : State) : Res := onCoreId core (.next (s.moveLands core i ue))

/-- Message `i` of those on their way reaches its receive queue (R129); an Idle partition wakes (R448). -/
def State.receive (s : State) (p i : Nat) : State :=
  match (s.part p).sched.flights[i]? with
  | none => s
  | some x =>
    match s.physical p x.dest with
    | none => s
    | some c =>
      let s1 := (s.onSched p (fun d => { d with flights := d.flights.eraseIdx i })).onCore c
        (fun k => { k with sync := { k.sync with rxq := k.sync.rxq ++ [x.msg] } })
      if s.get Reg.PARTITION.STATE.power p = 1 then s1.wakeUp p else s1

/-- MESSAGE_RECEIVE. -/
def execMessageReceive (pid : Nat) (i : Nat) (s : State) : Res := onPid pid (.next (s.receive pid i))

/-- Does a move read T1 or T2 (R210)? -/
def MoveRec.slow (m : MoveRec) : Bool := m.op.readsRows && (spaceOf m.src.toNat == 1 || spaceOf m.src.toNat == 2)

/-- Free bytes into a list of ranges. -/
def State.freeRanges (s : State) (p : Nat) (rs : List (Nat × Nat)) : State :=
  rs.foldl (fun t r => let x := t.freeBytes r.2; x.2.writeBytes (s.physOf p r.1) x.1) s

/-- A tile of free values. -/
def State.freeTile (s : State) (c : Nat) (a : BitVec 3) : State :=
  ({ s with free := s.free + 4096 }).onCore c (fun k =>
    k.setTile a (Vector.ofFn (fun i => Vector.ofFn (fun j => Config.freeWord (s.free + 64 * i.val + j.val)))))

/-- A late move ends with its destination undefined (R210): free values, its error kept for what covers it. -/
def State.moveLate (s : State) (p c i : Nat) (m : MoveRec) : State :=
  let s1 := match m.op with
    | .accld _ => s.freeTile c (BitVec.ofNat 3 m.tile)
    | _ => s.freeRanges p m.dstRanges
  s1.onCore c (fun k =>
    let k1 := { k with sync := { k.sync with moves := k.sync.moves.eraseIdx i, errs := k.sync.errs ++ [⟨m.grp, m.flag, 0x0A, 0⟩] } }
    match m.flag with
    | some n => k1.setFlag n .landed
    | none => k1)

/-- Does the core stand in a WAITARR at an ARMED flag? -/
def Core.standsArmed (k : Core) : Bool :=
  match k.sync.stall with
  | some (.arrival n) => k.flag n == .armed
  | _ => false

/-- The watchdog of a core expires (R210): a WAITARR that stands at an ARMED flag raises TIER_LATE; else the oldest move
that reads T1 or T2 ends, and TIER_LATE is raised at once where the core is draining for a preemption. -/
def State.tierWatchdog (s : State) (c : Nat) : State :=
  match s.partOf c with
  | none => s
  | some p =>
    if (s.core c).standsArmed then s.raiseExn p c 0 7 ⟨0x0A, 0⟩ false
    else match (s.core c).sync.moves.zipIdx.find? (fun x => x.1.slow) with
      | none => s
      | some (m, i) =>
        let s1 := s.moveLate p c i m
        if (s.core c).sync.stall = some .drain then s1.raiseWhole p c ⟨0x0A, 0⟩ false else s1

/-- TIER_WATCHDOG_EXPIRY. -/
def execTierWatchdogExpiry (core : Nat) (s : State) : Res := onCoreId core (.next (s.tierWatchdog core))

end Sys2Proof.Machine
end

