-- ==== Sys2Proof/Machine/CoreArray.lean ====
section
/-! DEFINITION. The commands of the matrix slot (R102-R108): each issues its operation alone, in the mode the core is in. -/
namespace Sys2Proof.Machine

/-- MLDW (R137). -/
def execMldw (core : Nat) (f : MFields) (s : State) : Res := runOp core (.mat .mldw f) s

/-- MPASS (R136). -/
def execMpass (core : Nat) (f : MFields) (s : State) : Res := runOp core (.mat .mpass f) s

/-- MZERO (R140). -/
def execMzero (core : Nat) (f : MFields) (s : State) : Res := runOp core (.mat .mzero f) s

end Sys2Proof.Machine
end

