-- ==== Sys2Proof/Machine/CoreMove.lean ====
section
/-! DEFINITION. The commands of the move slot (R115-R123): each issues its operation alone, in the mode the core is in. -/
namespace Sys2Proof.Machine

/-- XFER_ROWS (R116). -/
def execXferRows (core : Nat) (f : MvFields) (s : State) : Res := runOp core (.mv .rows f) s

/-- XFER_TRANSPOSE (R117). -/
def execXferTranspose (core : Nat) (f : MvFields) (s : State) : Res := runOp core (.mv .transpose f) s

/-- XFER_CONVERT (R152). -/
def execXferConvert (core : Nat) (f : MvFields) (s : State) : Res := runOp core (.mv .convert f) s

/-- XFER_CONVERT_TRANSPOSE (R116). -/
def execXferConvertTranspose (core : Nat) (f : MvFields) (s : State) : Res := runOp core (.mv .convertTranspose f) s

/-- XFER_FILL (R116). -/
def execXferFill (core : Nat) (f : MvFields) (s : State) : Res := runOp core (.mv .fill f) s

/-- RACC (R119). -/
def execRacc (core : Nat) (f : MvFields) (s : State) : Res := runOp core (.mv .racc f) s

/-- ATOM_ADD32 (R120). -/
def execAtomAdd32 (core : Nat) (f : MvFields) (s : State) : Res := runOp core (.mv (.atom 0) f) s

/-- ATOM_ADD64 (R120). -/
def execAtomAdd64 (core : Nat) (f : MvFields) (s : State) : Res := runOp core (.mv (.atom 1) f) s

/-- ATOM_SWAP32 (R120). -/
def execAtomSwap32 (core : Nat) (f : MvFields) (s : State) : Res := runOp core (.mv (.atom 2) f) s

/-- ATOM_SWAP64 (R120). -/
def execAtomSwap64 (core : Nat) (f : MvFields) (s : State) : Res := runOp core (.mv (.atom 3) f) s

/-- ATOM_CAS32 (R120). -/
def execAtomCas32 (core : Nat) (f : MvFields) (s : State) : Res := runOp core (.mv (.atom 4) f) s

/-- ATOM_CAS64 (R120). -/
def execAtomCas64 (core : Nat) (f : MvFields) (s : State) : Res := runOp core (.mv (.atom 5) f) s

/-- ATOM_MAXS32 (R120). -/
def execAtomMaxs32 (core : Nat) (f : MvFields) (s : State) : Res := runOp core (.mv (.atom 6) f) s

/-- ATOM_MINS32 (R120). -/
def execAtomMins32 (core : Nat) (f : MvFields) (s : State) : Res := runOp core (.mv (.atom 7) f) s

/-- ACCST (R122). -/
def execAccst (core : Nat) (mode : BitVec 4) (f : MvFields) (s : State) : Res := runOp core (.mv (.accst mode.toNat) f) s

/-- ACCLD (R122). -/
def execAccld (core : Nat) (mode : BitVec 4) (f : MvFields) (s : State) : Res := runOp core (.mv (.accld mode.toNat) f) s

end Sys2Proof.Machine
end

