-- ==== Sys2Proof/Machine/CoreScalar.lean ====
section
/-! DEFINITION. The commands of the scalar instructions (R81-R85, R94, R95): each issues its operation alone, in the mode the core is in. -/
namespace Sys2Proof.Machine

/-- ADD (R84). -/
def execAdd (core : Nat) (rd rs1 rs2 : BitVec 5) (s : State) : Res := runOp core (.scalar (.rr .add rd rs1 rs2)) s

/-- SUB (R84). -/
def execSub (core : Nat) (rd rs1 rs2 : BitVec 5) (s : State) : Res := runOp core (.scalar (.rr .sub rd rs1 rs2)) s

/-- AND (R82). -/
def execAnd (core : Nat) (rd rs1 rs2 : BitVec 5) (s : State) : Res := runOp core (.scalar (.rr .and rd rs1 rs2)) s

/-- OR (R82). -/
def execOr (core : Nat) (rd rs1 rs2 : BitVec 5) (s : State) : Res := runOp core (.scalar (.rr .or rd rs1 rs2)) s

/-- XOR (R82). -/
def execXor (core : Nat) (rd rs1 rs2 : BitVec 5) (s : State) : Res := runOp core (.scalar (.rr .xor rd rs1 rs2)) s

/-- SLL (R84). -/
def execSll (core : Nat) (rd rs1 rs2 : BitVec 5) (s : State) : Res := runOp core (.scalar (.rr .sll rd rs1 rs2)) s

/-- SRL (R84). -/
def execSrl (core : Nat) (rd rs1 rs2 : BitVec 5) (s : State) : Res := runOp core (.scalar (.rr .srl rd rs1 rs2)) s

/-- SRA (R84). -/
def execSra (core : Nat) (rd rs1 rs2 : BitVec 5) (s : State) : Res := runOp core (.scalar (.rr .sra rd rs1 rs2)) s

/-- SLT (R82). -/
def execSlt (core : Nat) (rd rs1 rs2 : BitVec 5) (s : State) : Res := runOp core (.scalar (.rr .slt rd rs1 rs2)) s

/-- SLTU (R82). -/
def execSltu (core : Nat) (rd rs1 rs2 : BitVec 5) (s : State) : Res := runOp core (.scalar (.rr .sltu rd rs1 rs2)) s

/-- MIN (R82). -/
def execMin (core : Nat) (rd rs1 rs2 : BitVec 5) (s : State) : Res := runOp core (.scalar (.rr .min rd rs1 rs2)) s

/-- MAX (R82). -/
def execMax (core : Nat) (rd rs1 rs2 : BitVec 5) (s : State) : Res := runOp core (.scalar (.rr .max rd rs1 rs2)) s

/-- MINU (R82). -/
def execMinu (core : Nat) (rd rs1 rs2 : BitVec 5) (s : State) : Res := runOp core (.scalar (.rr .minu rd rs1 rs2)) s

/-- MAXU (R82). -/
def execMaxu (core : Nat) (rd rs1 rs2 : BitVec 5) (s : State) : Res := runOp core (.scalar (.rr .maxu rd rs1 rs2)) s

/-- CLZ (R84). -/
def execClz (core : Nat) (rd rs1 rs2 : BitVec 5) (s : State) : Res := runOp core (.scalar (.rr .clz rd rs1 rs2)) s

/-- POPC (R82). -/
def execPopc (core : Nat) (rd rs1 rs2 : BitVec 5) (s : State) : Res := runOp core (.scalar (.rr .popc rd rs1 rs2)) s

/-- MUL (R84). -/
def execMul (core : Nat) (rd rs1 rs2 : BitVec 5) (s : State) : Res := runOp core (.scalar (.rr .mul rd rs1 rs2)) s

/-- MULH (R82). -/
def execMulh (core : Nat) (rd rs1 rs2 : BitVec 5) (s : State) : Res := runOp core (.scalar (.rr .mulh rd rs1 rs2)) s

/-- MULHU (R82). -/
def execMulhu (core : Nat) (rd rs1 rs2 : BitVec 5) (s : State) : Res := runOp core (.scalar (.rr .mulhu rd rs1 rs2)) s

/-- DIV (R84). -/
def execDiv (core : Nat) (rd rs1 rs2 : BitVec 5) (s : State) : Res := runOp core (.scalar (.rr .div rd rs1 rs2)) s

/-- DIVU (R84). -/
def execDivu (core : Nat) (rd rs1 rs2 : BitVec 5) (s : State) : Res := runOp core (.scalar (.rr .divu rd rs1 rs2)) s

/-- REM (R84). -/
def execRem (core : Nat) (rd rs1 rs2 : BitVec 5) (s : State) : Res := runOp core (.scalar (.rr .rem rd rs1 rs2)) s

/-- REMU (R84). -/
def execRemu (core : Nat) (rd rs1 rs2 : BitVec 5) (s : State) : Res := runOp core (.scalar (.rr .remu rd rs1 rs2)) s

/-- ADDI (R82). -/
def execAddi (core : Nat) (rd rs1 : BitVec 5) (imm : BitVec 16) (s : State) : Res :=
  runOp core (.scalar (.ri .addi rd rs1 imm)) s

/-- ANDI (R82). -/
def execAndi (core : Nat) (rd rs1 : BitVec 5) (imm : BitVec 16) (s : State) : Res :=
  runOp core (.scalar (.ri .andi rd rs1 imm)) s

/-- ORI (R82). -/
def execOri (core : Nat) (rd rs1 : BitVec 5) (imm : BitVec 16) (s : State) : Res :=
  runOp core (.scalar (.ri .ori rd rs1 imm)) s

/-- XORI (R82). -/
def execXori (core : Nat) (rd rs1 : BitVec 5) (imm : BitVec 16) (s : State) : Res :=
  runOp core (.scalar (.ri .xori rd rs1 imm)) s

/-- SLTI (R82). -/
def execSlti (core : Nat) (rd rs1 : BitVec 5) (imm : BitVec 16) (s : State) : Res :=
  runOp core (.scalar (.ri .slti rd rs1 imm)) s

/-- SLTIU (R82). -/
def execSltiu (core : Nat) (rd rs1 : BitVec 5) (imm : BitVec 16) (s : State) : Res :=
  runOp core (.scalar (.ri .sltiu rd rs1 imm)) s

/-- SHI (R82). -/
def execShi (core : Nat) (rd rs1 : BitVec 5) (imm : BitVec 16) (s : State) : Res := runOp core (.scalar (.shi rd rs1 imm)) s

/-- LUI (R82). -/
def execLui (core : Nat) (rd : BitVec 5) (imm : BitVec 21) (s : State) : Res := runOp core (.scalar (.lui rd imm)) s

/-- LDN_W (R83). -/
def execLdnW (core : Nat) (rd rs1 : BitVec 5) (imm : BitVec 16) (s : State) : Res :=
  runOp core (.scalar (.load .ldnW rd rs1 imm)) s

/-- LDN_H (R84). -/
def execLdnH (core : Nat) (rd rs1 : BitVec 5) (imm : BitVec 16) (s : State) : Res :=
  runOp core (.scalar (.load .ldnH rd rs1 imm)) s

/-- LDN_HU (R84). -/
def execLdnHu (core : Nat) (rd rs1 : BitVec 5) (imm : BitVec 16) (s : State) : Res :=
  runOp core (.scalar (.load .ldnHu rd rs1 imm)) s

/-- LDN_B (R84). -/
def execLdnB (core : Nat) (rd rs1 : BitVec 5) (imm : BitVec 16) (s : State) : Res :=
  runOp core (.scalar (.load .ldnB rd rs1 imm)) s

/-- LDN_BU (R84). -/
def execLdnBu (core : Nat) (rd rs1 : BitVec 5) (imm : BitVec 16) (s : State) : Res :=
  runOp core (.scalar (.load .ldnBu rd rs1 imm)) s

/-- LDT_W (R83). -/
def execLdtW (core : Nat) (rd rs1 : BitVec 5) (imm : BitVec 16) (s : State) : Res :=
  runOp core (.scalar (.load .ldtW rd rs1 imm)) s

/-- LDG_W (R83). -/
def execLdgW (core : Nat) (rd rs1 : BitVec 5) (imm : BitVec 16) (s : State) : Res :=
  runOp core (.scalar (.load .ldgW rd rs1 imm)) s

/-- STN_W (R83). -/
def execStnW (core : Nat) (rs2 rs1 : BitVec 5) (imm : BitVec 16) (s : State) : Res :=
  runOp core (.scalar (.store .stnW rs2 rs1 imm)) s

/-- STN_H (R83). -/
def execStnH (core : Nat) (rs2 rs1 : BitVec 5) (imm : BitVec 16) (s : State) : Res :=
  runOp core (.scalar (.store .stnH rs2 rs1 imm)) s

/-- STN_B (R83). -/
def execStnB (core : Nat) (rs2 rs1 : BitVec 5) (imm : BitVec 16) (s : State) : Res :=
  runOp core (.scalar (.store .stnB rs2 rs1 imm)) s

/-- STT_W (R83). -/
def execSttW (core : Nat) (rs2 rs1 : BitVec 5) (imm : BitVec 16) (s : State) : Res :=
  runOp core (.scalar (.store .sttW rs2 rs1 imm)) s

/-- STG_W (R83). -/
def execStgW (core : Nat) (rs2 rs1 : BitVec 5) (imm : BitVec 16) (s : State) : Res :=
  runOp core (.scalar (.store .stgW rs2 rs1 imm)) s

/-- BEQ (R85). -/
def execBeq (core : Nat) (rs1 rs2 : BitVec 5) (off : BitVec 16) (s : State) : Res :=
  runOp core (.scalar (.branch .beq rs1 rs2 off)) s

/-- BNE (R85). -/
def execBne (core : Nat) (rs1 rs2 : BitVec 5) (off : BitVec 16) (s : State) : Res :=
  runOp core (.scalar (.branch .bne rs1 rs2 off)) s

/-- BLT (R85). -/
def execBlt (core : Nat) (rs1 rs2 : BitVec 5) (off : BitVec 16) (s : State) : Res :=
  runOp core (.scalar (.branch .blt rs1 rs2 off)) s

/-- BGE (R85). -/
def execBge (core : Nat) (rs1 rs2 : BitVec 5) (off : BitVec 16) (s : State) : Res :=
  runOp core (.scalar (.branch .bge rs1 rs2 off)) s

/-- BLTU (R85). -/
def execBltu (core : Nat) (rs1 rs2 : BitVec 5) (off : BitVec 16) (s : State) : Res :=
  runOp core (.scalar (.branch .bltu rs1 rs2 off)) s

/-- BGEU (R85). -/
def execBgeu (core : Nat) (rs1 rs2 : BitVec 5) (off : BitVec 16) (s : State) : Res :=
  runOp core (.scalar (.branch .bgeu rs1 rs2 off)) s

/-- J (R85). -/
def execJ (core : Nat) (off : BitVec 26) (s : State) : Res := runOp core (.scalar (.j off)) s

/-- JAL (R63). -/
def execJal (core : Nat) (off : BitVec 26) (s : State) : Res := runOp core (.scalar (.jal off)) s

/-- JALR (R63). -/
def execJalr (core : Nat) (rd rs1 : BitVec 5) (imm : BitVec 16) (s : State) : Res := runOp core (.scalar (.jalr rd rs1 imm)) s

/-- WIDE (R63). -/
def execWide (core : Nat) (off : BitVec 26) (s : State) : Res := runOp core (.scalar (.wide off)) s

/-- MFS (R72). -/
def execMfs (core : Nat) (rd : BitVec 5) (spec : BitVec 12) (s : State) : Res := runOp core (.scalar (.mfs rd spec)) s

/-- MTS (R72). -/
def execMts (core : Nat) (rs1 : BitVec 5) (spec : BitVec 12) (s : State) : Res := runOp core (.scalar (.mts rs1 spec)) s

/-- TRAP (R94). -/
def execTrap (core : Nat) (n : BitVec 12) (s : State) : Res := runOp core (.scalar (.trap n)) s

/-- ERET (R94). -/
def execEret (core : Nat) (s : State) : Res := runOp core (.scalar .eret) s

/-- HALT (R95). -/
def execHalt (core : Nat) (s : State) : Res := runOp core (.scalar .halt) s

end Sys2Proof.Machine
end

