-- ==== Sys2Proof/Machine/CoreSf.lean ====
section
/-! DEFINITION. The commands of the special-function slot (R113, R114): each issues its operation alone, in the mode the core is in. -/
namespace Sys2Proof.Machine

/-- SFN (R166). -/
def execSfn (core : Nat) (rom : Bool) (f : SfFields) (s : State) : Res := runSf core rom .sfn f s

/-- SFNB (R174). -/
def execSfnb (core : Nat) (rom : Bool) (f : SfFields) (s : State) : Res := runSf core rom .sfnb f s

/-- SFNBS (R174). -/
def execSfnbs (core : Nat) (rom : Bool) (f : SfFields) (s : State) : Res := runSf core rom .sfnbs f s

/-- SDER (R175). -/
def execSder (core : Nat) (rom : Bool) (f : SfFields) (s : State) : Res := runSf core rom .sder f s

/-- SNORM_TABLE (R191). -/
def execSnormTable (core : Nat) (f : SfFields) (s : State) : Res :=
  runSf core false .snorm { f with tver := f.tver &&& 0xFE#8 } s

/-- SNORM_BOX_MULLER (R192). -/
def execSnormBoxMuller (core : Nat) (rom : Bool) (f : SfFields) (s : State) : Res :=
  runSf core rom .snorm { f with tver := f.tver ||| 1#8 } s

end Sys2Proof.Machine
end

