-- ==== Sys2Proof/Machine/CoreSync.lean ====
section
/-! DEFINITION. The commands of the sync slot (R124-R130): each issues its operation alone, in the mode the core is in. -/
namespace Sys2Proof.Machine

/-- MWAIT (R124). -/
def execMwait (core : Nat) (f : SyFields) (s : State) : Res := runOp core (.sy .mwait f) s

/-- FENCE_LOCAL (R124). -/
def execFenceLocal (core : Nat) (f : SyFields) (s : State) : Res :=
  runOp core (.sy .fenceLocal { f with imm := f.imm &&& 0xFFFE#16 }) s

/-- FENCE_GLOBAL (R124). -/
def execFenceGlobal (core : Nat) (f : SyFields) (s : State) : Res :=
  runOp core (.sy .fenceGlobal { f with imm := f.imm ||| 1#16 }) s

/-- SEND (R129). -/
def execSend (core : Nat) (f : SyFields) (s : State) : Res := runOp core (.sy .send f) s

/-- RECV (R124). -/
def execRecv (core : Nat) (f : SyFields) (s : State) : Res := runOp core (.sy .recv f) s

/-- SEMACQ (R126). -/
def execSemacq (core : Nat) (f : SyFields) (s : State) : Res := runOp core (.sy .semacq f) s

/-- SEMREL (R126). -/
def execSemrel (core : Nat) (f : SyFields) (s : State) : Res := runOp core (.sy .semrel f) s

/-- WAITARR (R127). -/
def execWaitarr (core : Nat) (f : SyFields) (s : State) : Res := runOp core (.sy .waitarr f) s

/-- WAITFT (R124). -/
def execWaitft (core : Nat) (f : SyFields) (s : State) : Res := runOp core (.sy .waitft f) s

/-- BAR (R124). -/
def execBar (core : Nat) (f : SyFields) (s : State) : Res := runOp core (.sy .bar f) s

end Sys2Proof.Machine
end

