-- ==== Sys2Proof/Machine/CoreVector.lean ====
section
/-! DEFINITION. The commands of the vector slots (R109-R112): each issues its operation alone, in the mode the core is in. -/
namespace Sys2Proof.Machine

/-- VFADD (R110). -/
def execVfadd (core : Nat) (f : VFields) (s : State) : Res := runOp core (.vec .vfadd f) s

/-- VFSUB (R110). -/
def execVfsub (core : Nat) (f : VFields) (s : State) : Res := runOp core (.vec .vfsub f) s

/-- VFMUL (R110). -/
def execVfmul (core : Nat) (f : VFields) (s : State) : Res := runOp core (.vec .vfmul f) s

/-- VFMA (R110). -/
def execVfma (core : Nat) (f : VFields) (s : State) : Res := runOp core (.vec .vfma f) s

/-- VFMIN (R110). -/
def execVfmin (core : Nat) (f : VFields) (s : State) : Res := runOp core (.vec .vfmin f) s

/-- VFMAX (R110). -/
def execVfmax (core : Nat) (f : VFields) (s : State) : Res := runOp core (.vec .vfmax f) s

/-- VFABS (R110). -/
def execVfabs (core : Nat) (f : VFields) (s : State) : Res := runOp core (.vec .vfabs f) s

/-- VFNEG (R110). -/
def execVfneg (core : Nat) (f : VFields) (s : State) : Res := runOp core (.vec .vfneg f) s

/-- VFCMP (R110). -/
def execVfcmp (core : Nat) (f : VFields) (s : State) : Res := runOp core (.vec .vfcmp f) s

/-- VFSCALE (R110). -/
def execVfscale (core : Nat) (f : VFields) (s : State) : Res := runOp core (.vec .vfscale f) s

/-- VIADD (R110). -/
def execViadd (core : Nat) (f : VFields) (s : State) : Res := runOp core (.vec .viadd f) s

/-- VISUB (R110). -/
def execVisub (core : Nat) (f : VFields) (s : State) : Res := runOp core (.vec .visub f) s

/-- VIMUL (R110). -/
def execVimul (core : Nat) (f : VFields) (s : State) : Res := runOp core (.vec .vimul f) s

/-- VAND (R110). -/
def execVand (core : Nat) (f : VFields) (s : State) : Res := runOp core (.vec .vand f) s

/-- VOR (R110). -/
def execVor (core : Nat) (f : VFields) (s : State) : Res := runOp core (.vec .vor f) s

/-- VXOR (R110). -/
def execVxor (core : Nat) (f : VFields) (s : State) : Res := runOp core (.vec .vxor f) s

/-- VSHL (R110). -/
def execVshl (core : Nat) (f : VFields) (s : State) : Res := runOp core (.vec .vshl f) s

/-- VSHR (R110). -/
def execVshr (core : Nat) (f : VFields) (s : State) : Res := runOp core (.vec .vshr f) s

/-- VSRA (R110). -/
def execVsra (core : Nat) (f : VFields) (s : State) : Res := runOp core (.vec .vsra f) s

/-- VIMIN (R110). -/
def execVimin (core : Nat) (f : VFields) (s : State) : Res := runOp core (.vec .vimin f) s

/-- VIMAX (R110). -/
def execVimax (core : Nat) (f : VFields) (s : State) : Res := runOp core (.vec .vimax f) s

/-- VICMP (R110). -/
def execVicmp (core : Nat) (f : VFields) (s : State) : Res := runOp core (.vec .vicmp f) s

/-- VSEL (R110). -/
def execVsel (core : Nat) (f : VFields) (s : State) : Res := runOp core (.vec .vsel f) s

/-- VBCS (R110). -/
def execVbcs (core : Nat) (f : VFields) (s : State) : Res := runOp core (.vec .vbcs f) s

/-- VBCI (R110). -/
def execVbci (core : Nat) (f : VFields) (s : State) : Res := runOp core (.vec .vbci f) s

/-- VPERM (R110). -/
def execVperm (core : Nat) (f : VFields) (s : State) : Res := runOp core (.vec .vperm f) s

/-- VROT (R110). -/
def execVrot (core : Nat) (f : VFields) (s : State) : Res := runOp core (.vec .vrot f) s

/-- VEXT (R110). -/
def execVext (core : Nat) (f : VFields) (s : State) : Res := runOp core (.vec .vext f) s

/-- VINS (R110). -/
def execVins (core : Nat) (f : VFields) (s : State) : Res := runOp core (.vec .vins f) s

/-- VRSUM (R111). -/
def execVrsum (core : Nat) (f : VFields) (s : State) : Res := runOp core (.vec .vrsum f) s

/-- VRMAX (R111). -/
def execVrmax (core : Nat) (f : VFields) (s : State) : Res := runOp core (.vec .vrmax f) s

/-- VRMIN (R111). -/
def execVrmin (core : Nat) (f : VFields) (s : State) : Res := runOp core (.vec .vrmin f) s

/-- VRISUM (R111). -/
def execVrisum (core : Nat) (f : VFields) (s : State) : Res := runOp core (.vec .vrisum f) s

/-- VEXPMAX (R111). -/
def execVexpmax (core : Nat) (f : VFields) (s : State) : Res := runOp core (.vec .vexpmax f) s

/-- VCVTI (R153). -/
def execVcvti (core : Nat) (f : VFields) (s : State) : Res := runOp core (.vec .vcvti f) s

/-- VCVTF (R153). -/
def execVcvtf (core : Nat) (f : VFields) (s : State) : Res := runOp core (.vec .vcvtf f) s

/-- VRND (R155). -/
def execVrnd (core : Nat) (f : VFields) (s : State) : Res := runOp core (.vec .vrnd f) s

/-- VFIX (R163). -/
def execVfix (core : Nat) (f : VFields) (s : State) : Res := runOp core (.vec .vfix f) s

/-- VFLT (R164). -/
def execVflt (core : Nat) (f : VFields) (s : State) : Res := runOp core (.vec .vflt f) s

/-- VADD64 (R110). -/
def execVadd64 (core : Nat) (f : VFields) (s : State) : Res := runOp core (.vec .vadd64 f) s

/-- VRAND (R185). -/
def execVrand (core : Nat) (f : VFields) (s : State) : Res := runOp core (.vec .vrand f) s

/-- VRDA (R110). -/
def execVrda (core : Nat) (f : VFields) (s : State) : Res := runOp core (.vec .vrda f) s

/-- VWRA (R110). -/
def execVwra (core : Nat) (f : VFields) (s : State) : Res := runOp core (.vec .vwra f) s

/-- VPLOG (R110). -/
def execVplog (core : Nat) (f : VFields) (s : State) : Res := runOp core (.vec .vplog f) s

/-- VPSET (R110). -/
def execVpset (core : Nat) (f : VFields) (s : State) : Res := runOp core (.vec .vpset f) s

/-- VPGET (R110). -/
def execVpget (core : Nat) (f : VFields) (s : State) : Res := runOp core (.vec .vpget f) s

/-- VLD (R112). -/
def execVld (core : Nat) (f : VFields) (s : State) : Res := runOp core (.vec .vld f) s

/-- VST (R112). -/
def execVst (core : Nat) (f : VFields) (s : State) : Res := runOp core (.vec .vst f) s

/-- VLDS (R112). -/
def execVlds (core : Nat) (f : VFields) (s : State) : Res := runOp core (.vec .vlds f) s

/-- VLDX (R112). -/
def execVldx (core : Nat) (f : VFields) (s : State) : Res := runOp core (.vec .vldx f) s

end Sys2Proof.Machine
end

