-- ==== Sys2Proof/Machine/Packets.lean ====
section
/-! DEFINITION. A packet at a port: the checks of R304 and R306, forwarding (R308-R310), delivery by class (Table 15.2), and the
results that hare operations form for the engines. Commands PACKET_RECEIVE, HARE_PART_RECEIVE, HARE_RESULT. -/
namespace Sys2Proof.Machine

/-! ## Results that the engines take (R275, R280, R282, R403, R425) -/

/-- An engine takes the result of its hare operation. -/
def State.engineTakes (s : State) (f : Formed) : State :=
  let l := laneNats 8 f.payload
  let s1 := s.hareTaken f.pid f.user
  match f.user with
  | .code _ _ _ => s1
  | .exponent b => s1.exponentFormed f.pid b (sext 64 (l.getD 0 0))
  | .checksum b m =>
    if s.memberIdx f.pid / 8 = m then s1.checksumFormed f.pid b (BitVec.ofNat 64 (l.getD (s.memberIdx f.pid % 8) 0)) else s1
  | .quiesce => s1.quiesced f.pid
  | .digest => s1.digestFormed f.pid (l.map (BitVec.ofNat 64))
  | .restore => s1.restoreAgreed f.pid (l.map (BitVec.ofNat 64))

/-- Every result that has formed is taken. -/
def State.enginesTake (s : State) : State := s.fab.formed.foldl (fun t f => t.engineTakes f) s

/-- HARE_RESULT. -/
def execHareResult (pkt : Packet) (s : State) : Res := .next ((s.hareResultIn pkt).releaseHeld.enginesTake)

/-- HARE_PART_RECEIVE. -/
def execHarePartReceive (port : Nat) (pkt : Packet) (s : State) : Res := onPort port (.next (s.harePart port pkt).enginesTake)

/-! ## Checks (R304, R306) -/

/-- Classes of a channel (Table 15.2). -/
def classKnown (vc cls : Nat) : Bool :=
  match vc with
  | 0 => decide (cls ≤ 3)
  | 1 => decide (cls ≤ 2)
  | 2 => cls == 0
  | 3 => decide (cls ≤ 1)
  | 4 => cls == 0
  | 5 => decide (cls ≤ 1)
  | 6 => decide (cls ≤ 1)
  | 7 => cls == 0
  | _ => false

/-- Is a packet to be discarded where it arrives? -/
def packetBad (port : Nat) (k : Packet) : Bool :=
  !(portCarries port k.vc) || k.reserved != 0 || !(classKnown k.vc k.cls) || k.dst == 0xFFFF || decide (2048 < k.length) ||
  k.blocks.length != ceilDiv k.length 256

/-! ## Delivery -/

/-- The partition that a packet's resource belongs to: one of the packet's tenant first. -/
def State.pickPart (s : State) (tenant : Nat) (f : Nat → Bool) : Option Nat :=
  let l := (s.parts.map Prod.fst).filter (fun p => s.live p && f p)
  match l.find? (fun p => s.owner p == tenant) with
  | some p => some p
  | none => l.head?

/-- Run a handler on the partition that holds the packet's resource; with none the packet is discarded. -/
def State.deliverTo (s : State) (port : Nat) (k : Packet) (f : Nat → Bool) (run : Nat → State) : State :=
  match s.pickPart k.tenant f with
  | some p => run p
  | none => s.portLost port

/-- Does a partition take sub-credits of the kind and number that a SUBCREDIT names? -/
def State.takesCredit (s : State) (k : Packet) (p : Nat) : Bool :=
  let tag := field k.tag 15 0
  match field k.arg 49 48 with
  | 0 => (s.collGroup p tag).any (fun x => x.devices.contains k.src)
  | 1 => s.redGroup p == tag && s.learning p
  | 2 => (s.edges p (tag % 256)).children.any (fun e => e.2 == k.src)
  | _ => (s.combineOf tag).any (fun c => c.pid == p)

/-- Does a partition wait for a response, ACK or refusal? -/
def State.waitsAnswer (s : State) (k : Packet) (p : Nat) : Bool :=
  (s.bulk p).exps.any (fun o => o.2.reqs.any (fun q => q.device == k.src && q.ring == k.tag))

/-- Does the slot of a relay packet fill on a partition, or have holders there? -/
def State.takesRelay (s : State) (k : Packet) (p : Nat) : Bool :=
  let n := slotOf k.pennant
  (s.wslot p n).fill.isSome || !(s.edges p n).holders.isEmpty

/-- A heartbeat from the payload of its packet (Table 20.2). -/
def heartbeatOf (b : List Byte) : Heartbeat :=
  { sendTime := BitVec.ofNat 64 (bytesN b 0 8), seq := BitVec.ofNat 32 (bytesN b 8 4), state := bytesN b 15 1,
    device := bytesN b 12 2, serial := BitVec.ofNat 64 (bytesN b 16 8), fwCount := BitVec.ofNat 32 (bytesN b 24 4) }

/-- A hare MSG packet: on a twin port tag 0x0001 is a heartbeat (R412); the spec numbers no other type. -/
def State.hareMsgPacket (s : State) (port : Nat) (k : Packet) : State :=
  if 36 ≤ port ∧ k.tag = 1 ∧ k.length = 64 then s.heartbeat (heartbeatOf (pktPayload k)) else s.hareMsg (.other k)

/-- A packet for this device, by channel and class. -/
def State.deliverPacket (s : State) (port : Nat) (k : Packet) : State :=
  match k.vc, k.cls with
  | 0, 0 => s.deliverTo port k (s.takesCredit k) (fun p =>
      if k.tenant = s.owner p then s.subcredit p k else s.packetViolation (if field k.arg 49 48 = 1 then 0x0500 else
        if field k.arg 49 48 = 2 then 0x0580 else 0x0540) p)
  | 0, _ => match s.pickPart k.tenant (s.waitsAnswer k) with
    | some p => if k.tenant = s.owner p then s.expResponse p k else s
    | none => s
  | 1, 0 => (s.harePart port k).enginesTake
  | 1, 1 => (s.hareResultIn k).releaseHeld.enginesTake
  | 1, _ => s.hareMsgPacket port k
  | 2, _ => s.deliverTo port k (fun p => (s.red p).isOpen && s.step16 p == k.tag / 65536) (fun p =>
      if k.tenant = s.owner p then s.raccIn p k else s.packetViolation 0x04C0 p)
  | 3, 0 => s.deliverTo port k (fun p => (s.collGroup p (guidonGroup k.tag)).any (fun x => x.devices.contains k.src)) (fun p =>
      if k.tenant = s.owner p then (s.collData p k).ackPacket k else s.packetViolation 0x0540 p)
  | 3, _ => s.deliverTo port k (fun p => (s.red p).isOpen && s.step16 p == k.tag / 65536) (fun p =>
      if k.tenant = s.owner p then (s.gatherIn p k).ackPacket k else s.packetViolation 0x0500 p)
  | 4, _ => s.deliverTo port k (s.takesRelay k) (fun p => s.relayIn p k)
  | 6, 0 => s.expServe k
  | 6, _ => s.creditServe k
  | 7, _ => s.onFab (fun f => { f with inbox := f.inbox ++ [k] })
  | _, _ => s.portLost port

/-- A packet that passes through: it leaves by the route table, or is lost (R310). -/
def State.forward (s : State) (port : Nat) (k : Packet) : State :=
  match s.route k.dst with
  | some out => s.egress (some port) out k
  | none => s.portLost port

/-- A packet arrives at a port: its units are acknowledged, then it is discarded, delivered or forwarded. The combiners take
hare parts and results at the port itself (R316). -/
def State.packetIn (s : State) (port : Nat) (k : Packet) : State :=
  if !(s.portUp port) then s
  else
    let s1 := s.unitsIn port (pktUnits k)
    if packetBad port k then s1.portLost port
    else if k.dst = s.deviceId ∨ (k.vc = 1 ∧ k.cls ≤ 1) then s1.deliverPacket port k
    else s1.forward port k

/-- PACKET_RECEIVE. -/
def execPacketReceive (port : Nat) (pkt : Packet) (s : State) : Res := onPort port (.next (s.packetIn port pkt))

end Sys2Proof.Machine
end

