-- ==== Sys2Proof/Machine/Rdma.lean ====
section
/-! DEFINITION. RDMA requests of a host program (R375, R378-R384, R391) and the boot responder's (R430, R431). Commands RDMA_WRITE,
RDMA_READ, COMMAND_RING_SEND. -/
namespace Sys2Proof.Machine

/-! ## Keys and answers -/

/-- The authority of an rkey on a queue pair; none for one that is no current key. On a device-owner queue pair only the device
key counts (R377). -/
def State.keyWho (s : State) (k : Qp) (rkey : Word) : Option Who :=
  if s.isDeviceKey rkey then some .device
  else if k.tenant.isNone then none
  else (s.keyTenant rkey).map .tenant

/-- The requester of window accesses under an authority. -/
def Who.requester : Who → Requester
  | .device => .deviceKey
  | .tenant t => .tenantKey t
  | .part _ => .firmware

/-- Count a failed check in HOST.KEY_ERRORS of the tenant of the key, or of the device owner's (R378). -/
def State.keyError (s : State) (rkey : Word) : State :=
  if s.isDeviceKey rkey then
    if s.getBit Reg.EVENT.OWNER.valid 0 then s.bump Reg.HOST.KEY_ERRORS.errors (s.get Reg.EVENT.OWNER.tenant 0) 1 else s
  else s.bump Reg.HOST.KEY_ERRORS.errors (field rkey.toNat 31 22) 1

/-- A failed check: counted, NAK Remote Access Error, the queue pair in error (R378). -/
def State.failedCheck (s : State) (q : Nat) (rkey : Word) : State := (s.keyError rkey).nakAccess q

/-- NAK Invalid Request (R376, R380). -/
def State.nakInvalid (s : State) (q : Nat) : State := s.emit (.nak q .invalid)

/-- A packet marked CE: a CNP to the sender, at most one per cnp_gap_us (R375). -/
def State.markCe (s : State) (q : Nat) (k : Qp) : State :=
  let gap := usTicks (s.get Reg.HPORT.ECN.cnp_gap_us k.port)
  if k.cnpAt.any (fun t => decide (s.timer < t + gap)) then s
  else (s.setQp q { k with cnpAt := some s.timer }).emit (.cnp q)

/-- A request on a connected queue pair of a port that is up; else it is dropped. -/
def State.onConnected (s : State) (q : Nat) (ce : Bool) (run : State → Qp → State) : State :=
  match s.qp q with
  | none => s
  | some k => if k.state = .connected ∧ s.hportUp k.port then run (if ce then s.markCe q k else s) k else s

/-- `n` bytes as a read delivers them: those of words with an uncorrectable error are free values. -/
def State.deliverBytes (s : State) (a n : Nat) : List Byte × State :=
  if s.poisoned a n then
    let f := s.freeBytes n
    ((upTo n).map (fun i => if Map.has s.poison ((a + i) / 8) then f.1.getD i 0 else Mem.read s.mem (a + i)), f.2)
  else (s.readBytes a n, s)

/-- Answer a READ. -/
def State.respond (s : State) (q : Nat) (bs : List Byte) : State := s.emit (.readResponse q bs)

/-! ## The boot responder (R430, R431, R435) -/

/-- Does the responder take WRITEs to staging: listening, or recovery listening? READ only after a failed bridge or T1 loop. -/
def State.stagingOpen (s : State) : Bool :=
  !s.boot.bridgeFailed && s.get Reg.DEVICE.T1.t1_bytes 0 != 0 && (s.bootState == 1 || s.goOpen)

/-- The global address of BOOT.GO. -/
def bootGoAddr : Nat := windowBase + Reg.BOOT.GO.reg.reg

/-- A WRITE on a boot queue pair. -/
def State.bootWriteIn (s : State) (q : Nat) (k : Qp) (a : Nat) (data : List Byte) : State :=
  if a = bootGoAddr ∧ data.length = 4 then
    (if s.boot.bridgeFailed ∨ s.bootState = 1 ∨ s.goOpen then s.emit (.rdmaAck q) else s).bootGo k.port (leNat data)
  else if stagingBase ≤ a ∧ a + data.length ≤ stagingBase + stagingBytes ∧ s.stagingOpen then
    (s.writeBytes a data).emit (.rdmaAck q)
  else s.nakAccess q

/-! ## The window (R380) -/

/-- The window offset of a global address in space 4. -/
def winOff (a : Nat) : Nat := a % 2 ^ 32

/-- Is a WRITE of `n` bytes 4 or 8 B long, aligned, and inside one register (R506)? -/
def winWriteOk (a n : Nat) : Bool := (n == 4 && a % 4 == 0) || (n == 8 && a % 8 == 0 && pageOff (winOff a) != 0)

/-- Is a READ of `n` bytes of one of the two forms? -/
def winReadOk (a n : Nat) : Bool :=
  (n == 4 && a % 4 == 0) || (a % 8 == 0 && n % 8 == 0 && n != 0 && decide (a % 0x1000 + n ≤ 0x1000))

/-- The bytes of a READ of the window. -/
def State.winBytes (s : State) (a n : Nat) : List Byte :=
  if n = 4 then leBytes 4 (s.windowRead (winOff a) false)
  else (upTo (n / 8)).flatMap (fun i => leBytes 8 (s.windowRead (winOff a + 8 * i) true))

/-- A WRITE through the window. -/
def State.winWriteIn (s : State) (q : Nat) (k : Qp) (w : Who) (rkey : Word) (a : Nat) (data : List Byte) : State :=
  let n := data.length
  let off := winOff a
  if !(wellPlaced a) then s.failedCheck q rkey
  else if !(winWriteOk a n) then s.nakInvalid q
  else if (s.windowCheck w.requester off).isSome then s.failedCheck q rkey
  else if a / 8 = bootGoAddr / 8 ∧ !(s.goOpen) then s.nakAccess q
  else (s.emit (.rdmaAck q)).windowWrite w.requester (some k.port) off (n == 8) (leNat data)

/-- A READ through the window. -/
def State.winReadIn (s : State) (q : Nat) (w : Who) (rkey : Word) (a n : Nat) : State :=
  if !(wellPlaced a) then s.failedCheck q rkey
  else if !(winReadOk a n) then s.nakInvalid q
  else if (s.windowCheck w.requester (winOff a)).isSome then s.failedCheck q rkey
  else s.respond q (s.winBytes a n)

/-! ## Memory -/

/-- A WRITE into space 5: a header field of an experience ring, whole (R45, R378). -/
def State.ringWriteIn (s : State) (q : Nat) (w : Who) (rkey : Word) (a : Nat) (data : List Byte) : State :=
  let p := field a 45 36
  match s.resolve w a data.length with
  | .error _ => s.failedCheck q rkey
  | .ok _ =>
    match s.ringHeaderWrite p (field a 35 0) data.length (leNat data) with
    | none => s.failedCheck q rkey
    | some t => (t.emit (.rdmaAck q)).ringWoken p

/-- A WRITE into spaces 0 to 3: bytes in ascending order, then the stamps that landed (R381, R385). -/
def State.memWriteIn (s : State) (q : Nat) (w : Who) (rkey : Word) (a : Nat) (data : List Byte) : State :=
  match s.resolve w a data.length with
  | .error _ => s.failedCheck q rkey
  | .ok b =>
    let t := (s.writeBytes b data).emit (.rdmaAck q)
    if spaceOf a = 1 then t.stampsLand b data.length else t

/-- RDMA_WRITE on a queue pair. In Deep only the window answers (R449). -/
def State.writeIn (s : State) (q : Nat) (k : Qp) (rkey : Word) (a : Nat) (data : List Byte) : State :=
  if k.boot then s.bootWriteIn q k a data
  else if 2 ^ 31 < data.length then s.nakInvalid q
  else match s.keyWho k rkey with
    | none => s.failedCheck q rkey
    | some w =>
      if spaceOf a = 4 then s.winWriteIn q k w rkey a data
      else if s.deep then s
      else if spaceOf a = 5 then s.ringWriteIn q w rkey a data
      else s.memWriteIn q w rkey a data

/-- RDMA_WRITE. -/
def execRdmaWrite (qp : Nat) (addr : DWord) (rkey : Word) (data : List Byte) (ce : Bool) (s : State) : Res :=
  onQp qp (.next (s.onConnected qp ce (fun t k => t.writeIn qp k rkey addr.toNat data)))

/-- A READ on a boot queue pair: the BOOT page and the DEVICE page. -/
def State.bootReadIn (s : State) (q : Nat) (a n : Nat) : State :=
  let off := winOff a
  if spaceOf a = 4 ∧ wellPlaced a ∧ winReadOk a n ∧ (pageOf off = 0 ∨ pageOf off = page 0x0100 0) then s.respond q (s.winBytes a n)
  else s.nakAccess q

/-- RDMA_READ on a queue pair. -/
def State.readIn (s : State) (q : Nat) (k : Qp) (rkey : Word) (a n : Nat) : State :=
  if k.boot then s.bootReadIn q a n
  else if 2 ^ 31 < n then s.nakInvalid q
  else match s.keyWho k rkey with
    | none => s.failedCheck q rkey
    | some w =>
      if spaceOf a = 4 then s.winReadIn q w rkey a n
      else if s.deep then s
      else match s.resolve w a n with
        | .error _ => s.failedCheck q rkey
        | .ok b => let x := s.deliverBytes b n; x.2.respond q x.1

/-- RDMA_READ. -/
def execRdmaRead (qp : Nat) (addr : DWord) (rkey : Word) (len : Nat) (ce : Bool) (s : State) : Res :=
  onQp qp (.next (s.onConnected qp ce (fun t k => t.readIn qp k rkey addr.toNat len)))

/-! ## SEND-fed rings (R384) -/

/-- The entries of a SEND, 128 bytes each. -/
def sendEntries (data : List Byte) : List (List Byte) := (upTo (data.length / 128)).map (fun i => (data.drop (128 * i)).take 128)

/-- The entries are written at the producer position, and the ring is read. -/
def State.sendLands (s : State) (p : Nat) (data : List Byte) : State :=
  let i := s.cmdProducer p
  let t := (sendEntries data).zipIdx.foldl (fun u e => u.writeBytes (s.cmdAddr p (i + e.2)) e.1) s
  (t.onHost (fun h => { h with producers := Map.put h.producers p (i + data.length / 128) })).takeAll p

/-- A SEND on a queue pair. -/
def State.sendIn (s : State) (q : Nat) (k : Qp) (data : List Byte) : State :=
  let p := k.part
  let n := data.length / 128
  if k.boot then s.nakAccess q
  else if s.deep then s
  else if !k.bound ∨ !(s.live p) ∨ !(s.cmdEnabled p) ∨ !(s.cmdSendFed p) ∨ data.length % 128 ≠ 0 ∨ n = 0 ∨ 2048 < data.length ∨
      !(s.cmdRingOk p) then s.nakInvalid q
  else if k.tenant.any (fun t => t != s.owner p) then s.bump Reg.HOST.KEY_ERRORS.errors (k.tenant.getD 0) 1
  else if 2 ^ s.cmdLog p < s.cmdProducer p - s.cmdHead p + n then s.emit (.nak q .rnr)
  else (s.emit (.rdmaAck q)).sendLands p data

/-- COMMAND_RING_SEND. -/
def execCommandRingSend (qp : Nat) (data : List Byte) (ce : Bool) (s : State) : Res :=
  onQp qp (.next (s.onConnected qp ce (fun t k => t.sendIn qp k data)))

end Sys2Proof.Machine
end

