-- ==== Sys2Proof/Machine/Dispatch.lean ====
section
/-! DEFINITION. The meaning of every command: one arm per constructor. -/
namespace Sys2Proof.Machine

def exec (i : Instr) (s : State) : Host.Outcome State Fault Refusal :=
  match i with
  | .coldBoot channels t1 => Sys2Proof.Machine.execColdBoot channels t1 s
  | .bootGo port len => Sys2Proof.Machine.execBootGo port len s
  | .imageVerified sigOk => Sys2Proof.Machine.execImageVerified sigOk s
  | .bootKeysDerived setup => Sys2Proof.Machine.execBootKeysDerived setup s
  | .commitSvn r => Sys2Proof.Machine.execCommitSvn r s
  | .quote r tenant => Sys2Proof.Machine.execQuote r tenant s
  | .quoteDone tenant => Sys2Proof.Machine.execQuoteDone tenant s
  | .warmReset r => Sys2Proof.Machine.execWarmReset r s
  | .commitRoutes r => Sys2Proof.Machine.execCommitRoutes r s
  | .routeDataWrite r v => Sys2Proof.Machine.execRouteDataWrite r v s
  | .registerWrite r off wide v => Sys2Proof.Machine.execRegisterWrite r off wide v s
  | .lockSet r page => Sys2Proof.Machine.execLockSet r page s
  | .faultClear r page => Sys2Proof.Machine.execFaultClear r page s
  | .eventStatusClear r page bits raisedNow => Sys2Proof.Machine.execEventStatusClear r page bits raisedNow s
  | .create r pid => Sys2Proof.Machine.execCreate r pid s
  | .destroy r pid => Sys2Proof.Machine.execDestroy r pid s
  | .reset r pid => Sys2Proof.Machine.execReset r pid s
  | .tenantReset r pid => Sys2Proof.Machine.execTenantReset r pid s
  | .keyRoll r pid => Sys2Proof.Machine.execKeyRoll r pid s
  | .parkRequest r pid => Sys2Proof.Machine.execParkRequest r pid s
  | .wakeRequest r pid => Sys2Proof.Machine.execWakeRequest r pid s
  | .parkPlanWake pid => Sys2Proof.Machine.execParkPlanWake pid s
  | .idleEntry pid => Sys2Proof.Machine.execIdleEntry pid s
  | .enterDeep r => Sys2Proof.Machine.execEnterDeep r s
  | .exitDeep r => Sys2Proof.Machine.execExitDeep r s
  | .governorTick j powerW temps => Sys2Proof.Machine.execGovernorTick j powerW temps s
  | .vcoreSettled readMv timedOut => Sys2Proof.Machine.execVcoreSettled readMv timedOut s
  | .thermalTrip die temp => Sys2Proof.Machine.execThermalTrip die temp s
  | .thermalTripRelease => Sys2Proof.Machine.execThermalTripRelease s
  | .thermalShutdown => Sys2Proof.Machine.execThermalShutdown s
  | .railFault rail => Sys2Proof.Machine.execRailFault rail s
  | .pmbusPoll rail mv ma stageC statusWord ok => Sys2Proof.Machine.execPmbusPoll rail mv ma stageC statusWord ok s
  | .pmbusAlert segment rail statusWord => Sys2Proof.Machine.execPmbusAlert segment rail statusWord s
  | .timeWordSend => Sys2Proof.Machine.execTimeWordSend s
  | .timeWord port w => Sys2Proof.Machine.execTimeWord port w s
  | .holdoverExpiry => Sys2Proof.Machine.execHoldoverExpiry s
  | .forceStep r => Sys2Proof.Machine.execForceStep r s
  | .roleGenerate pid => Sys2Proof.Machine.execRoleGenerate pid s
  | .roleLearn pid => Sys2Proof.Machine.execRoleLearn pid s
  | .swap pid => Sys2Proof.Machine.execSwap pid s
  | .checkpoint pid => Sys2Proof.Machine.execCheckpoint pid s
  | .launch pid => Sys2Proof.Machine.execLaunch pid s
  | .plan pid cmdId entry => Sys2Proof.Machine.execPlan pid cmdId entry s
  | .request pid cmdId block => Sys2Proof.Machine.execRequest pid cmdId block s
  | .cancel pid cmdId reqId => Sys2Proof.Machine.execCancel pid cmdId reqId s
  | .prefixCreate pid cmdId reqId n handle group => Sys2Proof.Machine.execPrefixCreate pid cmdId reqId n handle group s
  | .prefixRelease pid cmdId handle group => Sys2Proof.Machine.execPrefixRelease pid cmdId handle group s
  | .nop pid cmdId => Sys2Proof.Machine.execNop pid cmdId s
  | .decodeStepLaunch pid => Sys2Proof.Machine.execDecodeStepLaunch pid s
  | .fillHoldExpiry pid => Sys2Proof.Machine.execFillHoldExpiry pid s
  | .joinDuringHold pid => Sys2Proof.Machine.execJoinDuringHold pid s
  | .stepLaunchMessage pid msg => Sys2Proof.Machine.execStepLaunchMessage pid msg s
  | .slotCommit pid seq slot res => Sys2Proof.Machine.execSlotCommit pid seq slot res s
  | .stepAbort pid seq => Sys2Proof.Machine.execStepAbort pid seq s
  | .streamLost pid reqId => Sys2Proof.Machine.execStreamLost pid reqId s
  | .stepRingLost pid => Sys2Proof.Machine.execStepRingLost pid s
  | .stepRingRestart r pid cfg v => Sys2Proof.Machine.execStepRingRestart r pid cfg v s
  | .spillReadDone pid => Sys2Proof.Machine.execSpillReadDone pid s
  | .resumePagesLanded pid reqId ok => Sys2Proof.Machine.execResumePagesLanded pid reqId ok s
  | .expHeaderWrite pid off v => Sys2Proof.Machine.execExpHeaderWrite pid off v s
  | .learnerCommit pid othersAnd => Sys2Proof.Machine.execLearnerCommit pid othersAnd s
  | .publicationRecord pid rec => Sys2Proof.Machine.execPublicationRecord pid rec s
  | .relayChunkPacket pid pkt => Sys2Proof.Machine.execRelayChunkPacket pid pkt s
  | .relayDigestPacket pid pkt => Sys2Proof.Machine.execRelayDigestPacket pid pkt s
  | .relayRestartPacket pid pkt => Sys2Proof.Machine.execRelayRestartPacket pid pkt s
  | .relayStall pid slot => Sys2Proof.Machine.execRelayStall pid slot s
  | .readinessResult pid slot ready formed => Sys2Proof.Machine.execReadinessResult pid slot ready formed s
  | .bufferDrained pid slot => Sys2Proof.Machine.execBufferDrained pid slot s
  | .loadBegin r pid pennant => Sys2Proof.Machine.execLoadBegin r pid pennant s
  | .loadEnd r pid pennant => Sys2Proof.Machine.execLoadEnd r pid pennant s
  | .unload r pid pennant => Sys2Proof.Machine.execUnload r pid pennant s
  | .listGo r pid => Sys2Proof.Machine.execListGo r pid s
  | .stream pid list => Sys2Proof.Machine.execStream pid list s
  | .streamLanded pid list desc core => Sys2Proof.Machine.execStreamLanded pid list desc core s
  | .moveRegion pid list => Sys2Proof.Machine.execMoveRegion pid list s
  | .moveRegionDone pid region => Sys2Proof.Machine.execMoveRegionDone pid region s
  | .gate pid list => Sys2Proof.Machine.execGate pid list s
  | .endList pid list => Sys2Proof.Machine.execEndList pid list s
  | .migrationEpoch pid => Sys2Proof.Machine.execMigrationEpoch pid s
  | .migrationEvict pid => Sys2Proof.Machine.execMigrationEvict pid s
  | .migrationPromote pid => Sys2Proof.Machine.execMigrationPromote pid s
  | .regionHintWrite r pid hint => Sys2Proof.Machine.execRegionHintWrite r pid hint s
  | .regionDefine r pid hint => Sys2Proof.Machine.execRegionDefine r pid hint s
  | .regionDelete r pid => Sys2Proof.Machine.execRegionDelete r pid s
  | .tierWatchdogExpiry core => Sys2Proof.Machine.execTierWatchdogExpiry core s
  | .t1UeRetry addr failsAgain => Sys2Proof.Machine.execT1UeRetry addr failsAgain s
  | .rngSeedWrite r pid slot seed => Sys2Proof.Machine.execRngSeedWrite r pid slot seed s
  | .seedExpansionDone pid slot => Sys2Proof.Machine.execSeedExpansionDone pid slot s
  | .reserve core val => Sys2Proof.Machine.execReserve core val s
  | .push core val => Sys2Proof.Machine.execPush core val s
  | .fetch core val => Sys2Proof.Machine.execFetch core val s
  | .release core val => Sys2Proof.Machine.execRelease core val s
  | .clear core val => Sys2Proof.Machine.execClear core val s
  | .settPlacement pid lcore => Sys2Proof.Machine.execSettPlacement pid lcore s
  | .settLeadSpill pid lcore => Sys2Proof.Machine.execSettLeadSpill pid lcore s
  | .settFill pid lcore => Sys2Proof.Machine.execSettFill pid lcore s
  | .redOpen core val => Sys2Proof.Machine.execRedOpen core val s
  | .stepOpenDone pid => Sys2Proof.Machine.execStepOpenDone pid s
  | .redClose core val => Sys2Proof.Machine.execRedClose core val s
  | .exponentAgreed pid bucket othersMax => Sys2Proof.Machine.execExponentAgreed pid bucket othersMax s
  | .redStaged core val => Sys2Proof.Machine.execRedStaged core val s
  | .redNotify core val => Sys2Proof.Machine.execRedNotify core val s
  | .raccArrival pid pkt => Sys2Proof.Machine.execRaccArrival pid pkt s
  | .raccAcknowledged pid bucket halfRun => Sys2Proof.Machine.execRaccAcknowledged pid bucket halfRun s
  | .checksumResult pid bucket othersSum => Sys2Proof.Machine.execChecksumResult pid bucket othersSum s
  | .bucketDeadline pid bucket => Sys2Proof.Machine.execBucketDeadline pid bucket s
  | .agreeTimeout pid bucket => Sys2Proof.Machine.execAgreeTimeout pid bucket s
  | .quiescenceDone pid => Sys2Proof.Machine.execQuiescenceDone pid s
  | .normResult pid othersLanes => Sys2Proof.Machine.execNormResult pid othersLanes s
  | .updateStart pid => Sys2Proof.Machine.execUpdateStart pid s
  | .weightGather pid pkt => Sys2Proof.Machine.execWeightGather pid pkt s
  | .updateStaged pid => Sys2Proof.Machine.execUpdateStaged pid s
  | .gatherTimeout pid => Sys2Proof.Machine.execGatherTimeout pid s
  | .packetReceive port pkt => Sys2Proof.Machine.execPacketReceive port pkt s
  | .linkCrcError port => Sys2Proof.Machine.execLinkCrcError port s
  | .bridgeFlitError bridge channel replays => Sys2Proof.Machine.execBridgeFlitError bridge channel replays s
  | .subcreditReceive pid pkt => Sys2Proof.Machine.execSubcreditReceive pid pkt s
  | .ackReceive pid pkt => Sys2Proof.Machine.execAckReceive pid pkt s
  | .hareGo core val => Sys2Proof.Machine.execHareGo core val s
  | .harePartReceive port pkt => Sys2Proof.Machine.execHarePartReceive port pkt s
  | .hareResult pkt => Sys2Proof.Machine.execHareResult pkt s
  | .hareMsgReceive msg => Sys2Proof.Machine.execHareMsgReceive msg s
  | .combineLoad r pid count => Sys2Proof.Machine.execCombineLoad r pid count s
  | .combineRemove r pid count => Sys2Proof.Machine.execCombineRemove r pid count s
  | .groupTableLoad r pid val => Sys2Proof.Machine.execGroupTableLoad r pid val s
  | .collGo r pid guidon => Sys2Proof.Machine.execCollGo r pid guidon s
  | .collDataReceive pid pkt => Sys2Proof.Machine.execCollDataReceive pid pkt s
  | .collectiveChunkDone pid guidon => Sys2Proof.Machine.execCollectiveChunkDone pid guidon s
  | .collectiveDeadline pid guidon => Sys2Proof.Machine.execCollectiveDeadline pid guidon s
  | .expGoRead core val => Sys2Proof.Machine.execExpGoRead core val s
  | .expGoCredit core val => Sys2Proof.Machine.execExpGoCredit core val s
  | .expReadServe pkt => Sys2Proof.Machine.execExpReadServe pkt s
  | .expCreditReceive pkt => Sys2Proof.Machine.execExpCreditReceive pkt s
  | .expResponse pid pkt => Sys2Proof.Machine.execExpResponse pid pkt s
  | .expOpTimeout pid op => Sys2Proof.Machine.execExpOpTimeout pid op s
  | .laneFailure port lanes => Sys2Proof.Machine.execLaneFailure port lanes s
  | .portTrainRetry port lanes => Sys2Proof.Machine.execPortTrainRetry port lanes s
  | .linkReset port => Sys2Proof.Machine.execLinkReset port s
  | .hostFrameReceive port f => Sys2Proof.Machine.execHostFrameReceive port f s
  | .arpRequest port target sender => Sys2Proof.Machine.execArpRequest port target sender s
  | .neighbourSolicitation port target sender => Sys2Proof.Machine.execNeighbourSolicitation port target sender s
  | .echoRequest port v6 dst src data => Sys2Proof.Machine.execEchoRequest port v6 dst src data s
  | .lldpReceive port chassis => Sys2Proof.Machine.execLldpReceive port chassis s
  | .lldpTransmit port => Sys2Proof.Machine.execLldpTransmit port s
  | .pfcFrame port enable pause => Sys2Proof.Machine.execPfcFrame port enable pause s
  | .ptpMessage port sync fabricAt ptpTicks => Sys2Proof.Machine.execPtpMessage port sync fabricAt ptpTicks s
  | .cnpReceive qp => Sys2Proof.Machine.execCnpReceive qp s
  | .rateRecovery qp => Sys2Proof.Machine.execRateRecovery qp s
  | .cmReq port priv => Sys2Proof.Machine.execCmReq port priv s
  | .cmRtu qp => Sys2Proof.Machine.execCmRtu qp s
  | .cmDreq qp => Sys2Proof.Machine.execCmDreq qp s
  | .rdmaWrite qp addr rkey data ce => Sys2Proof.Machine.execRdmaWrite qp addr rkey data ce s
  | .rdmaRead qp addr rkey len ce => Sys2Proof.Machine.execRdmaRead qp addr rkey len ce s
  | .commandRingSend qp data ce => Sys2Proof.Machine.execCommandRingSend qp data ce s
  | .rnrNak qp => Sys2Proof.Machine.execRnrNak qp s
  | .qpError qp => Sys2Proof.Machine.execQpError qp s
  | .cqRingRestart r tenant v => Sys2Proof.Machine.execCqRingRestart r tenant v s
  | .eqRingRestart r tenant v => Sys2Proof.Machine.execEqRingRestart r tenant v s
  | .eventsLost tenant => Sys2Proof.Machine.execEventsLost tenant s
  | .taskStart pid queue => Sys2Proof.Machine.execTaskStart pid queue s
  | .preemptRequest pid queue => Sys2Proof.Machine.execPreemptRequest pid queue s
  | .cheapPointSave core header => Sys2Proof.Machine.execCheapPointSave core header s
  | .preemptGraceExpiry core => Sys2Proof.Machine.execPreemptGraceExpiry core s
  | .fullSave core => Sys2Proof.Machine.execFullSave core s
  | .preemptWithdraw core => Sys2Proof.Machine.execPreemptWithdraw core s
  | .contextResume core => Sys2Proof.Machine.execContextResume core s
  | .suspend r pid => Sys2Proof.Machine.execSuspend r pid s
  | .suspendImageDone pid => Sys2Proof.Machine.execSuspendImageDone pid s
  | .preemptSlow core => Sys2Proof.Machine.execPreemptSlow core s
  | .restore r pid => Sys2Proof.Machine.execRestore r pid s
  | .semInitWrite r pid v => Sys2Proof.Machine.execSemInitWrite r pid v s
  | .coreRetire core => Sys2Proof.Machine.execCoreRetire core s
  | .owlVerdict core n agree => Sys2Proof.Machine.execOwlVerdict core n agree s
  | .owlLate core n => Sys2Proof.Machine.execOwlLate core n s
  | .digestResult pid othersLanes => Sys2Proof.Machine.execDigestResult pid othersLanes s
  | .faultRingRestart r pid cfg v => Sys2Proof.Machine.execFaultRingRestart r pid cfg v s
  | .pair r => Sys2Proof.Machine.execPair r s
  | .detach r => Sys2Proof.Machine.execDetach r s
  | .heartbeatSend fwCount => Sys2Proof.Machine.execHeartbeatSend fwCount s
  | .heartbeatReceive port hb => Sys2Proof.Machine.execHeartbeatReceive port hb s
  | .heartbeatMiss => Sys2Proof.Machine.execHeartbeatMiss s
  | .resetHoldExpiry => Sys2Proof.Machine.execResetHoldExpiry s
  | .ckptDataReceive m => Sys2Proof.Machine.execCkptDataReceive m s
  | .ckptManifest m => Sys2Proof.Machine.execCkptManifest m s
  | .ckptRestore r pid => Sys2Proof.Machine.execCkptRestore r pid s
  | .restoreAgreement pid othersLanes => Sys2Proof.Machine.execRestoreAgreement pid othersLanes s
  | .restoreAgreeTimeout pid => Sys2Proof.Machine.execRestoreAgreeTimeout pid s
  | .restorePullDone pid data => Sys2Proof.Machine.execRestorePullDone pid data s
  | .t0SelfTest r => Sys2Proof.Machine.execT0SelfTest r s
  | .t1ControllerLoop r => Sys2Proof.Machine.execT1ControllerLoop r s
  | .t1PhyLoop r => Sys2Proof.Machine.execT1PhyLoop r s
  | .deviceTestDone t1Fail t0Failed => Sys2Proof.Machine.execDeviceTestDone t1Fail t0Failed s
  | .loopStart r host port via v => Sys2Proof.Machine.execLoopStart r host port via v s
  | .loopStop r host port v => Sys2Proof.Machine.execLoopStop r host port v s
  | .loopEnd host port c => Sys2Proof.Machine.execLoopEnd host port c s
  | .farLoopRequest port lanes => Sys2Proof.Machine.execFarLoopRequest port lanes s
  | .retimingTimeout port => Sys2Proof.Machine.execRetimingTimeout port s
  | .farLoopNoAnswer port => Sys2Proof.Machine.execFarLoopNoAnswer port s
  | .bypass => Sys2Proof.Machine.execBypass s
  | .idcode => Sys2Proof.Machine.execIdcode s
  | .samplePreload preload => Sys2Proof.Machine.execSamplePreload preload s
  | .extest => Sys2Proof.Machine.execExtest s
  | .clamp => Sys2Proof.Machine.execClamp s
  | .highz => Sys2Proof.Machine.execHighz s
  | .bundle core rom w => Sys2Proof.Machine.execBundle core rom w s
  | .moveComplete core idx ue => Sys2Proof.Machine.execMoveComplete core idx ue s
  | .messageReceive pid idx => Sys2Proof.Machine.execMessageReceive pid idx s
  | .add core rd rs1 rs2 => Sys2Proof.Machine.execAdd core rd rs1 rs2 s
  | .sub core rd rs1 rs2 => Sys2Proof.Machine.execSub core rd rs1 rs2 s
  | .and core rd rs1 rs2 => Sys2Proof.Machine.execAnd core rd rs1 rs2 s
  | .or core rd rs1 rs2 => Sys2Proof.Machine.execOr core rd rs1 rs2 s
  | .xor core rd rs1 rs2 => Sys2Proof.Machine.execXor core rd rs1 rs2 s
  | .sll core rd rs1 rs2 => Sys2Proof.Machine.execSll core rd rs1 rs2 s
  | .srl core rd rs1 rs2 => Sys2Proof.Machine.execSrl core rd rs1 rs2 s
  | .sra core rd rs1 rs2 => Sys2Proof.Machine.execSra core rd rs1 rs2 s
  | .slt core rd rs1 rs2 => Sys2Proof.Machine.execSlt core rd rs1 rs2 s
  | .sltu core rd rs1 rs2 => Sys2Proof.Machine.execSltu core rd rs1 rs2 s
  | .min core rd rs1 rs2 => Sys2Proof.Machine.execMin core rd rs1 rs2 s
  | .max core rd rs1 rs2 => Sys2Proof.Machine.execMax core rd rs1 rs2 s
  | .minu core rd rs1 rs2 => Sys2Proof.Machine.execMinu core rd rs1 rs2 s
  | .maxu core rd rs1 rs2 => Sys2Proof.Machine.execMaxu core rd rs1 rs2 s
  | .clz core rd rs1 rs2 => Sys2Proof.Machine.execClz core rd rs1 rs2 s
  | .popc core rd rs1 rs2 => Sys2Proof.Machine.execPopc core rd rs1 rs2 s
  | .mul core rd rs1 rs2 => Sys2Proof.Machine.execMul core rd rs1 rs2 s
  | .mulh core rd rs1 rs2 => Sys2Proof.Machine.execMulh core rd rs1 rs2 s
  | .mulhu core rd rs1 rs2 => Sys2Proof.Machine.execMulhu core rd rs1 rs2 s
  | .div core rd rs1 rs2 => Sys2Proof.Machine.execDiv core rd rs1 rs2 s
  | .divu core rd rs1 rs2 => Sys2Proof.Machine.execDivu core rd rs1 rs2 s
  | .rem core rd rs1 rs2 => Sys2Proof.Machine.execRem core rd rs1 rs2 s
  | .remu core rd rs1 rs2 => Sys2Proof.Machine.execRemu core rd rs1 rs2 s
  | .addi core rd rs1 imm => Sys2Proof.Machine.execAddi core rd rs1 imm s
  | .andi core rd rs1 imm => Sys2Proof.Machine.execAndi core rd rs1 imm s
  | .ori core rd rs1 imm => Sys2Proof.Machine.execOri core rd rs1 imm s
  | .xori core rd rs1 imm => Sys2Proof.Machine.execXori core rd rs1 imm s
  | .slti core rd rs1 imm => Sys2Proof.Machine.execSlti core rd rs1 imm s
  | .sltiu core rd rs1 imm => Sys2Proof.Machine.execSltiu core rd rs1 imm s
  | .shi core rd rs1 imm => Sys2Proof.Machine.execShi core rd rs1 imm s
  | .lui core rd imm => Sys2Proof.Machine.execLui core rd imm s
  | .ldnW core rd rs1 imm => Sys2Proof.Machine.execLdnW core rd rs1 imm s
  | .ldnH core rd rs1 imm => Sys2Proof.Machine.execLdnH core rd rs1 imm s
  | .ldnHu core rd rs1 imm => Sys2Proof.Machine.execLdnHu core rd rs1 imm s
  | .ldnB core rd rs1 imm => Sys2Proof.Machine.execLdnB core rd rs1 imm s
  | .ldnBu core rd rs1 imm => Sys2Proof.Machine.execLdnBu core rd rs1 imm s
  | .ldtW core rd rs1 imm => Sys2Proof.Machine.execLdtW core rd rs1 imm s
  | .ldgW core rd rs1 imm => Sys2Proof.Machine.execLdgW core rd rs1 imm s
  | .stnW core rs2 rs1 imm => Sys2Proof.Machine.execStnW core rs2 rs1 imm s
  | .stnH core rs2 rs1 imm => Sys2Proof.Machine.execStnH core rs2 rs1 imm s
  | .stnB core rs2 rs1 imm => Sys2Proof.Machine.execStnB core rs2 rs1 imm s
  | .sttW core rs2 rs1 imm => Sys2Proof.Machine.execSttW core rs2 rs1 imm s
  | .stgW core rs2 rs1 imm => Sys2Proof.Machine.execStgW core rs2 rs1 imm s
  | .beq core rs1 rs2 off => Sys2Proof.Machine.execBeq core rs1 rs2 off s
  | .bne core rs1 rs2 off => Sys2Proof.Machine.execBne core rs1 rs2 off s
  | .blt core rs1 rs2 off => Sys2Proof.Machine.execBlt core rs1 rs2 off s
  | .bge core rs1 rs2 off => Sys2Proof.Machine.execBge core rs1 rs2 off s
  | .bltu core rs1 rs2 off => Sys2Proof.Machine.execBltu core rs1 rs2 off s
  | .bgeu core rs1 rs2 off => Sys2Proof.Machine.execBgeu core rs1 rs2 off s
  | .j core off => Sys2Proof.Machine.execJ core off s
  | .jal core off => Sys2Proof.Machine.execJal core off s
  | .jalr core rd rs1 imm => Sys2Proof.Machine.execJalr core rd rs1 imm s
  | .wide core off => Sys2Proof.Machine.execWide core off s
  | .mfs core rd spec => Sys2Proof.Machine.execMfs core rd spec s
  | .mts core rs1 spec => Sys2Proof.Machine.execMts core rs1 spec s
  | .trap core n => Sys2Proof.Machine.execTrap core n s
  | .eret core => Sys2Proof.Machine.execEret core s
  | .halt core => Sys2Proof.Machine.execHalt core s
  | .mldw core f => Sys2Proof.Machine.execMldw core f s
  | .mpass core f => Sys2Proof.Machine.execMpass core f s
  | .mzero core f => Sys2Proof.Machine.execMzero core f s
  | .vfadd core f => Sys2Proof.Machine.execVfadd core f s
  | .vfsub core f => Sys2Proof.Machine.execVfsub core f s
  | .vfmul core f => Sys2Proof.Machine.execVfmul core f s
  | .vfma core f => Sys2Proof.Machine.execVfma core f s
  | .vfmin core f => Sys2Proof.Machine.execVfmin core f s
  | .vfmax core f => Sys2Proof.Machine.execVfmax core f s
  | .vfabs core f => Sys2Proof.Machine.execVfabs core f s
  | .vfneg core f => Sys2Proof.Machine.execVfneg core f s
  | .vfcmp core f => Sys2Proof.Machine.execVfcmp core f s
  | .vfscale core f => Sys2Proof.Machine.execVfscale core f s
  | .viadd core f => Sys2Proof.Machine.execViadd core f s
  | .visub core f => Sys2Proof.Machine.execVisub core f s
  | .vimul core f => Sys2Proof.Machine.execVimul core f s
  | .vand core f => Sys2Proof.Machine.execVand core f s
  | .vor core f => Sys2Proof.Machine.execVor core f s
  | .vxor core f => Sys2Proof.Machine.execVxor core f s
  | .vshl core f => Sys2Proof.Machine.execVshl core f s
  | .vshr core f => Sys2Proof.Machine.execVshr core f s
  | .vsra core f => Sys2Proof.Machine.execVsra core f s
  | .vimin core f => Sys2Proof.Machine.execVimin core f s
  | .vimax core f => Sys2Proof.Machine.execVimax core f s
  | .vicmp core f => Sys2Proof.Machine.execVicmp core f s
  | .vsel core f => Sys2Proof.Machine.execVsel core f s
  | .vbcs core f => Sys2Proof.Machine.execVbcs core f s
  | .vbci core f => Sys2Proof.Machine.execVbci core f s
  | .vperm core f => Sys2Proof.Machine.execVperm core f s
  | .vrot core f => Sys2Proof.Machine.execVrot core f s
  | .vext core f => Sys2Proof.Machine.execVext core f s
  | .vins core f => Sys2Proof.Machine.execVins core f s
  | .vrsum core f => Sys2Proof.Machine.execVrsum core f s
  | .vrmax core f => Sys2Proof.Machine.execVrmax core f s
  | .vrmin core f => Sys2Proof.Machine.execVrmin core f s
  | .vrisum core f => Sys2Proof.Machine.execVrisum core f s
  | .vexpmax core f => Sys2Proof.Machine.execVexpmax core f s
  | .vcvti core f => Sys2Proof.Machine.execVcvti core f s
  | .vcvtf core f => Sys2Proof.Machine.execVcvtf core f s
  | .vrnd core f => Sys2Proof.Machine.execVrnd core f s
  | .vfix core f => Sys2Proof.Machine.execVfix core f s
  | .vflt core f => Sys2Proof.Machine.execVflt core f s
  | .vadd64 core f => Sys2Proof.Machine.execVadd64 core f s
  | .vrand core f => Sys2Proof.Machine.execVrand core f s
  | .vrda core f => Sys2Proof.Machine.execVrda core f s
  | .vwra core f => Sys2Proof.Machine.execVwra core f s
  | .vplog core f => Sys2Proof.Machine.execVplog core f s
  | .vpset core f => Sys2Proof.Machine.execVpset core f s
  | .vpget core f => Sys2Proof.Machine.execVpget core f s
  | .vld core f => Sys2Proof.Machine.execVld core f s
  | .vst core f => Sys2Proof.Machine.execVst core f s
  | .vlds core f => Sys2Proof.Machine.execVlds core f s
  | .vldx core f => Sys2Proof.Machine.execVldx core f s
  | .sfn core rom f => Sys2Proof.Machine.execSfn core rom f s
  | .sfnb core rom f => Sys2Proof.Machine.execSfnb core rom f s
  | .sfnbs core rom f => Sys2Proof.Machine.execSfnbs core rom f s
  | .sder core rom f => Sys2Proof.Machine.execSder core rom f s
  | .snormTable core f => Sys2Proof.Machine.execSnormTable core f s
  | .snormBoxMuller core rom f => Sys2Proof.Machine.execSnormBoxMuller core rom f s
  | .xferRows core f => Sys2Proof.Machine.execXferRows core f s
  | .xferTranspose core f => Sys2Proof.Machine.execXferTranspose core f s
  | .xferConvert core f => Sys2Proof.Machine.execXferConvert core f s
  | .xferConvertTranspose core f => Sys2Proof.Machine.execXferConvertTranspose core f s
  | .xferFill core f => Sys2Proof.Machine.execXferFill core f s
  | .racc core f => Sys2Proof.Machine.execRacc core f s
  | .atomAdd32 core f => Sys2Proof.Machine.execAtomAdd32 core f s
  | .atomAdd64 core f => Sys2Proof.Machine.execAtomAdd64 core f s
  | .atomSwap32 core f => Sys2Proof.Machine.execAtomSwap32 core f s
  | .atomSwap64 core f => Sys2Proof.Machine.execAtomSwap64 core f s
  | .atomCas32 core f => Sys2Proof.Machine.execAtomCas32 core f s
  | .atomCas64 core f => Sys2Proof.Machine.execAtomCas64 core f s
  | .atomMaxs32 core f => Sys2Proof.Machine.execAtomMaxs32 core f s
  | .atomMins32 core f => Sys2Proof.Machine.execAtomMins32 core f s
  | .accst core mode f => Sys2Proof.Machine.execAccst core mode f s
  | .accld core mode f => Sys2Proof.Machine.execAccld core mode f s
  | .mwait core f => Sys2Proof.Machine.execMwait core f s
  | .fenceLocal core f => Sys2Proof.Machine.execFenceLocal core f s
  | .fenceGlobal core f => Sys2Proof.Machine.execFenceGlobal core f s
  | .send core f => Sys2Proof.Machine.execSend core f s
  | .recv core f => Sys2Proof.Machine.execRecv core f s
  | .semacq core f => Sys2Proof.Machine.execSemacq core f s
  | .semrel core f => Sys2Proof.Machine.execSemrel core f s
  | .waitarr core f => Sys2Proof.Machine.execWaitarr core f s
  | .waitft core f => Sys2Proof.Machine.execWaitft core f s
  | .bar core f => Sys2Proof.Machine.execBar core f s
  | .coldReset => Sys2Proof.Machine.execColdReset s
  | .partitionResetDone pid => Sys2Proof.Machine.execPartitionResetDone pid s
  | .regionMigrationDone pid region => Sys2Proof.Machine.execRegionMigrationDone pid region s
  | .linkControlWord port w => Sys2Proof.Machine.execLinkControlWord port w s

end Sys2Proof.Machine
end

