-- ==== Sys2Proof/Machine/CoreRows.lean ====
section
/-! DEFINITION. The commands that are one operation of a core: which core, whether a table read fails its check (R172), and the
operation (Tables 3.7, 4.3, 4.5, 4.7, 4.10, 4.12). -/
namespace Sys2Proof.Machine

/-- The operation that a core command issues; none for any other command. -/
def coreOp : Instr → Option (Nat × Bool × SlotOp)
  | .add core rd rs1 rs2 => some (core, false, .scalar (.rr .add rd rs1 rs2))
  | .sub core rd rs1 rs2 => some (core, false, .scalar (.rr .sub rd rs1 rs2))
  | .and core rd rs1 rs2 => some (core, false, .scalar (.rr .and rd rs1 rs2))
  | .or core rd rs1 rs2 => some (core, false, .scalar (.rr .or rd rs1 rs2))
  | .xor core rd rs1 rs2 => some (core, false, .scalar (.rr .xor rd rs1 rs2))
  | .sll core rd rs1 rs2 => some (core, false, .scalar (.rr .sll rd rs1 rs2))
  | .srl core rd rs1 rs2 => some (core, false, .scalar (.rr .srl rd rs1 rs2))
  | .sra core rd rs1 rs2 => some (core, false, .scalar (.rr .sra rd rs1 rs2))
  | .slt core rd rs1 rs2 => some (core, false, .scalar (.rr .slt rd rs1 rs2))
  | .sltu core rd rs1 rs2 => some (core, false, .scalar (.rr .sltu rd rs1 rs2))
  | .min core rd rs1 rs2 => some (core, false, .scalar (.rr .min rd rs1 rs2))
  | .max core rd rs1 rs2 => some (core, false, .scalar (.rr .max rd rs1 rs2))
  | .minu core rd rs1 rs2 => some (core, false, .scalar (.rr .minu rd rs1 rs2))
  | .maxu core rd rs1 rs2 => some (core, false, .scalar (.rr .maxu rd rs1 rs2))
  | .clz core rd rs1 rs2 => some (core, false, .scalar (.rr .clz rd rs1 rs2))
  | .popc core rd rs1 rs2 => some (core, false, .scalar (.rr .popc rd rs1 rs2))
  | .mul core rd rs1 rs2 => some (core, false, .scalar (.rr .mul rd rs1 rs2))
  | .mulh core rd rs1 rs2 => some (core, false, .scalar (.rr .mulh rd rs1 rs2))
  | .mulhu core rd rs1 rs2 => some (core, false, .scalar (.rr .mulhu rd rs1 rs2))
  | .div core rd rs1 rs2 => some (core, false, .scalar (.rr .div rd rs1 rs2))
  | .divu core rd rs1 rs2 => some (core, false, .scalar (.rr .divu rd rs1 rs2))
  | .rem core rd rs1 rs2 => some (core, false, .scalar (.rr .rem rd rs1 rs2))
  | .remu core rd rs1 rs2 => some (core, false, .scalar (.rr .remu rd rs1 rs2))
  | .addi core rd rs1 imm => some (core, false, .scalar (.ri .addi rd rs1 imm))
  | .andi core rd rs1 imm => some (core, false, .scalar (.ri .andi rd rs1 imm))
  | .ori core rd rs1 imm => some (core, false, .scalar (.ri .ori rd rs1 imm))
  | .xori core rd rs1 imm => some (core, false, .scalar (.ri .xori rd rs1 imm))
  | .slti core rd rs1 imm => some (core, false, .scalar (.ri .slti rd rs1 imm))
  | .sltiu core rd rs1 imm => some (core, false, .scalar (.ri .sltiu rd rs1 imm))
  | .shi core rd rs1 imm => some (core, false, .scalar (.shi rd rs1 imm))
  | .lui core rd imm => some (core, false, .scalar (.lui rd imm))
  | .ldnW core rd rs1 imm => some (core, false, .scalar (.load .ldnW rd rs1 imm))
  | .ldnH core rd rs1 imm => some (core, false, .scalar (.load .ldnH rd rs1 imm))
  | .ldnHu core rd rs1 imm => some (core, false, .scalar (.load .ldnHu rd rs1 imm))
  | .ldnB core rd rs1 imm => some (core, false, .scalar (.load .ldnB rd rs1 imm))
  | .ldnBu core rd rs1 imm => some (core, false, .scalar (.load .ldnBu rd rs1 imm))
  | .ldtW core rd rs1 imm => some (core, false, .scalar (.load .ldtW rd rs1 imm))
  | .ldgW core rd rs1 imm => some (core, false, .scalar (.load .ldgW rd rs1 imm))
  | .stnW core rs2 rs1 imm => some (core, false, .scalar (.store .stnW rs2 rs1 imm))
  | .stnH core rs2 rs1 imm => some (core, false, .scalar (.store .stnH rs2 rs1 imm))
  | .stnB core rs2 rs1 imm => some (core, false, .scalar (.store .stnB rs2 rs1 imm))
  | .sttW core rs2 rs1 imm => some (core, false, .scalar (.store .sttW rs2 rs1 imm))
  | .stgW core rs2 rs1 imm => some (core, false, .scalar (.store .stgW rs2 rs1 imm))
  | .beq core rs1 rs2 off => some (core, false, .scalar (.branch .beq rs1 rs2 off))
  | .bne core rs1 rs2 off => some (core, false, .scalar (.branch .bne rs1 rs2 off))
  | .blt core rs1 rs2 off => some (core, false, .scalar (.branch .blt rs1 rs2 off))
  | .bge core rs1 rs2 off => some (core, false, .scalar (.branch .bge rs1 rs2 off))
  | .bltu core rs1 rs2 off => some (core, false, .scalar (.branch .bltu rs1 rs2 off))
  | .bgeu core rs1 rs2 off => some (core, false, .scalar (.branch .bgeu rs1 rs2 off))
  | .j core off => some (core, false, .scalar (.j off))
  | .jal core off => some (core, false, .scalar (.jal off))
  | .jalr core rd rs1 imm => some (core, false, .scalar (.jalr rd rs1 imm))
  | .wide core off => some (core, false, .scalar (.wide off))
  | .mfs core rd spec => some (core, false, .scalar (.mfs rd spec))
  | .mts core rs1 spec => some (core, false, .scalar (.mts rs1 spec))
  | .trap core n => some (core, false, .scalar (.trap n))
  | .eret core => some (core, false, .scalar .eret)
  | .halt core => some (core, false, .scalar .halt)
  | .mldw core f => some (core, false, .mat .mldw f)
  | .mpass core f => some (core, false, .mat .mpass f)
  | .mzero core f => some (core, false, .mat .mzero f)
  | .vfadd core f => some (core, false, .vec .vfadd f)
  | .vfsub core f => some (core, false, .vec .vfsub f)
  | .vfmul core f => some (core, false, .vec .vfmul f)
  | .vfma core f => some (core, false, .vec .vfma f)
  | .vfmin core f => some (core, false, .vec .vfmin f)
  | .vfmax core f => some (core, false, .vec .vfmax f)
  | .vfabs core f => some (core, false, .vec .vfabs f)
  | .vfneg core f => some (core, false, .vec .vfneg f)
  | .vfcmp core f => some (core, false, .vec .vfcmp f)
  | .vfscale core f => some (core, false, .vec .vfscale f)
  | .viadd core f => some (core, false, .vec .viadd f)
  | .visub core f => some (core, false, .vec .visub f)
  | .vimul core f => some (core, false, .vec .vimul f)
  | .vand core f => some (core, false, .vec .vand f)
  | .vor core f => some (core, false, .vec .vor f)
  | .vxor core f => some (core, false, .vec .vxor f)
  | .vshl core f => some (core, false, .vec .vshl f)
  | .vshr core f => some (core, false, .vec .vshr f)
  | .vsra core f => some (core, false, .vec .vsra f)
  | .vimin core f => some (core, false, .vec .vimin f)
  | .vimax core f => some (core, false, .vec .vimax f)
  | .vicmp core f => some (core, false, .vec .vicmp f)
  | .vsel core f => some (core, false, .vec .vsel f)
  | .vbcs core f => some (core, false, .vec .vbcs f)
  | .vbci core f => some (core, false, .vec .vbci f)
  | .vperm core f => some (core, false, .vec .vperm f)
  | .vrot core f => some (core, false, .vec .vrot f)
  | .vext core f => some (core, false, .vec .vext f)
  | .vins core f => some (core, false, .vec .vins f)
  | .vrsum core f => some (core, false, .vec .vrsum f)
  | .vrmax core f => some (core, false, .vec .vrmax f)
  | .vrmin core f => some (core, false, .vec .vrmin f)
  | .vrisum core f => some (core, false, .vec .vrisum f)
  | .vexpmax core f => some (core, false, .vec .vexpmax f)
  | .vcvti core f => some (core, false, .vec .vcvti f)
  | .vcvtf core f => some (core, false, .vec .vcvtf f)
  | .vrnd core f => some (core, false, .vec .vrnd f)
  | .vfix core f => some (core, false, .vec .vfix f)
  | .vflt core f => some (core, false, .vec .vflt f)
  | .vadd64 core f => some (core, false, .vec .vadd64 f)
  | .vrand core f => some (core, false, .vec .vrand f)
  | .vrda core f => some (core, false, .vec .vrda f)
  | .vwra core f => some (core, false, .vec .vwra f)
  | .vplog core f => some (core, false, .vec .vplog f)
  | .vpset core f => some (core, false, .vec .vpset f)
  | .vpget core f => some (core, false, .vec .vpget f)
  | .vld core f => some (core, false, .vec .vld f)
  | .vst core f => some (core, false, .vec .vst f)
  | .vlds core f => some (core, false, .vec .vlds f)
  | .vldx core f => some (core, false, .vec .vldx f)
  | .sfn core rom f => some (core, rom, .sf .sfn f)
  | .sfnb core rom f => some (core, rom, .sf .sfnb f)
  | .sfnbs core rom f => some (core, rom, .sf .sfnbs f)
  | .sder core rom f => some (core, rom, .sf .sder f)
  | .snormTable core f => some (core, false, .sf .snorm { f with tver := f.tver &&& 0xFE#8 })
  | .snormBoxMuller core rom f => some (core, rom, .sf .snorm { f with tver := f.tver ||| 1#8 })
  | .xferRows core f => some (core, false, .mv .rows f)
  | .xferTranspose core f => some (core, false, .mv .transpose f)
  | .xferConvert core f => some (core, false, .mv .convert f)
  | .xferConvertTranspose core f => some (core, false, .mv .convertTranspose f)
  | .xferFill core f => some (core, false, .mv .fill f)
  | .racc core f => some (core, false, .mv .racc f)
  | .atomAdd32 core f => some (core, false, .mv (.atom 0) f)
  | .atomAdd64 core f => some (core, false, .mv (.atom 1) f)
  | .atomSwap32 core f => some (core, false, .mv (.atom 2) f)
  | .atomSwap64 core f => some (core, false, .mv (.atom 3) f)
  | .atomCas32 core f => some (core, false, .mv (.atom 4) f)
  | .atomCas64 core f => some (core, false, .mv (.atom 5) f)
  | .atomMaxs32 core f => some (core, false, .mv (.atom 6) f)
  | .atomMins32 core f => some (core, false, .mv (.atom 7) f)
  | .accst core mode f => some (core, false, .mv (.accst mode.toNat) f)
  | .accld core mode f => some (core, false, .mv (.accld mode.toNat) f)
  | .mwait core f => some (core, false, .sy .mwait f)
  | .fenceLocal core f => some (core, false, .sy .fenceLocal { f with imm := f.imm &&& 0xFFFE#16 })
  | .fenceGlobal core f => some (core, false, .sy .fenceGlobal { f with imm := f.imm ||| 1#16 })
  | .send core f => some (core, false, .sy .send f)
  | .recv core f => some (core, false, .sy .recv f)
  | .semacq core f => some (core, false, .sy .semacq f)
  | .semrel core f => some (core, false, .sy .semrel f)
  | .waitarr core f => some (core, false, .sy .waitarr f)
  | .waitft core f => some (core, false, .sy .waitft f)
  | .bar core f => some (core, false, .sy .bar f)
  | _ => none

end Sys2Proof.Machine
end

