-- ==== Sys2Proof/WellFormed.lean ====
section
/-! DEFINITION. Well-formed commands: the unit that a command names exists (R2, R346, R332, R371, Table 18.1). -/
namespace Sys2Proof

/-- The unit a command is about. -/
inductive Target where
  | device
  | core (n : Nat)
  | part (n : Nat)
  | tenant (n : Nat)
  | port (n : Nat)
  | hostPort (n : Nat)
  | qp (n : Nat)
  deriving DecidableEq, Repr

/-- The unit's number; the device is number 0. -/
def Target.number : Target → Nat
  | .device => 0
  | .core n | .part n | .tenant n | .port n | .hostPort n | .qp n => n

/-- How many units of the kind there are: 1,024 cores, partitions and tenants (R2, R346), 38 optical ports and 4 host ports
(R332, R371), 4,096 queue pairs (Table 18.1). -/
def Target.bound : Target → Nat
  | .device => 1
  | .core _ | .part _ | .tenant _ => 1024
  | .port _ => 38
  | .hostPort _ => 4
  | .qp _ => 4096

/-- Does the unit exist? -/
def Target.exists? (t : Target) : Bool := decide (t.number < t.bound)

/-- The unit that a hare message is for. -/
def HareMsg.target : HareMsg → Target
  | .digest p _ _ _ => .part p
  | .other _ => .device

/-- The unit of a command. -/
def Instr.target : Instr → Target
  | .coldBoot _ _ => .device
  | .bootGo port _ => .hostPort port
  | .imageVerified _ => .device
  | .bootKeysDerived _ => .device
  | .commitSvn _ => .device
  | .quote _ tenant => .tenant tenant
  | .quoteDone tenant => .tenant tenant
  | .warmReset _ => .device
  | .commitRoutes _ => .device
  | .routeDataWrite _ _ => .device
  | .registerWrite _ _ _ _ => .device
  | .lockSet _ _ => .device
  | .faultClear _ _ => .device
  | .eventStatusClear _ _ _ _ => .device
  | .create _ pid => .part pid
  | .destroy _ pid => .part pid
  | .reset _ pid => .part pid
  | .tenantReset _ pid => .part pid
  | .keyRoll _ pid => .part pid
  | .parkRequest _ pid => .part pid
  | .wakeRequest _ pid => .part pid
  | .parkPlanWake pid => .part pid
  | .idleEntry pid => .part pid
  | .enterDeep _ => .device
  | .exitDeep _ => .device
  | .governorTick _ _ _ => .device
  | .vcoreSettled _ _ => .device
  | .thermalTrip _ _ => .device
  | .thermalTripRelease => .device
  | .thermalShutdown => .device
  | .railFault _ => .device
  | .pmbusPoll _ _ _ _ _ _ => .device
  | .pmbusAlert _ _ _ => .device
  | .timeWordSend => .device
  | .timeWord port _ => .port port
  | .holdoverExpiry => .device
  | .forceStep _ => .device
  | .roleGenerate pid => .part pid
  | .roleLearn pid => .part pid
  | .swap pid => .part pid
  | .checkpoint pid => .part pid
  | .launch pid => .part pid
  | .plan pid _ _ => .part pid
  | .request pid _ _ => .part pid
  | .cancel pid _ _ => .part pid
  | .prefixCreate pid _ _ _ _ _ => .part pid
  | .prefixRelease pid _ _ _ => .part pid
  | .nop pid _ => .part pid
  | .decodeStepLaunch pid => .part pid
  | .fillHoldExpiry pid => .part pid
  | .joinDuringHold pid => .part pid
  | .stepLaunchMessage pid _ => .part pid
  | .slotCommit pid _ _ _ => .part pid
  | .stepAbort pid _ => .part pid
  | .streamLost pid _ => .part pid
  | .stepRingLost pid => .part pid
  | .stepRingRestart _ pid _ _ => .part pid
  | .spillReadDone pid => .part pid
  | .resumePagesLanded pid _ _ => .part pid
  | .expHeaderWrite pid _ _ => .part pid
  | .learnerCommit pid _ => .part pid
  | .publicationRecord pid _ => .part pid
  | .relayChunkPacket pid _ => .part pid
  | .relayDigestPacket pid _ => .part pid
  | .relayRestartPacket pid _ => .part pid
  | .relayStall pid _ => .part pid
  | .readinessResult pid _ _ _ => .part pid
  | .bufferDrained pid _ => .part pid
  | .loadBegin _ pid _ => .part pid
  | .loadEnd _ pid _ => .part pid
  | .unload _ pid _ => .part pid
  | .listGo _ pid => .part pid
  | .stream pid _ => .part pid
  | .streamLanded pid _ _ _ => .part pid
  | .moveRegion pid _ => .part pid
  | .moveRegionDone pid _ => .part pid
  | .gate pid _ => .part pid
  | .endList pid _ => .part pid
  | .migrationEpoch pid => .part pid
  | .migrationEvict pid => .part pid
  | .migrationPromote pid => .part pid
  | .regionHintWrite _ pid _ => .part pid
  | .regionDefine _ pid _ => .part pid
  | .regionDelete _ pid => .part pid
  | .tierWatchdogExpiry core => .core core
  | .t1UeRetry _ _ => .device
  | .rngSeedWrite _ pid _ _ => .part pid
  | .seedExpansionDone pid _ => .part pid
  | .reserve core _ => .core core
  | .push core _ => .core core
  | .fetch core _ => .core core
  | .release core _ => .core core
  | .clear core _ => .core core
  | .settPlacement pid _ => .part pid
  | .settLeadSpill pid _ => .part pid
  | .settFill pid _ => .part pid
  | .redOpen core _ => .core core
  | .stepOpenDone pid => .part pid
  | .redClose core _ => .core core
  | .exponentAgreed pid _ _ => .part pid
  | .redStaged core _ => .core core
  | .redNotify core _ => .core core
  | .raccArrival pid _ => .part pid
  | .raccAcknowledged pid _ _ => .part pid
  | .checksumResult pid _ _ => .part pid
  | .bucketDeadline pid _ => .part pid
  | .agreeTimeout pid _ => .part pid
  | .quiescenceDone pid => .part pid
  | .normResult pid _ => .part pid
  | .updateStart pid => .part pid
  | .weightGather pid _ => .part pid
  | .updateStaged pid => .part pid
  | .gatherTimeout pid => .part pid
  | .packetReceive port _ => .port port
  | .linkCrcError port => .port port
  | .bridgeFlitError _ _ _ => .device
  | .subcreditReceive pid _ => .part pid
  | .ackReceive pid _ => .part pid
  | .hareGo core _ => .core core
  | .harePartReceive port _ => .port port
  | .hareResult _ => .device
  | .hareMsgReceive msg => msg.target
  | .combineLoad _ pid _ => .part pid
  | .combineRemove _ pid _ => .part pid
  | .groupTableLoad _ pid _ => .part pid
  | .collGo _ pid _ => .part pid
  | .collDataReceive pid _ => .part pid
  | .collectiveChunkDone pid _ => .part pid
  | .collectiveDeadline pid _ => .part pid
  | .expGoRead core _ => .core core
  | .expGoCredit core _ => .core core
  | .expReadServe _ => .device
  | .expCreditReceive _ => .device
  | .expResponse pid _ => .part pid
  | .expOpTimeout pid _ => .part pid
  | .laneFailure port _ => .port port
  | .portTrainRetry port _ => .port port
  | .linkReset port => .port port
  | .hostFrameReceive port _ => .hostPort port
  | .arpRequest port _ _ => .hostPort port
  | .neighbourSolicitation port _ _ => .hostPort port
  | .echoRequest port _ _ _ _ => .hostPort port
  | .lldpReceive port _ => .hostPort port
  | .lldpTransmit port => .hostPort port
  | .pfcFrame port _ _ => .hostPort port
  | .ptpMessage port _ _ _ => .hostPort port
  | .cnpReceive qp => .qp qp
  | .rateRecovery qp => .qp qp
  | .cmReq port _ => .hostPort port
  | .cmRtu qp => .qp qp
  | .cmDreq qp => .qp qp
  | .rdmaWrite qp _ _ _ _ => .qp qp
  | .rdmaRead qp _ _ _ _ => .qp qp
  | .commandRingSend qp _ _ => .qp qp
  | .rnrNak qp => .qp qp
  | .qpError qp => .qp qp
  | .cqRingRestart _ tenant _ => .tenant tenant
  | .eqRingRestart _ tenant _ => .tenant tenant
  | .eventsLost tenant => .tenant tenant
  | .taskStart pid _ => .part pid
  | .preemptRequest pid _ => .part pid
  | .cheapPointSave core _ => .core core
  | .preemptGraceExpiry core => .core core
  | .fullSave core => .core core
  | .preemptWithdraw core => .core core
  | .contextResume core => .core core
  | .suspend _ pid => .part pid
  | .suspendImageDone pid => .part pid
  | .preemptSlow core => .core core
  | .restore _ pid => .part pid
  | .semInitWrite _ pid _ => .part pid
  | .coreRetire core => .core core
  | .owlVerdict core _ _ => .core core
  | .owlLate core _ => .core core
  | .digestResult pid _ => .part pid
  | .faultRingRestart _ pid _ _ => .part pid
  | .pair _ => .device
  | .detach _ => .device
  | .heartbeatSend _ => .device
  | .heartbeatReceive port _ => .port port
  | .heartbeatMiss => .device
  | .resetHoldExpiry => .device
  | .ckptDataReceive _ => .device
  | .ckptManifest _ => .device
  | .ckptRestore _ pid => .part pid
  | .restoreAgreement pid _ => .part pid
  | .restoreAgreeTimeout pid => .part pid
  | .restorePullDone pid _ => .part pid
  | .t0SelfTest _ => .device
  | .t1ControllerLoop _ => .device
  | .t1PhyLoop _ => .device
  | .deviceTestDone _ _ => .device
  | .loopStart _ host port _ _ => if host then .hostPort port else .port port
  | .loopStop _ host port _ => if host then .hostPort port else .port port
  | .loopEnd host port _ => if host then .hostPort port else .port port
  | .farLoopRequest port _ => .port port
  | .retimingTimeout port => .port port
  | .farLoopNoAnswer port => .port port
  | .bypass => .device
  | .idcode => .device
  | .samplePreload _ => .device
  | .extest => .device
  | .clamp => .device
  | .highz => .device
  | .bundle core _ _ => .core core
  | .moveComplete core _ _ => .core core
  | .messageReceive pid _ => .part pid
  | .add core _ _ _ => .core core
  | .sub core _ _ _ => .core core
  | .and core _ _ _ => .core core
  | .or core _ _ _ => .core core
  | .xor core _ _ _ => .core core
  | .sll core _ _ _ => .core core
  | .srl core _ _ _ => .core core
  | .sra core _ _ _ => .core core
  | .slt core _ _ _ => .core core
  | .sltu core _ _ _ => .core core
  | .min core _ _ _ => .core core
  | .max core _ _ _ => .core core
  | .minu core _ _ _ => .core core
  | .maxu core _ _ _ => .core core
  | .clz core _ _ _ => .core core
  | .popc core _ _ _ => .core core
  | .mul core _ _ _ => .core core
  | .mulh core _ _ _ => .core core
  | .mulhu core _ _ _ => .core core
  | .div core _ _ _ => .core core
  | .divu core _ _ _ => .core core
  | .rem core _ _ _ => .core core
  | .remu core _ _ _ => .core core
  | .addi core _ _ _ => .core core
  | .andi core _ _ _ => .core core
  | .ori core _ _ _ => .core core
  | .xori core _ _ _ => .core core
  | .slti core _ _ _ => .core core
  | .sltiu core _ _ _ => .core core
  | .shi core _ _ _ => .core core
  | .lui core _ _ => .core core
  | .ldnW core _ _ _ => .core core
  | .ldnH core _ _ _ => .core core
  | .ldnHu core _ _ _ => .core core
  | .ldnB core _ _ _ => .core core
  | .ldnBu core _ _ _ => .core core
  | .ldtW core _ _ _ => .core core
  | .ldgW core _ _ _ => .core core
  | .stnW core _ _ _ => .core core
  | .stnH core _ _ _ => .core core
  | .stnB core _ _ _ => .core core
  | .sttW core _ _ _ => .core core
  | .stgW core _ _ _ => .core core
  | .beq core _ _ _ => .core core
  | .bne core _ _ _ => .core core
  | .blt core _ _ _ => .core core
  | .bge core _ _ _ => .core core
  | .bltu core _ _ _ => .core core
  | .bgeu core _ _ _ => .core core
  | .j core _ => .core core
  | .jal core _ => .core core
  | .jalr core _ _ _ => .core core
  | .wide core _ => .core core
  | .mfs core _ _ => .core core
  | .mts core _ _ => .core core
  | .trap core _ => .core core
  | .eret core => .core core
  | .halt core => .core core
  | .mldw core _ => .core core
  | .mpass core _ => .core core
  | .mzero core _ => .core core
  | .vfadd core _ => .core core
  | .vfsub core _ => .core core
  | .vfmul core _ => .core core
  | .vfma core _ => .core core
  | .vfmin core _ => .core core
  | .vfmax core _ => .core core
  | .vfabs core _ => .core core
  | .vfneg core _ => .core core
  | .vfcmp core _ => .core core
  | .vfscale core _ => .core core
  | .viadd core _ => .core core
  | .visub core _ => .core core
  | .vimul core _ => .core core
  | .vand core _ => .core core
  | .vor core _ => .core core
  | .vxor core _ => .core core
  | .vshl core _ => .core core
  | .vshr core _ => .core core
  | .vsra core _ => .core core
  | .vimin core _ => .core core
  | .vimax core _ => .core core
  | .vicmp core _ => .core core
  | .vsel core _ => .core core
  | .vbcs core _ => .core core
  | .vbci core _ => .core core
  | .vperm core _ => .core core
  | .vrot core _ => .core core
  | .vext core _ => .core core
  | .vins core _ => .core core
  | .vrsum core _ => .core core
  | .vrmax core _ => .core core
  | .vrmin core _ => .core core
  | .vrisum core _ => .core core
  | .vexpmax core _ => .core core
  | .vcvti core _ => .core core
  | .vcvtf core _ => .core core
  | .vrnd core _ => .core core
  | .vfix core _ => .core core
  | .vflt core _ => .core core
  | .vadd64 core _ => .core core
  | .vrand core _ => .core core
  | .vrda core _ => .core core
  | .vwra core _ => .core core
  | .vplog core _ => .core core
  | .vpset core _ => .core core
  | .vpget core _ => .core core
  | .vld core _ => .core core
  | .vst core _ => .core core
  | .vlds core _ => .core core
  | .vldx core _ => .core core
  | .sfn core _ _ => .core core
  | .sfnb core _ _ => .core core
  | .sfnbs core _ _ => .core core
  | .sder core _ _ => .core core
  | .snormTable core _ => .core core
  | .snormBoxMuller core _ _ => .core core
  | .xferRows core _ => .core core
  | .xferTranspose core _ => .core core
  | .xferConvert core _ => .core core
  | .xferConvertTranspose core _ => .core core
  | .xferFill core _ => .core core
  | .racc core _ => .core core
  | .atomAdd32 core _ => .core core
  | .atomAdd64 core _ => .core core
  | .atomSwap32 core _ => .core core
  | .atomSwap64 core _ => .core core
  | .atomCas32 core _ => .core core
  | .atomCas64 core _ => .core core
  | .atomMaxs32 core _ => .core core
  | .atomMins32 core _ => .core core
  | .accst core _ _ => .core core
  | .accld core _ _ => .core core
  | .mwait core _ => .core core
  | .fenceLocal core _ => .core core
  | .fenceGlobal core _ => .core core
  | .send core _ => .core core
  | .recv core _ => .core core
  | .semacq core _ => .core core
  | .semrel core _ => .core core
  | .waitarr core _ => .core core
  | .waitft core _ => .core core
  | .bar core _ => .core core
  | .coldReset => .device
  | .partitionResetDone pid => .part pid
  | .regionMigrationDone pid _ => .part pid
  | .linkControlWord port _ => .port port

/-- A command is well formed if the unit it names exists. -/
def Instr.wf (i : Instr) : Bool := i.target.exists?

end Sys2Proof
end

