-- ==== Sys2Proof/Safety.lean ====
section
/-! DEFINITION. The terms in which claims are stated: when a command completes, when a core's operation issues, what an ordinary
instruction leaves behind. -/
namespace Sys2Proof.Machine

/-- The command completes, and `P` holds of the state after it. -/
def Completes (i : Instr) (s : State) (P : State → Prop) : Prop := ∃ t, exec i s = .next t ∧ P t

/-- The fault of a command whose unit does not exist. -/
def targetFault : Target → Fault
  | .device => .noSuchCore
  | .core _ => .noSuchCore
  | .part _ => .noSuchPartition
  | .tenant _ => .noSuchTenant
  | .port _ => .noSuchPort
  | .hostPort _ => .noSuchPort
  | .qp _ => .noSuchQp

/-- Core `c` belongs to partition `p`, runs a task, and does not wait for a full save (R358). -/
structure Runs (s : State) (p c : Nat) : Prop where
  exists? : c < 1024
  owner : s.partOf c = some p
  task : (s.core c).task.isSome = true
  issues : (s.core c).awaitsFullSave = false

/-- The operation passes every check of R92, and nothing makes it wait. -/
structure Issues (s : State) (p c : Nat) (o : SlotOp) : Prop where
  runs : Runs s p c
  fetch : fetchOf (s.core c) o = none
  legal : slotIllegal (s.core c) (issueSlot (s.core c) o) o = false
  room : resourceStall (s.core c) [o] = false
  checks : slotCheck s p c (s.core c) o = none
  wait : waitOf s p (s.core c) [o] = none

/-- No register of a list is poisoned. -/
def Clean (k : Core) (codes : List Nat) : Prop := ∀ c ∈ codes, Map.find k.poison c = none

/-- Issue goes on with the next instruction or bundle, and no wait stands. -/
def Core.advance (k : Core) : Core :=
  { k with spec := { k.spec with pc := k.spec.pc + BitVec.ofNat 20 (unitBytes k.spec.bundleMode) },
           sync := { k.sync with stall := none } }

/-- Issue goes on at a PC and mode. -/
def Core.goto (k : Core) (pc : BitVec 20) (bundle : Bool) : Core :=
  { k with spec := { k.spec with pc := pc, bundleMode := bundle }, sync := { k.sync with stall := none } }

/-- The state after an instruction that writes scalar register `rd` and nothing else. -/
def wrote (s : State) (c : Nat) (rd : BitVec 5) (w : Word) : State := s.onCore c (fun k => (k.setS rd w).advance)

/-- The state after a load into `rd` from the address `a`; a load of uncorrectable data marks the register with it (R93). -/
def loaded (s : State) (c : Nat) (rd : BitVec 5) (w : Word) (bad : Bool) (a : Nat) : State :=
  s.onCore c (fun k => (if rd ≠ 0 ∧ bad = true then (k.setS rd w).mark (codeS rd) a else k.setS rd w).advance)

/-- Lane `i` of a vector register. -/
def Core.lane (k : Core) (v : BitVec 6) (i : Fin 64) : Word := (k.vr v)[i.val]'i.isLt

/-- The state after a vector instruction that writes `g i` into each lane `i` of `vd` that `en` enables and ORs the flags those
lanes raise into FPFLAGS (R80, R159). -/
def lanesWrote (s : State) (c : Nat) (en : DWord) (vd : BitVec 6) (g : Fin 64 → Word × Flags) : State :=
  s.onCore c (fun k => ((k.setLanes en vd (fun i => (g i).1)).orFlags (flagsOf en (fun i => (g i).2))).advance)

/-- The state after an instruction that writes each lane of a predicate that `en` enables. -/
def predWrote (s : State) (c : Nat) (en : DWord) (pd : BitVec 3) (g : Fin 64 → Bool) : State :=
  s.onCore c (fun k => (k.setP pd (predLanes en (k.pr pd) g)).advance)

/-- Apart from core `c` the states agree. -/
def OnlyCore (s t : State) (c : Nat) : Prop := t = s.setCore c (t.core c)

/-- What an ordinary operation leaves as it is in a core: everything but the register files, the flags of FPFLAGS, the rounding
counter, the generator sets, poison, the block, the chains and verdicts, the PC with its mode, and the sync unit. -/
def Core.others (k : Core) : Core :=
  { k with file := RegFile.zero, poison := [], block := none, rset := none, dset := none, chains := [], verdicts := [],
           chainCount := 0, sync := SyncUnit.zero,
           spec := { k.spec with pc := 0, bundleMode := false, fpflags := 0, rc := 0 } }

/-- What no operation of the device undoes: the commands that wait stay; the fuses stay but for min_svn, which never falls
(R434, R436); memory keeps its canonical form; no page register outgrows its 8 bytes (R459); what has left the device has
left. -/
structure Keeps (s t : State) : Prop where
  pending : t.pending = s.pending
  fuses : t.fuses = { s.fuses with minSvn := t.fuses.minSvn }
  svn : s.fuses.minSvn ≤ t.fuses.minSvn
  mem : Mem.wf s.mem = true → Mem.wf t.mem = true
  regs : (∀ x ∈ s.regs, x.2 < 2 ^ 64) → ∀ x ∈ t.regs, x.2 < 2 ^ 64
  out : s.out <+: t.out

/-- The same of the answer of a command. -/
def KeepsR (s : State) (r : Res) : Prop := ∀ t, r = .next t → Keeps s t

end Sys2Proof.Machine
end

