-- ==== Sys2Proof/Certificates/Slice0/Obligations.lean ====
section
/-! DEFINITION. The statements for the provers. -/
open Sys2Proof Sys2Proof.Machine

/-- O1. A step takes the command at the front of the queue and is exec of it on the state with the rest of the queue. For every
command and every state with that command at the front of its queue, step is exec of the command on the state with the queue's
rest: first in, first out, and nothing is added. (95_what_each_step_holds.md). -/
def Obligations.StepRunsFrontCommand : Prop :=
  ∀ (s : State) (c : Instr) (rest : List Instr), s.pending = c :: rest → step s = exec c { s with pending := rest }

/-- O2. On an empty queue a step lets one tick of fabric time pass (the model choice of log entry 4). With nothing pending, a
step lets 2^-30 s pass: the timer advances by one, the fabric count by one unless it is held or at fault, the cycle count of the
cores by (8 + j)/16 of 1.1 GHz less what remains for the next tick, none in Deep; no core, partition, memory byte or fuse
changes. That the queue's being empty means a tick is log entry 4's choice. (R440, R445, R450). -/
def Obligations.EmptyQueueTicks : Prop :=
  ∀ s : State, s.pending = [] →
    let n : Nat := if s.get Reg.GOV.STATE.deep 0 ≠ 0 then 0 else (8 + s.get Reg.GOV.STATE.j 0) * 1100000000
    let held : Prop := s.get Reg.TIME.STATUS.state 0 = 4 ∨ s.time.hold ≠ 0
    ∃ t, step s = .next t ∧ t.clock.timer = s.clock.timer + 1 ∧
      (¬ held → t.clock.ftime = s.clock.ftime + 1 ∧ t.regs = s.regs) ∧ (held → t.clock.ftime = s.clock.ftime) ∧
      t.clock.frac = (s.clock.frac + n) % 2 ^ 34 ∧
      t.clock.cycles = s.clock.cycles + BitVec.ofNat 64 ((s.clock.frac + n) / 2 ^ 34) ∧
      t.cores = s.cores ∧ t.parts = s.parts ∧ t.mem = s.mem ∧ t.fuses = s.fuses ∧ t.pending = [] ∧ t.out = s.out

/-- O3. Cold reset: no register written, so each page register reads its After cold value; no unit holds anything. State.reset
has no page register written, so every register reads the After cold value that its table gives; every core is idle, with no
task, no move and no semaphore, and EDGE_ROWS and EDGE_COLS 64; no partition or tenant holds anything; nothing waits and nothing
has been sent. That memory reads 0 then, and that the other registers of a core read 0, are the model's choices (log entries 2
and 3). (R18, R453, R97). -/
def Obligations.ResetLeaves : Prop :=
  (∀ key, State.reset.regAt key = coldValue (key % 2 ^ 32)) ∧ (∀ c, State.reset.core c = Core.idle) ∧
  Core.idle.task = none ∧ Core.idle.sync.moves = [] ∧ Core.idle.sync.sems = [] ∧ Core.idle.spec.edgeRows = 64 ∧
  Core.idle.spec.edgeCols = 64 ∧ (∀ p, State.reset.part p = Part.zero ∧ State.reset.life p = 0) ∧
  (∀ t, State.reset.tenant t = Tenant.zero) ∧ (∀ c, State.reset.partOf c = none) ∧ State.reset.pending = [] ∧
  State.reset.out = [] ∧ (∀ a, Mem.read State.reset.mem a = 0) ∧ State.reset.get Reg.BOOT.STATUS.state 0 = 0

/-- O4. A command whose unit exists always answers a next state; any other stops with the fault of its unit. For every command
of the table and every state: where the core, partition, tenant, port or queue pair that it names exists, exec answers a next
state, whatever the state holds; where it does not, exec stops with the fault that names the missing unit. (R2, R346, R376). -/
def Obligations.WellFormedNeverStops : Prop :=
  ∀ (i : Instr) (s : State), (i.wf = true → ∃ t, exec i s = .next t) ∧ (i.wf = false → exec i s = .fault (targetFault i.target))

/-- O5. No command changes the commands that wait behind it, and what has left the device has left. For every command and state,
a next state has the same queue as before, and everything sent before is still there, in order, in front of what the command
sends. (95_what_each_step_holds.md). -/
def Obligations.ExecLeavesTheQueue : Prop :=
  ∀ (i : Instr) (s t : State), exec i s = .next t → t.pending = s.pending ∧ s.out <+: t.out

/-- O6. Every step keeps the canonical form of memory and the 8-byte width of every page register. From every state in which
memory is in canonical form (addresses strictly rising, no entry equal to what an unlisted address reads as) and every page
register holds less than 2^64, every step that answers a next state, whatever the command, leaves a state of which the same
holds. (R15, R56, R459). -/
def Obligations.StepKeepsMemoryAndRegisterWidth : Prop :=
  ∀ s t : State, Mem.wf s.mem = true → (∀ x ∈ s.regs, x.2 < 2 ^ 64) → step s = .next t →
    Mem.wf t.mem = true ∧ ∀ x ∈ t.regs, x.2 < 2 ^ 64

/-- O7. The state after reset has memory in canonical form, no register wider than 8 bytes, and a legal min_svn. State.reset
meets the invariants that every step keeps: canonical memory, page registers of 8 bytes, and min_svn within the 63 fuses. (R15,
R459, R433). -/
def Obligations.ResetMeetsTheInvariant : Prop :=
  Mem.wf State.reset.mem = true ∧ (∀ x ∈ State.reset.regs, x.2 < 2 ^ 64) ∧ State.reset.fuses.minSvn ≤ 63

/-- O8. COMMIT_SVN raises min_svn to the running svn or does nothing, and no step ever undoes a fuse. A device-key COMMIT_SVN
takes min_svn to the running svn (at most 63) where it is below, and changes nothing where it is at or above. Through every
step, whatever the command, min_svn never falls, and the revocation fuses, the device secret, the serial, the MACs and the core
mask stay as they are. (R434). -/
def Obligations.SvnCommitIsPermanent : Prop :=
  (∀ s : State, s.get Reg.BOOT.SVN.svn 0 ≤ 63 →
    exec (.commitSvn .deviceKey) s = .next (if s.fuses.minSvn < s.get Reg.BOOT.SVN.svn 0
      then { s with fuses := { s.fuses with minSvn := s.get Reg.BOOT.SVN.svn 0 } } else s)) ∧
  (∀ s t : State, step s = .next t → s.fuses.minSvn ≤ t.fuses.minSvn ∧ t.fuses.revoked = s.fuses.revoked ∧
    t.fuses.secret = s.fuses.secret ∧ t.fuses.serial = s.fuses.serial ∧ t.fuses.macs = s.fuses.macs ∧
    t.fuses.coreMask = s.fuses.coreMask)

/-- O9. Each of the 143 rows of a core performs its operation where the operation issues. For each core command whose
operation issues (its core belongs to a partition and runs a task; the operation is legal, its operands are clean, its
addresses pass, its wait is satisfied), exec answers the state in which that one slot has taken effect on the operands as they
stood and the PC has moved as R69 says. Where the spec leaves a point to be read, it follows the model's own reading (log
entries 15 and 37). (R69, R73, R74, R92). -/
def Obligations.EveryCoreOperationCompletes : Prop :=
  ∀ (i : Instr) (s : State) (p c : Nat) (rom : Bool) (o : SlotOp), coreOp i = some (c, rom, o) → Issues s p c o →
    let e := slotEffect rom p c (s.core c) s o
    let n := nextFetch (s.core c) [(issueSlot (s.core c) o, o)] false
    let t := e.onCore c (fun k => k.goto n.1 n.2)
    exec i s = .next (if o = .scalar .halt then t.endTask p c 0 else t)

/-- O10. An operation that issues on one core changes no other core, whoever owns it. Where a core's operation issues and is no
global load or store (which may reach a register page), every other core of the device is the same after it: its registers, its
sync unit, its task, its saved contexts. (R70, R73, R346). -/
def Obligations.OtherCoresStayAsTheyAre : Prop :=
  ∀ (i : Instr) (s t : State) (p c : Nat) (rom : Bool) (o : SlotOp), coreOp i = some (c, rom, o) → Issues s p c o →
    (∀ rd ra imm, o ≠ .scalar (.load .ldgW rd ra imm)) → (∀ rb ra imm, o ≠ .scalar (.store .stgW rb ra imm)) →
    exec i s = .next t → ∀ c', c' ≠ c → t.core c' = s.core c'

/-- O11. What the 23 register-register scalar instructions write, and that they write nothing else. On a core that runs a
task, a register-register scalar instruction whose source registers are not poisoned completes: rd takes the value of Table
3.7 and R84 (s0 keeps nothing), the PC goes to the next instruction or bundle, and nothing else of the device changes. Where
the spec leaves a point to be read, it follows the model's own reading (log entry 15). (R71, R82, R84). -/
def Obligations.ScalarRegisterResults : Prop :=
  ∀ (s : State) (p c : Nat) (rd ra rb : BitVec 5), Runs s p c → Clean (s.core c) [codeS ra] →
    let a := (s.core c).rs ra
    let b := (s.core c).rs rb
    exec (.clz c rd ra rb) s = .next (wrote s c rd (if a = 0 then 32 else BitVec.ofNat 32 (31 - a.toNat.log2))) ∧
    exec (.popc c rd ra rb) s = .next (wrote s c rd (BitVec.ofNat 32 ((List.range 32).filter (fun i => a.getLsbD i)).length)) ∧
    (Clean (s.core c) [codeS rb] →
      exec (.add c rd ra rb) s = .next (wrote s c rd (a + b)) ∧
      exec (.sub c rd ra rb) s = .next (wrote s c rd (a - b)) ∧
      exec (.and c rd ra rb) s = .next (wrote s c rd (a &&& b)) ∧
      exec (.or c rd ra rb) s = .next (wrote s c rd (a ||| b)) ∧
      exec (.xor c rd ra rb) s = .next (wrote s c rd (a ^^^ b)) ∧
      exec (.sll c rd ra rb) s = .next (wrote s c rd (a <<< (b.toNat % 32))) ∧
      exec (.srl c rd ra rb) s = .next (wrote s c rd (a >>> (b.toNat % 32))) ∧
      exec (.sra c rd ra rb) s = .next (wrote s c rd (a.sshiftRight (b.toNat % 32))) ∧
      exec (.slt c rd ra rb) s = .next (wrote s c rd (if a.toInt < b.toInt then 1 else 0)) ∧
      exec (.sltu c rd ra rb) s = .next (wrote s c rd (if a.toNat < b.toNat then 1 else 0)) ∧
      exec (.min c rd ra rb) s = .next (wrote s c rd (BitVec.ofInt 32 (min a.toInt b.toInt))) ∧
      exec (.max c rd ra rb) s = .next (wrote s c rd (BitVec.ofInt 32 (max a.toInt b.toInt))) ∧
      exec (.minu c rd ra rb) s = .next (wrote s c rd (BitVec.ofNat 32 (min a.toNat b.toNat))) ∧
      exec (.maxu c rd ra rb) s = .next (wrote s c rd (BitVec.ofNat 32 (max a.toNat b.toNat))) ∧
      exec (.mul c rd ra rb) s = .next (wrote s c rd (BitVec.ofInt 32 (a.toInt * b.toInt))) ∧
      exec (.mulh c rd ra rb) s = .next (wrote s c rd (BitVec.ofInt 32 (a.toInt * b.toInt / 2 ^ 32))) ∧
      exec (.mulhu c rd ra rb) s = .next (wrote s c rd (BitVec.ofNat 32 (a.toNat * b.toNat / 2 ^ 32))) ∧
      exec (.div c rd ra rb) s =
        .next (wrote s c rd (if b = 0 then 0xFFFFFFFF#32 else BitVec.ofInt 32 (a.toInt.tdiv b.toInt))) ∧
      exec (.divu c rd ra rb) s =
        .next (wrote s c rd (if b = 0 then 0xFFFFFFFF#32 else BitVec.ofNat 32 (a.toNat / b.toNat))) ∧
      exec (.rem c rd ra rb) s = .next (wrote s c rd (if b = 0 then a else BitVec.ofInt 32 (a.toInt.tmod b.toInt))) ∧
      exec (.remu c rd ra rb) s = .next (wrote s c rd (if b = 0 then a else BitVec.ofNat 32 (a.toNat % b.toNat))))

/-- O12. What ADDI, ANDI, ORI, XORI, SLTI, SLTIU, SHI and LUI write, and that they write nothing else. On a core that runs a
task, an immediate scalar instruction whose source register is not poisoned completes: the immediate is sign-extended for
ADDI, SLTI and SLTIU and zero-extended for ANDI, ORI and XORI; SHI shifts by imm[4:0], its kind from imm[15:14] below 3 (3 is
ILLEGAL_OP); LUI puts its 21 bits at [31:11]. Where the spec leaves a point to be read, it follows the model's own reading
(log entry 15). (R82, R84). -/
def Obligations.ScalarImmediateResults : Prop :=
  ∀ (s : State) (p c : Nat) (rd ra : BitVec 5) (imm : BitVec 16) (u : BitVec 21), Runs s p c →
    let a := (s.core c).rs ra
    exec (.lui c rd u) s = .next (wrote s c rd (BitVec.ofNat 32 (u.toNat * 2 ^ 11))) ∧
    (Clean (s.core c) [codeS ra] →
      exec (.addi c rd ra imm) s = .next (wrote s c rd (BitVec.ofInt 32 (a.toInt + imm.toInt))) ∧
      exec (.andi c rd ra imm) s = .next (wrote s c rd (a &&& imm.zeroExtend 32)) ∧
      exec (.ori c rd ra imm) s = .next (wrote s c rd (a ||| imm.zeroExtend 32)) ∧
      exec (.xori c rd ra imm) s = .next (wrote s c rd (a ^^^ imm.zeroExtend 32)) ∧
      exec (.slti c rd ra imm) s = .next (wrote s c rd (if a.toInt < imm.toInt then 1 else 0)) ∧
      exec (.sltiu c rd ra imm) s = .next (wrote s c rd (if a.toNat < (imm.signExtend 32).toNat then 1 else 0)) ∧
      (imm.toNat / 2 ^ 14 = 0 → exec (.shi c rd ra imm) s = .next (wrote s c rd (a <<< (imm.toNat % 32)))) ∧
      (imm.toNat / 2 ^ 14 = 1 → exec (.shi c rd ra imm) s = .next (wrote s c rd (a >>> (imm.toNat % 32)))) ∧
      (imm.toNat / 2 ^ 14 = 2 → exec (.shi c rd ra imm) s = .next (wrote s c rd (a.sshiftRight (imm.toNat % 32)))))

/-- O13. What LDN.W, LDN.H, LDN.HU, LDN.B, LDN.BU and LDT.W read from the own near store and T0 slice. A load at rs1 +
sext(imm), inside the own near store (1 MiB) or the own slice (12 MiB) and aligned to its size, writes rd from the bytes
there, little-endian; LDN.H and LDN.B sign-extend, LDN.HU and LDN.BU zero-extend. Bytes of a word with an uncorrectable error
write rd and mark it poisoned with the address as issued (s0 holds no mark). Nothing else changes. Where the spec leaves a
point to be read, it follows the model's own reading (log entry 15). (R83, R84, R93). -/
def Obligations.OwnLoads : Prop :=
  ∀ (s : State) (p c : Nat) (rd ra : BitVec 5) (imm : BitVec 16), Runs s p c → Clean (s.core c) [codeS ra] →
    let a := ((s.core c).rs ra + imm.signExtend 32).toNat
    let x := 3 * 2 ^ 52 + c * 2 ^ 20 + a
    let y := c * 2 ^ 24 + a
    (a < 2 ^ 20 → a % 4 = 0 →
      exec (.ldnW c rd ra imm) s = .next (loaded s c rd (BitVec.ofNat 32 (s.readN x 4)) (s.poisoned x 4) a)) ∧
    (a < 2 ^ 20 → a % 2 = 0 →
      exec (.ldnH c rd ra imm) s =
        .next (loaded s c rd ((BitVec.ofNat 16 (s.readN x 2)).signExtend 32) (s.poisoned x 2) a) ∧
      exec (.ldnHu c rd ra imm) s = .next (loaded s c rd (BitVec.ofNat 32 (s.readN x 2)) (s.poisoned x 2) a)) ∧
    (a < 2 ^ 20 →
      exec (.ldnB c rd ra imm) s =
        .next (loaded s c rd ((BitVec.ofNat 8 (s.readN x 1)).signExtend 32) (s.poisoned x 1) a) ∧
      exec (.ldnBu c rd ra imm) s = .next (loaded s c rd (BitVec.ofNat 32 (s.readN x 1)) (s.poisoned x 1) a)) ∧
    (a < 0xC00000 → a % 4 = 0 →
      exec (.ldtW c rd ra imm) s = .next (loaded s c rd (BitVec.ofNat 32 (s.readN y 4)) (s.poisoned y 4) a))

/-- O14. Where STN.W, STN.H, STN.B and STT.W store, and that every other byte stays. A store at rs1 + sext(imm), inside the
own near store or the own slice and aligned to its size, writes the low bytes of rs2 there, little-endian; the PC advances.
Every byte outside the stored bytes, every register and everything else is unchanged (the poison mark of a word wholly
rewritten is cleared). Where the spec leaves a point to be read, it follows the model's own reading (log entry 15). (R83,
R93). -/
def Obligations.OwnStores : Prop :=
  ∀ (s : State) (p c : Nat) (rb ra : BitVec 5) (imm : BitVec 16), Runs s p c → Clean (s.core c) [codeS rb, codeS ra] →
    let a := ((s.core c).rs ra + imm.signExtend 32).toNat
    let x := 3 * 2 ^ 52 + c * 2 ^ 20 + a
    let y := c * 2 ^ 24 + a
    let w := ((s.core c).rs rb).toNat
    (a < 2 ^ 20 → a % 4 = 0 → exec (.stnW c rb ra imm) s = .next ((s.writeN x 4 w).onCore c Core.advance)) ∧
    (a < 2 ^ 20 → a % 2 = 0 → exec (.stnH c rb ra imm) s = .next ((s.writeN x 2 w).onCore c Core.advance)) ∧
    (a < 2 ^ 20 → exec (.stnB c rb ra imm) s = .next ((s.writeN x 1 w).onCore c Core.advance)) ∧
    (a < 0xC00000 → a % 4 = 0 → exec (.sttW c rb ra imm) s = .next ((s.writeN y 4 w).onCore c Core.advance))

/-- O15. A write of n bytes changes those bytes, and no other byte of memory reads differently. In memory of canonical form,
after a write of the low n bytes of a number at an address, the byte i of the written range reads as byte i of the number, every
address outside the range reads as before, and the form is still canonical (the canonical form is the model's own, log entry 3).
(R56, log entry 3). -/
def Obligations.WrittenBytesAndNoOthers : Prop :=
  ∀ (s : State) (a n v : Nat), Mem.wf s.mem = true →
    Mem.wf (s.writeN a n v).mem = true ∧
    (∀ i < n, Mem.read (s.writeN a n v).mem (a + i) = BitVec.ofNat 8 (v / 2 ^ (8 * i))) ∧
    (∀ b, b < a ∨ a + n ≤ b → Mem.read (s.writeN a n v).mem b = Mem.read s.mem b) ∧
    (s.writeN a n v).cores = s.cores ∧ (s.writeN a n v).regs = s.regs

/-- O16. LDG.W and STG.W outside the register pages use the pair {s[rs1+1], s[rs1]} and the checks of R60. With rs1 even, the
address is the 64-bit pair plus sext(imm); outside space 4, where the checks of R60 pass and give a physical address and the
access is aligned, LDG.W writes rd from the 4 bytes there (poisoned where they are) and STG.W stores the 4 bytes of rs2 there;
nothing else changes. An odd rs1 raises ILLEGAL_OP. Where the spec leaves a point to be read, it follows the model's own
reading (log entries 15 and 39). (R60, R83, R93). -/
def Obligations.GlobalLoadsAndStores : Prop :=
  ∀ (s : State) (p c : Nat) (rd ra : BitVec 5) (imm : BitVec 16) (x : Nat), Runs s p c →
    let k := s.core c
    let a := ((k.rs (ra + 1)) ++ (k.rs ra) + imm.signExtend 64 : BitVec 64).toNat
    (ra.toNat % 2 = 0 → Clean k [codeS ra, codeS (ra + 1)] → spaceOf a ≠ 4 → s.resolve (.part p) a 4 = .ok x →
      s.resolve (.part p) a 1 = .ok x → a % 4 = 0 →
      exec (.ldgW c rd ra imm) s = .next (loaded s c rd (BitVec.ofNat 32 (s.readN x 4)) (s.poisoned x 4) a) ∧
      (Clean k [codeS rd] →
        exec (.stgW c rd ra imm) s = .next ((s.writeN x 4 (k.rs rd).toNat).onCore c Core.advance))) ∧
    (ra.toNat % 2 = 1 →
      let n := if k.spec.bundleMode then 0 else 15
      exec (.ldgW c rd ra imm) s = .next (s.raiseExn p c 0 n ⟨0x01, 0⟩ false) ∧
      exec (.stgW c rd ra imm) s = .next (s.raiseExn p c 0 n ⟨0x01, 0⟩ false))

/-- O17. A load or store that leaves its store raises ADDR_UNMAPPED, and a misaligned one MISALIGNED. A load or store whose
address leaves the own near store raises ADDR_UNMAPPED (0x05), one of the own slice at or above 0x00C0_0000 too; a word or
half-word access inside its store that is not aligned raises MISALIGNED (0x07); a poisoned source raises MEM_UNCORRECTABLE
(0x09) before either. The exception carries the address; memory is not read or written. Where the spec leaves a point to be
read, it follows the model's own reading (log entries 35 and 37). (R83, R92, R93). -/
def Obligations.AccessExceptions : Prop :=
  ∀ (s : State) (p c : Nat) (rd ra : BitVec 5) (imm : BitVec 16), Runs s p c →
    let k := s.core c
    let a := (k.rs ra + imm.signExtend 32).toNat
    let n := if k.spec.bundleMode then 0 else 15
    (∀ e, Map.find k.poison (codeS ra) = some e →
      exec (.ldnW c rd ra imm) s = .next (s.raiseExn p c 0 n ⟨0x09, e.toNat⟩ false)) ∧
    (Clean k [codeS ra] →
      (2 ^ 20 ≤ a → exec (.ldnW c rd ra imm) s = .next (s.raiseExn p c 0 n ⟨0x05, a⟩ false) ∧
        exec (.ldnB c rd ra imm) s = .next (s.raiseExn p c 0 n ⟨0x05, a⟩ false)) ∧
      (0xC00000 ≤ a → exec (.ldtW c rd ra imm) s = .next (s.raiseExn p c 0 n ⟨0x05, a⟩ false)) ∧
      (a < 2 ^ 20 → a % 4 ≠ 0 → exec (.ldnW c rd ra imm) s = .next (s.raiseExn p c 0 n ⟨0x07, a⟩ false)) ∧
      (a < 2 ^ 20 → a % 2 ≠ 0 → exec (.ldnH c rd ra imm) s = .next (s.raiseExn p c 0 n ⟨0x07, a⟩ false)) ∧
      (Clean k [codeS rd] → a < 2 ^ 20 → a % 4 ≠ 0 →
        exec (.stnW c rd ra imm) s = .next (s.raiseExn p c 0 n ⟨0x07, a⟩ false)))

/-- O18. Where branches, J, JAL, JALR and WIDE continue, and what they link. With u = 4 in scalar mode and 64 in bundle mode:
a branch whose condition holds on rs1 and rs2 goes to PC + u × sext(off), else to PC + u; J and JAL go there always; JAL
writes s1 and JALR writes rd with the code pointer of the next instruction or bundle (its mode in bit 0); JALR goes to the
code pointer rs1 + sext(imm) where it is aligned for its mode; WIDE, in scalar mode, enters bundle mode at the PC with bits
[5:0] cleared plus 64 × off. PCs wrap within 20 bits; nothing else changes. Where the spec leaves a point to be read, it
follows the model's own reading (log entries 15 and 37). (R63, R82, R83, R85). -/
def Obligations.RedirectionResults : Prop :=
  ∀ (s : State) (p c : Nat) (rd ra rb : BitVec 5) (imm : BitVec 16) (off : BitVec 26), Runs s p c →
    let k := s.core c
    let u : Nat := if k.spec.bundleMode then 64 else 4
    let go (off : Int) (k' : Core) : Core := k'.goto (BitVec.ofInt 20 (k.spec.pc.toNat + u * off)) k.spec.bundleMode
    let ret : Word := BitVec.ofNat 32 ((k.spec.pc.toNat + u) % 2 ^ 20 + if k.spec.bundleMode then 1 else 0)
    let branches (i : Instr) (holds : Prop) : Prop :=
      (holds → exec i s = .next (s.onCore c (go imm.toInt))) ∧ (¬holds → exec i s = .next (s.onCore c Core.advance))
    (Clean k [codeS ra, codeS rb] →
      branches (.beq c ra rb imm) (k.rs ra = k.rs rb) ∧ branches (.bne c ra rb imm) (k.rs ra ≠ k.rs rb) ∧
      branches (.blt c ra rb imm) ((k.rs ra).toInt < (k.rs rb).toInt) ∧
      branches (.bge c ra rb imm) ((k.rs rb).toInt ≤ (k.rs ra).toInt) ∧
      branches (.bltu c ra rb imm) ((k.rs ra).toNat < (k.rs rb).toNat) ∧
      branches (.bgeu c ra rb imm) ((k.rs rb).toNat ≤ (k.rs ra).toNat)) ∧
    exec (.j c off) s = .next (s.onCore c (go off.toInt)) ∧
    exec (.jal c off) s = .next (s.onCore c (fun k' => go off.toInt (k'.setS 1 ret))) ∧
    (k.spec.bundleMode = false → exec (.wide c off) s =
      .next (s.onCore c (fun k' => k'.goto (BitVec.ofInt 20 ((k.spec.pc.toNat / 64 * 64 : Nat) + 64 * off.toInt)) true))) ∧
    (Clean k [codeS ra] →
      let t := (k.rs ra + imm.signExtend 32).toNat
      (t % 4 = 0 →
        exec (.jalr c rd ra imm) s = .next (s.onCore c (fun k' => (k'.setS rd ret).goto (BitVec.ofNat 20 t) false))) ∧
      (t % 64 = 1 →
        exec (.jalr c rd ra imm) s = .next (s.onCore c (fun k' => (k'.setS rd ret).goto (BitVec.ofNat 20 (t - 1)) true))))

/-- O19. What MFS reads from every listed special register, and SPECIAL_ACCESS for any other number. MFS of a register of
Table 3.4 writes rd with its value and changes nothing else; CYCLE_LO and FTIME_LO also latch the upper halves into CYCLE_HI
and FTIME_HI; a number not listed raises SPECIAL_ACCESS (0x08). Where the spec leaves a point to be read, it follows the
model's own reading (log entry 15). (R72, R87, R189). -/
def Obligations.SpecialRegisterReads : Prop :=
  ∀ (s : State) (p c : Nat) (rd : BitVec 5) (n : BitVec 12), Runs s p c →
    let k := s.core c
    let x := k.spec
    let plain : List (Nat × Word) :=
      [(0x000, BitVec.ofNat 32 (s.logical p c)), (0x002, BitVec.ofNat 32 p), (0x003, BitVec.ofNat 32 (s.owner p)),
       (0x004, BitVec.ofNat 32 (s.lcores p)), (0x009, x.cycleHi), (0x00B, x.ftimeHi),
       (0x010, BitVec.ofNat 32 ((if x.px8 then 8 else 0) + (if x.inTrap then 4 else 0) + (if x.bundleMode then 2 else 0))),
       (0x011, x.cause), (0x012, x.epc), (0x013, x.faddr.extractLsb' 0 32), (0x014, x.faddr.extractLsb' 32 32),
       (0x015, x.evec), (0x016, x.scratch), (0x020, x.pennant), (0x030, x.round), (0x031, x.fpflags), (0x038, x.rngCtl),
       (0x040, x.edgeRows), (0x041, x.edgeCols), (0x050, BitVec.ofNat 32 k.sync.sems.length),
       (0x051, if k.preempt.isSome then 1 else 0)]
    (∀ v, (n.toNat, v) ∈ plain → exec (.mfs c rd n) s = .next (wrote s c rd v)) ∧
    (n = 0x008 → exec (.mfs c rd n) s = .next (s.onCore c (fun k' =>
      (({ k' with spec := { k'.spec with cycleHi := s.clock.cycles.extractLsb' 32 32 } } : Core).setS rd
        (s.clock.cycles.extractLsb' 0 32)).advance))) ∧
    (n = 0x00A → exec (.mfs c rd n) s = .next (s.onCore c (fun k' =>
      (({ k' with spec := { k'.spec with ftimeHi := s.clock.ftime.extractLsb' 32 32 } } : Core).setS rd
        (s.clock.ftime.extractLsb' 0 32)).advance))) ∧
    (n ≠ 0x008 → n ≠ 0x00A → (∀ v, (n.toNat, v) ∉ plain) →
      exec (.mfs c rd n) s = .next (s.raiseExn p c 0 (if x.bundleMode then 0 else 15) ⟨0x08, 0⟩ false))

/-- O20. What MTS writes, and SPECIAL_ACCESS for a read-only or unlisted register or a value its rule refuses. MTS of a source
that is not poisoned writes EPC, EVEC, SCRATCH, FPFLAGS (its reserved bits stay zero), ROUND (mode 0 or 1, its reserved bits
zero), EDGE_ROWS and EDGE_COLS (1 to 64) and RNG_CTL (a valid seed slot, its reserved bits zero; a change invalidates both
generator sets), and nothing else but the PC; every other number, and every value those rules refuse, raises SPECIAL_ACCESS
(0x08). Where the spec leaves a point to be read, it follows the model's own reading (log entry 15). (R72, R105, R158, R159,
R189). -/
def Obligations.SpecialRegisterWrites : Prop :=
  ∀ (s : State) (p c : Nat) (ra : BitVec 5) (n : BitVec 12), Runs s p c → Clean (s.core c) [codeS ra] →
    let w := (s.core c).rs ra
    let sets (f : Special → Special) : Prop :=
      exec (.mts c ra n) s = .next (s.onCore c (fun k => ({ k with spec := f k.spec } : Core).advance))
    let slotValid : Bool := (s.get Reg.RNG.SEED_STATUS.valid p).testBit (w.toNat % 16)
    (n = 0x012 → sets (fun x => { x with epc := w })) ∧
    (n = 0x015 → sets (fun x => { x with evec := w })) ∧
    (n = 0x016 → sets (fun x => { x with scratch := w })) ∧
    (n = 0x031 → sets (fun x => { x with fpflags := w &&& 0x1F })) ∧
    (n = 0x030 → w.toNat % 4 < 2 → w.toNat < 8 → sets (fun x => { x with round := w })) ∧
    (n = 0x040 → 1 ≤ w.toNat → w.toNat ≤ 64 → sets (fun x => { x with edgeRows := w })) ∧
    (n = 0x041 → 1 ≤ w.toNat → w.toNat ≤ 64 → sets (fun x => { x with edgeCols := w })) ∧
    (n = 0x038 → w.toNat < 64 → w.toNat / 16 % 2 = 0 → slotValid = true → w ≠ (s.core c).spec.rngCtl →
      exec (.mts c ra n) s = .next (s.onCore c (fun k =>
        ({ k with spec := { k.spec with rngCtl := w }, rset := none, dset := none } : Core).advance))) ∧
    (n.toNat ∉ [0x012, 0x015, 0x016, 0x030, 0x031, 0x038, 0x040, 0x041] ∨
      (n = 0x030 ∧ (2 ≤ w.toNat % 4 ∨ 8 ≤ w.toNat)) ∨ ((n = 0x040 ∨ n = 0x041) ∧ (w = 0 ∨ 64 < w.toNat)) ∨
      (n = 0x038 ∧ (64 ≤ w.toNat ∨ w.toNat / 16 % 2 = 1 ∨ slotValid = false)) →
      exec (.mts c ra n) s = .next (s.raiseExn p c 0 (if (s.core c).spec.bundleMode then 0 else 15) ⟨0x08, 0⟩ false))

/-- O21. A TRAP with a handler, outside one, saves the PC that follows, records the cause and enters EVEC. With EVEC non-zero
and in_trap = 0, TRAP n completes what the core issued before (its moves), sets CAUSE to the trap number, the slot and the
code TRAP (0x0B), EPC to the code pointer of the next instruction or bundle, FADDR to 0, in_trap to 1, and goes to EVEC in the
mode of its bit 0. No other special register, no register file and no other core changes beyond those earlier operations.
Where the spec leaves a point to be read, it follows the model's own reading (log entry 37). (R63, R72, R92, R94). -/
def Obligations.TrapEntry : Prop :=
  ∀ (s : State) (p c : Nat) (n : BitVec 12), Runs s p c →
    let k := s.core c
    k.spec.evec ≠ 0 → k.spec.inTrap = false →
    let u : Nat := if k.spec.bundleMode then 64 else 4
    let d := s.drainCore p c
    Completes (.trap c n) s (fun t =>
      OnlyCore d t c ∧ (t.core c).file = (d.core c).file ∧ (t.core c).task = (d.core c).task ∧
      (t.core c).spec = { (d.core c).spec with
        cause := BitVec.ofNat 32 (n.toNat * 2 ^ 16 + (if k.spec.bundleMode then 0 else 15) * 2 ^ 8 + 0x0B)
        epc := BitVec.ofNat 32 ((k.spec.pc.toNat + u) % 2 ^ 20 + if k.spec.bundleMode then 1 else 0)
        faddr := 0
        inTrap := true
        pc := (ptrTarget (d.core c).spec.evec).1
        bundleMode := (ptrTarget (d.core c).spec.evec).2 })

/-- O22. ERET returns from the handler; ERET outside it, a nested TRAP, and a TRAP without a handler. In a handler ERET goes
to the code pointer in EPC, aligned for its mode, and clears in_trap, changing nothing else; outside a handler it is
ILLEGAL_OP, and with an EPC that is not aligned it raises FETCH_ALIGN (0x04). A TRAP inside a handler raises TRAP_NESTED
(0x0C), one with EVEC = 0 raises TRAP (0x0B); neither enters a handler. Where the spec leaves a point to be read, it follows
the model's own reading (log entry 37). (R85, R94). -/
def Obligations.TrapReturnAndRefusals : Prop :=
  ∀ (s : State) (p c : Nat) (n : BitVec 12), Runs s p c →
    let k := s.core c
    let slot1 : Nat := if k.spec.bundleMode then 1 else 15
    let e := k.spec.epc.toNat
    (k.spec.inTrap = true → e % 4 = 0 → exec (.eret c) s =
      .next (s.onCore c (fun k' => ({ k' with spec := { k'.spec with inTrap := false } } : Core).goto (BitVec.ofNat 20 e) false))) ∧
    (k.spec.inTrap = true → e % 64 = 1 → exec (.eret c) s =
      .next (s.onCore c (fun k' =>
        ({ k' with spec := { k'.spec with inTrap := false } } : Core).goto (BitVec.ofNat 20 (e - 1)) true))) ∧
    (e % 4 = 2 ∨ (e % 2 = 1 ∧ e % 64 ≠ 1) → exec (.eret c) s = .next (s.raiseExn p c 0 slot1 ⟨0x04, e⟩ false)) ∧
    (k.spec.inTrap = false → e % 4 = 0 → exec (.eret c) s = .next (s.raiseExn p c 0 slot1 ⟨0x01, 0⟩ false)) ∧
    (k.spec.inTrap = true → exec (.trap c n) s =
      .next (s.raiseExn p c n.toNat (if k.spec.bundleMode then 0 else 15) ⟨0x0C, 0⟩ false)) ∧
    (k.spec.inTrap = false → exec (.trap c n) s =
      .next (s.raiseExn p c n.toNat (if k.spec.bundleMode then 0 else 15) ⟨0x0B, 0⟩ false))

/-- O23. An exception that no handler takes completes the work of the core, records cause, EPC and FADDR, and ends the task.
An exception other than TIER_LATE, of a core that runs a task, that is not a TRAP with a handler: the operations issued before
complete; CAUSE, EPC (for TRAP the code pointer after) and FADDR are set; a fault record of source 0 is written; and the task
ends with the exception's code as its status. After it the core runs no task. Where the spec leaves a point to be read, it
follows the model's own reading (log entry 37). (R92, R94, R95, R355, R409). -/
def Obligations.ExceptionEndsTheTask : Prop :=
  ∀ (s : State) (p c trapNo slot : Nat) (e : Exn) (x : TaskRec), (s.core c).task = some x → e.code ≠ 0x0A →
    (e.code = 0x0B → (s.core c).spec.evec = 0) →
    let k := s.core c
    let u : Nat := if k.spec.bundleMode then 64 else 4
    let at' : Nat := if e.code = 0x0B then (k.spec.pc.toNat + u) % 2 ^ 20 else k.spec.pc.toNat
    let d := (s.drainCore p c).onCore c (fun k' => { k' with spec := { k'.spec with
      cause := BitVec.ofNat 32 (trapNo * 2 ^ 16 + slot * 2 ^ 8 + e.code)
      epc := BitVec.ofNat 32 (at' + if k.spec.bundleMode then 1 else 0)
      faddr := BitVec.ofNat 64 e.addr } })
    s.raiseExn p c trapNo slot e false = (d.exnRecord p c x).endTask p c e.code

/-- O24. HALT ends a task normally; with a semaphore held it raises SYNC_FAULT instead. HALT of a task that holds no semaphore
ends it with the status COMPLETE after the PC has moved on; one that holds a semaphore raises SYNC_FAULT (0x0D). Where the
spec leaves a point to be read, it follows the model's own reading (log entry 37). (R95, R355). -/
def Obligations.HaltEndsTheTask : Prop :=
  ∀ (s : State) (p c : Nat), Runs s p c →
    ((s.core c).sync.sems = [] → exec (.halt c) s = .next ((s.onCore c Core.advance).endTask p c 0)) ∧
    ((s.core c).sync.sems ≠ [] →
      exec (.halt c) s = .next (s.raiseExn p c 0 (if (s.core c).spec.bundleMode then 1 else 15) ⟨0x0D, 0⟩ false))

/-- O25. A write of lanes reaches the enabled lanes of its register and nothing else; s0 and p0 keep no value. Writing lanes
of a vector register under an enable mask gives each enabled lane its new value and keeps every other lane and every other
register; a predicate written lane by lane likewise, except p0, which reads all ones; a scalar register written reads as
written, except s0, which reads 0; no write of one register changes another. Where the spec leaves a point to be read, it
follows the model's own reading (log entry 32). (R70, R71, R80). -/
def Obligations.LaneWrites : Prop :=
  ∀ (k : Core) (en : DWord) (v v' : BitVec 6) (w : Fin 64 → Word) (q : Fin 64 → Bool) (i : Fin 64) (pd pd' : BitVec 3)
    (r r' : BitVec 5) (x : Word),
    (k.setLanes en v w).lane v i = (if en.getLsbD i.val then w i else k.lane v i) ∧
    (v' ≠ v → (k.setLanes en v w).vr v' = k.vr v') ∧
    (k.setLanes en v w).file.s = k.file.s ∧ (k.setLanes en v w).file.p = k.file.p ∧
    (k.setLanes en v w).file.a = k.file.a ∧ (k.setLanes en v w).spec = k.spec ∧
    (pd ≠ 0 → ((k.setP pd (predLanes en (k.pr pd) q)).pr pd).getLsbD i.val =
      (if en.getLsbD i.val then q i else (k.pr pd).getLsbD i.val)) ∧
    (pd' ≠ pd → (k.setP pd (predLanes en (k.pr pd) q)).pr pd' = k.pr pd') ∧
    k.setP 0 (predLanes en (k.pr 0) q) = k ∧ k.pr 0 = BitVec.allOnes 64 ∧
    (r ≠ 0 → (k.setS r x).rs r = x) ∧ (r' ≠ r → (k.setS r x).rs r' = k.rs r') ∧ k.setS 0 x = k ∧ k.rs 0 = 0

/-- O26. What the 21 lane-by-lane vector instructions write in each enabled lane. On a core that runs a task, a lane-by-lane
vector instruction whose sources are not poisoned writes each enabled lane of vd by Table 4.5 and ORs the flags of the enabled
lanes into FPFLAGS; disabled lanes keep their value; the PC advances and nothing else changes. The floating-point functions
are those of chapter 06, VFMA with one rounding; VFABS and VFNEG only change the sign bit; integers wrap; shifts take vb[4:0];
VIMIN and VIMAX are signed with func 0 and unsigned with 1 (other values are ILLEGAL_OP). Where the spec leaves a point to be
read, it follows the model's own reading (log entries 32 and 35). (R80, R110, R131). -/
def Obligations.VectorLaneResults : Prop :=
  ∀ (s : State) (p c : Nat) (f : VFields), Runs s p c → Clean (s.core c) [codeV f.va] →
    let k := s.core c
    let en := k.enabled f.psel f.pinv
    let a := k.lane f.va
    let b := k.lane f.vb
    let d := k.lane f.vc
    let puts (i : Instr) (g : Fin 64 → Word × Flags) : Prop := exec i s = .next (lanesWrote s c en f.vd g)
    puts (.vfabs c f) (fun i => (BitVec.ofNat 32 ((a i).toNat % 2 ^ 31), 0)) ∧
    puts (.vfneg c f) (fun i => (a i ^^^ 0x80000000#32, 0)) ∧
    puts (.vcvtf c f) (fun i => cvtF32 (a i)) ∧
    (Clean k [codeV f.vb] →
      puts (.vfadd c f) (fun i => fadd (a i) (b i)) ∧ puts (.vfsub c f) (fun i => fsub (a i) (b i)) ∧
      puts (.vfmul c f) (fun i => fmul (a i) (b i)) ∧
      (Clean k [codeV f.vc] → puts (.vfma c f) (fun i => ffma (a i) (b i) (d i))) ∧
      puts (.vfmin c f) (fun i => (fmin (a i) (b i), 0)) ∧ puts (.vfmax c f) (fun i => (fmax (a i) (b i), 0)) ∧
      puts (.vfscale c f) (fun i => fscale (a i) (b i).toInt) ∧
      puts (.viadd c f) (fun i => (a i + b i, 0)) ∧ puts (.visub c f) (fun i => (a i - b i, 0)) ∧
      puts (.vimul c f) (fun i => (BitVec.ofInt 32 ((a i).toInt * (b i).toInt), 0)) ∧
      puts (.vand c f) (fun i => (a i &&& b i, 0)) ∧ puts (.vor c f) (fun i => (a i ||| b i, 0)) ∧
      puts (.vxor c f) (fun i => (a i ^^^ b i, 0)) ∧
      puts (.vshl c f) (fun i => (a i <<< ((b i).toNat % 32), 0)) ∧
      puts (.vshr c f) (fun i => (a i >>> ((b i).toNat % 32), 0)) ∧
      puts (.vsra c f) (fun i => ((a i).sshiftRight ((b i).toNat % 32), 0)) ∧
      (f.func = 0 → puts (.vimin c f) (fun i => (BitVec.ofInt 32 (min (a i).toInt (b i).toInt), 0)) ∧
        puts (.vimax c f) (fun i => (BitVec.ofInt 32 (max (a i).toInt (b i).toInt), 0))) ∧
      (f.func = 1 → puts (.vimin c f) (fun i => (BitVec.ofNat 32 (min (a i).toNat (b i).toNat), 0)) ∧
        puts (.vimax c f) (fun i => (BitVec.ofNat 32 (max (a i).toNat (b i).toNat), 0))))

/-- O27. What VFCMP, VICMP, VPLOG, VPSET and VPGET write. VFCMP and VICMP write the enabled lanes of predicate vd[2:0] with
the comparison that func selects (VFCMP 0 EQ, 1 LT, 2 LE, 3 UNORD, 4 NE; VICMP 0 EQ, 1 LT, 2 LE, 3 NE, 4 LTU, 5 LEU); VPLOG
combines predicates va[2:0] and vb[2:0]; VPSET takes the pair {s[rs+1], s[rs]}; VPGET writes s[rs] with the half imm[0] of the
predicate. Nothing else but the PC changes. Where the spec leaves a point to be read, it follows the model's own reading (log
entries 32 and 35). (R80, R110, R131). -/
def Obligations.VectorPredicateResults : Prop :=
  ∀ (s : State) (p c : Nat) (f : VFields), Runs s p c →
    let k := s.core c
    let en := k.enabled f.psel f.pinv
    let pd := f.vd.extractLsb' 0 3
    let a := k.lane f.va
    let b := k.lane f.vb
    let x := k.pr (f.va.extractLsb' 0 3)
    let y := k.pr (f.vb.extractLsb' 0 3)
    let puts (i : Instr) (g : Fin 64 → Bool) : Prop := exec i s = .next (predWrote s c en pd g)
    (Clean k [codeV f.va, codeV f.vb] →
      (f.func.toNat ≤ 4 → puts (.vfcmp c f) (fun i => fcmp f.func.toNat (a i) (b i))) ∧
      (f.func = 0 → puts (.vicmp c f) (fun i => decide (a i = b i))) ∧
      (f.func = 1 → puts (.vicmp c f) (fun i => decide ((a i).toInt < (b i).toInt))) ∧
      (f.func = 2 → puts (.vicmp c f) (fun i => decide ((a i).toInt ≤ (b i).toInt))) ∧
      (f.func = 3 → puts (.vicmp c f) (fun i => decide (a i ≠ b i))) ∧
      (f.func = 4 → puts (.vicmp c f) (fun i => decide ((a i).toNat < (b i).toNat))) ∧
      (f.func = 5 → puts (.vicmp c f) (fun i => decide ((a i).toNat ≤ (b i).toNat)))) ∧
    (f.func = 0 → puts (.vplog c f) (fun i => x.getLsbD i.val && y.getLsbD i.val)) ∧
    (f.func = 1 → puts (.vplog c f) (fun i => x.getLsbD i.val || y.getLsbD i.val)) ∧
    (f.func = 2 → puts (.vplog c f) (fun i => x.getLsbD i.val != y.getLsbD i.val)) ∧
    (f.func = 3 → puts (.vplog c f) (fun i => x.getLsbD i.val && !y.getLsbD i.val)) ∧
    (f.rs.toNat % 2 = 0 → Clean k [codeS f.rs, codeS (f.rs + 1)] →
      puts (.vpset c f) (fun i => ((k.rs (f.rs + 1)) ++ (k.rs f.rs)).getLsbD i.val)) ∧
    exec (.vpget c f) s = .next (wrote s c f.rs ((k.pr pd).extractLsb' (32 * (f.imm.toNat % 2)) 32))

/-- O28. What VSEL, VBCS, VBCI, VPERM, VROT, VEXT and VINS write. VSEL picks va or vb by the lane of predicate func[2:0]; VBCS
broadcasts s[rs] and VBCI imm << 16; VPERM takes lane vb[i] mod 64 and VROT lane (i + imm) mod 64 of va; VEXT writes s[rs]
with lane imm mod 64 of va and VINS that lane of vd with s[rs], both ignoring the predicate. Nothing else but the PC changes.
Where the spec leaves a point to be read, it follows the model's own reading (log entries 32 and 35). (R80, R110). -/
def Obligations.VectorSelectAndPermuteResults : Prop :=
  ∀ (s : State) (p c : Nat) (f : VFields), Runs s p c →
    let k := s.core c
    let en := k.enabled f.psel f.pinv
    let a := k.lane f.va
    let b := k.lane f.vb
    let q := k.pr (f.func.extractLsb' 0 3)
    (Clean k [codeV f.va, codeV f.vb] →
      exec (.vsel c f) s = .next (lanesWrote s c en f.vd (fun i => (if q.getLsbD i.val then a i else b i, 0))) ∧
      exec (.vperm c f) s = .next (lanesWrote s c en f.vd (fun i => (a (Fin.ofNat 64 (b i).toNat), 0)))) ∧
    (Clean k [codeV f.va] →
      exec (.vrot c f) s = .next (lanesWrote s c en f.vd (fun i => (a (Fin.ofNat 64 (i.val + f.imm.toNat)), 0))) ∧
      exec (.vext c f) s = .next (wrote s c f.rs (a (Fin.ofNat 64 f.imm.toNat)))) ∧
    (Clean k [codeS f.rs] →
      exec (.vbcs c f) s = .next (lanesWrote s c en f.vd (fun _ => (k.rs f.rs, 0))) ∧
      exec (.vins c f) s = .next (lanesWrote s c (BitVec.twoPow 64 (f.imm.toNat % 64)) f.vd (fun _ => (k.rs f.rs, 0)))) ∧
    exec (.vbci c f) s = .next (lanesWrote s c en f.vd (fun _ => (BitVec.ofNat 32 (f.imm.toNat * 2 ^ 16), 0)))

/-- O29. What VRSUM, VRMAX, VRMIN, VRISUM and VEXPMAX write in every enabled lane. With a lane enabled, every enabled lane of
vd takes the combination of the enabled lanes of va over the fixed tree of R111: FP32 sum with the flags of its steps, maximum
or minimum under the rules of VFMAX and VFMIN, wrapping sum, or the largest floor(log2 |x|) of a non-zero lane (0x8000_0000
where there is none, 128 for a NaN or infinite lane); NaN results are canonical. With no lane enabled only the PC changes.
Where the spec leaves a point to be read, it follows the model's own reading (log entries 32 and 35). (R110, R111, R131). -/
def Obligations.VectorReductionResults : Prop :=
  ∀ (s : State) (p c : Nat) (f : VFields), Runs s p c → Clean (s.core c) [codeV f.va] →
    let k := s.core c
    let en := k.enabled f.psel f.pinv
    let a := k.lane f.va
    let all (i : Instr) (w : Word) (fl : Flags) : Prop :=
      exec i s = .next (s.onCore c (fun k' => ((k'.setLanes en f.vd (fun _ => w)).orFlags fl).advance))
    let canon (w : Word) : Word := if isNaN32 w then 0x7FC00000#32 else w
    (en = 0 → ∀ i ∈ [Instr.vrsum c f, .vrmax c f, .vrmin c f, .vrisum c f, .vexpmax c f],
      exec i s = .next (s.onCore c Core.advance)) ∧
    (∀ w fl, reduceLanes en (fun i : Fin 64 => (a i, (0 : Flags)))
        (fun x y => ((fadd x.1 y.1).1, x.2 ||| y.2 ||| (fadd x.1 y.1).2)) = some (w, fl) → all (.vrsum c f) (canon w) fl) ∧
    (∀ w, reduceLanes en a fmax = some w → all (.vrmax c f) (canon w) 0) ∧
    (∀ w, reduceLanes en a fmin = some w → all (.vrmin c f) (canon w) 0) ∧
    (∀ w, reduceLanes en a (· + ·) = some w → all (.vrisum c f) w 0) ∧
    (en ≠ 0 → reduceLanes en (fun i : Fin 64 => expOf (a i)) (optComb max) = some none → all (.vexpmax c f) 0x80000000#32 0) ∧
    (∀ e, reduceLanes en (fun i : Fin 64 => expOf (a i)) (optComb max) = some (some e) → all (.vexpmax c f) (BitVec.ofInt 32 e) 0) ∧
    (en ≠ 0 → (reduceLanes en a (· + ·)).isSome = true)

/-- O30. What VCVTI, VRND, VFIX, VFLT and VADD64 write, and the rounding block they take. VCVTI, VRND (fmt 1 to 7) and VFIX
(even vd) round under ROUND: to nearest-even in mode 0; in mode 1 lane i draws the word of index B + RC + i (a free value in
loose mode, log entry 10), and RC advances by 64 modulo 2^40. VFIX writes the pair vd with the INT64 of va × 2^s[rs], VFLT the
FP32 of the pair va × 2^−s[rs], VADD64 the sum of pairs modulo 2^64. Where the spec leaves a point to be read, it follows the
model's own reading (log entries 32 and 35). (R110, R155, R160, R161, R184). -/
def Obligations.VectorConversionResults : Prop :=
  ∀ (s : State) (p c : Nat) (f : VFields), Runs s p c →
    let k := s.core c
    let en := k.enabled f.psel f.pinv
    let l0 : DWord := k.base + k.spec.rc.zeroExtend 64
    let sr := k.spec.round.getLsbD 0
    let rnd (i : Fin 64) : Rounding :=
      if sr then .stochastic (if k.spec.round.getLsbD 2 then 3 else 4)
        (if k.looseMode then Config.freeWord (s.free + i.val) else rngWord (s.seedOf p k) (l0 + BitVec.ofNat 64 i.val))
      else .nearest
    let d : State := if sr then
        (if k.looseMode then s.drawLoose p c 64 else s.drawR p c (l0.toNat / 64) 1).onCore c
          (fun k' => { k' with spec := { k'.spec with rc := k'.spec.rc + 64 } })
      else s
    let pairs (g : Fin 64 → DWord × Flags) (k' : Core) : Core :=
      (((k'.setLanes en f.vd (fun i => (g i).1.extractLsb' 0 32)).setLanes en (f.vd + 1)
        (fun i => (g i).1.extractLsb' 32 32)).orFlags (flagsOf en (fun i => (g i).2))).advance
    (Clean k [codeV f.va] →
      exec (.vcvti c f) s = .next (lanesWrote d c en f.vd (fun i => cvtI32 (rnd i) (k.lane f.va i))) ∧
      (Clean k [codeV f.vb] → 1 ≤ f.fmt.toNat → f.fmt.toNat ≤ 7 →
        exec (.vrnd c f) s = .next (lanesWrote d c en f.vd
          (fun i => vrnd f.fmt.toNat (rnd i) (k.lane f.va i) ((k.lane f.vb i).toNat % 256)))) ∧
      (Clean k [codeS f.rs] → f.vd.toNat % 2 = 0 →
        exec (.vfix c f) s = .next (d.onCore c (pairs (fun i => fix64 (rnd i) (k.lane f.va i) (k.rs f.rs).toInt)))) ∧
      (Clean k [codeV (f.va + 1), codeS f.rs] → f.va.toNat % 2 = 0 →
        exec (.vflt c f) s = .next (lanesWrote s c en f.vd
          (fun i => flt64 (k.lane (f.va + 1) i ++ k.lane f.va i) (k.rs f.rs).toInt))) ∧
      (Clean k [codeV (f.va + 1), codeV f.vb, codeV (f.vb + 1)] →
        f.vd.toNat % 2 = 0 → f.va.toNat % 2 = 0 → f.vb.toNat % 2 = 0 →
        exec (.vadd64 c f) s = .next (s.onCore c (pairs (fun i =>
          ((k.lane (f.va + 1) i ++ k.lane f.va i) + (k.lane (f.vb + 1) i ++ k.lane f.vb i), 0))))))

/-- O31. What VLD, VLDS, VLDX and VST read and write in the own store, and that other bytes stay. With fmt[0] choosing the
near store or the own slice, every enabled lane's word inside it and the address aligned to 4: VLD reads word i at s[rs] +
sext(imm), VLDS one word for every lane, VLDX the word at s[rs] + vb[i] for lane i, into the enabled lanes, where none of
those words is uncorrectable; VST writes word i of va at the address + 4i for each enabled lane. Every other byte of memory
reads as before; but for vd and the PC nothing else changes. Where the spec leaves a point to be read, it follows the model's
own reading (log entry 35). (R80, R83, R110, R112). -/
def Obligations.VectorMemoryResults : Prop :=
  ∀ (s : State) (p c : Nat) (f : VFields), Runs s p c → Mem.wf s.mem = true → Clean (s.core c) [codeS f.rs] →
    let k := s.core c
    let en := k.enabled f.psel f.pinv
    let size : Nat := if f.fmt.getLsbD 0 then 0xC00000 else 2 ^ 20
    let base : Nat := if f.fmt.getLsbD 0 then c * 2 ^ 24 else 3 * 2 ^ 52 + c * 2 ^ 20
    let a := (k.rs f.rs + f.imm.signExtend 32).toNat
    let v (i : Fin 64) := (k.rs f.rs + k.lane f.vb i).toNat
    let good (at' : Fin 64 → Nat) : Prop :=
      ∀ i : Fin 64, en.getLsbD i.val = true → at' i + 4 ≤ size ∧ at' i % 4 = 0 ∧ s.poisoned (base + at' i) 4 = false
    let reads (i : Instr) (at' : Fin 64 → Nat) : Prop :=
      exec i s = .next (lanesWrote s c en f.vd (fun j => (BitVec.ofNat 32 (s.readN (base + at' j) 4), 0)))
    (good (fun i => a + 4 * i.val) → reads (.vld c f) (fun i => a + 4 * i.val)) ∧
    (good (fun _ => a) → reads (.vlds c f) (fun _ => a)) ∧
    (Clean k [codeV f.vb] → good v → reads (.vldx c f) v) ∧
    (Clean k [codeV f.va] → (∀ i : Fin 64, en.getLsbD i.val = true → a + 4 * i.val + 4 ≤ size ∧ a % 4 = 0) →
      Completes (.vst c f) s (fun t =>
        t.cores = (s.onCore c Core.advance).cores ∧ t.regs = s.regs ∧ Mem.wf t.mem = true ∧
        (∀ (i : Fin 64) (j : Nat), j < 4 → en.getLsbD i.val = true →
          Mem.read t.mem (base + a + 4 * i.val + j) = BitVec.ofNat 8 ((k.lane f.va i).toNat / 2 ^ (8 * j))) ∧
        (∀ b, (∀ i : Fin 64, en.getLsbD i.val = true → b < base + a + 4 * i.val ∨ base + a + 4 * i.val + 4 ≤ b) →
          Mem.read t.mem b = Mem.read s.mem b)))

/-- O32. What VRDA, VWRA and VRAND do. VRDA writes the enabled lanes of vd with row imm mod 64 of tile va[2:0] and ends that
tile's chain; VWRA writes the enabled lanes of that row of tile vd[2:0] from va, every other element of the tile kept, and
drops its chain; VRAND writes the enabled lanes with W of index B + 2^40 + s[rs] + imm + i under the partition's seed in
indexed mode (free values in loose mode, log entry 10), whatever ROUND says, and leaves RC as it was. Where the spec leaves a
point to be read, it follows the model's own reading (log entries 34 and 35). (R110, R112, R185, R396). -/
def Obligations.TileRowAndRandomResults : Prop :=
  ∀ (s : State) (p c : Nat) (f : VFields), Runs s p c →
    let k := s.core c
    let en := k.enabled f.psel f.pinv
    let r : Fin 64 := Fin.ofNat 64 f.imm.toNat
    (Clean k [codeA (f.va.extractLsb' 0 3)] → k.pendingTiles.contains (codeA (f.va.extractLsb' 0 3)) = false →
      exec (.vrda c f) s = .next (s.onCore c (fun k' =>
        (endChain ((k'.setLanes en f.vd (fun i => (k.tile (f.va.extractLsb' 0 3)).at r i)).orFlags
          (flagsOf en (fun _ => 0))) (f.va.extractLsb' 0 3)).advance))) ∧
    (Clean k [codeV f.va] → k.pendingTiles.contains (codeA (f.vd.extractLsb' 0 3)) = false →
      Completes (.vwra c f) s (fun t =>
        let a := f.vd.extractLsb' 0 3
        (∀ i j : Fin 64, ((t.core c).tile a).at i j =
          if i = r ∧ en.getLsbD j.val = true then k.lane f.va j else (k.tile a).at i j) ∧
        (∀ b, b ≠ a → (t.core c).tile b = k.tile b) ∧ (t.core c).file.s = k.file.s ∧ (t.core c).file.v = k.file.v ∧
        Map.find (t.core c).chains a.toNat = none ∧ t.mem = s.mem)) ∧
    (Clean k [codeS f.rs] → k.looseMode = false → Completes (.vrand c f) s (fun t =>
      (∀ i : Fin 64, (t.core c).lane f.vd i = if en.getLsbD i.val then
        rngWord (s.seedOf p k) (k.base + BitVec.ofNat 64 (2 ^ 40 + (k.rs f.rs).toNat + f.imm.toNat + i.val))
        else k.lane f.vd i) ∧
      (t.core c).spec.rc = k.spec.rc ∧ t.mem = s.mem)) ∧
    (Clean k [codeS f.rs] → k.looseMode = true → Completes (.vrand c f) s (fun t =>
      (∀ i : Fin 64, (t.core c).lane f.vd i = if en.getLsbD i.val then Config.freeWord (s.free + i.val) else k.lane f.vd i) ∧
      t.free = s.free + 64 ∧ (t.core c).spec.rc = k.spec.rc ∧ t.mem = s.mem))

/-- O33. What MLDW, MPASS and MZERO leave in the block and the tile. MZERO zeroes tile ad and its mark. MLDW takes a weight
block from the own slice with its format, layout and edges, zero outside the edges, marked exactly where a word it reads is
uncorrectable. MPASS writes the elements below m rows and EDGE_COLS of tile ad with the column sum of R106, a left fold in
ascending k from +0 with one rounding per product over the rows inside both edges, added to the old element under acc; other
elements, other tiles, the other files and memory stay. Where the spec leaves a point to be read, it follows the model's own
reading (log entry 35). (R102, R103, R104, R105, R106, R107, R138, R140, R143). -/
def Obligations.MatrixSlotResults : Prop :=
  ∀ (s : State) (p c : Nat) (f : MFields), Runs s p c → (s.core c).pendingTiles.contains (codeA f.ad) = false →
    let k := s.core c
    let inside (op : MatOp) : Prop := ∀ r ∈ matReads k op f, r.1 + r.2 ≤ 0xC00000
    let regs := [codeS f.rs, codeS f.rstr, codeS f.rsc]
    let whole : Prop := 1 ≤ f.fmt.toNat ∧ f.fmt.toNat ≤ 7 ∧
      (f.fmt = 1 → matRow k f 0 % 2 = 0 ∧ (k.rs f.rstr).toNat % 2 = 0)
    let rest (t : State) : Prop := (t.core c).file.s = k.file.s ∧ (t.core c).file.v = k.file.v ∧ (t.core c).file.p = k.file.p ∧
      (∀ b, b ≠ f.ad → (t.core c).tile b = k.tile b) ∧ t.mem = s.mem
    Completes (.mzero c f) s (fun t => rest t ∧ (∀ i j : Fin 64, ((t.core c).tile f.ad).at i j = 0) ∧
      Map.find (t.core c).poison (codeA f.ad) = none ∧ (t.core c).block = k.block) ∧
    (whole → Clean k regs → inside .mldw → Completes (.mldw c f) s (fun t => rest t ∧ (t.core c).file = k.file ∧
      (∃ b, (t.core c).block = some b ∧ b.fmt = f.fmt.toNat ∧ b.blk = f.blk ∧ b.er = k.spec.edgeRows.toNat ∧
        b.ec = k.spec.edgeCols.toNat ∧
        (∀ r j, r < blockK f.fmt.toNat → j < 64 → (b.elems.getD r []).getD j 0 =
          if rowIn f.fmt.toNat k.spec.edgeRows.toNat r = true ∧ j < k.spec.edgeCols.toNat
          then s.sliceElem c f.fmt.toNat (matRow k f r) j else 0)) ∧
      (Map.find (t.core c).poison codeBlock = none ↔
        ∀ r ∈ matReads k .mldw f, s.poisoned (c * 2 ^ 24 + r.1) r.2 = false))) ∧
    (∀ b, k.block = some b → rateGroup b.fmt = rateGroup f.fmt.toNat → whole →
      Clean k ([codeBlock, codeA f.ad] ++ regs) → inside .mpass →
      (f.blk = true → isMX f.fmt.toNat = true → f.mm = 31 ∨ f.mm = 63) →
      Completes (.mpass c f) s (fun t =>
        let sum (i j : Fin 64) : Word := if b.ec ≤ j.val then 0 else
          ((passKs k b).foldl (fun acc n => macStep acc (s.actVal c k f (blockK b.fmt) i.val n).1 (b.val n j.val)
            ((s.actVal c k f (blockK b.fmt) i.val n).2 || b.badScale n j.val)) (0, 0)).1
        rest t ∧ (t.core c).block = some b ∧ (passKs k b).Pairwise (· < ·) ∧
        ∀ i j : Fin 64, ((t.core c).tile f.ad).at i j =
          if i.val ≤ f.mm.toNat ∧ j.val < k.spec.edgeCols.toNat
          then (if f.acc then (fadd ((k.tile f.ad).at i j) (sum i j)).1 else sum i j) else (k.tile f.ad).at i j))

/-- O34. What SFN, SFNB, SFNBS, SDER and the two forms of SNORM write, and what a failed table read leaves. With a listed
function and a held table version, the special-function operations write the enabled lanes of vd with their table's functions
of va, vb and vc and OR the flags; SNORM_TABLE reads no table under this flag and SNORM_BOX_MULLER takes tver[1]. A read that
fails its ROM check while a lane is enabled marks vd with no memory address (address 0) and raises SFTAB_ROM_ERROR in the page
of the partition. Where the spec leaves a point to be read, it follows the model's own reading (log entry 33). (R113, R114,
R172, R174, R175, R191, R192). -/
def Obligations.SpecialFunctionResults : Prop :=
  ∀ (s : State) (p c : Nat) (f : SfFields) (rom : Bool), Runs s p c → Clean (s.core c) [codeV f.va, codeV f.vb, codeV f.vc] →
    let k := s.core c
    let en := k.enabled f.psel f.pinv
    let a := k.lane f.va
    let b := k.lane f.vb
    let d := k.lane f.vc
    let puts (i : Instr) (g : Fin 64 → Word × Flags) : Prop := exec i s = .next (lanesWrote s c en f.vd g)
    (fidListed f.fid.toNat = true → verHeld f.tver.toNat = true → (rom = false ∨ en = 0) →
      puts (.sfn c rom f) (fun i => sfEval f.fid.toNat (a i)) ∧
      puts (.sfnb c rom f) (fun i => sfnb f.fid.toNat (a i) (b i)) ∧
      puts (.sfnbs c rom f) (fun i => sfnbs f.fid.toNat (a i) (b i) (d i)) ∧
      puts (.sder c rom f) (fun i => sder f.fid.toNat (a i) (b i) (d i))) ∧
    (verHeld (f.tver.toNat / 4) = true → (rom = false ∨ en = 0) →
      puts (.snormTable c f) (fun i => snormTable (a i)) ∧
      puts (.snormBoxMuller c rom f) (fun i => snormBoxMuller (f.tver.getLsbD 1) (a i) (b i))) ∧
    (en ≠ 0 → ∀ i ∈ [Instr.sfn c true f, .sfnb c true f, .sfnbs c true f, .sder c true f, .snormBoxMuller c true f],
      (i = .snormBoxMuller c true f → verHeld (f.tver.toNat / 4) = true) →
      (i ≠ .snormBoxMuller c true f → fidListed f.fid.toNat = true ∧ verHeld f.tver.toNat = true) →
      Completes i s (fun t => Map.find (t.core c).poison (codeV f.vd) = some 0 ∧ t.mem = s.mem ∧
        (t.get Reg.PAGE.EVENT_STATUS.raised (0x0340 * 16 + p)).testBit 0 = true))

/-- O35. A move that issues captures its operands in the queue and arms its flag; nothing moves yet. Each of the 16 move rows,
where it issues (its operands legal, clean, mapped and aligned, the queue below 16): a move of no rows or of empty rows, or an
ATOM whose lane 0 is off, completes at once and queues nothing, an XFER landing its flag; any other enters the queue behind
the moves already there with its operation, rows, addresses, mask and group as captured, and an XFER with afv arms its flag.
Scalar, vector and predicate files and memory stay. Where the spec leaves a point to be read, it follows the model's own
reading (log entry 36). (R115, R116, R119, R120, R122, R127). -/
def Obligations.MovesEnterTheQueue : Prop :=
  ∀ (s : State) (p c : Nat) (f : MvFields) (m : BitVec 4),
    let k := s.core c
    let rows : List (Instr × MvOp) := [(.xferRows c f, .rows), (.xferTranspose c f, .transpose), (.xferConvert c f, .convert),
      (.xferConvertTranspose c f, .convertTranspose), (.xferFill c f, .fill), (.racc c f, .racc), (.atomAdd32 c f, .atom 0),
      (.atomAdd64 c f, .atom 1), (.atomSwap32 c f, .atom 2), (.atomSwap64 c f, .atom 3), (.atomCas32 c f, .atom 4),
      (.atomCas64 c f, .atom 5), (.atomMaxs32 c f, .atom 6), (.atomMins32 c f, .atom 7), (.accst c m f, .accst m.toNat),
      (.accld c m f, .accld m.toNat)]
    let xfer (op : MvOp) : Bool := [MvOp.rows, .transpose, .convert, .convertTranspose, .fill].contains op
    ∀ x ∈ rows, Issues s p c (.mv x.2 f) → Completes x.1 s (fun t =>
      let none' : Bool := match x.2 with
        | .atom _ => !(k.enabled f.psel f.pinv).getLsbD 0
        | _ => field (k.rsPair f.rshp).toNat 22 16 == 0 || field (k.rsPair f.rshp).toNat 15 0 == 0
      (none' = true → (t.core c).sync.moves = k.sync.moves) ∧
      (none' = false → ∃ r, (t.core c).sync.moves = k.sync.moves ++ [r] ∧ r.op = x.2 ∧ r.grp = f.grp.toNat ∧
        r.rows = field (k.rsPair f.rshp).toNat 22 16 ∧ r.len = field (k.rsPair f.rshp).toNat 15 0 ∧
        r.sstr = field (k.rsPair f.rshp).toNat 47 32 ∧ r.dstr = field (k.rsPair f.rshp).toNat 63 48 ∧
        r.src = k.rsPair f.rsrc ∧ r.dst = k.rsPair f.rdst ∧ r.mask = k.enabled f.psel f.pinv ∧ r.round = k.spec.round ∧
        (r.flag = if xfer x.2 = true ∧ f.afv = true then some f.af.toNat else none)) ∧
      (∀ n : Fin 64, (t.core c).flag n.val =
        if xfer x.2 = true ∧ f.afv = true ∧ n.val = f.af.toNat then (if none' = true then .landed else .armed) else k.flag n.val) ∧
      (t.core c).file = k.file ∧ t.mem = s.mem ∧ (t.core c).spec.pc = k.spec.pc + (if k.spec.bundleMode then 64 else 4))

/-- O36. What MOVE_COMPLETE does: FILL, ROWS and ATOM in memory, ACCLD in the tile, the flag and the queue. MOVE_COMPLETE of
one of the four oldest moves takes it from the queue and lands its flag. Of one row that is enabled, FILL writes its words
over the row, ROWS copies the source bytes, and no other byte changes; ATOM leaves the new value at the address and the old
one in the near store; ACCLD changes no byte of memory. Where no word of the source is uncorrectable no error is kept. Where
the spec leaves a point to be read, it follows the model's own reading (log entry 36). (R116, R119, R120, R122, R127). -/
def Obligations.MoveCompletions : Prop :=
  ∀ (s : State) (p c i : Nat) (m : MoveRec), c < 1024 → s.partOf c = some p → i < 4 → (s.core c).sync.moves[i]? = some m →
    Mem.wf s.mem = true → (∀ n, m.flag = some n → n < 64) →
    (∀ r ∈ m.srcRanges, s.poisoned (s.physOf p r.1) r.2 = false) →
    let k := s.core c
    let d := s.physOf p m.dst.toNat
    Completes (.moveComplete c i []) s (fun t =>
      (t.core c).sync.moves = k.sync.moves.eraseIdx i ∧ (t.core c).sync.errs = k.sync.errs ∧
      (∀ n, m.flag = some n → (t.core c).flag n = .landed) ∧ (t.core c).file.s = k.file.s ∧ (t.core c).file.v = k.file.v ∧
      (∀ b, m.op = .accld b → t.mem = s.mem ∧ ∀ a : BitVec 3, a.toNat ≠ m.tile % 8 → (t.core c).tile a = k.tile a) ∧
      (m.rows = 1 → m.mask.getLsbD 0 = true → m.op = .fill → m.len % 4 = 0 → ∀ a,
        Mem.read t.mem a = if d ≤ a ∧ a < d + m.len then BitVec.ofNat 8 (m.opnd.toNat / 2 ^ (8 * ((a - d) % 4)))
          else Mem.read s.mem a) ∧
      (m.rows = 1 → m.mask.getLsbD 0 = true → m.op = .rows → ∀ a,
        Mem.read t.mem a = if d ≤ a ∧ a < d + m.len then Mem.read s.mem (s.physOf p m.src.toNat + (a - d))
          else Mem.read s.mem a) ∧
      (∀ n, m.op = .atom n → n < 8 → d + 8 ≤ 3 * 2 ^ 52 → m.near < 2 ^ 20 →
        let x := 3 * 2 ^ 52 + c * 2 ^ 20 + m.near
        (∀ a, (a < d ∨ d + atomBytes n ≤ a) → (a < x ∨ x + atomBytes n ≤ a) → Mem.read t.mem a = Mem.read s.mem a) ∧
        t.readN x (atomBytes n) = s.readN d (atomBytes n) ∧
        (n < 2 → t.readN d (atomBytes n) = (s.readN d (atomBytes n) + m.opnd.toNat) % 2 ^ (8 * atomBytes n)) ∧
        (n = 2 ∨ n = 3 → t.readN d (atomBytes n) = m.opnd.toNat % 2 ^ (8 * atomBytes n)) ∧
        (n = 5 → t.readN d 8 = if s.readN d 8 = m.cmp.toNat then m.opnd.toNat else s.readN d 8)))

/-- O37. What each operation of the sync slot leaves where its wait is satisfied. Where it issues, its wait satisfied: MWAIT,
FENCE_LOCAL, FENCE_GLOBAL and WAITFT only advance; SEND puts a message of its logical core, its channel and s[rd] on the way
to core s[rs]; RECV takes the first message that matches and writes {channel << 24 + sender, payload} to {s[rd+1], s[rd]};
SEMACQ and SEMREL lower and raise the semaphore s[rs] + imm[5:0] and the list of those held; WAITARR makes its flag IDLE; the
last BAR releases the others of its barrier. Where the spec leaves a point to be read, it follows the model's own reading (log
entry 38). (R124, R126, R127, R129, R130). -/
def Obligations.SyncResults : Prop :=
  ∀ (s : State) (p c : Nat) (f : SyFields),
    let k := s.core c
    let n := (k.rs f.rs).toNat + f.imm.toNat % 64
    let w := f.imm.toNat % 64
    let b := f.imm.toNat % 16
    (∀ x ∈ [(Instr.mwait c f, SyOp.mwait, f), (.fenceLocal c f, .fenceLocal, { f with imm := f.imm &&& 0xFFFE#16 }),
        (.fenceGlobal c f, .fenceGlobal, { f with imm := f.imm ||| 1#16 }), (.waitft c f, .waitft, f)],
      Issues s p c (.sy x.2.1 x.2.2) → exec x.1 s = .next (s.onCore c Core.advance)) ∧
    (Issues s p c (.sy .send f) → Completes (.send c f) s (fun t =>
      (t.part p).sched.flights = (s.part p).sched.flights ++
        [⟨(k.rs f.rs).toNat, ⟨s.logical p c, f.imm.toNat % 256, k.rs f.rd⟩⟩] ∧
      t.cores = (s.onCore c Core.advance).cores ∧ t.mem = s.mem)) ∧
    (∀ m, k.sync.rxq.find? (recvMatch f) = some m → Issues s p c (.sy .recv f) → Completes (.recv c f) s (fun t =>
      (t.core c).sync.rxq = k.sync.rxq.erase m ∧ (f.rd ≠ 0 → (t.core c).rs f.rd = m.payload) ∧
      (t.core c).rs (f.rd + 1) = BitVec.ofNat 32 (m.chan * 2 ^ 24 + m.sender % 1024) ∧
      (∀ r, r ≠ f.rd → r ≠ f.rd + 1 → (t.core c).rs r = k.rs r) ∧ t.mem = s.mem)) ∧
    (Issues s p c (.sy .semacq f) → Completes (.semacq c f) s (fun t =>
      t.sem p n = s.sem p n - 1 ∧ 0 < s.sem p n ∧ (t.core c).sync.sems = k.sync.sems ++ [n] ∧ (t.core c).file = k.file ∧
      t.mem = s.mem)) ∧
    (Issues s p c (.sy .semrel f) → s.sem p n < 0xFFFF → Completes (.semrel c f) s (fun t =>
      t.sem p n = s.sem p n + 1 ∧ (t.core c).sync.sems.length = k.sync.sems.length - 1 ∧ (t.core c).file = k.file ∧
      t.mem = s.mem)) ∧
    (Issues s p c (.sy .waitarr f) → Completes (.waitarr c f) s (fun t =>
      k.flag w = .landed ∧ (t.core c).flag w = .idle ∧ (∀ v, v ≠ w → (t.core c).flag v = k.flag v) ∧
      (t.core c).file = k.file ∧ t.mem = s.mem)) ∧
    (Issues s p c (.sy .bar f) → k.atBarrier b = false → Completes (.bar c f) s (fun t =>
      Map.find (t.part p).sched.barriers b = none ∧
      (t.part p).sched.barPassed = (s.part p).sched.barPassed ++
        (((Map.find (s.part p).sched.barriers b).map (fun x => x.arrived)).getD []).map (fun o => (b, o)) ∧
      t.cores = (s.onCore c Core.advance).cores ∧ t.mem = s.mem)) ∧
    (Issues s p c (.sy .bar f) → k.atBarrier b = true → Completes (.bar c f) s (fun t =>
      (t.part p).sched.barPassed = (s.part p).sched.barPassed.erase (b, k.order) ∧
      (t.part p).sched.barriers = (s.part p).sched.barriers ∧ t.cores = (s.onCore c Core.advance).cores ∧ t.mem = s.mem))

/-- O38. A sync operation whose wait is not satisfied stalls with the PC where it is; a BAR arrives once. Where it passes its
checks but its wait is not satisfied, a sync operation leaves the device as it is but for the wait that the core stands at; it
can be issued again from the same PC. A BAR that stalls has its arrival counted once: its starting order joins those of its
barrier when it first issues. Where the spec leaves a point to be read, it follows the model's own reading (log entry 38).
(R78, R124, R126, R130). -/
def Obligations.SyncWaits : Prop :=
  ∀ (s : State) (p c : Nat) (f : SyFields) (w : Wait), Runs s p c →
    let k := s.core c
    let rows : List (Instr × SyOp × SyFields) := [(.mwait c f, .mwait, f), (.fenceGlobal c f, .fenceGlobal, { f with imm := f.imm ||| 1#16 }),
      (.send c f, .send, f), (.recv c f, .recv, f), (.semacq c f, .semacq, f), (.semrel c f, .semrel, f),
      (.waitarr c f, .waitarr, f), (.waitft c f, .waitft, f), (.bar c f, .bar, f)]
    ∀ x ∈ rows, x.2.1.illegal f = false → syCheck s p k x.2.1 x.2.2 = none → syErr k x.2.1 x.2.2 = none →
      syStall s p k x.2.1 x.2.2 = some w → Completes x.1 s (fun t =>
        (t.core c).sync.stall = some w ∧ (t.core c).spec = k.spec ∧ (t.core c).file = k.file ∧ t.mem = s.mem ∧ t.regs = s.regs ∧
        (∀ c', c' ≠ c → t.core c' = s.core c') ∧
        (x.2.1 ≠ .bar ∨ k.atBarrier (f.imm.toNat % 16) = true → t = s.onCore c (fun k => { k with sync := { k.sync with stall := some w } })) ∧
        (x.2.1 = .bar → k.atBarrier (f.imm.toNat % 16) = false →
          Map.find (t.part p).sched.barriers (f.imm.toNat % 16) = some ⟨(k.rs f.rs).toNat,
            ((Map.find (s.part p).sched.barriers (f.imm.toNat % 16)).map (fun y => y.arrived)).getD [] ++ [k.order]⟩))

/-- O39. A bundle reads every operand at issue and takes effect whole; one that names a destination twice does nothing. In
bundle mode, a bundle with its reserved bits zero, not held at a cheap point, whose valid slots all decode to legal operations
that pass their checks and waits and name no register twice, leaves the effects of its slots in slot_valid order, each
computed from the core as it stood at issue, then the PC at the taken branch, at the next bundle, or in scalar mode under
exit. Two slots that name one destination raise BUNDLE_CONFLICT instead and no slot takes effect. Where the spec leaves a
point to be read, it follows the model's own reading (log entry 37). (R66, R69, R73, R74, R77, R92). -/
def Obligations.BundlesTakeEffectTogether : Prop :=
  ∀ (s : State) (p c : Nat) (w : BitVec 512) (rom : Bool), Runs s p c →
    let k := s.core c
    let exit := w.getLsbD 30
    let valid := (decSlots w.toNat).filter (fun x => w.getLsbD (29 - x.1))
    let slots := valid.filterMap (fun x => (x.2.bind id).map (fun o => (x.1, o)))
    (∀ x ∈ valid, x.2 ≠ none) →
    k.spec.bundleMode = true → w.extractLsb' 496 16 = 0 → k.cheapHere (w.extractLsb' 0 32) = false →
    (∀ x ∈ slots, slotIllegal k x.1 x.2 = false ∧ fetchOf k x.2 = none) →
    (conflict (slots.map Prod.snd) = false → resourceStall k (slots.map Prod.snd) = false →
      (∀ x ∈ slots, slotCheck s p c k x.2 = none) → waitOf s p k (slots.map Prod.snd) = none →
      (∀ x ∈ slots, x.2 ≠ .scalar .halt) →
      exec (.bundle c rom w) s = .next ((slots.foldl (fun u x => slotEffect rom p c k u x.2) s).onCore c (fun k' =>
        k'.goto (nextFetch k slots exit).1 (nextFetch k slots exit).2))) ∧
    (conflict (slots.map Prod.snd) = true → k.sync.moves = [] →
      Completes (.bundle c rom w) s (fun t => (t.core c).file = k.file ∧ (t.core c).spec.cause.toNat % 256 = 0x02 ∧
        (t.core c).task = none))

/-- O40. What MESSAGE_RECEIVE and TIER_WATCHDOG_EXPIRY do. MESSAGE_RECEIVE takes a message on its way off the mesh and puts it
at the end of its core's receive queue. TIER_WATCHDOG_EXPIRY on a core of a partition that stands at no armed flag ends the
oldest move that reads T1 or T2: it leaves the queue, its flag lands, and TIER_LATE waits for the operation that covers it;
with no such move nothing changes. Where the spec leaves a point to be read, it follows the model's own reading (log entries
36 and 38). (R129, R210). -/
def Obligations.MessagesAndTheWatchdog : Prop :=
  ∀ (s : State) (p c i : Nat),
    (∀ x, p < 1024 → (s.part p).sched.flights[i]? = some x → s.physical p x.dest = some c → s.get Reg.PARTITION.STATE.power p ≠ 1 →
      Completes (.messageReceive p i) s (fun t =>
        (t.core c).sync.rxq = (s.core c).sync.rxq ++ [x.msg] ∧ (t.core c).file = (s.core c).file ∧
        (t.part p).sched.flights = (s.part p).sched.flights.eraseIdx i ∧ t.mem = s.mem ∧ t.regs = s.regs)) ∧
    (c < 1024 → s.partOf c = some p → (s.core c).standsArmed = false →
      ((∀ m ∈ (s.core c).sync.moves, m.slow = false) → exec (.tierWatchdogExpiry c) s = .next s) ∧
      (∀ m ms, (s.core c).sync.moves = m :: ms → m.slow = true → (s.core c).sync.stall ≠ some .drain →
        (∀ n, m.flag = some n → n < 64) → Completes (.tierWatchdogExpiry c) s (fun t =>
          (t.core c).sync.moves = ms ∧ (t.core c).sync.errs = (s.core c).sync.errs ++ [⟨m.grp, m.flag, 0x0A, 0⟩] ∧
          (∀ n, m.flag = some n → (t.core c).flag n = .landed) ∧ (t.core c).spec = (s.core c).spec)))

/-- O41. The four ways in which a bundle is illegal, and that ILLEGAL_OP ends the task with no slot taken. A bundle raises
ILLEGAL_OP where its bits [511:496] are not zero, a valid slot holds an unknown operation, valid scalar slot 0 holds a branch, a
jump, WIDE, ERET or HALT, or a valid scalar slot holds WIDE (no slot raising FETCH_ALIGN, which comes before, and no preemption
pending): CAUSE takes the code 0x01, the task ends, and no register changes. As instructions given alone, branches, jumps, ERET
and HALT are legal in bundle mode, WIDE only in scalar mode. (R68). -/
def Obligations.IllegalBundles : Prop :=
  (∀ (s : State) (p c : Nat) (w : BitVec 512) (rom : Bool), Runs s p c →
    let k := s.core c
    let valid := (decSlots w.toNat).filter (fun x => w.getLsbD (29 - x.1))
    k.spec.bundleMode = true → k.preempt = none → k.sync.moves = [] →
    (∀ n o, (n, some (some o)) ∈ valid → fetchOf k o = none) →
    (w.extractLsb' 496 16 ≠ 0 ∨ (∃ n, (n, none) ∈ valid) ∨ (∃ o, (0, some (some (.scalar o))) ∈ valid ∧ o.control = true) ∨
      (∃ n x, (n, some (some (.scalar (.wide x)))) ∈ valid)) →
    Completes (.bundle c rom w) s (fun t => (t.core c).file = k.file ∧ (t.core c).spec.cause.toNat % 256 = 0x01 ∧
      (t.core c).task = none)) ∧
  (∀ (k : Core) (o : ScalarOp), k.spec.bundleMode = true → o.control = true → k.spec.inTrap = true →
    (slotIllegal k 1 (.scalar o) = false ↔ ∀ x, o ≠ .wide x) ∧ slotIllegal k 0 (.scalar o) = true) ∧
  (∀ (k : Core) (x : BitVec 26), slotIllegal k 15 (.scalar (.wide x)) = k.spec.bundleMode) ∧
  (∀ o : ScalarOp, o.control = true ↔ (∃ b x y n, o = .branch b x y n) ∨ (∃ x, o = .j x) ∨ (∃ x, o = .jal x) ∨
    (∃ d a x, o = .jalr d a x) ∨ (∃ x, o = .wide x) ∨ o = .eret ∨ o = .halt)

/-- O42. A marked bundle that reaches issue while a semaphore is held raises CHEAP_POINT_HELD before any slot takes effect. A
bundle with cheap = 1 in bundle mode, outside a trap handler and PX8 mode, that is otherwise legal and reaches issue while
SEM_HELD is not zero raises CHEAP_POINT_HELD (0x03), whether or not a preemption request is pending: no register of its slots is
written, and the task ends with that code. (R88). -/
def Obligations.CheapPointWithASemaphoreHeld : Prop :=
  ∀ (s : State) (p c : Nat) (w : BitVec 512) (rom : Bool), Runs s p c →
    let k := s.core c
    let valid := (decSlots w.toNat).filter (fun x => w.getLsbD (29 - x.1))
    let slots := valid.filterMap (fun x => (x.2.bind id).map (fun o => (x.1, o)))
    k.spec.bundleMode = true → k.spec.inTrap = false → k.spec.px8 = false → k.sync.moves = [] → w.getLsbD 31 = true →
    k.sync.sems ≠ [] → (∀ x ∈ valid, x.2 ≠ none) → w.extractLsb' 496 16 = 0 → conflict (slots.map Prod.snd) = false →
    (∀ x ∈ slots, slotIllegal k x.1 x.2 = false ∧ fetchOf k x.2 = none) →
    Completes (.bundle c rom w) s (fun t => (t.core c).file = k.file ∧ (t.core c).spec.cause.toNat % 256 = 0x03 ∧
      (t.core c).spec.pc = k.spec.pc ∧ (t.core c).task = none)

/-- O43. What REGISTER_WRITE, LOCK_SET, FAULT_CLEAR and EVENT_STATUS_CLEAR do to a page that the requester reaches. A write of
EVENT_MASK replaces its 8 bytes, or the half that a 4-byte write covers; LOCK_SET by the device key or the firmware sets a
LOCK that is clear, and by anyone else, or again, records LOCK_VIOLATION; FAULT_CLEAR zeroes FAULT and FAULT_ADDR;
EVENT_STATUS_CLEAR clears the bits written with 1 but those raised in the same cycle; core code clears nothing. No other
register, no memory byte, no core and no partition changes. A page that the requester does not reach is not changed. Where the spec leaves a point to be
read, it follows the model's own reading (log entry 58). (R461, R464, R465, R467, R468,
R469). -/
def Obligations.RegisterWindow : Prop :=
  ∀ (s : State) (r : Requester) (page : Nat) (v bits now : DWord), page % 0x1000 = 0 →
    let pg := page / 0x1000
    let old := s.get Reg.PAGE.EVENT_MASK.mask pg
    let sets (i : Instr) (keys : List Nat) (P : State → Prop) : Prop := Completes i s (fun t => P t ∧
      (∀ k, k ∉ keys → t.regAt k = s.regAt k) ∧ t.mem = s.mem ∧ t.cores = s.cores ∧ t.parts = s.parts ∧ t.tenants = s.tenants)
    (s.reach r page = false → ∀ i ∈ [Instr.registerWrite r page true v, .lockSet r page, .faultClear r page,
      .eventStatusClear r page bits now], exec i s = .next s) ∧
    (s.reach r page = true →
      sets (.registerWrite r (page + 0x30) true v) [page + 0x30] (fun t => t.get Reg.PAGE.EVENT_MASK.mask pg = v.toNat) ∧
      sets (.registerWrite r (page + 0x30) false v) [page + 0x30] (fun t =>
        t.get Reg.PAGE.EVENT_MASK.mask pg = old / 2 ^ 32 * 2 ^ 32 + v.toNat % 2 ^ 32) ∧
      sets (.registerWrite r (page + 0x34) false v) [page + 0x30] (fun t =>
        t.get Reg.PAGE.EVENT_MASK.mask pg = v.toNat % 2 ^ 32 * 2 ^ 32 + old % 2 ^ 32) ∧
      (r = .deviceKey ∨ r = .firmware → s.get Reg.PAGE.LOCK.lock pg = 0 →
        sets (.lockSet r page) [page + 0x40] (fun t => t.get Reg.PAGE.LOCK.lock pg = 1)) ∧
      ((r ≠ .deviceKey ∧ r ≠ .firmware) ∨ s.get Reg.PAGE.LOCK.lock pg = 1 →
        exec (.lockSet r page) s = .next (s.regFault (page + 0x40) 0x40)) ∧
      (isCoreCode r = true → ∀ i ∈ [Instr.faultClear r page, .eventStatusClear r page bits now], exec i s = .next s) ∧
      (isCoreCode r = false → sets (.faultClear r page) [page + 0x18, page + 0x20] (fun t =>
        t.regAt (page + 0x18) = 0 ∧ t.regAt (page + 0x20) = 0) ∧
      sets (.eventStatusClear r page bits now) [page + 0x38] (fun t =>
        ∀ n, n < 64 → (t.get Reg.PAGE.EVENT_STATUS.raised pg).testBit n =
          ((s.get Reg.PAGE.EVENT_STATUS.raised pg).testBit n && !(bits.getLsbD n && !now.getLsbD n)))))

/-- O44. What a page records when it drops a write: the first fault with its address, later ones as the last code and a count.
With fault_event clear, a fault in a page whose FAULT.valid is 0 sets valid, the first and the last code, the count 1, and
FAULT_ADDR to the global address of the access; in a page whose valid is 1 it changes the last code and adds 1 to the count,
which stops at 0xFFFF. Nothing else changes. Where the spec leaves a point to be read, it follows the model's own reading (log
entry 58). (R464). -/
def Obligations.FaultsOfAPage : Prop :=
  ∀ (s : State) (off code : Nat), off < 2 ^ 32 → code < 256 →
    let pg := off / 0x1000
    let t := s.regFault off code
    (∀ k, k ≠ off - off % 0x1000 + 0x18 → k ≠ off - off % 0x1000 + 0x20 → s.get Reg.PAGE.CTRL.fault_event pg = 0 →
      t.regAt k = s.regAt k) ∧
    (s.get Reg.PAGE.CTRL.fault_event pg = 0 → t = { s with regs := t.regs }) ∧
    (s.get Reg.PAGE.FAULT.valid pg = 0 → s.get Reg.PAGE.CTRL.fault_event pg = 0 →
      t.get Reg.PAGE.FAULT.valid pg = 1 ∧ t.get Reg.PAGE.FAULT.first_code pg = code ∧ t.get Reg.PAGE.FAULT.last_code pg = code ∧
      t.get Reg.PAGE.FAULT.count pg = 1 ∧ t.get Reg.PAGE.FAULT_ADDR.addr pg = 0x0040000000000000 + off) ∧
    (s.get Reg.PAGE.FAULT.valid pg = 1 →
      t.get Reg.PAGE.FAULT.valid pg = 1 ∧ t.get Reg.PAGE.FAULT.first_code pg = s.get Reg.PAGE.FAULT.first_code pg ∧
      t.get Reg.PAGE.FAULT.last_code pg = code ∧
      t.get Reg.PAGE.FAULT.count pg = min 0xFFFF (s.get Reg.PAGE.FAULT.count pg + 1) ∧
      t.get Reg.PAGE.FAULT_ADDR.addr pg = s.get Reg.PAGE.FAULT_ADDR.addr pg)

/-- O45. Park, wake, Idle and Deep: what each keeps, what refuses it. PARK_REQUEST of a LIVE partition with no running task,
open step, step in flight or unfinished request enters Park and power-gates its cores, and nothing else; with one of these it
records SCHED_BUSY. WAKE_REQUEST and PARK_PLAN_WAKE (a plan entry at most 25 µs away) return to Active; IDLE_ENTRY enters
Idle. ENTER_DEEP, with every partition in Park and no context or T0 region, gates every core and takes ports 0 to 35 down;
EXIT_DEEP zeroes T0 and the near stores and releases setts, frames and prefixes. Where the spec leaves a point to be read, it
follows the model's own reading (log entry 54). (R446, R447, R448, R449). -/
def Obligations.PowerStates : Prop :=
  ∀ (s : State) (r : Requester) (p : Nat), p < 1024 →
    let off := 0x02800120 + p * 0x1000
    let busy : Prop := (∃ c ∈ (s.part p).sched.cores, (s.core c).task.isSome = true) ∨ (s.red p).isOpen = true ∨
      (s.gen p).steps ≠ [] ∨ (∃ x ∈ (s.gen p).reqs, x.status = none)
    (s.reach r off = true → s.life p = 2 →
      (busy → exec (.parkRequest r p) s = .next (s.regFault off 0x51)) ∧
      (¬ busy → Completes (.parkRequest r p) s (fun t => t.get Reg.PARTITION.STATE.power p = 2 ∧
        t.get Reg.PARTITION.POWER.park p = 1 ∧ t.mem = s.mem ∧ t.parts = s.parts ∧
        ∀ c, t.core c = if c ∈ (s.part p).sched.cores then (s.core c).gated else s.core c)) ∧
      Completes (.wakeRequest r p) s (fun t => t.get Reg.PARTITION.STATE.power p = 0 ∧ t.get Reg.PARTITION.POWER.park p = 0 ∧
        t = { s with regs := t.regs })) ∧
    (s.life p = 2 → s.get Reg.PARTITION.STATE.power p = 2 → s.deep = false →
      (∃ e ∈ (s.part p).plan, peTime e.bytes ≤ s.clock.ftime.toNat + 26844) →
      Completes (.parkPlanWake p) s (fun t => t.get Reg.PARTITION.STATE.power p = 0 ∧ t = { s with regs := t.regs })) ∧
    (s.life p = 2 → s.get Reg.PARTITION.STATE.power p = 0 → ¬ busy → (s.part p).sched.stepHeads = [] →
      (∀ q, q < 16 → s.queueHead p q = none) →
      Completes (.idleEntry p) s (fun t => t.get Reg.PARTITION.STATE.power p = 1 ∧ t = { s with regs := t.regs })) ∧
    (r = .deviceKey ∨ r = .firmware → s.deep = false →
      (s.deepBusy = true → exec (.enterDeep r) s = .next (s.regFault 0x00800108 0x51)) ∧
      (s.deepBusy = false → Completes (.enterDeep r) s (fun t => t.deep = true ∧ (∀ c, t.core c = (s.core c).gated) ∧
        (∀ port, port < 36 → t.get Reg.PORT.STATUS.state port = 0) ∧ t.mem = s.mem ∧ t.parts = s.parts ∧ t.gov.rise = none))) ∧
    (r = .deviceKey ∨ r = .firmware → s.deep = true → Completes (.exitDeep r) s (fun t => t.deep = false ∧ t.cores = s.cores ∧
      (∀ a, Mem.read t.mem a = if a < 2 ^ 52 ∨ (3 * 2 ^ 52 ≤ a ∧ a < 4 * 2 ^ 52) then 0 else Mem.read s.mem a) ∧
      (∀ q, (t.part q).setts = [] ∧ (t.part q).sched = (s.part q).sched ∧ (t.gen q).tables = [])))

/-- O46. The governor, the thermal trip and shutdown, the rails and the cold reset. GOVERNOR_TICK records the readings and,
where it changes the frequency, counts it, keeps the bounds and waits 100 µs after the last change; nothing changes while
deep, tripped or before the firmware runs. VCORE_SETTLED lets a rise through once VCORE reads within 10 mV and 60 µs are over.
A sensor at 105 °C trips the governor to j = 0 with its event; 95 °C everywhere releases it; THERMAL_SHUTDOWN pulls
THERMTRIP_N low. COLD_RESET and a rail fault leave reset with the fuses; PMBUS_POLL and PMBUS_ALERT write the rail's readings.
Where the spec leaves a point to be read, it follows the model's own reading (log entry 54). (R450, R451, R452, R453, R477,
R478, R494, R496, R498, R500). -/
def Obligations.GovernorAndRails : Prop :=
  ∀ (s : State) (j w : Nat) (temps : List Nat),
    let cold : State := { State.reset with fuses := s.fuses, out := s.out, free := s.free, pending := s.pending }
    let cur := s.get Reg.GOV.STATE.j 0
    Completes (.governorTick j w temps) s (fun t =>
      t.get Reg.GOV.STATE.power_w 0 = w % 2 ^ 16 ∧ t.get Reg.GOV.STATE.hottest 0 = (temps.take 5).foldl max 0 % 2 ^ 8 ∧
      t.gov.energy = s.gov.energy + w * (s.timer - s.gov.energyAt) ∧ t.gov.energyAt = s.timer ∧ t.cores = s.cores ∧
      t.mem = s.mem ∧
      (s.deep = true ∨ s.gov.trip = true ∨ s.get Reg.BOOT.STATUS.state 0 ≠ 4 → t.get Reg.GOV.STATE.j 0 = cur ∧ t.out = s.out) ∧
      (t.get Reg.GOV.STATE.j 0 ≠ cur → t.get Reg.GOV.STATE.j 0 = max s.fRange.1 (min s.fRange.2 j) ∧
        t.get Reg.GOV.CHANGES.changes 0 = (s.get Reg.GOV.CHANGES.changes 0 + 1) % 2 ^ 64 ∧ t.gov.changed = some s.timer ∧
        ∀ x, s.gov.changed = some x → x + usTicks 100 ≤ s.timer)) ∧
    (∀ (mv : Nat) (late : Bool) (x : Rise), s.gov.rise = some x → x.j < 16 → s.pmbFailing = false →
      let v := s.get Reg.GOV.STATE.vcore_mv 0
      let seen : Bool := x.seen || (decide (mv ≤ v + 10) && decide (v ≤ mv + 10))
      Completes (.vcoreSettled mv late) s (fun t =>
        (seen = true ∧ (x.timed || late) = true → t.get Reg.GOV.STATE.j 0 = x.j ∧ t.gov.rise = none ∧ t.gov.changed = some s.timer) ∧
        (seen = false ∨ (x.timed || late) = false →
          t = { s with gov := { s.gov with rise := some ⟨x.j, seen, x.timed || late⟩ } }))) ∧
    (∀ die temp : Nat, (s.gov.trip = true ∨ temp < 105 → exec (.thermalTrip die temp) s = .next s) ∧
      (s.gov.trip = false → 105 ≤ temp → Completes (.thermalTrip die temp) s (fun t => t.gov.trip = true ∧
        t.get Reg.GOV.STATE.j 0 = 0 ∧ t.get Reg.GOV.STATE.bound 0 = 3 ∧
        t.get Reg.GOV.TRIPS.trips 0 = (s.get Reg.GOV.TRIPS.trips 0 + 1) % 2 ^ 64 ∧
        (t.get Reg.PAGE.EVENT_STATUS.raised (0x0080 * 16)).testBit 0 = true ∧ t.cores = s.cores ∧ t.mem = s.mem))) ∧
    (s.gov.trip = true → (∀ i, i < 5 → s.get Reg.GOV.DIE_TEMP.temps 0 / 2 ^ (8 * i) % 256 ≤ 95) →
      Completes .thermalTripRelease s (fun t => t.gov.trip = false ∧ t.get Reg.GOV.STATE.bound 0 = 0 ∧
        t = { s with regs := t.regs, gov := t.gov })) ∧
    (s.pins.thermtripLow = false → Completes .thermalShutdown s (fun t => t.pins.thermtripLow = true ∧ t.boot.stopped = true ∧
      (t.get Reg.PAGE.EVENT_STATUS.raised 0).testBit 0 = true ∧ t.cores = s.cores ∧ t.mem = s.mem)) ∧
    exec .coldReset s = .next cold ∧ (∀ rail, rail < 7 → exec (.railFault rail) s = .next cold) ∧
    (∀ rail mv ma stageC st : Nat, rail < 7 →
      Completes (.pmbusPoll rail mv ma stageC st true) s (fun t => t.getB Reg.GOV.RAIL.mv 0 rail = mv % 2 ^ 16 ∧
        t.getB Reg.GOV.RAIL.ma 0 rail = ma % 2 ^ 24 ∧ t.getB Reg.GOV.RAIL.stage_c 0 rail = stageC % 2 ^ 8 ∧
        t.getB Reg.GOV.RAIL.status_word 0 rail = st % 2 ^ 16 ∧ t = { s with regs := t.regs }) ∧
      Completes (.pmbusPoll rail mv ma stageC st false) s (fun t => t.getB Reg.GOV.RAIL.mv 0 rail = s.getB Reg.GOV.RAIL.mv 0 rail ∧
        t.getB Reg.GOV.RAIL.status_word 0 rail = 0xFFFF ∧ t = { s with regs := t.regs }) ∧
      Completes (.pmbusAlert (if rail = 0 then 0 else if rail < 4 then 1 else 2) rail st) s (fun t =>
        t.getB Reg.GOV.RAIL.status_word 0 rail = st % 2 ^ 16 ∧ t.getB Reg.GOV.RAIL.mv 0 rail = s.getB Reg.GOV.RAIL.mv 0 rail ∧
        t = { s with regs := t.regs }))

/-- O47. Time words, holdover, the forced step, and the seed slots. TIME_WORD_SEND sends the count, depth and lock state on
each fabric and twin port that carries traffic. TIME_WORD of a port that does records the sender's depth, state and link
delay. HOLDOVER_EXPIRY turns HOLDOVER into FREE. FORCE_STEP, in FAULT with no plan entry and no task, moves the count back by
the offset in ticks, counts a step and acquires again; with one it records SCHED_BUSY. RNG_SEED_WRITE of a slot no task names
stores the seed and starts its expansion, and SEED_EXPANSION_DONE makes the slot valid. Where the spec leaves a point to be
read, it follows the model's own reading (log entries 49 and 53). (R440, R441, R442, R443, R444, R190). -/
def Obligations.TimeAndSeeds : Prop :=
  ∀ (s : State) (r : Requester) (p n : Nat) (seed : DWord),
    Completes .timeWordSend s (fun t => t = { s with out := t.out } ∧
      t.out = s.out ++ ((List.range 32 ++ [36, 37]).filter (fun q => s.get Reg.PORT.STATUS.state q == 2 ||
        s.get Reg.PORT.STATUS.state q == 3)).map (fun q =>
          Out.timeWord q (8 * s.clock.ftime.toNat) (s.get Reg.TIME.STATUS.depth 0) (s.get Reg.TIME.STATUS.state 0))) ∧
    (∀ (port : Nat) (w : TimeWordIn), port < 38 → s.portUp port = true → (port < 32 ∨ 36 ≤ port) →
      Completes (.timeWord port w) s (fun t => Map.find t.time.peers port = some ⟨w.depth % 256, w.state % 8,
        Int.fdiv (((w.arrived : Int) - w.sent) + ((w.backArrived : Int) - w.backSent)) 2⟩ ∧ t.cores = s.cores ∧ t.mem = s.mem)) ∧
    (s.get Reg.TIME.STATUS.state 0 = 3 → Completes .holdoverExpiry s (fun t => t.get Reg.TIME.STATUS.state 0 = 0 ∧
      t = { s with regs := t.regs })) ∧
    (r = .deviceKey ∨ r = .firmware →
      (s.timeInUse = true → exec (.forceStep r) s = .next (s.regFault 0x00C00128 0x51)) ∧
      (s.timeInUse = false → s.get Reg.TIME.STATUS.state 0 = 4 → Completes (.forceStep r) s (fun t =>
        t.clock.ftime = s.clock.ftime - BitVec.ofNat 64 (s.time.offset.natAbs / 8) ∧
        t.get Reg.TIME.STEPS.steps 0 = (s.get Reg.TIME.STEPS.steps 0 + 1) % 2 ^ 64 ∧
        t.get Reg.TIME.STATUS.state 0 = (if s.get Reg.TIME.STATUS.source 0 = 255 then 0 else 1) ∧ t.cores = s.cores ∧
        t.mem = s.mem))) ∧
    (p < 1024 → n < 16 → s.reach r (0x03800140 + 8 * n + p * 0x1000) = true →
      (s.seedNamed p n = true → exec (.rngSeedWrite r p n seed) s = .next (s.regFault (0x03800140 + 8 * n + p * 0x1000) 0x46)) ∧
      (s.seedNamed p n = false → Completes (.rngSeedWrite r p n seed) s (fun t =>
        t.regAt (0x03800140 + 8 * n + p * 0x1000) = seed.toNat ∧
        (∀ m, m < 16 → (t.get Reg.RNG.SEED_STATUS.expanding p).testBit m =
          ((s.get Reg.RNG.SEED_STATUS.expanding p).testBit m || decide (m = n))) ∧
        (∀ m, m < 16 → (t.get Reg.RNG.SEED_STATUS.valid p).testBit m =
          ((s.get Reg.RNG.SEED_STATUS.valid p).testBit m && decide (m ≠ n))) ∧ t = { s with regs := t.regs }))) ∧
    (p < 1024 → n < 16 → (s.get Reg.RNG.SEED_STATUS.expanding p).testBit n = true →
      Completes (.seedExpansionDone p n) s (fun t => (t.get Reg.RNG.SEED_STATUS.expanding p).testBit n = false ∧
        (t.get Reg.RNG.SEED_STATUS.valid p).testBit n = true ∧ t = { s with regs := t.regs }))

/-- O48. From the release of reset to the running firmware: each phase of the boot, a GO, a warm reset, and quotes. COLD_BOOT
zeroes the staging area, trains the host ports and listens; with both channels of a bridge pair lost it only serves reads.
BOOT_GO of an image starts its verification; IMAGE_VERIFIED passes only an image whose svn is no lower than min_svn, whose key
slot is not revoked and whose digest and signature hold, else counts a failure and listens again. BOOT_KEYS_DERIVED starts the
firmware, which at a cold boot tests T0. WARM_RESET resets every LIVE partition, or with none verifies the retained image, memory kept. QUOTE latches nonce,
measurements and time; QUOTE_DONE delivers. Where the spec leaves a point to be read, it follows the model's own reading (log
entry 45). (R429, R430, R431, R432, R433, R435, R436, R437, R438, R457). -/
def Obligations.BootToRunningFirmware : Prop :=
  ∀ (s : State) (r : Requester) (channels port len tenant : Nat) (sig : Bool) (x : FirmwareSetup), r = .deviceKey ∨ r = .firmware →
    let boot (t : State) : Nat := t.get Reg.BOOT.STATUS.state 0
    let svn := s.readN (1 * 2 ^ 52 + 0x7FFC000000 + 0xC) 4
    let slot := s.readN (1 * 2 ^ 52 + 0x7FFC000000 + 0x10) 4
    (s.pins.resetLow = true → pairLost channels = false → Completes (.coldBoot channels (2 ^ 32 - 1)) s (fun t =>
      boot t = 1 ∧ t.pins.resetLow = false ∧ t.get Reg.DEVICE.T1.t1_bytes 0 = 2 ^ 39 ∧
      (∀ p, p < 4 → t.get Reg.HPORT.STATUS.state p = 2) ∧ t.boot.dik = some s.identityKey ∧ t.fuses = s.fuses ∧
      (∀ a, Mem.read t.mem a = if 2 ^ 52 + 0x7FFC000000 ≤ a ∧ a < 2 ^ 52 + 0x8000000000 then 0 else Mem.read s.mem a))) ∧
    (s.pins.resetLow = true → pairLost channels = true → Completes (.coldBoot channels (2 ^ 32 - 1)) s (fun t =>
      boot t = boot s ∧ t.boot.bridgeFailed = true ∧ t.get Reg.BOOT.STATUS.result 0 = 9 ∧ t.mem = s.mem)) ∧
    (port < 4 → s.hportUp port = true → (s.bootQp port).isSome = true → s.boot.bridgeFailed = false →
      s.get Reg.DEVICE.T1.t1_bytes 0 ≠ 0 → boot s = 1 → Completes (.bootGo port len) s (fun t => boot t = 2 ∧ t.boot.image = len ∧
        t.mem = s.mem ∧ t.cores = s.cores)) ∧
    (boot s = 2 → Completes (.imageVerified sig) s (fun t => t.mem = s.mem ∧
      (boot t = 3 ∨ (boot t = 1 ∧ t.get Reg.BOOT.FAILS.fails 0 = (s.get Reg.BOOT.FAILS.fails 0 + 1) % 2 ^ 64)) ∧
      (boot t = 3 → sig = true ∧ s.fuses.minSvn ≤ svn ∧ s.fuses.revoked.testBit slot = false ∧
        shake256 s.imgBody 64 = s.readBytes (2 ^ 52 + 0x7FFC000040) 64 ∧ s.imgFormatBad s.boot.image = false))) ∧
    (boot s = 3 → Completes (.bootKeysDerived x) s (fun t => boot t = 4 ∧ t.boot.ak = some s.attestKey.1 ∧ t.boot.dik = none ∧
      t.get Reg.BOOT.SVN.svn 0 = svn ∧ (t.get Reg.PAGE.STATUS.block 0).testBit 0 = true ∧
      (s.boot.warm = true → t.mem = s.mem) ∧ (∀ a, 2 ^ 52 ≤ a → Mem.read t.mem a = Mem.read s.mem a) ∧
      t.host.deviceKey = (if s.boot.warm then s.host.deviceKey else some x.deviceKey))) ∧
    (boot s = 4 → s.deep = false → Completes (.warmReset r) s (fun t => t.fuses = s.fuses ∧ t.boot.warm = true ∧
      ((∀ k ∈ s.parts, s.life k.1 ≠ 2 ∧ k.2.sched.resetting = none) → boot t = 2 ∧ t.mem = s.mem ∧ t.cores = s.cores ∧
        t.boot.image = s.boot.image ∧ t.get Reg.TIME.STATUS.state 0 = 3) ∧
      (∀ k ∈ s.parts, s.life k.1 = 2 → boot t = 0 ∧ t.life k.1 = 3))) ∧
    (tenant < 1024 →
      (s.get Reg.ATTEST.STATUS.state tenant = 1 → exec (.quote r tenant) s = .next (s.regFault (0x02400100 + tenant * 0x1000) 0x51)) ∧
      (s.get Reg.ATTEST.STATUS.state tenant ≠ 1 → Completes (.quote r tenant) s (fun t => t.get Reg.ATTEST.STATUS.state tenant = 1 ∧
        Map.find t.boot.latched tenant = some (leBytes 8 s.clock.ftime.toNat ++ s.regBytes (0x02400140 + tenant * 0x1000) 8 ++
          ((List.range 7).flatMap s.meas ++ s.meas (16 + tenant))) ∧ t.mem = s.mem)) ∧
      (∀ l, Map.find s.boot.latched tenant = some l → s.get Reg.ATTEST.STATUS.state tenant = 1 →
        Completes (.quoteDone tenant) s (fun t => t.get Reg.ATTEST.STATUS.state tenant = 2 ∧ t.boot.quotes = s.boot.quotes + 1 ∧
          Map.find t.boot.latched tenant = none ∧
          (t.get Reg.PAGE.EVENT_STATUS.raised (0x0240 * 16 + tenant)).testBit 0 = true ∧ t.mem = s.mem)))

/-- O49. CREATE, DESTROY, RESET, TENANT_RESET, KEY_ROLL and the end of a reset. CREATE of a FREE partition whose fields pass,
whose cores and slices no partition holds and whose allotments find room makes it LIVE on the first lcores of its core set,
each core idle, the semaphores at their initial counts. DESTROY, RESET and TENANT_RESET of a LIVE partition begin a reset
(life 4 or 3): each of its cores runs no task and holds no context. PARTITION_RESET_DONE ends it: LIVE again with the event
and no setts, or FREE with nothing. KEY_ROLL gives the tenant a new key that names it. A command that the life does not allow
records SCHED_BUSY. Where the spec leaves a point to be read, it follows the model's own reading (log entry 55). (R347, R365,
R379, R454, R455, R475). -/
def Obligations.PartitionLife : Prop :=
  ∀ (s : State) (r : Requester) (p : Nat), p < 1024 → r = .deviceKey ∨ r = .firmware →
    let cores := s.setOf Reg.PARTITION.CORE_SET.reg p
    let slices := s.setOf Reg.PARTITION.SLICE_SET.reg p
    let l := s.get Reg.PARTITION.CFG.lcores p
    let begins (i : Instr) (scope life : Nat) : Prop := Completes i s (fun t => t.life p = life ∧
      (t.part p).sched.resetting = some ⟨scope, true⟩ ∧ (t.gen p).reqs = [] ∧ (t.part p).tiers.lists = [] ∧
      (∀ c ∈ (s.part p).sched.cores, (t.core c).task = none ∧ (t.core c).saved = [] ∧ (t.core c).file = RegFile.zero))
    (s.life p ≠ 0 → (s.part p).sched.resetting = none → exec (.create r p) s = .next (s.regFault (0x02800110 + p * 0x1000) 0x51)) ∧
    (s.life p = 0 → s.createInvalid p cores slices = true → Completes (.create r p) s (fun t =>
      t.get Reg.PARTITION.STATE.last_status p = 0x16 ∧ t.life p = 0 ∧ t = { s with regs := t.regs })) ∧
    (s.life p = 0 → s.createInvalid p cores slices = false → (∃ c ∈ cores ++ slices, (s.sliceOwner c).isSome = true) →
      Completes (.create r p) s (fun t => t.get Reg.PARTITION.STATE.last_status p = 0x06 ∧ t.life p = 0 ∧
        t = { s with regs := t.regs })) ∧
    (∀ a b, s.life p = 0 → s.createInvalid p cores slices = false → (∀ c ∈ cores ++ slices, s.sliceOwner c = none) →
      s.placeAllot 1 (s.get Reg.PARTITION.ALLOT.t1_mib p) = some a → s.placeAllot 2 (s.get Reg.PARTITION.ALLOT.t2_mib p) = some b →
      Completes (.create r p) s (fun t => t.life p = 2 ∧ t.get Reg.PARTITION.STATE.last_status p = 0 ∧
        (t.part p).sched.cores = cores.take l ∧ (t.part p).sched.spares = cores.drop l ∧ (t.part p).sched.slices = slices ∧
        (∀ c, t.core c = if c ∈ cores then Core.idle else s.core c) ∧ (t.tenant (s.owner p)).key.isSome = true ∧
        (∀ n, n < 64 → t.sem p n = s.getB Reg.SCHED.SEM.init p n % 2 ^ 16) ∧
        (∀ x, x < a ∨ a + 64 ≤ x → Mem.read t.mem x = Mem.read s.mem x))) ∧
    (s.life p = 2 → begins (.destroy r p) 4 4 ∧ begins (.reset r p) 1 3 ∧
      Completes (.tenantReset r p) s (fun t => ∀ k ∈ s.parts, s.owner k.1 = s.owner p → s.life k.1 = 2 → t.life k.1 = 3) ∧
      Completes (.keyRoll r p) s (fun t => (∃ w : Word, (t.tenant (s.owner p)).key = some w ∧ w.toNat / 2 ^ 22 = s.owner p) ∧
        t.get Reg.PARTITION.STATE.last_status p = 0 ∧ t.cores = s.cores ∧ t.mem = s.mem)) ∧
    (∀ j, (s.part p).sched.resetting = some j → s.boot.warm = false →
      (j.scope = 1 → Completes (.partitionResetDone p) s (fun t => t.life p = 2 ∧ (t.part p).sched.resetting = none ∧
        (t.part p).setts = [] ∧ (t.part p).plan = [] ∧ t.get Reg.PARTITION.STATE.last_status p = 0 ∧
        (t.get Reg.PAGE.EVENT_STATUS.raised (0x0280 * 16 + p)).testBit 0 = true)) ∧
      (j.scope = 4 → Completes (.partitionResetDone p) s (fun t => t.life p = 0 ∧ t.part p = Part.zero)))

/-- O50. Port loops, memory self-tests, the test access port, owl verdicts, digests and the fault ring. LOOP_START of a listed
depth on a port that may loop takes the port DOWN, clears its counters and runs; LOOP_STOP returns it to service; LOOP_END
gives pass or fail with its cause; a far-end request is answered by allow_far; RETIMING_TIMEOUT and FAR_LOOP_NO_ANSWER end
theirs. The device tests run (T1's refused while a partition exists) and DEVICE_TEST_DONE ends them. The TAP takes each
instruction, three only under reset. OWL_VERDICT and OWL_LATE close a chain; DIGEST_RESULT counts a check; FAULT_RING_RESTART
starts at sequence 0. Where the spec leaves a point to be read, it follows the model's own reading (log entries 49 and 59).
(R480, R481, R482, R483, R484, R485, R487, R488, R400, R401, R403, R410). -/
def Obligations.LoopsTestsAndChecks : Prop :=
  ∀ (s : State) (r : Requester) (port lanes pre fail c p : Nat) (host : Bool) (v : DWord) (cnt : LoopCounts) (n : Word)
    (bad : List Nat), r = .deviceKey ∨ r = .firmware →
    let opt (f : Fld) (t : State) : Nat := t.get f port
    let depth (t : State) : Nat := if host then t.get Reg.HPORT.LOOP.depth port else t.get Reg.PORT.LOOP.depth port
    let state (t : State) : Nat := if host then t.get Reg.HPORT.LOOP.state port else t.get Reg.PORT.LOOP.state port
    let cause (t : State) : Nat := if host then t.get Reg.HPORT.LOOP.cause port else t.get Reg.PORT.LOOP.cause port
    let link (t : State) : Nat := if host then t.get Reg.HPORT.STATUS.state port else t.get Reg.PORT.STATUS.state port
    let off := if host then 0x01C00160 + port * 0x1000 else 0x01800130 + port * 0x1000
    let testing (t : State) : Nat := t.get Reg.DEVICE.TEST_STATUS.state 0
    let held : Prop := (∃ k ∈ s.parts, s.life k.1 ≠ 0) ∨ s.get Reg.TWIN_LINK.STATUS.state 0 = 1 ∨
      s.get Reg.TWIN_LINK.STATUS.state 0 = 2 ∨ s.deep = true
    (port < (if host then 4 else 38) → s.get Reg.PAGE.LOCK.lock (off / 0x1000) = 0 →
      (1 ≤ v.toNat % 8 → v.toNat % 8 ≤ (if host then 3 else 4) →
        (s.loopBusy host port none = true → exec (.loopStart r host port none v) s = .next (s.regFault off 0x51)) ∧
        (s.loopBusy host port none = false → Completes (.loopStart r host port none v) s (fun t => depth t = v.toNat % 8 ∧
          state t = 1 ∧ cause t = 0 ∧ link t = 0 ∧ t.mem = s.mem))) ∧
      (v.toNat % 8 = 0 → depth s ≠ 0 → Completes (.loopStop r host port v) s (fun t => depth t = 0 ∧ state t ≠ 1 ∧
        (host = true → link t = 2) ∧ (host = false → s.get Reg.PORT.CFG.enable port = 1 → link t = 1) ∧ t.mem = s.mem))) ∧
    (port < (if host then 4 else 38) → state s = 1 → Completes (.loopEnd host port cnt) s (fun t =>
      (state t = 2 ↔ cause t = 0) ∧ (state t = 2 ∨ state t = 3) ∧ (state t = 2 → cnt.dark = false ∧ loopErrors host (depth s) cnt = false) ∧
      t.cores = s.cores ∧ t.mem = s.mem)) ∧
    (port < 38 → lanes % 256 ≠ 0 → opt Reg.PORT.LOOP.retiming s = 0 → opt Reg.PORT.LOOP.depth s = 0 →
      (opt Reg.PORT.LOOP.allow_far s = 0 → exec (.farLoopRequest port lanes) s = .next (s.emit (.farLoopAnswer port false))) ∧
      (opt Reg.PORT.LOOP.allow_far s = 1 → Completes (.farLoopRequest port lanes) s (fun t => opt Reg.PORT.LOOP.retiming t = 1 ∧
        opt Reg.PORT.STATUS.state t = 0 ∧ Map.find t.bench.retiming port = some (lanes % 256) ∧
        t.out.getLast? = some (.farLoopAnswer port true)))) ∧
    (port < 38 → opt Reg.PORT.LOOP.retiming s = 1 → Completes (.retimingTimeout port) s (fun t =>
      opt Reg.PORT.LOOP.retiming t = 0 ∧ Map.find t.bench.retiming port = none ∧ t.cores = s.cores ∧ t.mem = s.mem)) ∧
    (port < 38 → opt Reg.PORT.LOOP.state s = 1 → opt Reg.PORT.LOOP.depth s = 4 → Completes (.farLoopNoAnswer port) s (fun t =>
      opt Reg.PORT.LOOP.state t = 3 ∧ opt Reg.PORT.LOOP.cause t = 3 ∧ t.cores = s.cores ∧ t.mem = s.mem)) ∧
    Completes (.t0SelfTest r) s (fun t => testing t = 1 ∧ t.get Reg.DEVICE.TEST_STATUS.last_cmd 0 = 1 ∧ t.cores = s.cores ∧
      ∀ a, (2 ^ 34 ≤ a ∨ 0xC00000 ≤ a % 2 ^ 24 ∨ s.sliceLive (a / 2 ^ 24) = true) → Mem.read t.mem a = Mem.read s.mem a) ∧
    (∀ x ∈ [(Instr.t1ControllerLoop r, 2), (.t1PhyLoop r, 3)], (held → exec x.1 s = .next (s.regFault 0x000001D8 0x51)) ∧
      (¬ held → Completes x.1 s (fun t => testing t = 1 ∧ t.get Reg.DEVICE.TEST_STATUS.last_cmd 0 = x.2 ∧
        t = { s with regs := t.regs }))) ∧
    (testing s = 1 → Completes (.deviceTestDone fail bad) s (fun t => (testing t = 2 ∨ testing t = 3) ∧
      (s.get Reg.DEVICE.TEST_STATUS.last_cmd 0 ≠ 1 → t.get Reg.DEVICE.TEST_STATUS.t1_fail 0 = fail % 2 ^ 32 ∧
        (testing t = 2 ↔ fail % 2 ^ 32 = 0)) ∧ t = { s with regs := t.regs })) ∧
    exec .bypass s = .next { s with tap := { s.tap with op := .bypass, captured := 0 } } ∧
    exec .idcode s = .next { s with tap := { s.tap with op := .idcode, captured := s.idCode } } ∧
    exec (.samplePreload pre) s =
      .next { s with free := s.free + 1, tap := ⟨.samplePreload, (Config.freeWord s.free).toNat, pre⟩ } ∧
    (s.pins.resetLow = true → exec .extest s =
        .next { s with free := s.free + 1, tap := { s.tap with op := .extest, captured := (Config.freeWord s.free).toNat } } ∧
      exec .clamp s = .next { s with tap := { s.tap with op := .clamp, captured := 0 } } ∧
      exec .highz s = .next { s with tap := { s.tap with op := .highz, captured := 0 } }) ∧
    (s.pins.resetLow = false → ∀ i ∈ [Instr.extest, .clamp, .highz],
      exec i s = .next { s with tap := { s.tap with op := .bypass, captured := 0 } }) ∧
    (∀ x : Verdict, c < 1024 → s.partOf c = some p → (s.core c).verdicts.find? (fun y => y.number == n) = some x →
      Completes (.owlVerdict c n true) s (fun t => (t.core c).verdicts = (s.core c).verdicts.erase x ∧
        t.get Reg.CHECK.OWL_SAMPLED.sampled p = (s.get Reg.CHECK.OWL_SAMPLED.sampled p + 1) % 2 ^ 64 ∧
        t.get Reg.CHECK.OWL_MISMATCH.mismatches p = s.get Reg.CHECK.OWL_MISMATCH.mismatches p ∧ t.mem = s.mem) ∧
      ∀ i ∈ [Instr.owlVerdict c n false, .owlLate c n], Completes i s (fun t =>
        (i = .owlLate c n → t.get Reg.CHECK.OWL_SAMPLED.sampled p = s.get Reg.CHECK.OWL_SAMPLED.sampled p) ∧
        t.get Reg.CHECK.OWL_MISMATCH.mismatches p = (s.get Reg.CHECK.OWL_MISMATCH.mismatches p + 1) % 2 ^ 64 ∧
        t.get Reg.CHECK.FAULT_SEQ.next_seq p = (s.get Reg.CHECK.FAULT_SEQ.next_seq p + 1) % 2 ^ 64 ∧
        (t.get Reg.PAGE.EVENT_STATUS.raised (0x05C0 * 16 + p)).testBit 0 = true)) ∧
    (∀ (d : DWord) (others : List DWord), p < 1024 → s.ownDigest p = some d → (s.red p).isOpen = true → s.digestStep p = true →
      (s.checks p).digest = none → Completes (.digestResult p others) s (fun t =>
        t.get Reg.CHECK.DIGEST_LAST.own p = d.toNat ∧
        t.get Reg.CHECK.DIGEST_CHECKS.checks p = (s.get Reg.CHECK.DIGEST_CHECKS.checks p + 1) % 2 ^ 64 ∧
        ((t.checks p).digest = some true → t.get Reg.CHECK.DIGEST_MAX.max p = t.get Reg.CHECK.DIGEST_MIN.min p ∧ t.mem = s.mem ∧
          t.get Reg.CHECK.DIGEST_MISMATCH.mismatches p = s.get Reg.CHECK.DIGEST_MISMATCH.mismatches p) ∧
        ((t.checks p).digest = some false → (t.get Reg.PAGE.EVENT_STATUS.raised (0x05C0 * 16 + p)).testBit 2 = true ∧
          t.get Reg.CHECK.DIGEST_MISMATCH.mismatches p = (s.get Reg.CHECK.DIGEST_MISMATCH.mismatches p + 1) % 2 ^ 64))) ∧
    (p < 1024 → s.life p = 2 → s.get Reg.PAGE.LOCK.lock (0x05C0 * 16 + p) = 0 →
      Completes (.faultRingRestart r p false v) s (fun t => t.get Reg.CHECK.FAULT_SEQ.next_seq p = 0 ∧
        t.get Reg.CHECK.FAULT_RING.ring_addr p = v.toNat ∧ t = { s with regs := t.regs }) ∧
      Completes (.faultRingRestart r p true v) s (fun t => t.get Reg.CHECK.FAULT_SEQ.next_seq p = 0 ∧
        t.get Reg.CHECK.FAULT_CFG.fault_log2 p = v.toNat % 2 ^ 5 ∧ t = { s with regs := t.regs }))

/-- O51. Collectives, group and combine tables, HARE_GO, experience operations, acknowledgements, sub-credits. COLL_GO whose
descriptor passes records the sequence and takes the pooled packets, else fails it; a due LAUNCH does the same. Early
COLL_DATA waits in the pool. A chunk done says so in the progress word; a whole output counts and lands the flag; a deadline
fails the collective. GROUP_TABLE_LOAD loads each readable entry. HARE_GO of a MSG completes at once, of a spread combine
enters the value. COMBINE_LOAD and COMBINE_REMOVE change exactly the listed groups. EXP_GO remembers its requests; a generator
answers EXP_READ and EXP_CREDIT; responses and ACKs end requests; a timeout ends the operation with TIER_LATE; sub-credits add
up. Where the spec leaves a point to be read, it follows the model's own reading (log entries 46 and 52). (R305, R314, R318,
R320, R321, R322, R323, R324, R326, R327, R328). -/
def Obligations.CollectivesAndHare : Prop :=
  ∀ (s : State) (r : Requester) (p core : Nat) (guidon val : Word) (cfg : DWord) (k : Packet) (m n id : Nat) (x : CollGroup)
    (c : Coll) (o : ExpOp) (q : ExpReq) (bs : Nat → List Byte), p < 1024 → core < 1024 →
    let g := guidonGroup guidon.toNat
    let flag (u : State) (a f : Nat) : FlagState := (u.core a).sync.flags.toList.getD f .idle
    let fab (f : Fld) : Bool := s.reach r (regOff f p)
    let own (f : Fld) : Prop := s.partOf core = some p ∧ s.reach (.coreCode core) (regOff f p) = true
    let b := field val.toNat 19 0
    let fl := field val.toNat 25 20
    let at_ (off len : Nat) : Nat := s.readN (nearAddr core (b + off)) len
    (s.coll p guidon.toNat = some c → s.collGroup p g = some x → c.state = 0 → s.physical p (cdCore c.desc) = some n →
      cdProgress c.desc + 8 ≤ 2 ^ 20 →
      ((outChunks x c.desc).all c.chunkDone = false → exec (.collectiveChunkDone p guidon) s =
        .next (s.writeN (nearAddr n (cdProgress c.desc)) 8 (c.leading x))) ∧
      (flag s n (cdFlag c.desc) = .armed → (outChunks x c.desc).all c.chunkDone = true →
        Completes (.collectiveChunkDone p guidon) s (fun t => flag t n (cdFlag c.desc) = .landed ∧
          t.mem = (s.writeN (nearAddr n (cdProgress c.desc)) 8 (2 ^ 56 + c.leading x)).mem ∧
          t.get Reg.FAB.COLL_DONE.done p = (s.get Reg.FAB.COLL_DONE.done p + 1) % 2 ^ 64)) ∧
      (x.deadline = 0 → exec (.collectiveDeadline p guidon) s = .next s) ∧
      (x.deadline ≠ 0 → Completes (.collectiveDeadline p guidon) s (fun t => t.coll p guidon.toNat = none ∧
        t.get Reg.FAB.COLL_FAILED.failed p = (s.get Reg.FAB.COLL_FAILED.failed p + 1) % 2 ^ 64 ∧
        (t.get Reg.PAGE.EVENT_STATUS.raised (0x0540 * 16 + p)).testBit 0 = true))) ∧
    (∀ d a, fab Reg.FAB.COLL_GO.reg = true → s.collGroup p g = some x → s.collDesc p guidon.toNat x = some d →
      s.resolve (.part p) (cdSrc d) (cdBytes d) = .ok a →
      (s.startInvalid p guidon.toNat x d = true → exec (.collGo r p guidon) s = .next (s.collEvent p guidon.toNat 1)) ∧
      (s.startInvalid p guidon.toNat x d = false → Completes (.collGo r p guidon) s (fun t =>
        (Map.find (t.bulk p).groups g).map (fun y => y.last) = some (some (guidonSeq guidon.toNat)) ∧
        ∀ y ∈ (t.bulk p).pool, y.tag ≠ guidon.toNat))) ∧
    (∀ e, s.dueAction p 5 = some e → Completes (.launch p) s (fun t =>
      t = (s.dropEntry p e).collStart p (peArg e.bytes) ∧ ∀ y ∈ (t.part p).plan, y.order ≠ e.order)) ∧
    (s.fabLive p = true → k.tenant = s.owner p → s.collGroup p (guidonGroup k.tag) = some x →
      x.others.find? (fun i => x.devices[i]? == some k.src) = some m → s.coll p k.tag = none →
      startedSeq x (guidonSeq k.tag) = false → s.pooled p (guidonGroup k.tag) < x.early →
      Completes (.collDataReceive p k) s (fun t => (t.bulk p).pool = (s.bulk p).pool ++ [k] ∧ t.mem = s.mem ∧
        t.get Reg.FAB.EARLY_PACKETS.early p = (s.get Reg.FAB.EARLY_PACKETS.early p + 1) % 2 ^ 64)) ∧
    (fab Reg.FAB.GROUP_CFG.reg = true → isCoreCode r = false → s.get Reg.PAGE.LOCK.lock (0x0540 * 16 + p) = 0 →
      (s.bulk p).colls = [] → Completes (.groupTableLoad r p cfg) s (fun t => t.mem = s.mem ∧
        t.get Reg.FAB.GROUP_CFG.groups p = cfg.toNat % 2 ^ 13 ∧
        ∀ i a, i < min 4096 (cfg.toNat % 2 ^ 13) →
          s.resolve (.part p) (s.get Reg.FAB.GROUP_TABLE.group_addr p + 32 * i) 32 = .ok a →
          (Map.find (t.bulk p).groups i).map (fun y => y.entry) = some (s.readBytes a 32))) ∧
    (own Reg.FAB.HARE_GO.reg → b + 96 ≤ 2 ^ 20 → flag s core fl = .idle →
      let v := s.readBytes (nearAddr core (b + 16)) 64
      (at_ 0 4 % 256 = 0x0A → Completes (.hareGo core val) s (fun t => flag t core fl = .landed ∧
        t.get Reg.FAB.HARE_OPS.hare_ops p = (s.get Reg.FAB.HARE_OPS.hare_ops p + 1) % 2 ^ 64 ∧
        t.mem = ((s.writeBytes (nearAddr core (b + 16)) v).writeN (nearAddr core (b + 80)) 8 s.now).mem)) ∧
      (at_ 0 4 % 256 ≠ 0x0A → s.combineOf (field (at_ 0 4) 31 16) = none →
        exec (.hareGo core val) s = .next (s.regFault (regOff Reg.FAB.HARE_GO.reg p) 0x23)) ∧
      (∀ ring rings, s.combineOf (field (at_ 0 4) 31 16) = some ⟨p, .spread (ring :: rings)⟩ → 2 ≤ ring.len →
        1 ≤ at_ 0 4 % 256 → at_ 0 4 % 256 ≤ 7 → s.hareOp (field (at_ 0 4) 31 16) (at_ 4 4) (at_ 0 4 % 256) = none →
        Completes (.hareGo core val) s (fun t => flag t core fl = .armed ∧ t.mem = s.mem ∧
          (t.hareOp (field (at_ 0 4) 31 16) (at_ 4 4) (at_ 0 4 % 256)).bind (fun y => y.own) = some (.code core fl b, v)))) ∧
    (fab Reg.FAB.COMBINE_CMD.cmd = true → isCoreCode r = false → 1 ≤ n → n ≤ 1024 → (∀ i, i < n → s.combineBytes p i = some (bs i)) →
      ((∀ i, i < n → (combineEntry p (bs i)).isSome = true ∧ ∀ e, s.combineOf (ceGroup (bs i)) = some e → e.pid = p) →
        s.fab.groups.length + n ≤ 1024 → Completes (.combineLoad r p n) s (fun t =>
          t.get Reg.FAB.COMBINE_STATUS.last_status p = 0 ∧ t.mem = s.mem ∧ t.fab.ops = s.fab.ops ∧
          (∀ i, i < n → (t.combineOf (ceGroup (bs i))).isSome = true) ∧
          ∀ j, (∀ i, i < n → j ≠ ceGroup (bs i)) → t.combineOf j = s.combineOf j)) ∧
      ((∀ i, i < n → (∃ e, s.combineOf (ceGroup (bs i)) = some e ∧ e.pid = p) ∧ ∀ y ∈ s.fab.ops, y.group ≠ ceGroup (bs i)) →
        Completes (.combineRemove r p n) s (fun t => t.get Reg.FAB.COMBINE_STATUS.last_status p = 0 ∧ t.mem = s.mem ∧
          ∀ j, t.combineOf j = if (∃ i, i < n ∧ j = ceGroup (bs i)) then none else s.combineOf j))) ∧
    (∀ src, own Reg.FAB.EXP_GO.reg → b + 32 ≤ 2 ^ 20 → flag s core fl = .idle → s.expSource p (at_ 0 4 % 64) = some src →
      let sent (i : Instr) (read : Bool) (reqs : Nat) : Prop := Completes i s (fun t => flag t core fl = .armed ∧ t.mem = s.mem ∧
        ∃ y, Map.find (t.bulk p).exps (s.bulk p).nextExp = some y ∧ y.core = core ∧ y.flag = fl ∧ y.read = read ∧
          y.reqs.length = reqs ∧ (∀ z ∈ y.reqs, z.device = src.2.2 ∧ z.ring = src.2.1))
      (∀ a, at_ 0 4 / 2 ^ 30 = 1 → at_ 4 4 % 16 = 0 → 16 ≤ at_ 4 4 → at_ 4 4 ≤ 65536 →
        (spaceOf (at_ 16 8) = 0 ∨ spaceOf (at_ 16 8) = 1 ∨ spaceOf (at_ 16 8) = 3) →
        s.resolve (.part p) (at_ 16 8) (at_ 4 4) = .ok a → sent (.expGoRead core val) true (ceilDiv (at_ 4 4) 2048)) ∧
      (at_ 0 4 / 2 ^ 30 = 2 → sent (.expGoCredit core val) false 1)) ∧
    (∀ out, k.tag < 1024 → s.live k.tag = true → s.expRingBytes k.tag ≠ 0 → k.tenant = s.owner k.tag → k.src ≠ s.deviceId →
      s.route k.src = some out →
      (let len := field k.arg 51 40
       let off := field k.arg 35 0
       len % 16 = 0 → 16 ≤ len → len ≤ 2048 → off % 16 = 0 → off + len ≤ s.expRingBytes k.tag →
        Completes (.expReadServe k) s (fun t => t.mem = s.mem ∧ ∃ y, t.out = s.out ++ [.packet (some out) y] ∧ y.dst = k.src ∧
          y.cls = 2 ∧ y.arg = k.arg ∧ pktPayload y = s.readBytes (s.get Reg.PARTITION.T1_BASE.t1_base k.tag + off) len)) ∧
      ((pktPayload k).length = 8 → (s.gen k.tag).hold ≠ some .ring → Completes (.expCreditReceive k) s (fun t =>
        let i := field k.arg 1 0
        let w := min (leNat (pktPayload k)) (s.producer k.tag)
        t.mem = (if w < s.consumer k.tag i then s.mem else (s.writeN (s.expBase k.tag + (0x18 + 8 * i)) 8 w).mem) ∧
        ∃ y, t.out.getLast? = some (.packet (some out) y) ∧ y.dst = k.src ∧ y.vc = 0 ∧ y.cls = 1))) ∧
    (k.tenant = s.owner p → k.cls = 2 →
      s.expAsked p (fun y z => y.read && (z.device == k.src && z.ring == k.tag) && k.arg == z.len * 2 ^ 40 + z.off % 2 ^ 36 &&
        (pktPayload k).length == z.len) = some (id, o, q) →
      Completes (.expResponse p k) s (fun t =>
        t.get Reg.FAB.EXP_BYTES.exp_bytes p = (s.get Reg.FAB.EXP_BYTES.exp_bytes p + q.len) % 2 ^ 64 ∧
        (o.reqs.erase q = [] → Map.find (t.bulk p).exps id = none) ∧
        (o.reqs.erase q ≠ [] → t.mem = (s.writeBytes q.dst (pktPayload k)).mem ∧
          (Map.find (t.bulk p).exps id).map (fun y => y.reqs) = some (o.reqs.erase q)))) ∧
    (Map.find (s.bulk p).exps id = some o → flag s o.core o.flag = .armed → Completes (.expOpTimeout p id) s (fun t =>
      Map.find (t.bulk p).exps id = none ∧ flag t o.core o.flag = .landed ∧
      t.mem = (s.writeN (nearAddr o.core (o.block + 24)) 4 (firstCode (o.codes ++ [0x0A]))).mem)) ∧
    (k.tenant = s.owner p → k.cls = 1 →
      s.expAsked p (fun y z => !y.read && (z.device == k.src && z.ring == k.tag) && z.seq == field k.arg 31 0) = some (id, o, q) →
      Completes (.ackReceive p k) s (fun t => (o.reqs.erase q = [] → Map.find (t.bulk p).exps id = none) ∧
        (o.reqs.erase q ≠ [] → t.mem = s.mem ∧ (Map.find (t.bulk p).exps id).map (fun y => y.reqs) = some (o.reqs.erase q)))) ∧
    (k.tenant ≠ s.owner p → exec (.subcreditReceive p k) s = .next (s.pageFault (page 0x0540 p) codeViolation 0 0)) ∧
    (k.tenant = s.owner p → field k.arg 49 48 = 0 → s.collGroup p (field k.tag 15 0) = some x → (s.bulk p).colls = [] →
      Completes (.subcreditReceive p k) s (fun t => t.mem = s.mem ∧ t.cores = s.cores ∧
        let key := memberKey (field k.tag 15 0) (field k.arg 47 32)
        Map.getD (t.bulk p).credits key 0 = Map.getD (s.bulk p).credits key 0 + field k.arg 15 0))

/-- O52. Starting, pre-empting, saving, resuming and suspending tasks; retiring a core; semaphore initial values; the plan.
TASK_START of the queue next in order moves its head by one and starts the descriptor on the core found, its registers as at
task start, or drops it. PREEMPT_REQUEST marks the victim. A cheap point or, after the grace, a full save frees the core; a
withdrawal counts and raises its event; CONTEXT_RESUME brings back the last saved context. SUSPEND asks every queue's task;
once none runs the image is written. RESTORE takes an image or records why not. A semaphore's initial value sets its count.
CORE_RETIRE marks the core. PLAN appends an entry that passes; ROLE_LEARN begins the learn phase. Where the spec leaves a
point to be read, it follows the model's own reading (log entries 40 and 42). (R29, R31, R349, R351, R354, R357, R358, R359,
R363, R365, R367, R368). -/
def Obligations.DispatcherAndPlan : Prop :=
  ∀ (s : State) (r : Requester) (p q core c j : Nat) (d entry : List Byte) (header : Word) (v cmd : DWord) (tk : TaskRec)
    (x : Preempt), p < 1024 → core < 1024 → q < 16 →
    let ctx := s.reach r (0x02C00148 + p * 0x1000)
    let st := s.schedState p
    let up (t : State) (f : Fld) : Prop := t.get f p = (s.get f p + 1) % 2 ^ 64
    let alone (t : State) (k : Core) : Prop := t.core core = k ∧ ∀ a, a ≠ core → t.core a = s.core a
    let started (t : State) (queue : Option Nat) : Prop :=
      let off := (s.get Reg.SCHED.SAVE.desc_off p + 64 * (s.core c).saved.length) % 2 ^ 20
      (t.core c).task = some ⟨d, queue, (s.part p).sched.starts, false⟩ ∧ (t.core c).spec.pc = BitVec.ofNat 20 (dEntry d / 2 * 2) ∧
      (t.core c).file = { RegFile.zero with s := (RegFile.zero.s.set 2 (BitVec.ofNat 32 (dStack d))).set 30 (BitVec.ofNat 32 off) } ∧
      (∀ a, a ≠ c → t.core a = s.core a) ∧ t.mem = (s.writeBytes (nearAddr c off) d).mem
    (s.dispatching p = false → exec (.taskStart p q) s = .next s) ∧
    (s.dispatching p = true → s.nextStepHead p = none → s.nextQueue p = some q → s.queueHead p q = some d →
      (s.headCheck p d = .good → s.startCoreOf p d (s.queuePrio p (some q)) = some c → Completes (.taskStart p q) s (fun t =>
        started t (some q) ∧ t.getB Reg.SCHED.QUEUE_HEAD.head p q = (s.getB Reg.SCHED.QUEUE_HEAD.head p q + 1) % 2 ^ 64)) ∧
      (∀ code, s.headCheck p d = .drop code → Completes (.taskStart p q) s (fun t => t.cores = s.cores ∧ t.mem = s.mem ∧
        t.getB Reg.SCHED.QUEUE_HEAD.head p q = (s.getB Reg.SCHED.QUEUE_HEAD.head p q + 1) % 2 ^ 64))) ∧
    (s.dispatching p = true → s.nextStepHead p = some d → s.headCheck p d = .good → s.startCoreOf p d 0 = some c →
      Completes (.taskStart p 16) s (fun t => started t none)) ∧
    (s.dispatching p = true → s.getBit Reg.PARTITION.CFG.px8 p = false → s.getB Reg.SCHED.QUEUE_CFG.preempts p q ≠ 0 →
      s.queueHead p q = some d → s.headCheck p d = .good → s.mayComplete p d = true →
      s.startCoreOf p d (s.queuePrio p (some q)) = none →
      (∀ a ∈ (s.part p).sched.cores, ∀ y, (s.core a).preempt = some y → y.queue ≠ some q) →
      s.victim p (((s.part p).sched.cores.filter (fun a => s.preemptable p a (s.queuePrio p (some q)))).filter
        (fun a => dAny d || s.physical p (dCore d) == some a)) = some core →
      exec (.preemptRequest p q) s = .next (s.onCore core (fun k => { k with preempt := some ⟨some q, false⟩ }))) ∧
    (s.partOf core = some p → (s.core core).preempt = some x → (s.core core).task = some tk →
      freeSlot (s.core core) (s.saveDepth p) = some j →
      let saved (t : State) : Prop := (t.core core).task = none ∧ (t.core core).sync = SyncUnit.zero ∧
        (t.core core).saved.map (fun y => y.slot) = j :: (s.core core).saved.map (fun y => y.slot)
      (x.graceOver = false → (s.core core).cheapHere header = true → (s.core core).sync.sems = [] →
        Completes (.cheapPointSave core header) s (fun t => saved t ∧ up t Reg.SCHED.PREEMPTS.preempts)) ∧
      (x.graceOver = true → (s.core core).sync.sems = [] ∨ x.queue = none →
        Completes (.fullSave core) s (fun t => saved t ∧ up t Reg.SCHED.FULL_SAVES.full))) ∧
    Completes (.preemptGraceExpiry core) s (fun t => t.mem = s.mem ∧ t.regs = s.regs ∧ alone t { s.core core with
      preempt := (s.core core).preempt.map (fun y => { y with graceOver := !(s.core core).spec.px8 }) }) ∧
    (s.partOf core = some p → (s.core core).preempt = some ⟨some q, true⟩ → (s.core core).sync.sems ≠ [] →
      Completes (.preemptWithdraw core) s (fun t => alone t { s.core core with preempt := none } ∧ up t Reg.SCHED.REFUSED.refused ∧
        (t.get Reg.PAGE.EVENT_STATUS.raised (0x02C0 * 16 + p)).testBit 1 = true ∧ t.mem = s.mem)) ∧
    (∀ w rest, s.partOf core = some p → (s.core core).saved = w :: rest → (s.core core).task = none → s.dispatching p = true →
      (s.part p).sched.stepHeads = [] →
      (∀ a, a < 16 → s.queuePrio p (some a) < s.queuePrio p w.task.queue → s.queueHead p a = none) →
      Completes (.contextResume core) s (fun t => (t.core core).saved = rest ∧
        (t.core core).task.map (fun y => y.desc) = some w.task.desc ∧ (∀ a, a ≠ core → t.core a = s.core a) ∧
        t.mem = (s.writeN (t0Addr core (s.slotOff p w.slot)) 8 (s.readN (t0Addr core (s.slotOff p w.slot)) 8 % 2 ^ 63)).mem)) ∧
    (ctx = true →
      (st ≠ 0 → exec (.suspend r p) s = .next (s.regFault (0x02C00148 + p * 0x1000) 0x51)) ∧
      (st = 0 → Completes (.suspend r p) s (fun t => t.schedState p = 1 ∧ t.mem = s.mem ∧
        (s.getBit Reg.PARTITION.CFG.px8 p = true → t.cores = s.cores) ∧
        (s.getBit Reg.PARTITION.CFG.px8 p = false → ∀ a ∈ (s.part p).sched.cores, ∀ y, (s.core a).task = some y → y.queue ≠ none →
          (t.core a).preempt.map (fun z => z.queue) = some none))) ∧
      (st = 1 ∨ st = 3 → exec (.restore r p) s = .next (s.regFault (0x02C00148 + p * 0x1000) 0x51)) ∧
      (st = 2 → s.restoreStatus p ≠ 0 → exec (.restore r p) s = .next (s.set Reg.SCHED.STATE.last_status p (s.restoreStatus p))) ∧
      (st = 2 → s.restoreStatus p = 0 → Completes (.restore r p) s (fun t => t.schedState p = 0 ∧
        t.get Reg.SCHED.STATE.last_status p = 0))) ∧
    (st = 1 → s.anyTask p = false → s.stepsInFlight p = false → (s.part p).sched.retiring = [] →
      Completes (.suspendImageDone p) s (fun t => t.schedState p = 2 ∧ t.get Reg.SCHED.STATE.last_status p = 0 ∧
        t.mem = (s.writeImage p).mem ∧ t.cores = s.cores ∧ t.parts = s.parts)) ∧
    (s.partOf core = some p → (s.core core).task = some tk → (s.core core).spec.px8 = true → st = 1 → (s.core core).preempt = none →
      Completes (.preemptSlow core) s (fun t => alone t { s.core core with preempt := some ⟨none, false⟩ } ∧ t.mem = s.mem ∧
        (t.get Reg.PAGE.EVENT_STATUS.raised (0x02C0 * 16 + p)).testBit 2 = true)) ∧
    (s.reach r (0x02C00130 + p * 0x1000) = true → let n := s.get Reg.SCHED.SEM_SEL.sem p
      (s.semHeld p n = true → exec (.semInitWrite r p v) s = .next (s.regFault (0x02C00130 + p * 0x1000) 0x51)) ∧
      (s.semHeld p n = false → Completes (.semInitWrite r p v) s (fun t => t = { s with regs := t.regs } ∧
        t.getB Reg.SCHED.SEM.init p n = v.toNat / 2 ^ 16 % 2 ^ 16 ∧ t.getB Reg.SCHED.SEM.count p n = v.toNat / 2 ^ 16 % 2 ^ 16))) ∧
    (s.retired core = true → exec (.coreRetire core) s = .next s) ∧
    (s.retired core = false → (∀ k ∈ s.parts, core ∉ k.2.sched.spares) →
      (s.partOf core = none → Completes (.coreRetire core) s (fun t => t.retired core = true ∧ t = { s with regs := t.regs })) ∧
      (s.partOf core = some p → st = 0 → Completes (.coreRetire core) s (fun t => t.retired core = true ∧ t.schedState p = 1 ∧
        (t.part p).sched.retiring = (s.part p).sched.retiring ++ [core] ∧ t.mem = s.mem))) ∧
    (s.live p = true → s.boot.stopped = false → s.cqRoom (s.owner p) = true →
      let b := (entry ++ leBytes 32 0).take 32
      Completes (.plan p cmd entry) s (fun t => t.mem = s.mem ∧ t.cores = s.cores ∧
        (t.part p).plan.map (fun y => y.bytes) = (s.part p).plan.map (fun y => y.bytes) ++ (if s.planStatus p b = 0 then [b] else []))) ∧
    (∀ e, s.dueAction p 2 = some e → (s.part p).sched.learnPhase = false → s.stepsInFlight p = false →
      Completes (.roleLearn p) s (fun t => (t.part p).sched.learnPhase = true ∧ t.mem = s.mem ∧
        (∀ y ∈ (t.part p).plan, y.order ≠ e.order) ∧ ∀ y ∈ (t.gen p).reqs, y.state ≠ .running ∨ y.status ≠ none))

/-- O53. Links, lanes, bridges and routes; packets that arrive at a port; hare parts and results. A CRC error asks for the
unit again, or after eight repeats loses it. Control words free replay space, return credit, resend. Failed lanes halve a port
or take it down; training brings it up; LINK_RESET takes it down and trains it. A bridge channel that fails past its replays
is disabled, and with its partner gone the device stops. COMMIT_ROUTES installs the shadow table or discards it;
ROUTE_DATA_WRITE fills two shadow entries. A packet at an up port is acknowledged, then lost if bad, forwarded, or kept for
the management core. A hare part waits for the local value; a result ends its operation. Where the spec leaves a point to be
read, it follows the model's own reading (log entry 46). (R55, R306, R307, R308, R309, R310, R316, R318, R329). -/
def Obligations.LinksRoutesAndPackets : Prop :=
  ∀ (s : State) (r : Requester) (port bridge ch replays lanes u vc sub n : Nat) (v : DWord) (k : Packet), port < 38 →
    let l := s.link port
    let P (f : Fld) (t : State) : Nat := t.get f port
    let up (t : State) (f : Fld) : Prop := t.get f port = (s.get f port + 1) % 2 ^ 64
    let ev (t : State) (i : Nat) : Prop := (t.get Reg.PAGE.EVENT_STATUS.raised (0x0180 * 16 + port)).testBit i = true
    let same (t : State) : Prop := t.mem = s.mem ∧ t.cores = s.cores ∧ t.parts = s.parts
    let at_ (t : State) (st lu : Nat) : Prop := P Reg.PORT.STATUS.state t = st ∧ P Reg.PORT.STATUS.lanes_up t = lu
    (s.portUp port = false → ∀ i ∈ [Instr.linkCrcError port, .laneFailure port lanes, .packetReceive port k], exec i s = .next s) ∧
    (s.portUp port = true →
      (l.fails < 8 → Completes (.linkCrcError port) s (fun t => same t ∧ up t Reg.PORT.CRC_ERRORS.crc_errors ∧
        up t Reg.PORT.REPLAYS.replays ∧ t.link port = { l with fails := l.fails + 1 } ∧ t.out = s.out ++ [.control port (.replay l.rx)])) ∧
      (8 ≤ l.fails → Completes (.linkCrcError port) s (fun t => same t ∧ up t Reg.PORT.CRC_ERRORS.crc_errors ∧
        up t Reg.PORT.LOST.lost ∧ t.link port = { l with fails := 0, rx := (l.rx + 1) % 2 ^ 16 } ∧ ev t 3)) ∧
      (let f := l.failed ||| lanes % 256
       (f % 256 ≠ 0 → f % 16 = 0 → Completes (.laneFailure port lanes) s (fun t => same t ∧ at_ t 3 0x0F ∧ ev t 0)) ∧
       (f % 16 ≠ 0 → f / 16 % 16 = 0 → Completes (.laneFailure port lanes) s (fun t => same t ∧ at_ t 3 0xF0 ∧ ev t 0)) ∧
       (f % 16 ≠ 0 → f / 16 % 16 ≠ 0 → Completes (.laneFailure port lanes) s (fun t => same t ∧ at_ t 0 0 ∧ ev t 1 ∧
         up t Reg.PORT.DOWN_EVENTS.downs ∧ (t.link port).replay = []))) ∧
      (packetBad port k = true → Completes (.packetReceive port k) s (fun t => same t ∧ up t Reg.PORT.LOST.lost ∧
        t.out = s.out ++ [.control port (.ack ((l.rx + pktUnits k) % 2 ^ 16))])) ∧
      (∀ out, packetBad port k = false → k.dst ≠ s.deviceId → (k.vc ≠ 1 ∨ 2 ≤ k.cls) → s.route k.dst = some out →
        Completes (.packetReceive port k) s (fun t => same t ∧ t.out = s.out ++ [.control port (.ack ((l.rx + pktUnits k) % 2 ^ 16)),
          .packet (some out) { k with subch := s.subchOut k.subch (some port) out }])) ∧
      (packetBad port k = false → k.dst = s.deviceId → k.vc = 7 → Completes (.packetReceive port k) s (fun t => same t ∧
        t.fab.inbox = s.fab.inbox ++ [k] ∧ (t.link port).rx = (l.rx + pktUnits k) % 2 ^ 16))) ∧
    (s.portState port ≤ 1 → (s.deep = false ∨ 36 ≤ port) → s.getBit Reg.PORT.CFG.enable port = true →
      s.get Reg.PORT.LOOP.depth port = 0 → s.getBit Reg.PORT.LOOP.retiming port = false →
      (lanes % 256 = 255 → Completes (.portTrainRetry port lanes) s (fun t => same t ∧ at_ t 2 255 ∧ ev t 2)) ∧
      (lanes % 256 ≠ 255 → lanes % 16 = 15 → Completes (.portTrainRetry port lanes) s (fun t => same t ∧ at_ t 3 0x0F ∧ ev t 2)) ∧
      (lanes % 16 ≠ 15 → lanes / 16 % 16 = 15 → Completes (.portTrainRetry port lanes) s (fun t => same t ∧ at_ t 3 0xF0 ∧ ev t 2)) ∧
      (lanes % 16 ≠ 15 → lanes / 16 % 16 ≠ 15 → exec (.portTrainRetry port lanes) s = .next s)) ∧
    (s.portState port ≠ 0 → Completes (.linkReset port) s (fun t => same t ∧ ev t 1 ∧ up t Reg.PORT.DOWN_EVENTS.downs ∧
      (t.link port).replay = [] ∧ P Reg.PORT.STATUS.state t = (if s.getBit Reg.PORT.CFG.enable port = true ∧
        s.get Reg.PORT.LOOP.depth port = 0 ∧ s.getBit Reg.PORT.LOOP.retiming port = false then 1 else 0))) ∧
    Completes (.linkControlWord port (.ack u)) s (fun t => same t ∧ t.regs = s.regs ∧ t.out = s.out ∧
      t.link port = { l with replay := l.replay.filter (fun x => !(seqBefore x (u % 2 ^ 16))) }) ∧
    Completes (.linkControlWord port (.credit vc sub n)) s (fun t => same t ∧ t.regs = s.regs ∧ t.out = s.out ∧
      Map.getD (t.link port).credits (vc % 8 * 2 + sub % 2) 0 = Map.getD l.credits (vc % 8 * 2 + sub % 2) 0 + n) ∧
    exec (.linkControlWord port (.replay u)) s = .next (if u % 2 ^ 16 ∈ l.replay then s.emit (.resend port (u % 2 ^ 16)) else s) ∧
    (let m := s.get Reg.DEVICE.BRIDGE_MASK.channels 0
     let i := 8 * (bridge % 8) + ch % 8
     let j := 8 * (bridge % 8) + (ch % 8).xor 1
     (replays < 16 ∨ m.testBit i = false → exec (.bridgeFlitError bridge ch replays) s = .next s) ∧
     (16 ≤ replays → m.testBit i = true → Completes (.bridgeFlitError bridge ch replays) s (fun t => same t ∧
       (∀ b, (t.get Reg.DEVICE.BRIDGE_MASK.channels 0).testBit b = (m.testBit b && b != i)) ∧
       (t.get Reg.PAGE.EVENT_STATUS.raised 0).testBit 1 = true ∧
       t.boot.stopped = (s.boot.stopped || !(m.testBit j)) ∧
       (m.testBit j = false → (t.get Reg.PAGE.EVENT_STATUS.raised 0).testBit 0 = true)))) ∧
    (s.reach r 0x1D0 = true →
      ((∀ e ∈ s.fab.shadow, routeEntryOk (e.1 == s.deviceId) e.2 = true) → Completes (.commitRoutes r) s (fun t => same t ∧
        t.fab.routes = s.fab.shadow ∧ t.meas 4 = shake256 (s.meas 4 ++ shake256 (routeBytes s.fab.shadow) 64) 64)) ∧
      ((∃ e ∈ s.fab.shadow, routeEntryOk (e.1 == s.deviceId) e.2 = false) → exec (.commitRoutes r) s =
        .next ((s.onFab (fun f => { f with shadow := f.routes })).regFault 0x1D0 0x16))) ∧
    (s.reach r 0x1F0 = true → let i := s.get Reg.DEVICE.ROUTE_SEL.entry 0
      Completes (.routeDataWrite r v) s (fun t => same t ∧ t.fab.routes = s.fab.routes ∧
        Map.find t.fab.shadow i = some (v.toNat % 2 ^ 32) ∧ Map.find t.fab.shadow ((i + 1) % 2 ^ 16) = some (v.toNat / 2 ^ 32) ∧
        (∀ a, a ≠ i → a ≠ (i + 1) % 2 ^ 16 → Map.find t.fab.shadow a = Map.find s.fab.shadow a) ∧
        t.get Reg.DEVICE.ROUTE_SEL.entry 0 = (i + 2) % 2 ^ 16)) ∧
    (s.fab.held = [] → s.fab.formed = [] → ∀ (e : Combine) (x : HareOp) (c fl b : Nat) (w : List Byte),
      let g := field k.arg 63 48
      let op := field k.arg 47 40
      let parts (t : State) : List HarePart := ((t.hareOp g k.tag op).map (fun y => y.parts)).getD []
      (s.combineOf g = none → exec (.harePartReceive port k) s = .next (s.portLost port)) ∧
      (s.combineOf g = some e → k.tenant = s.owner e.pid → (pktPayload k).length = 64 → opFits op e.mode = true →
        ((s.hareOp g k.tag op).bind (fun y => y.own)) = none → (s.hareOp g k.tag op = none → s.hareFull g e.pid = false) →
        Completes (.harePartReceive port k) s (fun t => same t ∧
          parts t = parts s ++ [⟨port, field k.arg 39 32, field k.arg 31 24, pktPayload k⟩])) ∧
      (s.fab.ops.find? (fun y => y.tag == k.tag && s.takesResult k.tenant y.group y.pid) = some x →
        (x.own = none → Completes (.hareResult k) s (fun t => same t ∧
          t.hareOp x.group x.tag x.op = some { x with early := some (pktPayload k, k.arg) })) ∧
        (x.own = some (.code c fl b, w) → (s.core c).sync.flags.toList.getD fl .idle = .armed →
          Completes (.hareResult k) s (fun t => (t.core c).sync.flags.toList.getD fl .idle = .landed ∧
            t.mem = ((s.writeBytes (nearAddr c (b + 16)) (pktPayload k)).writeN (nearAddr c (b + 80)) 8 k.arg).mem ∧
            t.get Reg.FAB.HARE_OPS.hare_ops x.pid = (s.get Reg.FAB.HARE_OPS.hare_ops x.pid + 1) % 2 ^ 64))))

/-- O54. Host ports: frames, ARP, neighbours, echo, LLDP, PFC, PTP; queue pairs and the host rings. A port that is not up does
nothing. A frame that is not taken is counted in RX_DROPS; one that fills its priority's buffer past XOFF pauses it. Requests
for the port's own address are answered, others dropped. A PFC frame pauses or resumes the enabled priorities. A Sync in PTP
mode sets the offset. CM_REQ of a key that names a tenant with quota makes a queue pair, of no current key is rejected; RTU
connects it, DREQ removes it. RNR_NAK retries seven times, then the pair is in error, as after QP_ERROR, which loses the
completion ring it carries. A CNP halves the rate. A ring restart sets index 0; lost events are reported once there is room.
Where the spec leaves a point to be read, it follows the model's own reading (log entry 56). (R371, R373, R374, R375, R376,
R377, R382, R388, R389, R390, R392, R394). -/
def Obligations.HostPortsAndFrames : Prop :=
  ∀ (s : State) (r : Requester) (h q tn target sender enable : Nat) (f : HostFrame) (v6 : Bool) (data chassis : List Byte)
    (pause : List Nat) (sync : Bool) (at_ ptp priv v : DWord) (k : Qp), h < 4 → q < 4096 → tn < 1024 →
    let prio := f.priority % 8
    let room := s.freeQp
    let key : Word := BitVec.ofNat 32 (priv.toNat / 2 ^ 32)
    let p := priv.toNat / 2 ^ 22 % 2 ^ 10
    let bound := priv.toNat.testBit 21
    let drop : State := s.bump Reg.HPORT.RX_DROPS.drops h 1
    (s.hportUp h = false → ∀ i ∈ [Instr.hostFrameReceive h f, .arpRequest h target sender, .neighbourSolicitation h target sender,
      .echoRequest h v6 target sender data, .lldpReceive h chassis, .lldpTransmit h, .pfcFrame h enable pause,
      .ptpMessage h sync at_ ptp, .cmReq h priv], exec i s = .next s) ∧
    (s.hportUp h = true →
      (frameTaken f = false → exec (.hostFrameReceive h f) s = .next drop) ∧
      (frameTaken f = true → (s.get Reg.HPORT.PFC.enabled h).testBit prio = true → 8 * h + prio ∉ s.host.xoff →
        (s.xoffBytes h < f.backlog → Completes (.hostFrameReceive h f) s (fun t => t.out = s.out ++ [.pfc h prio true] ∧
          t.host.xoff = s.host.xoff ++ [8 * h + prio] ∧ t.regs = s.regs ∧ t.mem = s.mem)) ∧
        (f.backlog ≤ s.xoffBytes h → exec (.hostFrameReceive h f) s = .next s)) ∧
      (s.ownV4 h target = true → exec (.arpRequest h target sender) s = .next (s.emit (.neighbourReply h target sender (s.mac h)))) ∧
      (s.ownV4 h target = false → exec (.arpRequest h target sender) s = .next drop) ∧
      (s.ownV6 h target = true →
        exec (.neighbourSolicitation h target sender) s = .next (s.emit (.neighbourReply h target sender (s.mac h)))) ∧
      (s.ownV6 h target = false → exec (.neighbourSolicitation h target sender) s = .next drop) ∧
      (exec (.echoRequest h v6 target sender data) s = .next (if (if v6 then s.ownV6 h target else s.ownV4 h target) = true
        then s.emit (.echoReply h v6 target sender data) else drop)) ∧
      Completes (.lldpReceive h chassis) s (fun t => t.get Reg.HPORT.LLDP_PEER.chassis h = leNat (chassis.take 8) ∧
        t = { s with regs := t.regs }) ∧
      exec (.lldpTransmit h) s = .next (s.emit (.lldp h s.fuses.serial s.deviceId ((s.twin.peer.map Prod.fst).getD 0))) ∧
      Completes (.pfcFrame h enable pause) s (fun t => t.regs = s.regs ∧ t.mem = s.mem ∧ t.out = s.out ∧ ∀ n, n < 8 →
        Map.find t.host.paused (8 * h + n) =
          if enable.testBit n = true ∧ (s.get Reg.HPORT.PFC.enabled h).testBit n = true
          then (if pause.getD n 0 % 65536 = 0 then none else some (pause.getD n 0 % 65536)) else Map.find s.host.paused (8 * h + n)) ∧
      (sync = true → s.getBit Reg.HPORT.PTP.mode h = true → Completes (.ptpMessage h sync at_ ptp) s (fun t =>
        t.get Reg.HPORT.PTP_OFFSET.offset h = (at_ - ptp).toNat ∧ t = { s with regs := t.regs })) ∧
      (sync = false ∨ s.getBit Reg.HPORT.PTP.mode h = false → exec (.ptpMessage h sync at_ ptp) s = .next s) ∧
      (room = some q → priv ≠ 0 → s.isDeviceKey key = false → s.keyTenant key = some tn → s.life p ≠ 0 → s.owner p = tn →
        s.qpsOf tn < s.get Reg.HOST.QPS.qp_quota tn → Completes (.cmReq h priv) s (fun t =>
          t.qp q = some ⟨h, some tn, false, p, bound, .connecting, 400000, none, none, 0⟩ ∧
          t.out = s.out ++ [.cmRep h q] ∧ t.regs = s.regs ∧ ∀ a, a ≠ q → t.qp a = s.qp a)) ∧
      (room = some q → priv = 0 → s.responderOpen = true → (∀ x ∈ s.host.qps, x.2.boot = false) → Completes (.cmReq h priv) s (fun t =>
        t.qp q = some ⟨h, none, true, 0, false, .connecting, 400000, none, none, 0⟩ ∧ t.out = s.out ++ [.cmRep h q])) ∧
      (priv ≠ 0 → s.isDeviceKey key = false → s.keyTenant key = none → exec (.cmReq h priv) s = .next (s.emit (.cmRej h)))) ∧
    (s.qp q = none → ∀ i ∈ [Instr.cmRtu q, .cmDreq q, .rnrNak q, .qpError q, .cnpReceive q, .rateRecovery q], exec i s = .next s) ∧
    (s.qp q = some k →
      (k.state = .connecting → exec (.cmRtu q) s = .next (s.setQp q { k with state := .connected })) ∧
      Completes (.cmDreq q) s (fun t => t.qp q = none ∧ t.out = s.out ++ [.cmDrep q] ∧ t.regs = s.regs ∧
        ∀ a, a ≠ q → t.qp a = s.qp a) ∧
      (k.state = .connected → k.rnr < 7 → exec (.rnrNak q) s = .next ((s.setQp q { k with rnr := k.rnr + 1 }).emit (.rnrRetry q))) ∧
      (k.state = .connected → 7 ≤ k.rnr → Completes (.rnrNak q) s (fun t => (t.qp q).map (fun y => y.state) = some .error)) ∧
      (k.state ≠ .error → Completes (.qpError q) s (fun t => (t.qp q).map (fun y => y.state) = some .error ∧
        (k.tenant = some tn → s.get Reg.HOST.CQ_CFG.cq_log2 tn ≠ 0 → s.get Reg.HOST.CQ_CFG.cq_qp tn = q →
          s.get Reg.HOST.STATUS.cq_lost tn = 0 → t.get Reg.HOST.STATUS.cq_lost tn = 1 ∧
            (t.get Reg.PAGE.EVENT_STATUS.raised (0x0200 * 16 + tn)).testBit 1 = true))) ∧
      ((∀ c, k.cutAt = some c → c + usTicks 50 ≤ s.timer) →
        exec (.cnpReceive q) s = .next (s.setQp q { k with rate := k.rate / 2, cutAt := some s.timer })) ∧
      (∀ c, k.cutAt = some c → s.timer < c + usTicks 50 → exec (.cnpReceive q) s = .next s) ∧
      exec (.rateRecovery q) s = .next (s.setQp q { k with
        rate := min 400000 (k.rate + s.get Reg.HPORT.ECN.rate_step_mbps k.port) })) ∧
    (s.reach r (0x02000110 + tn * 0x1000) = true → Completes (.cqRingRestart r tn v) s (fun t => (t.tenant tn).cqIndex = 0 ∧
      t.get Reg.HOST.STATUS.cq_lost tn = 0 ∧ t.get Reg.HOST.CQ_CFG.cq_log2 tn = ringLog (v.toNat % 32) ∧
      t.get Reg.HOST.CQ_CFG.cq_qp tn = v.toNat / 2 ^ 20 % 2 ^ 12 ∧ t.mem = s.mem ∧ ∀ a, a ≠ tn → t.tenant a = s.tenant a)) ∧
    (s.reach r (0x02000128 + tn * 0x1000) = true → (s.tenant tn).eqUnreported = 0 → Completes (.eqRingRestart r tn v) s (fun t =>
      (t.tenant tn).eqIndex = 0 ∧ t.get Reg.HOST.STATUS.eq_lost tn = 0 ∧ t.mem = s.mem ∧
      t.get Reg.HOST.EQ_CFG.eq_log2 tn = ringLog (v.toNat % 32) ∧ ∀ a, a ≠ tn → t.tenant a = s.tenant a)) ∧
    ((s.tenant tn).eqUnreported = 0 → exec (.eventsLost tn) s = .next s) ∧
    ((s.tenant tn).eqUnreported ≠ 0 → s.get Reg.HOST.EQ_CFG.eq_log2 tn ≠ 0 → s.getBit Reg.HOST.STATUS.eq_lost tn = false →
      s.eqRoom tn = true → Completes (.eventsLost tn) s (fun t => (t.tenant tn).eqUnreported = 0 ∧ t.mem = s.mem ∧
        (t.get Reg.PAGE.EVENT_STATUS.raised (0x0200 * 16 + tn)).testBit 2 = true))

/-- O55. RDMA writes, reads and sends of a host program, and of the boot responder. On a queue pair that is not connected, or
of a port that is not up, a request is dropped. A write whose key and address pass puts its bytes and is acknowledged (in
space 1 the command rings it touches are then read); one that fails a check is counted, answered with a NAK, and puts the pair
in error. A boot pair may write staging. A read returns the bytes, of memory or of a window page. A SEND of whole entries goes
into the bound partition's SEND-fed ring, unless it has no room: RNR. A marked packet is first answered with a CNP, at most
one in the gap. Where the spec leaves a point to be read, it follows the model's own reading (log entry 57). (R375, R378,
R380, R381, R384, R385, R431). -/
def Obligations.RdmaRequests : Prop :=
  ∀ (s : State) (q n b : Nat) (addr : DWord) (rkey : Word) (data : List Byte) (ce : Bool) (k : Qp) (w : Who), q < 4096 →
    let a := addr.toNat
    let sp := spaceOf a
    let p := k.part
    let e := data.length / 128
    (s.qp q = none → ∀ i ∈ [Instr.rdmaWrite q addr rkey data ce, .rdmaRead q addr rkey n ce, .commandRingSend q data ce],
      exec i s = .next s) ∧
    (s.qp q = some k →
      (k.state ≠ .connected ∨ s.hportUp k.port = false → ∀ i ∈ [Instr.rdmaWrite q addr rkey data ce, .rdmaRead q addr rkey n ce,
        .commandRingSend q data ce], exec i s = .next s) ∧
      (k.state = .connected → s.hportUp k.port = true →
        (let marked := (s.setQp q { k with cnpAt := some s.timer }).emit (.cnp q)
         (∀ c, k.cnpAt = some c → c + usTicks (s.get Reg.HPORT.ECN.cnp_gap_us k.port) ≤ s.timer) →
           exec (.rdmaWrite q addr rkey data true) s = exec (.rdmaWrite q addr rkey data false) marked ∧
           exec (.rdmaRead q addr rkey n true) s = exec (.rdmaRead q addr rkey n false) marked ∧
           exec (.commandRingSend q data true) s = exec (.commandRingSend q data false) marked) ∧
        (k.boot = true → 2 ^ 52 + 0x7FFC000000 ≤ a → a + data.length ≤ 2 ^ 52 + 0x8000000000 → s.stagingOpen = true →
          exec (.rdmaWrite q addr rkey data false) s = .next ((s.writeBytes a data).emit (.rdmaAck q))) ∧
        (k.boot = false → data.length ≤ 2 ^ 31 → s.keyWho k rkey = none →
          exec (.rdmaWrite q addr rkey data false) s = .next (s.failedCheck q rkey)) ∧
        (k.boot = false → data.length ≤ 2 ^ 31 → s.keyWho k rkey = some w →
          (s.deep = false → sp ≠ 4 → sp ≠ 5 →
            (∀ c, s.resolve w a data.length = .error c →
              exec (.rdmaWrite q addr rkey data false) s = .next (s.failedCheck q rkey)) ∧
            (s.resolve w a data.length = .ok b →
              (sp ≠ 1 → exec (.rdmaWrite q addr rkey data false) s = .next ((s.writeBytes b data).emit (.rdmaAck q))) ∧
              (sp = 1 → exec (.rdmaWrite q addr rkey data false) s =
                .next (((s.writeBytes b data).emit (.rdmaAck q)).stampsLand b data.length)))) ∧
          (sp = 4 → wellPlaced a = true → data.length = 8 → a % 8 = 0 → a % 0x1000 ≠ 0 → s.windowCheck w.requester (a % 2 ^ 32) = none →
            a ≠ 0x0040000000000000 + Reg.BOOT.GO.reg.reg → exec (.rdmaWrite q addr rkey data false) s =
              .next ((s.emit (.rdmaAck q)).windowWrite w.requester (some k.port) (a % 2 ^ 32) true (leNat data)))) ∧
        (k.boot = false → n ≤ 2 ^ 31 → s.keyWho k rkey = some w →
          (s.deep = false → sp ≠ 4 → s.resolve w a n = .ok b → s.poisoned b n = false →
            exec (.rdmaRead q addr rkey n false) s = .next (s.emit (.readResponse q (s.readBytes b n)))) ∧
          (sp = 4 → wellPlaced a = true → winReadOk a n = true → s.windowCheck w.requester (a % 2 ^ 32) = none →
            exec (.rdmaRead q addr rkey n false) s = .next (s.emit (.readResponse q (s.winBytes a n))))) ∧
        (k.boot = false → s.deep = false → k.bound = true → s.live p = true → s.cmdEnabled p = true → s.cmdSendFed p = true →
          data.length = 128 * e → 1 ≤ e → e ≤ 16 → s.cmdRingOk p = true →
          (k.tenant = none ∨ k.tenant = some (s.owner p)) →
          (s.cmdProducer p - s.cmdHead p + e ≤ 2 ^ s.cmdLog p → Completes (.commandRingSend q data false) s (fun t =>
            t.cmdProducer p = s.cmdProducer p + e ∧ t = (s.emit (.rdmaAck q)).sendLands p data)) ∧
          (2 ^ s.cmdLog p < s.cmdProducer p - s.cmdHead p + e →
            exec (.commandRingSend q data false) s = .next (s.emit (.nak q .rnr))))))

/-- O56. Loading and unloading a buffer, publication records, the relay, readiness, drained buffers, the commit,
ROLE_GENERATE. LOAD_BEGIN makes an EMPTY buffer FILLING; LOAD_END with the right digest makes it STAGED (on a learner ACTIVE
where none is), else it is emptied with its event; UNLOAD empties a slot. A record of a higher version begins a fill or waits;
one that is not higher only raises its event. A relay packet from the granted holder lands, the digest packet stages the
buffer, a restart or a stall begins again. A readiness result is kept for the pennant. A drained buffer becomes EMPTY. A
commit that all pass makes the staged version ACTIVE; one that fails records its cause. ROLE_GENERATE ends the learn phase.
Where the spec leaves a point to be read, it follows the model's own reading (log entry 51). (R26, R31, R32, R33, R35, R36,
R38, R334, R335, R337, R339, R340). -/
def Obligations.PublishingAndCommit : Prop :=
  ∀ (s : State) (r : Requester) (p slot n b w q shard : Nat) (pen : Word) (formed : DWord) (ready others : Bool) (rec : List Byte)
    (k : Packet) (f : Fill) (x : ReadyRec) (e : PlanEntry) (d : DWord), p < 1024 →
    let load : Nat := 0x05800148 + p * 0x1000
    let m := s.slotSel p
    let u := slotOf k.pennant
    let v := slotOf (prPennant rec)
    let rq := prPennant rec
    let ev (t : State) (i : Nat) : Prop := (t.get Reg.PAGE.EVENT_STATUS.raised (0x0580 * 16 + p)).testBit i = true
    let buf (t : State) (n b st pennant : Nat) : Prop := t.bufState p n b = st ∧ t.bufPennant p n b = pennant
    let same (t : State) : Prop := t.mem = s.mem ∧ t.cores = s.cores
    (s.reach r load = true →
      (s.bufIn p m 0 = none → exec (.loadBegin r p pen) s = .next (s.regFault load 0x50)) ∧
      (s.bufIn p m 0 = some b → slotOf pen.toNat = m → versionOf pen.toNat ≠ 0 → versionOf (s.bufPennant p m 0) < versionOf pen.toNat →
        versionOf (s.bufPennant p m 1) < versionOf pen.toNat → s.regionHolds p m b = true →
        Completes (.loadBegin r p pen) s (fun t => same t ∧ buf t m b 1 pen.toNat ∧
          buf t m (1 - b) (s.bufState p m (1 - b)) (s.bufPennant p m (1 - b)) ∧
          (t.wslot p m).fill = some ⟨b, false, 0, 0, 0, 0⟩)) ∧
      ((s.wslot p m).fill = none → exec (.loadEnd r p pen) s = .next (s.regFault load 0x50)) ∧
      ((s.wslot p m).fill = some f → f.relay = false → s.regionHolds p m f.buf = true →
        ((s.shardDigest p m f.buf).toNat = s.get Reg.PUB.LOAD_DIGEST.digest p →
          Completes (.loadEnd r p pen) s (fun t => same t ∧ (t.wslot p m).fill = none ∧
            buf t m f.buf (if s.role p = 1 ∧ s.bufIn p m 3 = none then 3 else 2) (s.bufPennant p m f.buf) ∧
            (s.role p ≠ 1 → Map.has (t.wslot p m).ready (s.bufPennant p m f.buf) = true))) ∧
        ((s.shardDigest p m f.buf).toNat ≠ s.get Reg.PUB.LOAD_DIGEST.digest p → (s.wslot p m).pending = none → s.role p = 0 →
          Completes (.loadEnd r p pen) s (fun t => same t ∧ (t.wslot p m).fill = none ∧ buf t m f.buf 0 0 ∧ ev t 3))) ∧
      (s.slotInUse p m = true → exec (.unload r p pen) s = .next (s.regFault load 0x4F)) ∧
      (s.slotInUse p m = false → (s.wslot p m).pending = none → Completes (.unload r p pen) s (fun t => same t ∧ buf t m 0 0 0 ∧
        buf t m 1 0 0 ∧ (t.wslot p m).fill = none ∧ (t.wslot p m).swaps = [] ∧ (t.wslot p m).failedTop = 0))) ∧
    (s.pubLive p = true → rec.length = 64 → s.shardLen p v ≠ 0 → prGroup rec = s.getB Reg.PUB.SLOT_CFG.publish_group p v → s.role p = 0 →
      (versionOf rq ≤ s.topVersion p v → exec (.publicationRecord p rec) s = .next (s.raise 0x0580 p 4 (rq * 2 ^ 32))) ∧
      (s.topVersion p v < versionOf rq →
        (s.bufIn p v 0 = some b → Completes (.publicationRecord p rec) s (fun t => same t ∧ buf t v b 1 rq ∧
          (t.wslot p v).named = rq ∧ (t.wslot p v).fill = some ⟨b, true, 0, 0, 0, 0⟩)) ∧
        (s.bufIn p v 0 = none → Completes (.publicationRecord p rec) s (fun t => same t ∧ (t.wslot p v).pending = some rec ∧
          t.getB Reg.PUB.PENDING.pending p v = rq)))) ∧
    (s.pubLive p = true →
      (k.tenant ≠ s.owner p → ∀ i ∈ [Instr.relayChunkPacket p k, .relayDigestPacket p k, .relayRestartPacket p k],
        exec i s = .next (s.pageFault (page 0x0580 p) codeViolation 0 0)) ∧
      (k.tenant = s.owner p → (s.wslot p u).fill = some f → f.relay = true → (s.holder p u f).map Prod.snd = some k.src →
        k.pennant = s.bufPennant p u f.buf → k.tag = s.getB Reg.PUB.SLOT_CFG.shard p u →
        (let len := min 262144 (s.shardLen p u - 262144 * f.chunk)
         let got := f.got + (pktPayload k).length
         field k.arg 31 0 = f.chunk → f.chunk < s.shardChunks p u → f.chunk < 0xFFFFFFFE → got ≤ len → (k.last = true → got = len) →
          s.regionHolds p u f.buf = true → Completes (.relayChunkPacket p k) s (fun t =>
            t.mem = (s.writeBytes (s.bufBase p u f.buf + 262144 * f.chunk + f.got) (pktPayload k)).mem ∧
            (t.wslot p u).fill.map (fun y => (y.chunk, y.got)) = some (if got = len then (f.chunk + 1, 0) else (f.chunk, got)) ∧
            t.get Reg.PUB.CHUNKS_IN.chunks_in p = (s.get Reg.PUB.CHUNKS_IN.chunks_in p + (if got = len then 1 else 0)) % 2 ^ 64)) ∧
        (field k.arg 31 0 = 0xFFFFFFFF → s.shardChunks p u ≤ f.chunk →
          s.shardDigest p u f.buf = BitVec.ofNat 64 (leNat ((pktPayload k).take 8)) → Completes (.relayDigestPacket p k) s (fun t =>
            same t ∧ buf t u f.buf 2 k.pennant ∧ (t.wslot p u).fill = none ∧ Map.has (t.wslot p u).ready k.pennant = true)) ∧
        (field k.arg 31 0 = 0xFFFFFFFE → Completes (.relayRestartPacket p k) s (fun t => same t ∧ (t.wslot p u).digest = none ∧
          (t.wslot p u).fill = some { f with chunk := 0, got := 0 })))) ∧
    ((s.wslot p (slot % 256)).fill = some f → f.relay = true → f.fails < 2 → Completes (.relayStall p slot) s (fun t => same t ∧ ev t 6 ∧
      t.get Reg.PUB.REFETCHES.refetches p = (s.get Reg.PUB.REFETCHES.refetches p + 1) % 2 ^ 64 ∧
      ((t.wslot p (slot % 256)).fill.map (fun y => (y.chunk, y.got, y.fails))) = some (0, 0, f.fails + 1))) ∧
    (((s.wslot p (slot % 256)).ready.filter (fun y => y.2.own && y.2.formed.isNone)).getLast? = some (q, x) →
      Completes (.readinessResult p slot ready formed) s (fun t => t = { s with parts := t.parts } ∧
        Map.find (t.wslot p (slot % 256)).ready q = some { x with formed := some (formed.toNat, ready) })) ∧
    (s.bufIn p (slot % 256) 4 = some b →
      (s.bufRead p (slot % 256) b = true → exec (.bufferDrained p slot) s = .next s) ∧
      (s.bufRead p (slot % 256) b = false → (s.wslot p (slot % 256)).pending = none → s.role p = 0 →
        Completes (.bufferDrained p slot) s (fun t => same t ∧ buf t (slot % 256) b 0 0))) ∧
    (s.getB Reg.PUB.SLOT_CFG.leader p (n % 256) = 1 → Completes (.hareMsgReceive (.digest p n shard d)) s (fun t =>
      t = { s with parts := t.parts } ∧ Map.find (Map.getD (t.part p).pub.digests (n % 256) []) (shard % 256) = some d)) ∧
    Completes (.hareMsgReceive (.other k)) s (fun t => t = { s with fab := t.fab } ∧ t.fab.inbox = s.fab.inbox ++ [k]) ∧
    (s.dueAction p 1 = some e → s.learning p = true →
      ((s.red p).isOpen = true → exec (.roleGenerate p) s = .next s) ∧
      ((s.red p).isOpen = false → Completes (.roleGenerate p) s (fun t => same t ∧ (t.part p).sched.learnPhase = false ∧
        (∀ y ∈ (t.gen p).reqs, y.learnPaused = false) ∧ ∀ y ∈ (t.part p).plan, y.order ≠ e.order))) ∧
    (s.passBit p = none → exec (.learnerCommit p others) s = .next s) ∧
    (s.passBit p = some true → s.committing p = some (n, w, q) → s.bufState p n w = 2 → s.bufPennant p n w = q → slotOf q = n →
      Completes (.learnerCommit p true) s (fun t => .commitEntered p (s.red p).step true ∈ t.out ∧ buf t n w 3 q ∧
        t.bufState p n (1 - w) = 4)) ∧
    (∀ c, s.passBit p = some false → s.ownFailure p = some c → Completes (.learnerCommit p others) s (fun t =>
      .commitEntered p (s.red p).step false ∈ t.out ∧ t.get Reg.CHECK.STEP_FAIL.cause p = c % 2 ^ 8 ∧
      (t.get Reg.PAGE.EVENT_STATUS.raised (0x05C0 * 16 + p)).testBit 3 = true))

/-- O57. A learner step: its open, closes, exponents, staging, half-runs, checks, failures, norm, the update and its gather.
RED.OPEN names the step and the open takes it. A close is kept with its flag armed; the last one enters the device exponent;
the agreed one is the greatest, and lands the closers' flags. A staged core is kept; a half-run adds its words and is counted
when its adder acknowledges; a whole unchecked bucket is complete. A deadline or an agreement timeout fails the bucket with
its cause. The norm is formed once. The update holds while the write buffer is busy, fails on a norm that is not finite, else
runs or records a cause. A gathered part lands, a whole buffer is STAGED, a gather timeout fails the update. Where the spec
leaves a point to be read, it follows the model's own reading (log entries 47 and 48). (R273, R274, R275, R277, R279, R280,
R281, R282, R284, R285, R298, R300). -/
def Obligations.ReductionAndUpdate : Prop :=
  ∀ (s : State) (p core n h : Nat) (val : Word) (k : Packet) (others : Int) (sum : DWord) (lanes : List DWord) (d : BucketDef)
    (e : Int), p < 1024 → core < 1024 →
    let own (f : Fld) : Prop := s.partOf core = some p ∧ s.reach (.coreCode core) (regOff f p) = true
    let l := s.logical p core
    let b := val.toNat / 2 ^ 16
    let fl := val.toNat / 2 ^ 10 % 2 ^ 6
    let flag (t : State) (c f : Nat) : FlagState := (t.core c).sync.flags.toList.getD f .idle
    let kb := s.bucket p b
    let cl : Close := ⟨l, fl, if val.toNat.testBit 9 then none else some (sext 9 (val.toNat % 2 ^ 9))⟩
    let failed (t : State) (b cause : Nat) : Prop := (t.bucket p b).state = .failed ∧ t.get Reg.RED.FAIL.cause p = cause ∧
      t.get Reg.RED.FAILED.failures p = (s.get Reg.RED.FAILED.failures p + 1) % 2 ^ 64 ∧
      (t.get Reg.PAGE.EVENT_STATUS.raised (0x04C0 * 16 + p)).testBit 0 = true
    (own Reg.RED.OPEN.reg → Completes (.redOpen core val) s (fun t => t = { s with parts := t.parts } ∧
      t.red p = { s.red p with want := some b })) ∧
    (∀ w, (s.red p).want = some w → s.live p = true → s.learning p = true →
      ((s.red p).isOpen = true ∨ (s.red p).noisy = true → exec (.stepOpenDone p) s = .next s) ∧
      ((s.red p).isOpen = false → (s.red p).noisy = false → Completes (.stepOpenDone p) s (fun t =>
        t.red p = ⟨fullStep (s.red p).step w, true, none, false, [], none⟩ ∧ t.get Reg.RED.STATUS.open_ p = 1 ∧
        t.get Reg.RED.STATUS.step p = fullStep (s.red p).step w % 65536 ∧ (t.upd p).ran = false))) ∧
    (own Reg.RED.CLOSE.reg →
      (s.bucketDef p b = none → exec (.redClose core val) s = .next (s.regFault (regOff Reg.RED.CLOSE.reg p) 0x4C)) ∧
      (s.bucketDef p b = some d → (s.red p).isOpen = true → b < s.bucketCount p → l ∈ holders (s.runsOf p d) →
        (∀ x ∈ kb.closes, x.lcore ≠ l) → flag s core fl = .idle → s.mapValid p d = true →
        Completes (.redClose core val) s (fun t => flag t core fl = .armed ∧ t.mem = s.mem ∧ (t.bucket p b).closes = kb.closes ++ [cl] ∧
          (kb.closes.length + 1 < d.parts → (t.bucket p b).entered = kb.entered) ∧
          (d.parts ≤ kb.closes.length + 1 → kb.state = .running → (t.bucket p b).entered = some (deviceExp (kb.closes ++ [cl])))))) ∧
    ((s.bucket p n).entered = some e → (s.red p).isOpen = true → (s.bucket p n).shared = none → (s.bucket p n).state = .running →
      Completes (.exponentAgreed p n others) s (fun t => (t.bucket p n).shared = some (max e others) ∧
        (t.bucket p n).state = (if expSpecial (max e others) = true then .complete else .running) ∧
        ∀ c ∈ (s.bucket p n).closes, ∀ a, s.physical p c.lcore = some a → flag s a c.flag = .armed → flag t a c.flag = .landed)) ∧
    (own Reg.RED.STAGED.reg → s.bucketDef p b = some d → kb.shared = some e → (s.red p).isOpen = true → expSpecial e = false →
      kb.state ≠ .failed → l ∉ kb.staged → (∃ c ∈ kb.closes, c.lcore = l) →
      (∀ x ∈ s.runsOf p d, x.lcore = l → ∀ a, s.stagePhys p x = some a → s.poisoned a 4096 = false) →
      Completes (.redStaged core val) s (fun t => (t.bucket p b).staged = kb.staged ++ [l] ∧ (t.bucket p b).state = kb.state)) ∧
    (own Reg.RED.NOTIFY.reg →
      ((s.red p).isOpen = false ∨ s.bucketCount p ≤ b →
        exec (.redNotify core val) s = .next (s.regFault (regOff Reg.RED.NOTIFY.reg p) 0x4C)) ∧
      ((s.red p).isOpen = true → b < s.bucketCount p → flag s core fl = .idle →
        (kb.state = .running → Completes (.redNotify core val) s (fun t => flag t core fl = .armed ∧ t.mem = s.mem ∧
          (t.bucket p b).notifies = kb.notifies ++ [(l, fl)])) ∧
        (kb.state ≠ .running → s.physical p l = some core → Completes (.redNotify core val) s (fun t => flag t core fl = .landed ∧
          t.bucket p b = kb)))) ∧
    (s.reach .firmware (regOff Reg.RED.STATUS.reg p) = true → k.tenant = s.owner p → let kn := k.tag % 65536
      (∀ run a, s.bucketDef p kn = some d → (s.red p).isOpen = true → k.tag / 65536 = s.step16 p → (s.bucket p kn).state = .running →
        s.owns p d (field k.arg 47 32) = true → (pktPayload k).length = 2048 → s.runOf p d (field k.arg 47 32) = some run →
        s.resultPhys p d run = some a → Completes (.raccArrival p k) s (fun t =>
          t.mem = ((upTo 256).foldl (fun u i => u.addWord (a + 2048 * (k.arg % 2) + 8 * i)
            (leNat (((pktPayload k).drop (8 * i)).take 8))) s).mem ∧
          (t.bucket p kn).unacked = (s.bucket p kn).unacked ++ [2 * run.k + k.arg % 2] ∧
          t.get Reg.RED.RECEIVED.received p = (s.get Reg.RED.RECEIVED.received p + 2048) % 2 ^ 64)) ∧
      ((s.red p).isOpen = false → Completes (.raccArrival p k) s (fun t => t.mem = s.mem ∧
        t.get Reg.RED.LATE_DROPS.late_drops p = (s.get Reg.RED.LATE_DROPS.late_drops p + 1) % 2 ^ 64))) ∧
    (h ∈ (s.bucket p n).unacked → (s.red p).isOpen = true → Completes (.raccAcknowledged p n h) s (fun t =>
      (t.bucket p n).counted = (s.bucket p n).counted + 1 ∧ (t.bucket p n).unacked = (s.bucket p n).unacked.erase h ∧
      (s.bucketDef p n = some d → (s.bucket p n).state = .running → s.checked p n = false → 2 * d.runs ≤ (s.bucket p n).counted + 1 →
        (t.bucket p n).state = .complete))) ∧
    ((s.bucket p n).summed = true → (s.bucket p n).agreed = none → (s.bucket p n).state = .running →
      Completes (.checksumResult p n sum) s (fun t =>
        (t.bucket p n).agreed = some (Map.getD (s.bucket p n).sums (s.memberIdx p) 0 + sum))) ∧
    ((s.red p).isOpen = true → (s.bucket p n).state = .running →
      (s.bucketDef p n = some d → (s.bucket p n).shared = some e → expSpecial e = false →
        (if (s.bucket p n).counted < 2 * d.runs then Completes (.bucketDeadline p n) s (fun t => failed t n 1)
         else if (∃ c ∈ (s.bucket p n).closes, c.lcore ∉ (s.bucket p n).staged)
          then Completes (.bucketDeadline p n) s (fun t => failed t n 6) else exec (.bucketDeadline p n) s = .next s)) ∧
      ((s.bucket p n).entered.isSome = true → (s.bucket p n).shared = none →
        Completes (.agreeTimeout p n) s (fun t => failed t n 3))) ∧
    ((s.red p).noisy = true → Completes (.quiescenceDone p) s (fun t => t.red p = { s.red p with noisy := false } ∧
      t.get Reg.RED.STATUS.quiescing p = 0 ∧ t.mem = s.mem ∧ t.cores = s.cores)) ∧
    (s.redPasses p = true → (s.red p).norm = none →
      let q := normOf (List.zipWith (fun a b => (a + b) % 2 ^ 64) (normLanes (s.normPartial p))
        ((upTo 8).map (fun i => (lanes.getD i 0).toNat)))
      Completes (.normResult p lanes) s (fun t => (t.red p).norm = some q ∧ t.get Reg.UPD.NORM.sq_norm p = q.toNat ∧ t.mem = s.mem)) ∧
    (∀ q m b, (s.red p).norm = some q → s.readBuf p = some (m, b) → s.redPasses p = true → (s.upd p).cause = none → (s.upd p).ran = false →
      let busy : Prop := s.bufState p m (1 - b) ≠ 0 ∧ (s.bufState p m (1 - b) ≠ 1 ∨ (s.upd p).landed = [])
      let kappa := clipFactor q (BitVec.ofNat 32 (s.latched p Reg.UPD.CLIP.clip_norm))
      (busy → (s.upd p).heldFrom = none → Completes (.updateStart p) s (fun t => (t.upd p).heldFrom = some s.timer ∧
        t.get Reg.UPD.STATUS.state p = 1 ∧ t.mem = s.mem)) ∧
      (¬ busy → kappa = none → Completes (.updateStart p) s (fun t => (t.upd p).cause = some 1 ∧ t.get Reg.UPD.STATUS.state p = 5)) ∧
      (∀ x, ¬ busy → kappa = some x → Completes (.updateStart p) s (fun t => t.get Reg.UPD.NORM.kappa p = x.toNat ∧
        ((t.upd p).ran = true ∨ (t.upd p).cause ≠ none)))) ∧
    (∀ m b a, s.reach .firmware (regOff Reg.UPD.STATUS.reg p) = true → k.tenant = s.owner p → s.readBuf p = some (m, b) →
      (s.red p).isOpen = true → k.tag / 65536 = s.step16 p → (s.bufState p m (1 - b) = 0 ∨ s.bufState p m (1 - b) = 1) →
      (pktPayload k).length = 32 * pieceBytes (s.wFmt p) + 16 → s.updPlace p (s.wBase p (1 - b)) (field k.arg 39 0) 4224 = some a →
      Completes (.weightGather p k) s (fun t => t.bufState p m (1 - b) = 1 ∧
        t.mem = ((s.fillWrite p).putPart (s.wFmt p) a (field k.arg 42 40) (pktPayload k)).mem ∧
        (field k.arg 39 0, field k.arg 42 40) ∈ (t.upd p).landed)) ∧
    (∀ m b, s.readBuf p = some (m, b) → (s.upd p).ran = true → (s.upd p).cause = none → (s.upd p).complete = false →
      s.gathered p = true → s.bufState p m (1 - b) = 1 → Completes (.updateStaged p) s (fun t => t.bufState p m (1 - b) = 2 ∧
        (t.upd p).complete = true ∧ t.get Reg.UPD.STATUS.state p = 4 ∧ t.mem = s.mem)) ∧
    ((s.upd p).ran = false ∨ s.gathered p = true → exec (.gatherTimeout p) s = .next s) ∧
    ((s.upd p).ran = true → s.gathered p = false → (s.upd p).cause = none → Completes (.gatherTimeout p) s (fun t =>
      (t.upd p).cause = some 6 ∧ t.get Reg.UPD.FAIL.cause p = 6 ∧ t.get Reg.UPD.STATUS.state p = 5))

/-- O58. Request commands, and the decode step: launch, holds, launch message, slot commits, abort, rings, swaps. A REQUEST
whose block passes is queued, else counted as refused; a CANCEL or a lost stream gives CANCELLED; a prefix handle is made over
the frames of a prefix and released; a NOP completes. SWAP of a STAGED pennant holds its swap time. A launch that was waiting
for ring space goes out with the next step number; a fill hold's expiry counts; spill reads end a hold. A launch message makes
this device follow the step. A slot's turn advances a prefill or delivers its token; an abort ends the step's requests with
none left without a status. A lost step ring is reported once; a restart sets unit 0; a header write is clamped. Where the
spec leaves a point to be read, it follows the model's own reading (log entries 19, 20 and 41). (R36, R44, R45, R224, R234,
R235, R240, R245, R247, R248, R251, R252). -/
def Obligations.RequestsAndDecodeSteps : Prop :=
  ∀ (s : State) (r : Requester) (p seq slot n hd gr : Nat) (cmd rid v : DWord) (block : List Byte) (cfg : Bool) (m : LaunchMsg)
    (res : SlotResult) (q : Req) (e : PlanEntry) (st : StepRec) (rest : List StepRec) (row : StepRow), p < 1024 →
    let b := (block ++ leBytes 96 0).take 96
    let id := rid.toNat
    let g := s.gen p
    let takes : Prop := s.live p = true ∧ s.boot.stopped = false ∧ s.cqRoom (s.owner p) = true
    let up (t : State) (f : Fld) : Prop := t.get f p = (s.get f p + 1) % 2 ^ 64
    let ev (t : State) (cls i : Nat) : Prop := (t.get Reg.PAGE.EVENT_STATUS.raised (cls * 16 + p)).testBit i = true
    let ends (t : State) (code : Nat) : Prop := (q.state = .queued → t.req p id = none) ∧
      (q.state ≠ .queued → (t.req p id).map (fun y => y.status) = some (some code))
    let same (t : State) : Prop := t.mem = s.mem ∧ t.cores = s.cores
    (takes →
      (s.role p ≠ 1 → s.requestStatus p b = 0 → Completes (.request p cmd block) s (fun t => same t ∧
        (t.gen p).reqs = g.reqs ++ [Req.queued b g.order])) ∧
      (s.role p ≠ 1 → s.requestStatus p b ≠ 0 → Completes (.request p cmd block) s (fun t => same t ∧ (t.gen p).reqs = g.reqs ∧
        up t Reg.REQ.REFUSED.refused)) ∧
      (s.role p ≠ 1 → s.req p id = some q → q.status = none → Completes (.cancel p cmd rid) s (fun t => ends t 0x10 ∧
        up t Reg.REQ.ENDS_CANCELLED.cancelled)) ∧
      (s.role p ≠ 1 → ∀ fs, s.req p id = some q → q.newTokens ≠ 0 → (q.state = .running ∨ q.state = .held ∨ q.state = .paused) →
        q.group = gr → gr < 256 → hd < 64 → n < 2 ^ 18 → n ≤ q.committed → Map.find (s.kvGroup p gr).handles hd = none →
        s.prefixFrames p q n = some fs → Completes (.prefixCreate p cmd rid n hd gr) s (fun t =>
          Map.find (t.kvGroup p gr).handles hd = some ⟨fs, n, rqVariantKey q.block⟩ ∧ (t.gen p).reqs = g.reqs)) ∧
      (s.role p ≠ 1 → gr < 256 → hd < 64 → Map.has (s.kvGroup p gr).handles hd = true →
        Completes (.prefixRelease p cmd hd gr) s (fun t => Map.find (t.kvGroup p gr).handles hd = none ∧ (t.gen p).reqs = g.reqs)) ∧
      Completes (.nop p cmd) s (fun t => same t ∧ t.gen p = g ∧ (s.get Reg.HOST.CQ_CFG.cq_log2 (s.owner p) ≠ 0 →
        (t.tenant (s.owner p)).cqIndex = (s.tenant (s.owner p)).cqIndex + 1))) ∧
    (s.req p id = some q → q.status = none → q.lost = false → Completes (.streamLost p rid) s (fun t => ends t 0x10 ∧ ev t 0x0440 3)) ∧
    (s.dueAction p 3 = some e → s.generating p = true → g.steps ≠ [] → let pen := pePennant e.bytes
      Completes (.swap p) s (fun t => same t ∧ (∀ y ∈ (t.part p).plan, y.order ≠ e.order) ∧
        (s.holds p pen = some 2 → (t.wslot p (slotOf pen)).swaps = (s.wslot p (slotOf pen)).swaps ++
          [⟨pen, peTime e.bytes, peTime e.bytes, true, false⟩]) ∧
        (s.holds p pen ≠ some 2 → s.holds p pen ≠ some 3 → ev t 0x02C0 4))) ∧
    (s.launches p = false → exec (.decodeStepLaunch p) s = .next s) ∧
    (s.launches p = true → g.hold = none → exec (.decodeStepLaunch p) s = .next (s.boundary p)) ∧
    (∀ k rows, s.launches p = true → g.hold = some .ring → g.filled = true → s.stepRows p = some (k, rows) →
      (s.ringSpace p rows).1 = true → Completes (.decodeStepLaunch p) s (fun t => up t Reg.REQ.STEP_SEQ.step_seq ∧
        ∃ pen toks, .launch p ((s.get Reg.REQ.STEP_SEQ.step_seq p + 1) % 2 ^ 64) pen g.plan toks ∈ t.out)) ∧
    (s.launches p = true → g.hold = some .fill →
      Completes (.fillHoldExpiry p) s (fun t => (t.gen p).hold ≠ some .fill ∧
        t.get Reg.ARRAY.FILL_HOLDS.holds_expired p = (s.get Reg.ARRAY.FILL_HOLDS.holds_expired p + 1) % 2 ^ 32) ∧
      exec (.joinDuringHold p) s = .next (((s.kvGroups p).foldl (fun t a => t.admitGroup p a) s).proceed p)) ∧
    (g.hold ≠ some .fill → exec (.fillHoldExpiry p) s = .next s ∧ exec (.joinDuringHold p) s = .next s) ∧
    (s.launches p = true →
      (m.seq ∈ g.steps.map (fun y => y.seq) → exec (.stepLaunchMessage p m) s = .next s) ∧
      (m.seq ∉ g.steps.map (fun y => y.seq) →
        (∀ a, g.follow = none → s.kvMismatch p m.groups = some a → exec (.stepLaunchMessage p m) s = .next (s.raise 0x0400 p 0 (a % 256))) ∧
        (g.follow ≠ none ∨ s.kvMismatch p m.groups = none → Completes (.stepLaunchMessage p m) s (fun t =>
          (t.gen p).follow = some (m.seq, m.pennant))))) ∧
    (g.steps = st :: rest → st.rows.find? (fun y => !y.done) = some row → st.seq = seq → row.slot = slot →
      s.req p row.id.toNat = some q → q.status = none → q.step = some seq → res.lost = none →
      (q.state = .prefill → q.prefilled + row.rows < rqPromptLen q.block → Completes (.slotCommit p seq slot res) s (fun t =>
        (t.req p row.id.toNat).map (fun y => (y.prefilled, y.step, y.bound, y.len)) = some (q.prefilled + row.rows, none, true, q.len))) ∧
      (q.state = .running → q.guesses = [] → Completes (.slotCommit p seq slot res) s (fun t =>
        (t.req p row.id.toNat).map (fun y => (y.len, y.step, y.bound, y.pennant)) = some (q.len + 1, none, true, st.pennant)))) ∧
    (g.steps.find? (fun y => y.seq == seq) = none → exec (.stepAbort p seq) s = .next s) ∧
    (g.steps.find? (fun y => y.seq == seq) = some st → Completes (.stepAbort p seq) s (fun t => (∀ y ∈ (t.gen p).steps, y.seq ≠ seq) ∧
      ∀ a ∈ st.rows, ∀ y, t.req p a.id.toNat = some y → y.status ≠ none)) ∧
    (g.ringLost = true ∨ s.stepLog p = 0 → exec (.stepRingLost p) s = .next s) ∧
    (g.ringLost = false → s.stepLog p ≠ 0 → Completes (.stepRingLost p) s (fun t => same t ∧ (t.gen p).ringLost = true ∧ ev t 0x0440 5)) ∧
    (s.reach r (0x04400118 + p * 0x1000) = true → isCoreCode r = false → s.get Reg.PAGE.LOCK.lock (0x0440 * 16 + p) = 0 →
      (g.reqs ≠ [] → g.ringLost = false → exec (.stepRingRestart r p cfg v) s =
        .next (s.regFault ((if cfg then 0x04400118 else 0x04400110) + p * 0x1000) 0x48)) ∧
      (g.reqs = [] ∨ g.ringLost = true → Completes (.stepRingRestart r p cfg v) s (fun t => same t ∧
        t.gen p = { g with units := 0, ringLost := g.ringLost && !cfg } ∧ t.get Reg.REQ.STEP_CREDIT.units_consumed p = 0 ∧
        (cfg = false → t.get Reg.REQ.STEP_RING_ADDR.step_addr p = v.toNat) ∧
        (cfg = true → t.get Reg.REQ.STEP_RING_CFG.step_log2 p = v.toNat % 2 ^ 5)))) ∧
    (g.hold = some .spill → s.launches p = false → Completes (.spillReadDone p) s (fun t => same t ∧ t.gen p = { g with hold := none } ∧
      t.get Reg.KV.HOLD_US.hold_us p = (s.get Reg.KV.HOLD_US.hold_us p + usBetween g.holdAt s.timer) % 2 ^ 64)) ∧
    (g.hold ≠ some .spill → exec (.spillReadDone p) s = .next s) ∧
    (s.req p id = some q → q.status = none → q.state ≠ .queued → q.landing = true →
      ((∀ x ∈ s.kvTable p q.group q.member, ∀ f, x.2 = .frame f → s.framePoisoned p q.group f = false) →
        Completes (.resumePagesLanded p rid true) s (fun t => t = { s with parts := t.parts } ∧
          t.req p id = some { q with landing := false })) ∧
      Completes (.resumePagesLanded p rid false) s (fun t => (t.req p id).map (fun y => (y.landing, y.status)) = some (false, some 0x0A))) ∧
    (g.hold ≠ some .ring → s.expRingBytes p ≠ 0 →
      Completes (.expHeaderWrite p 0x11 v) s (fun t =>
        t.mem = (s.writeN (s.expBase p + 0x11) 1 (max 1 (min 4 (v.toNat % 256)))).mem ∧ t.cores = s.cores) ∧
      ∀ i, i < 4 → let w := min v.toNat (s.producer p)
        Completes (.expHeaderWrite p (0x18 + 8 * i) v) s (fun t => t.cores = s.cores ∧
          t.mem = if w < s.consumer p i then s.mem else (s.writeN (s.expBase p + (0x18 + 8 * i)) 8 w).mem))

/-- O59. Tier lists and their descriptors, regions, migration and T1 errors; the sett: SETT.OP, placement, spill, fill.
LIST_GO adds a list at LIST_ADDR, with its flags armed, or is refused at 16 lists. A STREAM that passes its check copies its
bytes and remembers its arrivals; an arrival lands its flag; a MOVE makes a resident region MOVING, and its end gives it the
new home; a GATE passes when every core has consumed; END waits for the arrivals; a descriptor that fails its check stops the
list. Epochs halve use counts; eviction and promotion begin a migration that its end completes. Region hint, define and delete
change the region or give their fault. A T1 word that fails twice is poison and its region FAILED. RESERVE, PUSH, FETCH,
RELEASE and CLEAR act on the sett or give their fault; placement, lead spills and fills move frames. Where the spec leaves a
point to be read, it follows the model's own reading (log entries 43 and 44). (R201, R202, R204, R205, R206, R207, R208, R209,
R212, R259, R260, R261). -/
def Obligations.TiersAndSett : Prop :=
  ∀ (s : State) (r : Requester) (p l id hint desc lcore addr core a c n k : Nat) (x : TierList) (d : List Byte) (y : Region)
    (f : SettFrame) (w : SettWait) (v : Word) (h : Nat × Nat × Nat), p < 1024 → core < 1024 →
    let go := regOff Reg.TIER.LIST_GO.go p
    let rc := regOff Reg.TIER.REGION_CTRL.cmd p
    let sel := s.get Reg.TIER.REGION_SEL.region p
    let la := s.get Reg.TIER.LIST_ADDR.list_addr p
    let T := (s.part p).tiers
    let flag (u : State) (i j : Nat) : FlagState := (u.core i).sync.flags.toList.getD j .idle
    let only (t : State) : Prop := t = { s with parts := t.parts }
    let runs (op : Nat) : Prop := s.tlist p l = some x ∧ s.readDesc p x.addr x.next = .ok d ∧ s.descError p x d = none ∧ bOp d = op
    let rid := refRegion (bSrc d)
    let migr (b : Nat) : State := s.setRegion p id { y with state := .migrating, dst := b }
    let fits (z : Nat × Region) : Prop := z.2.hint = 0 ∧ spaceOf z.2.base = 2 ∧ z.2.state = .resident ∧
      s.get Reg.TIER.MIGRATE.promote_uses p ≤ z.2.use ∧
      100 * (s.t1UseAfter p + z.2.len) ≤ s.get Reg.TIER.MIGRATE.low_pct p * s.t1Allot p
    let q := s.logical p core
    let U := s.sett p q
    let S := s.sett p lcore
    let val := v.toNat
    let stack := field val 21 19
    let fl := field val 27 22
    let len := field val 12 0
    let op := Reg.SETT.OP.op
    let now : SettWait := ⟨fl, U.count, s.clock.cycles.toNat⟩
    let can : Prop := s.partOf core = some p ∧ s.reach (.coreCode core) (regOff op p) = true
    let good (n : Nat) : Prop := can ∧ field val 31 28 = n ∧ field val 18 13 = 0 ∧ stack < 2 ^ s.settLog p
    let faults (i : Instr) (code : Nat) : Prop := exec i s = .next (s.regFault (regOff op p) code)
    (s.reach r go = true →
      (16 ≤ T.lists.length → exec (.listGo r p) s = .next (s.regFault go 0x43)) ∧
      (T.lists.length < 16 → Completes (.listGo r p) s (fun t => t.mem = s.mem ∧ (t.part p).tiers.nextList = T.nextList + 1 ∧
        ∃ b, t.tlist p T.nextList = some ⟨la, 0, false, b, [], []⟩ ∧ (b = none → ∀ z ∈ s.listFlags p la, ∀ i,
          s.physical p z.2.1 = some i → z.2.2 < 64 → flag t i z.2.2 = .armed)))) ∧
    (s.tlist p l = none → ∀ i ∈ [Instr.stream p l, .streamLanded p l desc lcore, .moveRegion p l, .gate p l, .endList p l],
      exec i s = .next s) ∧
    (∀ e, s.tlist p l = some x → s.readDesc p x.addr x.next = .ok d → s.descError p x d = some e →
      ∀ i ∈ [Instr.stream p l, .moveRegion p l, .gate p l, .endList p l], Completes i s (fun t => t.tlist p l = none ∧
        t.get Reg.TIER.LIST_STATUS.fault_code p = e % 2 ^ 8 ∧ t.get Reg.TIER.LIST_STATUS.fault_index p = x.next % 2 ^ 16 ∧
        (t.get Reg.PAGE.EVENT_STATUS.raised (0x03C0 * 16 + p)).testBit 0 = true)) ∧
    (runs 1 → Completes (.stream p l) s (fun t => t.cores = s.cores ∧ t.regs = s.regs ∧
      t.tlist p l = some { x with next := x.next + 1, landing := if bAfv d then
        x.landing ++ (upTo (bCores d)).map (fun j => (x.next, bFirst d + j, bFlag d)) else x.landing } ∧
      ∀ i, bCores d = 1 → s.descSource p (bSrc d) (bLen d) = .ok a → s.streamSlice p (bAfv d) (bFirst d) = some i →
        t.mem = (s.copyRange a (t0Addr i (bDst d)) (bLen d)).mem ∧
        t.poison = (s.copyRange a (t0Addr i (bDst d)) (bLen d)).poison)) ∧
    (s.tlist p l = some x → x.landing.find? (fun z => z.1 == desc && z.2.1 == lcore) = some h → s.physical p lcore = some c →
      Completes (.streamLanded p l desc lcore) s (fun t => t.tlist p l = some { x with landing := x.landing.erase h } ∧
        (flag s c h.2.2 = .armed → flag t c h.2.2 = .landed ∧ t.mem = s.mem))) ∧
    (runs 2 → s.region p rid = some y →
      (y.state = .moving ∨ y.state = .migrating → exec (.moveRegion p l) s = .next s) ∧
      (y.state ≠ .moving → y.state ≠ .migrating → Completes (.moveRegion p l) s (fun t => only t ∧
        t.tlist p l = some { x with next := x.next + 1 } ∧
        t.region p rid = some { y with state := .moving, use := min 0xFFFFFFFF (y.use + 1), dst := bDst d, dstHint := bHint d }))) ∧
    (runs 3 →
      ((∀ j, j < bCores d → (bFirst d + j, bFlag d) ∈ x.consumed) → Completes (.gate p l) s (fun t => only t ∧
        t.tlist p l = some { x with next := x.next + 1 })) ∧
      ((∃ j, j < bCores d ∧ (bFirst d + j, bFlag d) ∉ x.consumed) → exec (.gate p l) s = .next s)) ∧
    (runs 0 → (x.landing = [] → Completes (.endList p l) s (fun t => only t ∧ t.tlist p l = none)) ∧
      (x.landing ≠ [] → exec (.endList p l) s = .next s)) ∧
    (s.region p id = some y → let moved := s.copyRange (s.homePhys p y.base) (s.homePhys p y.dst) y.len
      (y.state = .moving → Completes (.moveRegionDone p id) s (fun t => t.mem = moved.mem ∧ t.poison = moved.poison ∧
        t.cores = s.cores ∧ t.region p id = some { y with base := y.dst, hint := y.dstHint, state := .resident })) ∧
      (y.state ≠ .moving → exec (.moveRegionDone p id) s = .next s) ∧
      (y.state = .migrating → Completes (.regionMigrationDone p id) s (fun t => t.mem = moved.mem ∧ t.poison = moved.poison ∧
        t.cores = s.cores ∧ t.region p id = some { y with base := y.dst, state := .resident } ∧
        t.get Reg.TIER.MIGRATED.migrated p = (s.get Reg.TIER.MIGRATED.migrated p + y.len) % 2 ^ 64)) ∧
      (y.state ≠ .migrating → exec (.regionMigrationDone p id) s = .next s)) ∧
    Completes (.migrationEpoch p) s (fun t => only t ∧ t.region p id = (s.region p id).map (fun z => { z with use := z.use / 2 })) ∧
    (s.migrates p = false → exec (.migrationEvict p) s = .next s ∧ exec (.migrationPromote p) s = .next s) ∧
    (s.get Reg.TIER.MIGRATE.high_pct p * s.t1Allot p ≥ 100 * s.t1Use p → exec (.migrationEvict p) s = .next s) ∧
    (s.migrates p = true → s.get Reg.TIER.MIGRATE.high_pct p * s.t1Allot p < 100 * s.t1Use p → s.evictable p = [(id, y)] →
      s.get Reg.TIER.MIGRATE.low_pct p * s.t1Allot p / 100 < s.t1UseAfter p → s.freePlace p 2 y.len = some a →
      exec (.migrationEvict p) s = .next (migr a)) ∧
    ((∀ z ∈ T.regions, ¬ fits z) → exec (.migrationPromote p) s = .next s) ∧
    (∀ z1 z2, s.migrates p = true → T.regions = z1 ++ (id, y) :: z2 → (∀ z ∈ z1, ¬ fits z) → fits (id, y) →
      s.freePlace p 1 y.len = some a → exec (.migrationPromote p) s = .next (migr a)) ∧
    (s.reach r rc = true →
      (s.region p sel = none →
        exec (.regionHintWrite r p hint) s = .next (s.setB Reg.TIER.REGION_CTRL.hint p sel (hint % 16)) ∧
        exec (.regionDelete r p) s = .next (s.regFault rc 0x44) ∧
        let b := s.getB Reg.TIER.REGION_BASE.base p sel
        let m := s.getB Reg.TIER.REGION_LEN.length p sel
        (s.regionFits p sel b m = true ∧ hintFits (hint % 16) b = true → Completes (.regionDefine r p hint) s (fun t => t.mem = s.mem ∧
          t.region p sel = some ⟨b, m, hint % 16, .resident, 0, b, hint % 16⟩)) ∧
        (s.regionFits p sel b m = false ∨ hintFits (hint % 16) b = false →
          exec (.regionDefine r p hint) s = .next (s.regFault rc 0x44))) ∧
      (s.region p sel = some y →
        exec (.regionDefine r p hint) s = .next (s.regFault rc 0x44) ∧
        (3 < hint % 16 → exec (.regionHintWrite r p hint) s = .next (s.regFault rc 0x44)) ∧
        (hint % 16 ≤ 3 → Completes (.regionHintWrite r p hint) s (fun t => t.mem = s.mem ∧
          (t.region p sel).map (fun z => (z.base, z.len, z.hint, z.dstHint)) = some (y.base, y.len, hint % 16, hint % 16))) ∧
        (y.state = .moving ∨ y.state = .migrating ∨ s.listNames p sel = true →
          exec (.regionDelete r p) s = .next (s.regFault rc 0x45)) ∧
        (y.state ≠ .moving → y.state ≠ .migrating → s.listNames p sel = false → Completes (.regionDelete r p) s (fun t => only t ∧
          t.region p sel = none ∧ ∀ j, j ≠ sel → t.region p j = s.region p j)))) ∧
    exec (.t1UeRetry addr false) s = .next s ∧
    (spaceOf addr = 1 → t1Ok addr 1 = true → let inside (z : Nat × Region) : Prop := z.2.base ≤ addr ∧ addr < z.2.base + z.2.len
      ((∀ u ∈ s.parts, ∀ z ∈ u.2.tiers.regions, ¬ inside z) → exec (.t1UeRetry addr true) s = .next (s.poisonRange addr 1)) ∧
      ((∃ u ∈ s.parts, ∃ z ∈ u.2.tiers.regions, inside z) →
        (∀ u ∈ s.parts, ∀ z ∈ u.2.tiers.regions, inside z → u.1 = p ∧ z = (id, y)) →
        Completes (.t1UeRetry addr true) s (fun t => t.region p id = some { y with state := .failed } ∧
          t.get Reg.TIER.UE.ue p = (s.get Reg.TIER.UE.ue p + 1) % 2 ^ 64 ∧
          (t.get Reg.PAGE.EVENT_STATUS.raised (0x03C0 * 16 + p)).testBit 1 = true))) ∧
    (∀ z ∈ [(1, Instr.reserve core v), (2, .push core v), (3, .fetch core v), (4, .release core v), (5, .clear core v)],
      (field val 31 28 ≠ z.1 → exec z.2 s = .next s) ∧
      (can → field val 31 28 = z.1 → field val 18 13 ≠ 0 ∨ 2 ^ s.settLog p ≤ stack → faults z.2 0x49)) ∧
    (good 1 → (len = 0 ∨ s.settArea p < len → faults (.reserve core v) 0x49) ∧
      (1 ≤ len → len ≤ s.settArea p → (∀ z ∈ U.stackOf stack, z.state ≠ .reserved) →
        (s.stackRoom p < granules (U.stackOf stack) + len → faults (.reserve core v) 0x4A) ∧
        (granules (U.stackOf stack) + len ≤ s.stackRoom p → flag s core fl ≠ .idle → faults (.reserve core v) 0x42) ∧
        (granules (U.stackOf stack) + len ≤ s.stackRoom p → flag s core fl = .idle → Completes (.reserve core v) s (fun t =>
          flag t core fl = .armed ∧ t.mem = s.mem ∧ t.sett p q = { U with count := U.count + 1, frames := U.frames ++
            [⟨stack, len, .reserved, none, 0, 0, some now⟩] })))) ∧
    (good 2 →
      ((U.stackOf stack).find? (fun z => z.state == .reserved) = none → faults (.push core v) 0x49) ∧
      ((U.stackOf stack).find? (fun z => z.state == .reserved) = some f → Completes (.push core v) s (fun t => only t ∧
        t.sett p q = { U.replace f { f with state := .pushed, age := U.count } with
          count := U.count + 1, draining := U.draining.filter (fun z => z != stack) }))) ∧
    (good 3 →
      (U.newestPushed stack = none → faults (.fetch core v) 0x49) ∧
      (U.newestPushed stack = some f →
        (flag s core fl ≠ .idle → faults (.fetch core v) 0x42) ∧
        (flag s core fl = .idle → Completes (.fetch core v) s (fun t =>
          t.sett p q = { U.replace f { f with state := .fetched, wait := if f.place.isSome then none else some now } with
            count := U.count + 1, draining := stack :: U.draining.filter (fun z => z != stack) } ∧
          (f.place = none → flag t core fl = .armed ∧ t.mem = s.mem) ∧
          ∀ g, f.place = some g → flag t core fl = .landed ∧ t.mem = (s.settMail p core stack g).mem)))) ∧
    (good 4 → let held := (U.stackOf stack).filter (fun z => z.state == .fetched && z.wait.isNone)
      (held = [] → faults (.release core v) 0x49) ∧
      (held.getLast? = some f → Completes (.release core v) s (fun t => only t ∧ t.sett p q = U.dropFrame f))) ∧
    (good 5 → Completes (.clear core v) s (fun t => t.mem = s.mem ∧ t.sett p q = { U with frames := [], draining := [] })) ∧
    (s.physical p lcore = some c →
      (S.firstWait = none → exec (.settPlacement p lcore) s = .next s) ∧
      (S.firstWait = some (f, w) →
        (S.findPlace (s.settArea p) f.len = none → exec (.settPlacement p lcore) s = .next s) ∧
        exec (.settLeadSpill p lcore) s = .next s ∧ exec (.settFill p lcore) s = .next s ∧
        (S.findPlace (s.settArea p) f.len = some n → S.residentsIn n f.len = [] → f.state ≠ .fetched → flag s c w.flag = .armed →
          Completes (.settPlacement p lcore) s (fun t => flag t c w.flag = .landed ∧ t.mem = (s.settMail p c f.stack n).mem ∧
            t.sett p lcore = { S.replace f { f with place := some n, wait := none } with head := n + f.len }))) ∧
      (S.firstWait = none → let old := S.residentsIn S.head (s.get Reg.SETT.POLICY.lead p)
        (old = [] → exec (.settLeadSpill p lcore) s = .next s) ∧
        (∀ rest, old = f :: rest → f.place = some n → Completes (.settLeadSpill p lcore) s (fun t =>
          t.sett p lcore = S.replace f { f with place := none, home := S.below f } ∧ t.cores = s.cores ∧
          t.get Reg.SETT.SPILLED.spilled p = (s.get Reg.SETT.SPILLED.spilled p + 2048 * f.len) % 2 ^ 64)) ∧
        (S.fillNext = none → exec (.settFill p lcore) s = .next s) ∧
        (S.fillNext = some f → old = [] → S.occupied + 2 * s.get Reg.SETT.POLICY.lead p + f.len ≤ s.settArea p →
          (S.clear (s.settArea p) S.head f.len = true → k = S.head) → (S.clear (s.settArea p) S.head f.len = false → k = 0) →
          S.clear (s.settArea p) k f.len = true → S.residentsIn k f.len = [] → Completes (.settFill p lcore) s (fun t =>
            t.sett p lcore = { S.replace f { f with place := some k } with head := k + f.len } ∧ t.cores = s.cores ∧
            t.get Reg.SETT.FILLED.filled p = (s.get Reg.SETT.FILLED.filled p + 2048 * f.len) % 2 ^ 64))))

/-- O60. The twin: pairing, heartbeats, loss, detach; checkpoints at the writer and at the holder; restore. PAIR leaves
UNPAIRED; each twin port that is up sends a heartbeat with the next number; one from the named twin pairs, a stranger's is
counted; FAULT, a miss or an expired hold makes the twin LOST, freezes the store and ends its checkpoints; a return or an
adopted serial pairs again; DETACH forgets the twin. A CHECKPOINT entry starts the write of the slot, waits while the twin is
in a warm reset, is skipped or fails with its cause. The holder zeroes the manifest, takes the bytes in order, writes the manifest only where its digest agrees; the
writer follows the answers. A restore is refused while the partition is busy, scans, agrees on the complete slot with the
higher step, pulls it and installs it, or ends with its status. Where the spec leaves a point to be read, it follows the
model's own reading (log entries 50 and 60). (R411, R412, R413, R414, R415, R416, R417, R420, R422, R424, R425, R426). -/
def Obligations.TwinAndCheckpoints : Prop :=
  ∀ (s : State) (r : Requester) (p port c x w off a h n b : Nat) (fw : Word) (hb : Heartbeat) (e : PlanEntry) (j : CkptJob)
    (bs d : List Byte) (runId : DWord) (k : Writing) (u v : SlotScan) (res : Restore) (others : List DWord), p < 1024 →
    let cmd := Reg.TWIN_LINK.CMD.reg.reg
    let ck := regOff Reg.CKPT.CMD.reg p
    let ev (t : State) (page i : Nat) : Prop := (t.get Reg.PAGE.EVENT_STATUS.raised page).testBit i = true
    let twinEv (t : State) (i : Nat) : Prop := ev t (0x0140 * 16) i
    let ckEv (t : State) (i : Nat) : Prop := ev t (0x0600 * 16 + p) i
    let strange : Prop := Completes (.heartbeatReceive port hb) s (fun t =>
      t.get Reg.TWIN_LINK.MISSES.misses 0 = (s.get Reg.TWIN_LINK.MISSES.misses 0 + 1) % 2 ^ 64 ∧ t.mem = s.mem ∧ t.twin = s.twin)
    let met (t : State) : Prop := t.pairing = 2 ∧ t.twin.peer = some (hb.device, hb.serial) ∧ t.twin.frozen = false ∧ twinEv t 0
    let lost (t : State) : Prop := t.pairing = 3 ∧ t.twin.frozen = true ∧ t.twin.peer = s.twin.peer ∧ twinEv t 1 ∧
      ∀ y ∈ s.parts, (t.ckpt y.1).job = none
    let mine : Prop := s.twin.peer = some (hb.device, hb.serial)
    let ch := s.get Reg.CKPT.CFG.channel p
    let fails (i : Instr) (s0 : State) (cause : Nat) : Prop := Completes i s (fun t => (t.ckpt p).job = none ∧
      t.get Reg.CKPT.STATUS.state p = 0 ∧ t.get Reg.CKPT.STATUS.fail_cause p = cause ∧
      t.get Reg.CKPT.FAILED.failed p = (s0.get Reg.CKPT.FAILED.failed p + 1) % 2 ^ 64 ∧ ckEv t 1)
    let ends (i : Instr) (status : Nat) : Prop := Completes i s (fun t => t.mem = s.mem ∧ (t.ckpt p).restore = none ∧
      t.get Reg.CKPT.STATUS.state p = 0 ∧ t.get Reg.CKPT.STATUS.last_status p = status)
    (s.reach r cmd = true →
      (s.pairing = 0 → Completes (.pair r) s (fun t => t = { s with regs := t.regs } ∧ t.pairing = 1)) ∧
      (s.pairing ≠ 0 → exec (.pair r) s = .next s) ∧
      Completes (.detach r) s (fun t => t.pairing = 0 ∧ t.twin.peer = none ∧ t.twin.writers = [] ∧ t.twin.frozen = false ∧
        ∀ y ∈ s.parts, (t.ckpt y.1).job = none)) ∧
    (s.reach r cmd = false → exec (.pair r) s = .next s ∧ exec (.detach r) s = .next s) ∧
    (s.pairing = 0 → exec (.heartbeatSend fw) s = .next (s.liveness fw)) ∧
    (s.pairing ≠ 0 → s.portUp 36 = true → s.portUp 37 = true → Completes (.heartbeatSend fw) s (fun t => t.mem = s.mem ∧
      t.twin.fwCount = fw ∧ t.twin.seq = (s.twin.seq + 2) % 2 ^ 32 ∧
      t.out = s.out ++ [.heartbeat 36 ((s.liveness fw).beatBytes ((s.twin.seq + 1) % 2 ^ 32)),
        .heartbeat 37 ((s.liveness fw).beatBytes ((s.twin.seq + 2) % 2 ^ 32))])) ∧
    (port < 36 → Completes (.heartbeatReceive port hb) s (fun t => t = { s with regs := t.regs } ∧
      t.get Reg.PORT.LOST.lost port = (s.get Reg.PORT.LOST.lost port + 1) % 2 ^ 64)) ∧
    (36 ≤ port → port < 38 →
      (s.pairing = 0 → s.namedTwin hb = true → exec (.heartbeatReceive port hb) s = .next s) ∧
      (s.pairing < 2 → s.namedTwin hb = false → strange) ∧
      (s.pairing = 1 → s.namedTwin hb = true → hb.state = 1 ∨ hb.state = 2 → Completes (.heartbeatReceive port hb) s (fun t => met t ∧
        t.get Reg.TWIN_LINK.LAST_SEEN.last_seen 0 = hb.sendTime.toNat)) ∧
      (s.pairing = 2 → ¬ mine → strange) ∧
      (s.pairing = 2 → mine →
        (hb.state = 4 → Completes (.heartbeatReceive port hb) s lost) ∧
        (hb.state = 5 → Completes (.heartbeatReceive port hb) s (fun t => t.pairing = 2 ∧ t.twin = { s.twin with hold := true })) ∧
        (hb.state = 2 → Completes (.heartbeatReceive port hb) s (fun t => t.pairing = 2 ∧ t.twin = { s.twin with hold := false } ∧
          ((s.ckpt p).job = some j → j.phase = 3 → (t.ckpt p).job = some { j with phase := 0 })))) ∧
      (s.pairing = 3 → mine → 1 ≤ hb.state → hb.state ≤ 3 → Completes (.heartbeatReceive port hb) s (fun t => t.pairing = 2 ∧
        t.twin = { s.twin with hold := false, frozen := false } ∧ twinEv t 2)) ∧
      (s.pairing = 3 → ¬ mine →
        (s.get Reg.TWIN_LINK.CFG.adopt 0 = 0 → strange) ∧
        (s.get Reg.TWIN_LINK.CFG.adopt 0 = 1 → s.namedTwin hb = true → (∀ y, s.twin.peer = some y → y.2 ≠ hb.serial) →
          hb.state = 1 ∨ hb.state = 2 → Completes (.heartbeatReceive port hb) s (fun t => met t ∧
            t.get Reg.TWIN_LINK.CFG.adopt 0 = 0)))) ∧
    (s.pairing = 2 → s.twin.hold = false → Completes .heartbeatMiss s lost ∧ exec .resetHoldExpiry s = .next s) ∧
    (s.pairing = 2 → s.twin.hold = true → Completes .resetHoldExpiry s lost ∧ exec .heartbeatMiss s = .next s) ∧
    (s.pairing ≠ 2 → exec .resetHoldExpiry s = .next s ∧ exec .heartbeatMiss s = .next s) ∧
    (s.dueAction p 4 = none → exec (.checkpoint p) s = .next s) ∧
    (s.dueAction p 4 = some e → s.role p = 2 → s.learning p = true → (s.red p).isOpen = false → let s0 := s.dropEntry p e
      (s0.getBit Reg.CKPT.CFG.enable p = false → exec (.checkpoint p) s = .next s0) ∧
      (s0.getBit Reg.CKPT.CFG.enable p = true →
        (s0.ckptState p ≠ 0 → Completes (.checkpoint p) s (fun t => ckEv t 2 ∧
          t.get Reg.CKPT.SKIPPED.skipped p = (s0.get Reg.CKPT.SKIPPED.skipped p + 1) % 2 ^ 64)) ∧
        (s0.ckptState p = 0 →
          (s0.pairing ≠ 2 → fails (.checkpoint p) s0 1) ∧
          (s0.pairing = 2 → s0.channelTaken p = true → fails (.checkpoint p) s0 5) ∧
          (s0.pairing = 2 → s0.channelTaken p = false → s0.readBuf p = some (n, b) →
            let most := 0x1000 + s0.weightLen p n + s0.stateLen p
            (s0.slotLen < most → fails (.checkpoint p) s0 3) ∧
            (most ≤ s0.slotLen → s0.hostBlock p (s0.ckpt p).step = some h →
              (s0.poisoned h 128 = true → fails (.checkpoint p) s0 4) ∧
              (s0.poisoned h 128 = false → s0.twin.hold = true → Completes (.checkpoint p) s (fun t => t.mem = s0.mem ∧
                t.get Reg.CKPT.STATUS.state p = 1 ∧ t.out = s0.out ∧ (t.ckpt p).job.map (fun y => (y.slot, y.phase)) =
                  some (peArg e.bytes % 2, 3))) ∧
              (s0.poisoned h 128 = false → s0.twin.hold = false → Completes (.checkpoint p) s (fun t => t.mem = s0.mem ∧
                t.get Reg.CKPT.STATUS.state p = 1 ∧ t.out = s0.out ++
                  [.ckpt (.clear (s0.get Reg.CKPT.CFG.channel p) (peArg e.bytes % 2) p)] ∧
                (t.ckpt p).job.map (fun y => (y.slot, y.step, y.model, y.buf, y.phase)) =
                  some (peArg e.bytes % 2, (s0.ckpt p).step, n, b, 0)))))))) ∧
    (s.storeOpen = false → exec (.ckptDataReceive (.clear c x w)) s = .next s ∧
      exec (.ckptDataReceive (.data c x off bs)) s = .next s ∧ exec (.ckptManifest (.manifest c x bs)) s = .next s) ∧
    (s.storeOpen = true → s.storeSlot c x = some a →
      (Map.find s.twin.writers c = none → Completes (.ckptDataReceive (.clear c x w)) s (fun t => t.mem = (s.zeroRange a 256).mem ∧
        t.out = s.out ++ [.ckpt (.cleared w false)] ∧ Map.find t.twin.writers c = some ⟨x, w, 0x100⟩)) ∧
      (Map.find s.twin.writers c = some k →
        (k.writer ≠ w → exec (.ckptDataReceive (.clear c x w)) s = .next (s.emit (.ckpt (.cleared w true)))) ∧
        (k.slot ≠ x ∨ off ≠ k.upTo ∨ s.slotLen < off + bs.length → exec (.ckptDataReceive (.data c x off bs)) s = .next s) ∧
        (k.slot = x → off = k.upTo → off + bs.length ≤ s.slotLen → Completes (.ckptDataReceive (.data c x off bs)) s (fun t =>
          t.mem = (s.writeBytes (a + off) bs).mem ∧ t.out = s.out ++ [.ckpt (.dataAcked k.writer)] ∧
          Map.find t.twin.writers c = some { k with upTo := off + bs.length })) ∧
        (k.slot = x → bs.length = 256 →
          let agrees := shake256 (s.readBytes (a + 0x100) (k.upTo - 0x100) ++ bs.take 64) 64 = (bs.drop 64).take 64
          Completes (.ckptManifest (.manifest c x bs)) s (fun t => Map.find t.twin.writers c = none ∧
            (agrees → t.mem = (s.writeBytes a bs).mem ∧ t.out = s.out ++ [.ckptEnd (.answer k.writer true)]) ∧
            (¬ agrees → t.mem = s.mem ∧ t.out = s.out ++ [.ckptEnd (.answer k.writer false)]))))) ∧
    (∀ a1, s.pairing = 2 → s.storeSlot c 0 = some a → s.storeSlot c 1 = some a1 →
      exec (.ckptDataReceive (.scan c p runId)) s = .next (s.emit (.ckpt (.scanned p (s.scanSlot a runId) (s.scanSlot a1 runId)))) ∧
      let e0 := min (s.slotEnd a) s.slotLen
      exec (.ckptDataReceive (.pull c 0 p)) s = .next (s.emit (.ckptPulled p (s.readBytes a e0) (s.poisoned a e0)))) ∧
    ((s.ckpt p).job = some j →
      (j.phase = 0 → fails (.ckptDataReceive (.cleared p true)) s 5 ∧
        (s.ckptSections p j = some (bs, false) → Completes (.ckptDataReceive (.cleared p false)) s (fun t => t.mem = s.mem ∧
          (t.ckpt p).job = some { j with phase := 1 } ∧ t.out = s.out ++ [.ckpt (.data ch j.slot 0x100 (j.head ++ bs))] ∧
          t.get Reg.CKPT.BYTES.bytes p = (s.get Reg.CKPT.BYTES.bytes p + (j.head ++ bs).length) % 2 ^ 64)) ∧
        (s.ckptSections p j = some (bs, true) → fails (.ckptDataReceive (.cleared p false)) s 4)) ∧
      (j.phase = 1 → s.ckptSections p j = some (bs, false) → Completes (.ckptDataReceive (.dataAcked p)) s (fun t => t.mem = s.mem ∧
        (t.ckpt p).job = some { j with phase := 2 } ∧
        t.out = s.out ++ [.ckptEnd (.manifest ch j.slot (manifestOf (j.head ++ bs) (s.manifestHead p j)))])) ∧
      (j.phase = 2 → fails (.ckptManifest (.answer p false)) s 6 ∧
        Completes (.ckptManifest (.answer p true)) s (fun t => (t.ckpt p).job = none ∧ t.get Reg.CKPT.STATUS.state p = 0 ∧
          t.get Reg.CKPT.TAKEN.taken p = (s.get Reg.CKPT.TAKEN.taken p + 1) % 2 ^ 64 ∧
          t.get Reg.CKPT.STATUS.last_step p = j.step % 2 ^ 32 ∧ t.get Reg.CKPT.STATUS.last_slot p = j.slot % 2 ∧ ckEv t 0))) ∧
    (s.reach r ck = true → let free : Prop := s.holdsTask p = false ∧ (s.red p).isOpen = false ∧ s.buffersRead p = false ∧ s.ckptState p = 0
      (¬ free → exec (.ckptRestore r p) s = .next (s.regFault ck 0x51)) ∧
      (free → s.pairing = 2 → Completes (.ckptRestore r p) s (fun t => t.mem = s.mem ∧ t.get Reg.CKPT.STATUS.state p = 2 ∧
        t.out = s.out ++ [.ckpt (.scan ch p (BitVec.ofNat 64 (s.get Reg.CKPT.RUN_ID.run_id p)))])) ∧
      (free → s.pairing ≠ 2 → Completes (.ckptRestore r p) s (fun t => t.mem = s.mem ∧ t.get Reg.CKPT.STATUS.state p = 3 ∧
        (t.ckpt p).restore = some ⟨⟨-1, 0⟩, ⟨-1, 0⟩, none⟩))) ∧
    (s.ckptState p = 2 → Completes (.ckptDataReceive (.scanned p u v)) s (fun t => t.mem = s.mem ∧
      t.get Reg.CKPT.STATUS.state p = 3 ∧ (t.ckpt p).restore = some ⟨u, v, none⟩)) ∧
    (s.ckptState p ≠ 2 → exec (.ckptDataReceive (.scanned p u v)) s = .next s) ∧
    (s.ckptState p = 3 → ends (.restoreAgreeTimeout p) 0x2A) ∧
    (s.ckptState p ≠ 3 → exec (.restoreAgreeTimeout p) s = .next s ∧
      exec (.restoreAgreement p others) s = .next (s.hareTaken p .restore)) ∧
    (s.ckptState p = 3 → (s.ckpt p).restore = some res →
      let l := (restoreLanes res.a.step res.b.step).zipIdx.map (fun y =>
        combine64 0x02 y.1 ((others.map BitVec.toNat).getD y.2 y.1))
      (chooseSlot l = none → ends (.restoreAgreement p others) 0x2A) ∧
      ∀ m step, chooseSlot l = some (m, step) → let q := (if m = 0 then res.a else res.b).pennant
        (s.get Reg.CKPT.RESTORE_VERSION.version p ≤ versionOf q → ends (.restoreAgreement p others) 0x50) ∧
        (versionOf q < s.get Reg.CKPT.RESTORE_VERSION.version p → Completes (.restoreAgreement p others) s (fun t => t.mem = s.mem ∧
          t.get Reg.CKPT.STATUS.state p = 4 ∧ t.bufState p (slotOf q) 0 = 0 ∧ t.bufState p (slotOf q) 1 = 0 ∧
          (t.ckpt p).restore = some { res with chosen := some (m, step) } ∧ t.out = s.out ++ [.ckpt (.pull ch m p)]))) ∧
    (s.ckptState p ≠ 4 → exec (.restorePullDone p d) s = .next s) ∧
    (∀ m step, s.ckptState p = 4 → (s.ckpt p).restore = some res → res.chosen = some (m, step) →
      let g := slotOf (if m = 0 then res.a else res.b).pennant
      let wl := bytesN d 32 8
      let sl := bytesN d 40 8
      (d.length < 0x1000 + wl + sl → ends (.restorePullDone p d) 0x2A) ∧
      (0x1000 + wl + sl ≤ d.length → wl = s.weightLen p g → s.regionHolds p g 0 = true →
        s.updPlace p (s.sBaseNow p 0) 0 sl = some a → s.hostBlock p step = some h → Completes (.restorePullDone p d) s (fun t =>
          t.mem = (((s.writeBytes (s.bufBase p g 0) ((d.drop 0x1000).take (s.shardLen p g))).writeBytes a
            ((d.drop (0x1000 + wl)).take sl)).writeBytes h ((d.drop 0x200).take 128)).mem ∧
          t.bufState p g 0 = 3 ∧ t.bufPennant p g 0 = g * 2 ^ 24 + s.get Reg.CKPT.RESTORE_VERSION.version p ∧
          t.get Reg.UPD.INDEX_BASE.index_base p = bytesN d 0x188 8 ∧ (t.ckpt p).step = step ∧ (t.red p).step = step ∧
          (t.ckpt p).restore = none ∧ t.get Reg.CKPT.STATUS.state p = 0 ∧ t.get Reg.CKPT.STATUS.last_status p = 0)))
end

