-- ==== Sys2Proof/Laws/Map.lean ====
section
/-! SUPPORT. Laws of the sparse tables. -/
/- One declaration after another: the package as one text then needs few threads at a time. -/
set_option Elab.async false

namespace Sys2Proof.Machine

theorem Map.find_put_same {α : Type} (m : Map α) (k : Nat) (a : α) : Map.find (Map.put m k a) k = some a := by
  induction m with
  | nil => simp [Map.put, Map.find]
  | cons x m ih =>
    obtain ⟨j, b⟩ := x
    simp only [Map.put]
    split
    · simp [Map.find]
    · split
      · simp [Map.find]
      · simp_all [Map.find]

theorem Map.find_put_ne {α : Type} (m : Map α) (k k' : Nat) (a : α) (h : k' ≠ k) :
    Map.find (Map.put m k a) k' = Map.find m k' := by
  induction m with
  | nil => simp [Map.put, Map.find, h]
  | cons x m ih =>
    obtain ⟨j, b⟩ := x
    simp only [Map.put]
    split
    · simp [Map.find, h]
    · split
      · subst_vars; simp [Map.find, h]
      · simp only [Map.find]; split <;> simp_all

theorem Map.find_put {α : Type} (m : Map α) (k k' : Nat) (a : α) :
    Map.find (Map.put m k a) k' = if k' = k then some a else Map.find m k' := by
  split
  · subst_vars; exact Map.find_put_same m _ a
  · exact Map.find_put_ne m k k' a ‹_›

@[simp] theorem Map.getD_put_same {α : Type} (m : Map α) (k : Nat) (a d : α) : Map.getD (Map.put m k a) k d = a := by
  simp [Map.getD, Map.find_put_same]

theorem Map.getD_put_ne {α : Type} (m : Map α) (k k' : Nat) (a d : α) (h : k' ≠ k) :
    Map.getD (Map.put m k a) k' d = Map.getD m k' d := by
  simp [Map.getD, Map.find_put_ne m k k' a h]

theorem Map.find_del_same {α : Type} (m : Map α) (k : Nat) : Map.find (Map.del m k) k = none := by
  induction m with
  | nil => rfl
  | cons x m ih =>
    obtain ⟨j, b⟩ := x
    simp only [Map.del]
    split
    · exact ih
    · simp_all [Map.find]

theorem Map.find_del_ne {α : Type} (m : Map α) (k k' : Nat) (h : k' ≠ k) : Map.find (Map.del m k) k' = Map.find m k' := by
  induction m with
  | nil => rfl
  | cons x m ih =>
    obtain ⟨j, b⟩ := x
    simp only [Map.del]
    split
    · subst_vars; simp [Map.find, h, ih]
    · simp only [Map.find, ih]

/-- Putting twice at one key keeps the second value. -/
theorem Map.put_put {α : Type} (m : Map α) (k : Nat) (a b : α) : Map.put (Map.put m k a) k b = Map.put m k b := by
  induction m with
  | nil => simp [Map.put]
  | cons x m ih =>
    obtain ⟨j, c⟩ := x
    simp only [Map.put]
    split
    · simp [Map.put]
    · split
      · simp [Map.put]
      · simp_all [Map.put]

/-- An entry after a put is the one put, or was there. -/
theorem Map.mem_put {α : Type} (m : Map α) (k : Nat) (a : α) (x : Nat × α) (h : x ∈ Map.put m k a) : x = (k, a) ∨ x ∈ m := by
  induction m with
  | nil => simpa [Map.put] using h
  | cons e m ih =>
    obtain ⟨j, b⟩ := e
    unfold Map.put at h
    split at h
    · simpa using h
    · split at h
      · rcases List.mem_cons.mp h with h | h
        · exact .inl h
        · exact .inr (List.mem_cons_of_mem _ h)
      · rcases List.mem_cons.mp h with h | h
        · exact .inr (h ▸ List.mem_cons_self ..)
        · rcases ih h with h | h
          · exact .inl h
          · exact .inr (List.mem_cons_of_mem _ h)

end Sys2Proof.Machine
end

