-- ==== Sys2Proof/Laws/State.lean ====
section
/-! SUPPORT. What each update of State leaves as it is: one lemma per update and field, true by rfl. -/
/- One declaration after another: the package as one text then needs few threads at a time. -/
set_option Elab.async false

namespace Sys2Proof.Machine

variable (s : State)

@[simp] theorem State.setRegAt_fuses (key v : Nat) : (s.setRegAt key v).fuses = s.fuses := rfl
@[simp] theorem State.setRegAt_clock (key v : Nat) : (s.setRegAt key v).clock = s.clock := rfl
@[simp] theorem State.setRegAt_mem (key v : Nat) : (s.setRegAt key v).mem = s.mem := rfl
@[simp] theorem State.setRegAt_poison (key v : Nat) : (s.setRegAt key v).poison = s.poison := rfl
@[simp] theorem State.setRegAt_cores (key v : Nat) : (s.setRegAt key v).cores = s.cores := rfl
@[simp] theorem State.setRegAt_parts (key v : Nat) : (s.setRegAt key v).parts = s.parts := rfl
@[simp] theorem State.setRegAt_tenants (key v : Nat) : (s.setRegAt key v).tenants = s.tenants := rfl
@[simp] theorem State.setRegAt_fab (key v : Nat) : (s.setRegAt key v).fab = s.fab := rfl
@[simp] theorem State.setRegAt_boot (key v : Nat) : (s.setRegAt key v).boot = s.boot := rfl
@[simp] theorem State.setRegAt_twin (key v : Nat) : (s.setRegAt key v).twin = s.twin := rfl
@[simp] theorem State.setRegAt_host (key v : Nat) : (s.setRegAt key v).host = s.host := rfl
@[simp] theorem State.setRegAt_time (key v : Nat) : (s.setRegAt key v).time = s.time := rfl
@[simp] theorem State.setRegAt_gov (key v : Nat) : (s.setRegAt key v).gov = s.gov := rfl
@[simp] theorem State.setRegAt_pins (key v : Nat) : (s.setRegAt key v).pins = s.pins := rfl
@[simp] theorem State.setRegAt_tap (key v : Nat) : (s.setRegAt key v).tap = s.tap := rfl
@[simp] theorem State.setRegAt_bench (key v : Nat) : (s.setRegAt key v).bench = s.bench := rfl
@[simp] theorem State.setRegAt_out (key v : Nat) : (s.setRegAt key v).out = s.out := rfl
@[simp] theorem State.setRegAt_free (key v : Nat) : (s.setRegAt key v).free = s.free := rfl
@[simp] theorem State.setRegAt_pending (key v : Nat) : (s.setRegAt key v).pending = s.pending := rfl

@[simp] theorem State.setB_fuses (f : Fld) (i b v : Nat) : (s.setB f i b v).fuses = s.fuses := rfl
@[simp] theorem State.setB_clock (f : Fld) (i b v : Nat) : (s.setB f i b v).clock = s.clock := rfl
@[simp] theorem State.setB_mem (f : Fld) (i b v : Nat) : (s.setB f i b v).mem = s.mem := rfl
@[simp] theorem State.setB_poison (f : Fld) (i b v : Nat) : (s.setB f i b v).poison = s.poison := rfl
@[simp] theorem State.setB_cores (f : Fld) (i b v : Nat) : (s.setB f i b v).cores = s.cores := rfl
@[simp] theorem State.setB_parts (f : Fld) (i b v : Nat) : (s.setB f i b v).parts = s.parts := rfl
@[simp] theorem State.setB_tenants (f : Fld) (i b v : Nat) : (s.setB f i b v).tenants = s.tenants := rfl
@[simp] theorem State.setB_fab (f : Fld) (i b v : Nat) : (s.setB f i b v).fab = s.fab := rfl
@[simp] theorem State.setB_boot (f : Fld) (i b v : Nat) : (s.setB f i b v).boot = s.boot := rfl
@[simp] theorem State.setB_twin (f : Fld) (i b v : Nat) : (s.setB f i b v).twin = s.twin := rfl
@[simp] theorem State.setB_host (f : Fld) (i b v : Nat) : (s.setB f i b v).host = s.host := rfl
@[simp] theorem State.setB_time (f : Fld) (i b v : Nat) : (s.setB f i b v).time = s.time := rfl
@[simp] theorem State.setB_gov (f : Fld) (i b v : Nat) : (s.setB f i b v).gov = s.gov := rfl
@[simp] theorem State.setB_pins (f : Fld) (i b v : Nat) : (s.setB f i b v).pins = s.pins := rfl
@[simp] theorem State.setB_tap (f : Fld) (i b v : Nat) : (s.setB f i b v).tap = s.tap := rfl
@[simp] theorem State.setB_bench (f : Fld) (i b v : Nat) : (s.setB f i b v).bench = s.bench := rfl
@[simp] theorem State.setB_out (f : Fld) (i b v : Nat) : (s.setB f i b v).out = s.out := rfl
@[simp] theorem State.setB_free (f : Fld) (i b v : Nat) : (s.setB f i b v).free = s.free := rfl
@[simp] theorem State.setB_pending (f : Fld) (i b v : Nat) : (s.setB f i b v).pending = s.pending := rfl

@[simp] theorem State.set_fuses (f : Fld) (i v : Nat) : (s.set f i v).fuses = s.fuses := rfl
@[simp] theorem State.set_clock (f : Fld) (i v : Nat) : (s.set f i v).clock = s.clock := rfl
@[simp] theorem State.set_mem (f : Fld) (i v : Nat) : (s.set f i v).mem = s.mem := rfl
@[simp] theorem State.set_poison (f : Fld) (i v : Nat) : (s.set f i v).poison = s.poison := rfl
@[simp] theorem State.set_cores (f : Fld) (i v : Nat) : (s.set f i v).cores = s.cores := rfl
@[simp] theorem State.set_parts (f : Fld) (i v : Nat) : (s.set f i v).parts = s.parts := rfl
@[simp] theorem State.set_tenants (f : Fld) (i v : Nat) : (s.set f i v).tenants = s.tenants := rfl
@[simp] theorem State.set_fab (f : Fld) (i v : Nat) : (s.set f i v).fab = s.fab := rfl
@[simp] theorem State.set_boot (f : Fld) (i v : Nat) : (s.set f i v).boot = s.boot := rfl
@[simp] theorem State.set_twin (f : Fld) (i v : Nat) : (s.set f i v).twin = s.twin := rfl
@[simp] theorem State.set_host (f : Fld) (i v : Nat) : (s.set f i v).host = s.host := rfl
@[simp] theorem State.set_time (f : Fld) (i v : Nat) : (s.set f i v).time = s.time := rfl
@[simp] theorem State.set_gov (f : Fld) (i v : Nat) : (s.set f i v).gov = s.gov := rfl
@[simp] theorem State.set_pins (f : Fld) (i v : Nat) : (s.set f i v).pins = s.pins := rfl
@[simp] theorem State.set_tap (f : Fld) (i v : Nat) : (s.set f i v).tap = s.tap := rfl
@[simp] theorem State.set_bench (f : Fld) (i v : Nat) : (s.set f i v).bench = s.bench := rfl
@[simp] theorem State.set_out (f : Fld) (i v : Nat) : (s.set f i v).out = s.out := rfl
@[simp] theorem State.set_free (f : Fld) (i v : Nat) : (s.set f i v).free = s.free := rfl
@[simp] theorem State.set_pending (f : Fld) (i v : Nat) : (s.set f i v).pending = s.pending := rfl

@[simp] theorem State.bump_fuses (f : Fld) (i n : Nat) : (s.bump f i n).fuses = s.fuses := rfl
@[simp] theorem State.bump_clock (f : Fld) (i n : Nat) : (s.bump f i n).clock = s.clock := rfl
@[simp] theorem State.bump_mem (f : Fld) (i n : Nat) : (s.bump f i n).mem = s.mem := rfl
@[simp] theorem State.bump_poison (f : Fld) (i n : Nat) : (s.bump f i n).poison = s.poison := rfl
@[simp] theorem State.bump_cores (f : Fld) (i n : Nat) : (s.bump f i n).cores = s.cores := rfl
@[simp] theorem State.bump_parts (f : Fld) (i n : Nat) : (s.bump f i n).parts = s.parts := rfl
@[simp] theorem State.bump_tenants (f : Fld) (i n : Nat) : (s.bump f i n).tenants = s.tenants := rfl
@[simp] theorem State.bump_fab (f : Fld) (i n : Nat) : (s.bump f i n).fab = s.fab := rfl
@[simp] theorem State.bump_boot (f : Fld) (i n : Nat) : (s.bump f i n).boot = s.boot := rfl
@[simp] theorem State.bump_twin (f : Fld) (i n : Nat) : (s.bump f i n).twin = s.twin := rfl
@[simp] theorem State.bump_host (f : Fld) (i n : Nat) : (s.bump f i n).host = s.host := rfl
@[simp] theorem State.bump_time (f : Fld) (i n : Nat) : (s.bump f i n).time = s.time := rfl
@[simp] theorem State.bump_gov (f : Fld) (i n : Nat) : (s.bump f i n).gov = s.gov := rfl
@[simp] theorem State.bump_pins (f : Fld) (i n : Nat) : (s.bump f i n).pins = s.pins := rfl
@[simp] theorem State.bump_tap (f : Fld) (i n : Nat) : (s.bump f i n).tap = s.tap := rfl
@[simp] theorem State.bump_bench (f : Fld) (i n : Nat) : (s.bump f i n).bench = s.bench := rfl
@[simp] theorem State.bump_out (f : Fld) (i n : Nat) : (s.bump f i n).out = s.out := rfl
@[simp] theorem State.bump_free (f : Fld) (i n : Nat) : (s.bump f i n).free = s.free := rfl
@[simp] theorem State.bump_pending (f : Fld) (i n : Nat) : (s.bump f i n).pending = s.pending := rfl

@[simp] theorem State.bumpB_fuses (f : Fld) (i b n : Nat) : (s.bumpB f i b n).fuses = s.fuses := rfl
@[simp] theorem State.bumpB_clock (f : Fld) (i b n : Nat) : (s.bumpB f i b n).clock = s.clock := rfl
@[simp] theorem State.bumpB_mem (f : Fld) (i b n : Nat) : (s.bumpB f i b n).mem = s.mem := rfl
@[simp] theorem State.bumpB_poison (f : Fld) (i b n : Nat) : (s.bumpB f i b n).poison = s.poison := rfl
@[simp] theorem State.bumpB_cores (f : Fld) (i b n : Nat) : (s.bumpB f i b n).cores = s.cores := rfl
@[simp] theorem State.bumpB_parts (f : Fld) (i b n : Nat) : (s.bumpB f i b n).parts = s.parts := rfl
@[simp] theorem State.bumpB_tenants (f : Fld) (i b n : Nat) : (s.bumpB f i b n).tenants = s.tenants := rfl
@[simp] theorem State.bumpB_fab (f : Fld) (i b n : Nat) : (s.bumpB f i b n).fab = s.fab := rfl
@[simp] theorem State.bumpB_boot (f : Fld) (i b n : Nat) : (s.bumpB f i b n).boot = s.boot := rfl
@[simp] theorem State.bumpB_twin (f : Fld) (i b n : Nat) : (s.bumpB f i b n).twin = s.twin := rfl
@[simp] theorem State.bumpB_host (f : Fld) (i b n : Nat) : (s.bumpB f i b n).host = s.host := rfl
@[simp] theorem State.bumpB_time (f : Fld) (i b n : Nat) : (s.bumpB f i b n).time = s.time := rfl
@[simp] theorem State.bumpB_gov (f : Fld) (i b n : Nat) : (s.bumpB f i b n).gov = s.gov := rfl
@[simp] theorem State.bumpB_pins (f : Fld) (i b n : Nat) : (s.bumpB f i b n).pins = s.pins := rfl
@[simp] theorem State.bumpB_tap (f : Fld) (i b n : Nat) : (s.bumpB f i b n).tap = s.tap := rfl
@[simp] theorem State.bumpB_bench (f : Fld) (i b n : Nat) : (s.bumpB f i b n).bench = s.bench := rfl
@[simp] theorem State.bumpB_out (f : Fld) (i b n : Nat) : (s.bumpB f i b n).out = s.out := rfl
@[simp] theorem State.bumpB_free (f : Fld) (i b n : Nat) : (s.bumpB f i b n).free = s.free := rfl
@[simp] theorem State.bumpB_pending (f : Fld) (i b n : Nat) : (s.bumpB f i b n).pending = s.pending := rfl

@[simp] theorem State.setCore_fuses (c : Nat) (k : Core) : (s.setCore c k).fuses = s.fuses := rfl
@[simp] theorem State.setCore_clock (c : Nat) (k : Core) : (s.setCore c k).clock = s.clock := rfl
@[simp] theorem State.setCore_regs (c : Nat) (k : Core) : (s.setCore c k).regs = s.regs := rfl
@[simp] theorem State.setCore_mem (c : Nat) (k : Core) : (s.setCore c k).mem = s.mem := rfl
@[simp] theorem State.setCore_poison (c : Nat) (k : Core) : (s.setCore c k).poison = s.poison := rfl
@[simp] theorem State.setCore_parts (c : Nat) (k : Core) : (s.setCore c k).parts = s.parts := rfl
@[simp] theorem State.setCore_tenants (c : Nat) (k : Core) : (s.setCore c k).tenants = s.tenants := rfl
@[simp] theorem State.setCore_fab (c : Nat) (k : Core) : (s.setCore c k).fab = s.fab := rfl
@[simp] theorem State.setCore_boot (c : Nat) (k : Core) : (s.setCore c k).boot = s.boot := rfl
@[simp] theorem State.setCore_twin (c : Nat) (k : Core) : (s.setCore c k).twin = s.twin := rfl
@[simp] theorem State.setCore_host (c : Nat) (k : Core) : (s.setCore c k).host = s.host := rfl
@[simp] theorem State.setCore_time (c : Nat) (k : Core) : (s.setCore c k).time = s.time := rfl
@[simp] theorem State.setCore_gov (c : Nat) (k : Core) : (s.setCore c k).gov = s.gov := rfl
@[simp] theorem State.setCore_pins (c : Nat) (k : Core) : (s.setCore c k).pins = s.pins := rfl
@[simp] theorem State.setCore_tap (c : Nat) (k : Core) : (s.setCore c k).tap = s.tap := rfl
@[simp] theorem State.setCore_bench (c : Nat) (k : Core) : (s.setCore c k).bench = s.bench := rfl
@[simp] theorem State.setCore_out (c : Nat) (k : Core) : (s.setCore c k).out = s.out := rfl
@[simp] theorem State.setCore_free (c : Nat) (k : Core) : (s.setCore c k).free = s.free := rfl
@[simp] theorem State.setCore_pending (c : Nat) (k : Core) : (s.setCore c k).pending = s.pending := rfl

@[simp] theorem State.onCore_fuses (c : Nat) (g : Core → Core) : (s.onCore c g).fuses = s.fuses := rfl
@[simp] theorem State.onCore_clock (c : Nat) (g : Core → Core) : (s.onCore c g).clock = s.clock := rfl
@[simp] theorem State.onCore_regs (c : Nat) (g : Core → Core) : (s.onCore c g).regs = s.regs := rfl
@[simp] theorem State.onCore_mem (c : Nat) (g : Core → Core) : (s.onCore c g).mem = s.mem := rfl
@[simp] theorem State.onCore_poison (c : Nat) (g : Core → Core) : (s.onCore c g).poison = s.poison := rfl
@[simp] theorem State.onCore_parts (c : Nat) (g : Core → Core) : (s.onCore c g).parts = s.parts := rfl
@[simp] theorem State.onCore_tenants (c : Nat) (g : Core → Core) : (s.onCore c g).tenants = s.tenants := rfl
@[simp] theorem State.onCore_fab (c : Nat) (g : Core → Core) : (s.onCore c g).fab = s.fab := rfl
@[simp] theorem State.onCore_boot (c : Nat) (g : Core → Core) : (s.onCore c g).boot = s.boot := rfl
@[simp] theorem State.onCore_twin (c : Nat) (g : Core → Core) : (s.onCore c g).twin = s.twin := rfl
@[simp] theorem State.onCore_host (c : Nat) (g : Core → Core) : (s.onCore c g).host = s.host := rfl
@[simp] theorem State.onCore_time (c : Nat) (g : Core → Core) : (s.onCore c g).time = s.time := rfl
@[simp] theorem State.onCore_gov (c : Nat) (g : Core → Core) : (s.onCore c g).gov = s.gov := rfl
@[simp] theorem State.onCore_pins (c : Nat) (g : Core → Core) : (s.onCore c g).pins = s.pins := rfl
@[simp] theorem State.onCore_tap (c : Nat) (g : Core → Core) : (s.onCore c g).tap = s.tap := rfl
@[simp] theorem State.onCore_bench (c : Nat) (g : Core → Core) : (s.onCore c g).bench = s.bench := rfl
@[simp] theorem State.onCore_out (c : Nat) (g : Core → Core) : (s.onCore c g).out = s.out := rfl
@[simp] theorem State.onCore_free (c : Nat) (g : Core → Core) : (s.onCore c g).free = s.free := rfl
@[simp] theorem State.onCore_pending (c : Nat) (g : Core → Core) : (s.onCore c g).pending = s.pending := rfl

@[simp] theorem State.setPart_fuses (p : Nat) (k : Part) : (s.setPart p k).fuses = s.fuses := rfl
@[simp] theorem State.setPart_clock (p : Nat) (k : Part) : (s.setPart p k).clock = s.clock := rfl
@[simp] theorem State.setPart_regs (p : Nat) (k : Part) : (s.setPart p k).regs = s.regs := rfl
@[simp] theorem State.setPart_mem (p : Nat) (k : Part) : (s.setPart p k).mem = s.mem := rfl
@[simp] theorem State.setPart_poison (p : Nat) (k : Part) : (s.setPart p k).poison = s.poison := rfl
@[simp] theorem State.setPart_cores (p : Nat) (k : Part) : (s.setPart p k).cores = s.cores := rfl
@[simp] theorem State.setPart_tenants (p : Nat) (k : Part) : (s.setPart p k).tenants = s.tenants := rfl
@[simp] theorem State.setPart_fab (p : Nat) (k : Part) : (s.setPart p k).fab = s.fab := rfl
@[simp] theorem State.setPart_boot (p : Nat) (k : Part) : (s.setPart p k).boot = s.boot := rfl
@[simp] theorem State.setPart_twin (p : Nat) (k : Part) : (s.setPart p k).twin = s.twin := rfl
@[simp] theorem State.setPart_host (p : Nat) (k : Part) : (s.setPart p k).host = s.host := rfl
@[simp] theorem State.setPart_time (p : Nat) (k : Part) : (s.setPart p k).time = s.time := rfl
@[simp] theorem State.setPart_gov (p : Nat) (k : Part) : (s.setPart p k).gov = s.gov := rfl
@[simp] theorem State.setPart_pins (p : Nat) (k : Part) : (s.setPart p k).pins = s.pins := rfl
@[simp] theorem State.setPart_tap (p : Nat) (k : Part) : (s.setPart p k).tap = s.tap := rfl
@[simp] theorem State.setPart_bench (p : Nat) (k : Part) : (s.setPart p k).bench = s.bench := rfl
@[simp] theorem State.setPart_out (p : Nat) (k : Part) : (s.setPart p k).out = s.out := rfl
@[simp] theorem State.setPart_free (p : Nat) (k : Part) : (s.setPart p k).free = s.free := rfl
@[simp] theorem State.setPart_pending (p : Nat) (k : Part) : (s.setPart p k).pending = s.pending := rfl

@[simp] theorem State.onPart_fuses (p : Nat) (g : Part → Part) : (s.onPart p g).fuses = s.fuses := rfl
@[simp] theorem State.onPart_clock (p : Nat) (g : Part → Part) : (s.onPart p g).clock = s.clock := rfl
@[simp] theorem State.onPart_regs (p : Nat) (g : Part → Part) : (s.onPart p g).regs = s.regs := rfl
@[simp] theorem State.onPart_mem (p : Nat) (g : Part → Part) : (s.onPart p g).mem = s.mem := rfl
@[simp] theorem State.onPart_poison (p : Nat) (g : Part → Part) : (s.onPart p g).poison = s.poison := rfl
@[simp] theorem State.onPart_cores (p : Nat) (g : Part → Part) : (s.onPart p g).cores = s.cores := rfl
@[simp] theorem State.onPart_tenants (p : Nat) (g : Part → Part) : (s.onPart p g).tenants = s.tenants := rfl
@[simp] theorem State.onPart_fab (p : Nat) (g : Part → Part) : (s.onPart p g).fab = s.fab := rfl
@[simp] theorem State.onPart_boot (p : Nat) (g : Part → Part) : (s.onPart p g).boot = s.boot := rfl
@[simp] theorem State.onPart_twin (p : Nat) (g : Part → Part) : (s.onPart p g).twin = s.twin := rfl
@[simp] theorem State.onPart_host (p : Nat) (g : Part → Part) : (s.onPart p g).host = s.host := rfl
@[simp] theorem State.onPart_time (p : Nat) (g : Part → Part) : (s.onPart p g).time = s.time := rfl
@[simp] theorem State.onPart_gov (p : Nat) (g : Part → Part) : (s.onPart p g).gov = s.gov := rfl
@[simp] theorem State.onPart_pins (p : Nat) (g : Part → Part) : (s.onPart p g).pins = s.pins := rfl
@[simp] theorem State.onPart_tap (p : Nat) (g : Part → Part) : (s.onPart p g).tap = s.tap := rfl
@[simp] theorem State.onPart_bench (p : Nat) (g : Part → Part) : (s.onPart p g).bench = s.bench := rfl
@[simp] theorem State.onPart_out (p : Nat) (g : Part → Part) : (s.onPart p g).out = s.out := rfl
@[simp] theorem State.onPart_free (p : Nat) (g : Part → Part) : (s.onPart p g).free = s.free := rfl
@[simp] theorem State.onPart_pending (p : Nat) (g : Part → Part) : (s.onPart p g).pending = s.pending := rfl

@[simp] theorem State.onSched_fuses (p : Nat) (g : Sched → Sched) : (s.onSched p g).fuses = s.fuses := rfl
@[simp] theorem State.onSched_clock (p : Nat) (g : Sched → Sched) : (s.onSched p g).clock = s.clock := rfl
@[simp] theorem State.onSched_regs (p : Nat) (g : Sched → Sched) : (s.onSched p g).regs = s.regs := rfl
@[simp] theorem State.onSched_mem (p : Nat) (g : Sched → Sched) : (s.onSched p g).mem = s.mem := rfl
@[simp] theorem State.onSched_poison (p : Nat) (g : Sched → Sched) : (s.onSched p g).poison = s.poison := rfl
@[simp] theorem State.onSched_cores (p : Nat) (g : Sched → Sched) : (s.onSched p g).cores = s.cores := rfl
@[simp] theorem State.onSched_tenants (p : Nat) (g : Sched → Sched) : (s.onSched p g).tenants = s.tenants := rfl
@[simp] theorem State.onSched_fab (p : Nat) (g : Sched → Sched) : (s.onSched p g).fab = s.fab := rfl
@[simp] theorem State.onSched_boot (p : Nat) (g : Sched → Sched) : (s.onSched p g).boot = s.boot := rfl
@[simp] theorem State.onSched_twin (p : Nat) (g : Sched → Sched) : (s.onSched p g).twin = s.twin := rfl
@[simp] theorem State.onSched_host (p : Nat) (g : Sched → Sched) : (s.onSched p g).host = s.host := rfl
@[simp] theorem State.onSched_time (p : Nat) (g : Sched → Sched) : (s.onSched p g).time = s.time := rfl
@[simp] theorem State.onSched_gov (p : Nat) (g : Sched → Sched) : (s.onSched p g).gov = s.gov := rfl
@[simp] theorem State.onSched_pins (p : Nat) (g : Sched → Sched) : (s.onSched p g).pins = s.pins := rfl
@[simp] theorem State.onSched_tap (p : Nat) (g : Sched → Sched) : (s.onSched p g).tap = s.tap := rfl
@[simp] theorem State.onSched_bench (p : Nat) (g : Sched → Sched) : (s.onSched p g).bench = s.bench := rfl
@[simp] theorem State.onSched_out (p : Nat) (g : Sched → Sched) : (s.onSched p g).out = s.out := rfl
@[simp] theorem State.onSched_free (p : Nat) (g : Sched → Sched) : (s.onSched p g).free = s.free := rfl
@[simp] theorem State.onSched_pending (p : Nat) (g : Sched → Sched) : (s.onSched p g).pending = s.pending := rfl

@[simp] theorem State.onTiers_fuses (p : Nat) (g : Tiers → Tiers) : (s.onTiers p g).fuses = s.fuses := rfl
@[simp] theorem State.onTiers_clock (p : Nat) (g : Tiers → Tiers) : (s.onTiers p g).clock = s.clock := rfl
@[simp] theorem State.onTiers_regs (p : Nat) (g : Tiers → Tiers) : (s.onTiers p g).regs = s.regs := rfl
@[simp] theorem State.onTiers_mem (p : Nat) (g : Tiers → Tiers) : (s.onTiers p g).mem = s.mem := rfl
@[simp] theorem State.onTiers_poison (p : Nat) (g : Tiers → Tiers) : (s.onTiers p g).poison = s.poison := rfl
@[simp] theorem State.onTiers_cores (p : Nat) (g : Tiers → Tiers) : (s.onTiers p g).cores = s.cores := rfl
@[simp] theorem State.onTiers_tenants (p : Nat) (g : Tiers → Tiers) : (s.onTiers p g).tenants = s.tenants := rfl
@[simp] theorem State.onTiers_fab (p : Nat) (g : Tiers → Tiers) : (s.onTiers p g).fab = s.fab := rfl
@[simp] theorem State.onTiers_boot (p : Nat) (g : Tiers → Tiers) : (s.onTiers p g).boot = s.boot := rfl
@[simp] theorem State.onTiers_twin (p : Nat) (g : Tiers → Tiers) : (s.onTiers p g).twin = s.twin := rfl
@[simp] theorem State.onTiers_host (p : Nat) (g : Tiers → Tiers) : (s.onTiers p g).host = s.host := rfl
@[simp] theorem State.onTiers_time (p : Nat) (g : Tiers → Tiers) : (s.onTiers p g).time = s.time := rfl
@[simp] theorem State.onTiers_gov (p : Nat) (g : Tiers → Tiers) : (s.onTiers p g).gov = s.gov := rfl
@[simp] theorem State.onTiers_pins (p : Nat) (g : Tiers → Tiers) : (s.onTiers p g).pins = s.pins := rfl
@[simp] theorem State.onTiers_tap (p : Nat) (g : Tiers → Tiers) : (s.onTiers p g).tap = s.tap := rfl
@[simp] theorem State.onTiers_bench (p : Nat) (g : Tiers → Tiers) : (s.onTiers p g).bench = s.bench := rfl
@[simp] theorem State.onTiers_out (p : Nat) (g : Tiers → Tiers) : (s.onTiers p g).out = s.out := rfl
@[simp] theorem State.onTiers_free (p : Nat) (g : Tiers → Tiers) : (s.onTiers p g).free = s.free := rfl
@[simp] theorem State.onTiers_pending (p : Nat) (g : Tiers → Tiers) : (s.onTiers p g).pending = s.pending := rfl

@[simp] theorem State.onGen_fuses (p : Nat) (g : Gen → Gen) : (s.onGen p g).fuses = s.fuses := rfl
@[simp] theorem State.onGen_clock (p : Nat) (g : Gen → Gen) : (s.onGen p g).clock = s.clock := rfl
@[simp] theorem State.onGen_regs (p : Nat) (g : Gen → Gen) : (s.onGen p g).regs = s.regs := rfl
@[simp] theorem State.onGen_mem (p : Nat) (g : Gen → Gen) : (s.onGen p g).mem = s.mem := rfl
@[simp] theorem State.onGen_poison (p : Nat) (g : Gen → Gen) : (s.onGen p g).poison = s.poison := rfl
@[simp] theorem State.onGen_cores (p : Nat) (g : Gen → Gen) : (s.onGen p g).cores = s.cores := rfl
@[simp] theorem State.onGen_tenants (p : Nat) (g : Gen → Gen) : (s.onGen p g).tenants = s.tenants := rfl
@[simp] theorem State.onGen_fab (p : Nat) (g : Gen → Gen) : (s.onGen p g).fab = s.fab := rfl
@[simp] theorem State.onGen_boot (p : Nat) (g : Gen → Gen) : (s.onGen p g).boot = s.boot := rfl
@[simp] theorem State.onGen_twin (p : Nat) (g : Gen → Gen) : (s.onGen p g).twin = s.twin := rfl
@[simp] theorem State.onGen_host (p : Nat) (g : Gen → Gen) : (s.onGen p g).host = s.host := rfl
@[simp] theorem State.onGen_time (p : Nat) (g : Gen → Gen) : (s.onGen p g).time = s.time := rfl
@[simp] theorem State.onGen_gov (p : Nat) (g : Gen → Gen) : (s.onGen p g).gov = s.gov := rfl
@[simp] theorem State.onGen_pins (p : Nat) (g : Gen → Gen) : (s.onGen p g).pins = s.pins := rfl
@[simp] theorem State.onGen_tap (p : Nat) (g : Gen → Gen) : (s.onGen p g).tap = s.tap := rfl
@[simp] theorem State.onGen_bench (p : Nat) (g : Gen → Gen) : (s.onGen p g).bench = s.bench := rfl
@[simp] theorem State.onGen_out (p : Nat) (g : Gen → Gen) : (s.onGen p g).out = s.out := rfl
@[simp] theorem State.onGen_free (p : Nat) (g : Gen → Gen) : (s.onGen p g).free = s.free := rfl
@[simp] theorem State.onGen_pending (p : Nat) (g : Gen → Gen) : (s.onGen p g).pending = s.pending := rfl

@[simp] theorem State.onRed_fuses (p : Nat) (g : Red → Red) : (s.onRed p g).fuses = s.fuses := rfl
@[simp] theorem State.onRed_clock (p : Nat) (g : Red → Red) : (s.onRed p g).clock = s.clock := rfl
@[simp] theorem State.onRed_regs (p : Nat) (g : Red → Red) : (s.onRed p g).regs = s.regs := rfl
@[simp] theorem State.onRed_mem (p : Nat) (g : Red → Red) : (s.onRed p g).mem = s.mem := rfl
@[simp] theorem State.onRed_poison (p : Nat) (g : Red → Red) : (s.onRed p g).poison = s.poison := rfl
@[simp] theorem State.onRed_cores (p : Nat) (g : Red → Red) : (s.onRed p g).cores = s.cores := rfl
@[simp] theorem State.onRed_tenants (p : Nat) (g : Red → Red) : (s.onRed p g).tenants = s.tenants := rfl
@[simp] theorem State.onRed_fab (p : Nat) (g : Red → Red) : (s.onRed p g).fab = s.fab := rfl
@[simp] theorem State.onRed_boot (p : Nat) (g : Red → Red) : (s.onRed p g).boot = s.boot := rfl
@[simp] theorem State.onRed_twin (p : Nat) (g : Red → Red) : (s.onRed p g).twin = s.twin := rfl
@[simp] theorem State.onRed_host (p : Nat) (g : Red → Red) : (s.onRed p g).host = s.host := rfl
@[simp] theorem State.onRed_time (p : Nat) (g : Red → Red) : (s.onRed p g).time = s.time := rfl
@[simp] theorem State.onRed_gov (p : Nat) (g : Red → Red) : (s.onRed p g).gov = s.gov := rfl
@[simp] theorem State.onRed_pins (p : Nat) (g : Red → Red) : (s.onRed p g).pins = s.pins := rfl
@[simp] theorem State.onRed_tap (p : Nat) (g : Red → Red) : (s.onRed p g).tap = s.tap := rfl
@[simp] theorem State.onRed_bench (p : Nat) (g : Red → Red) : (s.onRed p g).bench = s.bench := rfl
@[simp] theorem State.onRed_out (p : Nat) (g : Red → Red) : (s.onRed p g).out = s.out := rfl
@[simp] theorem State.onRed_free (p : Nat) (g : Red → Red) : (s.onRed p g).free = s.free := rfl
@[simp] theorem State.onRed_pending (p : Nat) (g : Red → Red) : (s.onRed p g).pending = s.pending := rfl

@[simp] theorem State.onUpd_fuses (p : Nat) (g : Upd → Upd) : (s.onUpd p g).fuses = s.fuses := rfl
@[simp] theorem State.onUpd_clock (p : Nat) (g : Upd → Upd) : (s.onUpd p g).clock = s.clock := rfl
@[simp] theorem State.onUpd_regs (p : Nat) (g : Upd → Upd) : (s.onUpd p g).regs = s.regs := rfl
@[simp] theorem State.onUpd_mem (p : Nat) (g : Upd → Upd) : (s.onUpd p g).mem = s.mem := rfl
@[simp] theorem State.onUpd_poison (p : Nat) (g : Upd → Upd) : (s.onUpd p g).poison = s.poison := rfl
@[simp] theorem State.onUpd_cores (p : Nat) (g : Upd → Upd) : (s.onUpd p g).cores = s.cores := rfl
@[simp] theorem State.onUpd_tenants (p : Nat) (g : Upd → Upd) : (s.onUpd p g).tenants = s.tenants := rfl
@[simp] theorem State.onUpd_fab (p : Nat) (g : Upd → Upd) : (s.onUpd p g).fab = s.fab := rfl
@[simp] theorem State.onUpd_boot (p : Nat) (g : Upd → Upd) : (s.onUpd p g).boot = s.boot := rfl
@[simp] theorem State.onUpd_twin (p : Nat) (g : Upd → Upd) : (s.onUpd p g).twin = s.twin := rfl
@[simp] theorem State.onUpd_host (p : Nat) (g : Upd → Upd) : (s.onUpd p g).host = s.host := rfl
@[simp] theorem State.onUpd_time (p : Nat) (g : Upd → Upd) : (s.onUpd p g).time = s.time := rfl
@[simp] theorem State.onUpd_gov (p : Nat) (g : Upd → Upd) : (s.onUpd p g).gov = s.gov := rfl
@[simp] theorem State.onUpd_pins (p : Nat) (g : Upd → Upd) : (s.onUpd p g).pins = s.pins := rfl
@[simp] theorem State.onUpd_tap (p : Nat) (g : Upd → Upd) : (s.onUpd p g).tap = s.tap := rfl
@[simp] theorem State.onUpd_bench (p : Nat) (g : Upd → Upd) : (s.onUpd p g).bench = s.bench := rfl
@[simp] theorem State.onUpd_out (p : Nat) (g : Upd → Upd) : (s.onUpd p g).out = s.out := rfl
@[simp] theorem State.onUpd_free (p : Nat) (g : Upd → Upd) : (s.onUpd p g).free = s.free := rfl
@[simp] theorem State.onUpd_pending (p : Nat) (g : Upd → Upd) : (s.onUpd p g).pending = s.pending := rfl

@[simp] theorem State.onChecks_fuses (p : Nat) (g : Checks → Checks) : (s.onChecks p g).fuses = s.fuses := rfl
@[simp] theorem State.onChecks_clock (p : Nat) (g : Checks → Checks) : (s.onChecks p g).clock = s.clock := rfl
@[simp] theorem State.onChecks_regs (p : Nat) (g : Checks → Checks) : (s.onChecks p g).regs = s.regs := rfl
@[simp] theorem State.onChecks_mem (p : Nat) (g : Checks → Checks) : (s.onChecks p g).mem = s.mem := rfl
@[simp] theorem State.onChecks_poison (p : Nat) (g : Checks → Checks) : (s.onChecks p g).poison = s.poison := rfl
@[simp] theorem State.onChecks_cores (p : Nat) (g : Checks → Checks) : (s.onChecks p g).cores = s.cores := rfl
@[simp] theorem State.onChecks_tenants (p : Nat) (g : Checks → Checks) : (s.onChecks p g).tenants = s.tenants := rfl
@[simp] theorem State.onChecks_fab (p : Nat) (g : Checks → Checks) : (s.onChecks p g).fab = s.fab := rfl
@[simp] theorem State.onChecks_boot (p : Nat) (g : Checks → Checks) : (s.onChecks p g).boot = s.boot := rfl
@[simp] theorem State.onChecks_twin (p : Nat) (g : Checks → Checks) : (s.onChecks p g).twin = s.twin := rfl
@[simp] theorem State.onChecks_host (p : Nat) (g : Checks → Checks) : (s.onChecks p g).host = s.host := rfl
@[simp] theorem State.onChecks_time (p : Nat) (g : Checks → Checks) : (s.onChecks p g).time = s.time := rfl
@[simp] theorem State.onChecks_gov (p : Nat) (g : Checks → Checks) : (s.onChecks p g).gov = s.gov := rfl
@[simp] theorem State.onChecks_pins (p : Nat) (g : Checks → Checks) : (s.onChecks p g).pins = s.pins := rfl
@[simp] theorem State.onChecks_tap (p : Nat) (g : Checks → Checks) : (s.onChecks p g).tap = s.tap := rfl
@[simp] theorem State.onChecks_bench (p : Nat) (g : Checks → Checks) : (s.onChecks p g).bench = s.bench := rfl
@[simp] theorem State.onChecks_out (p : Nat) (g : Checks → Checks) : (s.onChecks p g).out = s.out := rfl
@[simp] theorem State.onChecks_free (p : Nat) (g : Checks → Checks) : (s.onChecks p g).free = s.free := rfl
@[simp] theorem State.onChecks_pending (p : Nat) (g : Checks → Checks) : (s.onChecks p g).pending = s.pending := rfl

@[simp] theorem State.onBulk_fuses (p : Nat) (g : Bulk → Bulk) : (s.onBulk p g).fuses = s.fuses := rfl
@[simp] theorem State.onBulk_clock (p : Nat) (g : Bulk → Bulk) : (s.onBulk p g).clock = s.clock := rfl
@[simp] theorem State.onBulk_regs (p : Nat) (g : Bulk → Bulk) : (s.onBulk p g).regs = s.regs := rfl
@[simp] theorem State.onBulk_mem (p : Nat) (g : Bulk → Bulk) : (s.onBulk p g).mem = s.mem := rfl
@[simp] theorem State.onBulk_poison (p : Nat) (g : Bulk → Bulk) : (s.onBulk p g).poison = s.poison := rfl
@[simp] theorem State.onBulk_cores (p : Nat) (g : Bulk → Bulk) : (s.onBulk p g).cores = s.cores := rfl
@[simp] theorem State.onBulk_tenants (p : Nat) (g : Bulk → Bulk) : (s.onBulk p g).tenants = s.tenants := rfl
@[simp] theorem State.onBulk_fab (p : Nat) (g : Bulk → Bulk) : (s.onBulk p g).fab = s.fab := rfl
@[simp] theorem State.onBulk_boot (p : Nat) (g : Bulk → Bulk) : (s.onBulk p g).boot = s.boot := rfl
@[simp] theorem State.onBulk_twin (p : Nat) (g : Bulk → Bulk) : (s.onBulk p g).twin = s.twin := rfl
@[simp] theorem State.onBulk_host (p : Nat) (g : Bulk → Bulk) : (s.onBulk p g).host = s.host := rfl
@[simp] theorem State.onBulk_time (p : Nat) (g : Bulk → Bulk) : (s.onBulk p g).time = s.time := rfl
@[simp] theorem State.onBulk_gov (p : Nat) (g : Bulk → Bulk) : (s.onBulk p g).gov = s.gov := rfl
@[simp] theorem State.onBulk_pins (p : Nat) (g : Bulk → Bulk) : (s.onBulk p g).pins = s.pins := rfl
@[simp] theorem State.onBulk_tap (p : Nat) (g : Bulk → Bulk) : (s.onBulk p g).tap = s.tap := rfl
@[simp] theorem State.onBulk_bench (p : Nat) (g : Bulk → Bulk) : (s.onBulk p g).bench = s.bench := rfl
@[simp] theorem State.onBulk_out (p : Nat) (g : Bulk → Bulk) : (s.onBulk p g).out = s.out := rfl
@[simp] theorem State.onBulk_free (p : Nat) (g : Bulk → Bulk) : (s.onBulk p g).free = s.free := rfl
@[simp] theorem State.onBulk_pending (p : Nat) (g : Bulk → Bulk) : (s.onBulk p g).pending = s.pending := rfl

@[simp] theorem State.onCkpt_fuses (p : Nat) (g : Ckpt → Ckpt) : (s.onCkpt p g).fuses = s.fuses := rfl
@[simp] theorem State.onCkpt_clock (p : Nat) (g : Ckpt → Ckpt) : (s.onCkpt p g).clock = s.clock := rfl
@[simp] theorem State.onCkpt_regs (p : Nat) (g : Ckpt → Ckpt) : (s.onCkpt p g).regs = s.regs := rfl
@[simp] theorem State.onCkpt_mem (p : Nat) (g : Ckpt → Ckpt) : (s.onCkpt p g).mem = s.mem := rfl
@[simp] theorem State.onCkpt_poison (p : Nat) (g : Ckpt → Ckpt) : (s.onCkpt p g).poison = s.poison := rfl
@[simp] theorem State.onCkpt_cores (p : Nat) (g : Ckpt → Ckpt) : (s.onCkpt p g).cores = s.cores := rfl
@[simp] theorem State.onCkpt_tenants (p : Nat) (g : Ckpt → Ckpt) : (s.onCkpt p g).tenants = s.tenants := rfl
@[simp] theorem State.onCkpt_fab (p : Nat) (g : Ckpt → Ckpt) : (s.onCkpt p g).fab = s.fab := rfl
@[simp] theorem State.onCkpt_boot (p : Nat) (g : Ckpt → Ckpt) : (s.onCkpt p g).boot = s.boot := rfl
@[simp] theorem State.onCkpt_twin (p : Nat) (g : Ckpt → Ckpt) : (s.onCkpt p g).twin = s.twin := rfl
@[simp] theorem State.onCkpt_host (p : Nat) (g : Ckpt → Ckpt) : (s.onCkpt p g).host = s.host := rfl
@[simp] theorem State.onCkpt_time (p : Nat) (g : Ckpt → Ckpt) : (s.onCkpt p g).time = s.time := rfl
@[simp] theorem State.onCkpt_gov (p : Nat) (g : Ckpt → Ckpt) : (s.onCkpt p g).gov = s.gov := rfl
@[simp] theorem State.onCkpt_pins (p : Nat) (g : Ckpt → Ckpt) : (s.onCkpt p g).pins = s.pins := rfl
@[simp] theorem State.onCkpt_tap (p : Nat) (g : Ckpt → Ckpt) : (s.onCkpt p g).tap = s.tap := rfl
@[simp] theorem State.onCkpt_bench (p : Nat) (g : Ckpt → Ckpt) : (s.onCkpt p g).bench = s.bench := rfl
@[simp] theorem State.onCkpt_out (p : Nat) (g : Ckpt → Ckpt) : (s.onCkpt p g).out = s.out := rfl
@[simp] theorem State.onCkpt_free (p : Nat) (g : Ckpt → Ckpt) : (s.onCkpt p g).free = s.free := rfl
@[simp] theorem State.onCkpt_pending (p : Nat) (g : Ckpt → Ckpt) : (s.onCkpt p g).pending = s.pending := rfl

@[simp] theorem State.onWslot_fuses (p n : Nat) (g : WSlot → WSlot) : (s.onWslot p n g).fuses = s.fuses := rfl
@[simp] theorem State.onWslot_clock (p n : Nat) (g : WSlot → WSlot) : (s.onWslot p n g).clock = s.clock := rfl
@[simp] theorem State.onWslot_regs (p n : Nat) (g : WSlot → WSlot) : (s.onWslot p n g).regs = s.regs := rfl
@[simp] theorem State.onWslot_mem (p n : Nat) (g : WSlot → WSlot) : (s.onWslot p n g).mem = s.mem := rfl
@[simp] theorem State.onWslot_poison (p n : Nat) (g : WSlot → WSlot) : (s.onWslot p n g).poison = s.poison := rfl
@[simp] theorem State.onWslot_cores (p n : Nat) (g : WSlot → WSlot) : (s.onWslot p n g).cores = s.cores := rfl
@[simp] theorem State.onWslot_tenants (p n : Nat) (g : WSlot → WSlot) : (s.onWslot p n g).tenants = s.tenants := rfl
@[simp] theorem State.onWslot_fab (p n : Nat) (g : WSlot → WSlot) : (s.onWslot p n g).fab = s.fab := rfl
@[simp] theorem State.onWslot_boot (p n : Nat) (g : WSlot → WSlot) : (s.onWslot p n g).boot = s.boot := rfl
@[simp] theorem State.onWslot_twin (p n : Nat) (g : WSlot → WSlot) : (s.onWslot p n g).twin = s.twin := rfl
@[simp] theorem State.onWslot_host (p n : Nat) (g : WSlot → WSlot) : (s.onWslot p n g).host = s.host := rfl
@[simp] theorem State.onWslot_time (p n : Nat) (g : WSlot → WSlot) : (s.onWslot p n g).time = s.time := rfl
@[simp] theorem State.onWslot_gov (p n : Nat) (g : WSlot → WSlot) : (s.onWslot p n g).gov = s.gov := rfl
@[simp] theorem State.onWslot_pins (p n : Nat) (g : WSlot → WSlot) : (s.onWslot p n g).pins = s.pins := rfl
@[simp] theorem State.onWslot_tap (p n : Nat) (g : WSlot → WSlot) : (s.onWslot p n g).tap = s.tap := rfl
@[simp] theorem State.onWslot_bench (p n : Nat) (g : WSlot → WSlot) : (s.onWslot p n g).bench = s.bench := rfl
@[simp] theorem State.onWslot_out (p n : Nat) (g : WSlot → WSlot) : (s.onWslot p n g).out = s.out := rfl
@[simp] theorem State.onWslot_free (p n : Nat) (g : WSlot → WSlot) : (s.onWslot p n g).free = s.free := rfl
@[simp] theorem State.onWslot_pending (p n : Nat) (g : WSlot → WSlot) : (s.onWslot p n g).pending = s.pending := rfl

@[simp] theorem State.setTenant_fuses (i : Nat) (k : Tenant) : (s.setTenant i k).fuses = s.fuses := rfl
@[simp] theorem State.setTenant_clock (i : Nat) (k : Tenant) : (s.setTenant i k).clock = s.clock := rfl
@[simp] theorem State.setTenant_regs (i : Nat) (k : Tenant) : (s.setTenant i k).regs = s.regs := rfl
@[simp] theorem State.setTenant_mem (i : Nat) (k : Tenant) : (s.setTenant i k).mem = s.mem := rfl
@[simp] theorem State.setTenant_poison (i : Nat) (k : Tenant) : (s.setTenant i k).poison = s.poison := rfl
@[simp] theorem State.setTenant_cores (i : Nat) (k : Tenant) : (s.setTenant i k).cores = s.cores := rfl
@[simp] theorem State.setTenant_parts (i : Nat) (k : Tenant) : (s.setTenant i k).parts = s.parts := rfl
@[simp] theorem State.setTenant_fab (i : Nat) (k : Tenant) : (s.setTenant i k).fab = s.fab := rfl
@[simp] theorem State.setTenant_boot (i : Nat) (k : Tenant) : (s.setTenant i k).boot = s.boot := rfl
@[simp] theorem State.setTenant_twin (i : Nat) (k : Tenant) : (s.setTenant i k).twin = s.twin := rfl
@[simp] theorem State.setTenant_host (i : Nat) (k : Tenant) : (s.setTenant i k).host = s.host := rfl
@[simp] theorem State.setTenant_time (i : Nat) (k : Tenant) : (s.setTenant i k).time = s.time := rfl
@[simp] theorem State.setTenant_gov (i : Nat) (k : Tenant) : (s.setTenant i k).gov = s.gov := rfl
@[simp] theorem State.setTenant_pins (i : Nat) (k : Tenant) : (s.setTenant i k).pins = s.pins := rfl
@[simp] theorem State.setTenant_tap (i : Nat) (k : Tenant) : (s.setTenant i k).tap = s.tap := rfl
@[simp] theorem State.setTenant_bench (i : Nat) (k : Tenant) : (s.setTenant i k).bench = s.bench := rfl
@[simp] theorem State.setTenant_out (i : Nat) (k : Tenant) : (s.setTenant i k).out = s.out := rfl
@[simp] theorem State.setTenant_free (i : Nat) (k : Tenant) : (s.setTenant i k).free = s.free := rfl
@[simp] theorem State.setTenant_pending (i : Nat) (k : Tenant) : (s.setTenant i k).pending = s.pending := rfl

@[simp] theorem State.emit_fuses (o : Out) : (s.emit o).fuses = s.fuses := rfl
@[simp] theorem State.emit_clock (o : Out) : (s.emit o).clock = s.clock := rfl
@[simp] theorem State.emit_regs (o : Out) : (s.emit o).regs = s.regs := rfl
@[simp] theorem State.emit_mem (o : Out) : (s.emit o).mem = s.mem := rfl
@[simp] theorem State.emit_poison (o : Out) : (s.emit o).poison = s.poison := rfl
@[simp] theorem State.emit_cores (o : Out) : (s.emit o).cores = s.cores := rfl
@[simp] theorem State.emit_parts (o : Out) : (s.emit o).parts = s.parts := rfl
@[simp] theorem State.emit_tenants (o : Out) : (s.emit o).tenants = s.tenants := rfl
@[simp] theorem State.emit_fab (o : Out) : (s.emit o).fab = s.fab := rfl
@[simp] theorem State.emit_boot (o : Out) : (s.emit o).boot = s.boot := rfl
@[simp] theorem State.emit_twin (o : Out) : (s.emit o).twin = s.twin := rfl
@[simp] theorem State.emit_host (o : Out) : (s.emit o).host = s.host := rfl
@[simp] theorem State.emit_time (o : Out) : (s.emit o).time = s.time := rfl
@[simp] theorem State.emit_gov (o : Out) : (s.emit o).gov = s.gov := rfl
@[simp] theorem State.emit_pins (o : Out) : (s.emit o).pins = s.pins := rfl
@[simp] theorem State.emit_tap (o : Out) : (s.emit o).tap = s.tap := rfl
@[simp] theorem State.emit_bench (o : Out) : (s.emit o).bench = s.bench := rfl
@[simp] theorem State.emit_free (o : Out) : (s.emit o).free = s.free := rfl
@[simp] theorem State.emit_pending (o : Out) : (s.emit o).pending = s.pending := rfl

@[simp] theorem State.onFab_fuses (g : Fabric → Fabric) : (s.onFab g).fuses = s.fuses := rfl
@[simp] theorem State.onFab_clock (g : Fabric → Fabric) : (s.onFab g).clock = s.clock := rfl
@[simp] theorem State.onFab_regs (g : Fabric → Fabric) : (s.onFab g).regs = s.regs := rfl
@[simp] theorem State.onFab_mem (g : Fabric → Fabric) : (s.onFab g).mem = s.mem := rfl
@[simp] theorem State.onFab_poison (g : Fabric → Fabric) : (s.onFab g).poison = s.poison := rfl
@[simp] theorem State.onFab_cores (g : Fabric → Fabric) : (s.onFab g).cores = s.cores := rfl
@[simp] theorem State.onFab_parts (g : Fabric → Fabric) : (s.onFab g).parts = s.parts := rfl
@[simp] theorem State.onFab_tenants (g : Fabric → Fabric) : (s.onFab g).tenants = s.tenants := rfl
@[simp] theorem State.onFab_boot (g : Fabric → Fabric) : (s.onFab g).boot = s.boot := rfl
@[simp] theorem State.onFab_twin (g : Fabric → Fabric) : (s.onFab g).twin = s.twin := rfl
@[simp] theorem State.onFab_host (g : Fabric → Fabric) : (s.onFab g).host = s.host := rfl
@[simp] theorem State.onFab_time (g : Fabric → Fabric) : (s.onFab g).time = s.time := rfl
@[simp] theorem State.onFab_gov (g : Fabric → Fabric) : (s.onFab g).gov = s.gov := rfl
@[simp] theorem State.onFab_pins (g : Fabric → Fabric) : (s.onFab g).pins = s.pins := rfl
@[simp] theorem State.onFab_tap (g : Fabric → Fabric) : (s.onFab g).tap = s.tap := rfl
@[simp] theorem State.onFab_bench (g : Fabric → Fabric) : (s.onFab g).bench = s.bench := rfl
@[simp] theorem State.onFab_out (g : Fabric → Fabric) : (s.onFab g).out = s.out := rfl
@[simp] theorem State.onFab_free (g : Fabric → Fabric) : (s.onFab g).free = s.free := rfl
@[simp] theorem State.onFab_pending (g : Fabric → Fabric) : (s.onFab g).pending = s.pending := rfl

@[simp] theorem State.onLink_fuses (p : Nat) (g : Link → Link) : (s.onLink p g).fuses = s.fuses := rfl
@[simp] theorem State.onLink_clock (p : Nat) (g : Link → Link) : (s.onLink p g).clock = s.clock := rfl
@[simp] theorem State.onLink_regs (p : Nat) (g : Link → Link) : (s.onLink p g).regs = s.regs := rfl
@[simp] theorem State.onLink_mem (p : Nat) (g : Link → Link) : (s.onLink p g).mem = s.mem := rfl
@[simp] theorem State.onLink_poison (p : Nat) (g : Link → Link) : (s.onLink p g).poison = s.poison := rfl
@[simp] theorem State.onLink_cores (p : Nat) (g : Link → Link) : (s.onLink p g).cores = s.cores := rfl
@[simp] theorem State.onLink_parts (p : Nat) (g : Link → Link) : (s.onLink p g).parts = s.parts := rfl
@[simp] theorem State.onLink_tenants (p : Nat) (g : Link → Link) : (s.onLink p g).tenants = s.tenants := rfl
@[simp] theorem State.onLink_boot (p : Nat) (g : Link → Link) : (s.onLink p g).boot = s.boot := rfl
@[simp] theorem State.onLink_twin (p : Nat) (g : Link → Link) : (s.onLink p g).twin = s.twin := rfl
@[simp] theorem State.onLink_host (p : Nat) (g : Link → Link) : (s.onLink p g).host = s.host := rfl
@[simp] theorem State.onLink_time (p : Nat) (g : Link → Link) : (s.onLink p g).time = s.time := rfl
@[simp] theorem State.onLink_gov (p : Nat) (g : Link → Link) : (s.onLink p g).gov = s.gov := rfl
@[simp] theorem State.onLink_pins (p : Nat) (g : Link → Link) : (s.onLink p g).pins = s.pins := rfl
@[simp] theorem State.onLink_tap (p : Nat) (g : Link → Link) : (s.onLink p g).tap = s.tap := rfl
@[simp] theorem State.onLink_bench (p : Nat) (g : Link → Link) : (s.onLink p g).bench = s.bench := rfl
@[simp] theorem State.onLink_out (p : Nat) (g : Link → Link) : (s.onLink p g).out = s.out := rfl
@[simp] theorem State.onLink_free (p : Nat) (g : Link → Link) : (s.onLink p g).free = s.free := rfl
@[simp] theorem State.onLink_pending (p : Nat) (g : Link → Link) : (s.onLink p g).pending = s.pending := rfl

@[simp] theorem State.onBoot_fuses (g : Boot → Boot) : (s.onBoot g).fuses = s.fuses := rfl
@[simp] theorem State.onBoot_clock (g : Boot → Boot) : (s.onBoot g).clock = s.clock := rfl
@[simp] theorem State.onBoot_regs (g : Boot → Boot) : (s.onBoot g).regs = s.regs := rfl
@[simp] theorem State.onBoot_mem (g : Boot → Boot) : (s.onBoot g).mem = s.mem := rfl
@[simp] theorem State.onBoot_poison (g : Boot → Boot) : (s.onBoot g).poison = s.poison := rfl
@[simp] theorem State.onBoot_cores (g : Boot → Boot) : (s.onBoot g).cores = s.cores := rfl
@[simp] theorem State.onBoot_parts (g : Boot → Boot) : (s.onBoot g).parts = s.parts := rfl
@[simp] theorem State.onBoot_tenants (g : Boot → Boot) : (s.onBoot g).tenants = s.tenants := rfl
@[simp] theorem State.onBoot_fab (g : Boot → Boot) : (s.onBoot g).fab = s.fab := rfl
@[simp] theorem State.onBoot_twin (g : Boot → Boot) : (s.onBoot g).twin = s.twin := rfl
@[simp] theorem State.onBoot_host (g : Boot → Boot) : (s.onBoot g).host = s.host := rfl
@[simp] theorem State.onBoot_time (g : Boot → Boot) : (s.onBoot g).time = s.time := rfl
@[simp] theorem State.onBoot_gov (g : Boot → Boot) : (s.onBoot g).gov = s.gov := rfl
@[simp] theorem State.onBoot_pins (g : Boot → Boot) : (s.onBoot g).pins = s.pins := rfl
@[simp] theorem State.onBoot_tap (g : Boot → Boot) : (s.onBoot g).tap = s.tap := rfl
@[simp] theorem State.onBoot_bench (g : Boot → Boot) : (s.onBoot g).bench = s.bench := rfl
@[simp] theorem State.onBoot_out (g : Boot → Boot) : (s.onBoot g).out = s.out := rfl
@[simp] theorem State.onBoot_free (g : Boot → Boot) : (s.onBoot g).free = s.free := rfl
@[simp] theorem State.onBoot_pending (g : Boot → Boot) : (s.onBoot g).pending = s.pending := rfl

@[simp] theorem State.onTwin_fuses (g : Twin → Twin) : (s.onTwin g).fuses = s.fuses := rfl
@[simp] theorem State.onTwin_clock (g : Twin → Twin) : (s.onTwin g).clock = s.clock := rfl
@[simp] theorem State.onTwin_regs (g : Twin → Twin) : (s.onTwin g).regs = s.regs := rfl
@[simp] theorem State.onTwin_mem (g : Twin → Twin) : (s.onTwin g).mem = s.mem := rfl
@[simp] theorem State.onTwin_poison (g : Twin → Twin) : (s.onTwin g).poison = s.poison := rfl
@[simp] theorem State.onTwin_cores (g : Twin → Twin) : (s.onTwin g).cores = s.cores := rfl
@[simp] theorem State.onTwin_parts (g : Twin → Twin) : (s.onTwin g).parts = s.parts := rfl
@[simp] theorem State.onTwin_tenants (g : Twin → Twin) : (s.onTwin g).tenants = s.tenants := rfl
@[simp] theorem State.onTwin_fab (g : Twin → Twin) : (s.onTwin g).fab = s.fab := rfl
@[simp] theorem State.onTwin_boot (g : Twin → Twin) : (s.onTwin g).boot = s.boot := rfl
@[simp] theorem State.onTwin_host (g : Twin → Twin) : (s.onTwin g).host = s.host := rfl
@[simp] theorem State.onTwin_time (g : Twin → Twin) : (s.onTwin g).time = s.time := rfl
@[simp] theorem State.onTwin_gov (g : Twin → Twin) : (s.onTwin g).gov = s.gov := rfl
@[simp] theorem State.onTwin_pins (g : Twin → Twin) : (s.onTwin g).pins = s.pins := rfl
@[simp] theorem State.onTwin_tap (g : Twin → Twin) : (s.onTwin g).tap = s.tap := rfl
@[simp] theorem State.onTwin_bench (g : Twin → Twin) : (s.onTwin g).bench = s.bench := rfl
@[simp] theorem State.onTwin_out (g : Twin → Twin) : (s.onTwin g).out = s.out := rfl
@[simp] theorem State.onTwin_free (g : Twin → Twin) : (s.onTwin g).free = s.free := rfl
@[simp] theorem State.onTwin_pending (g : Twin → Twin) : (s.onTwin g).pending = s.pending := rfl

@[simp] theorem State.onHost_fuses (g : HostIf → HostIf) : (s.onHost g).fuses = s.fuses := rfl
@[simp] theorem State.onHost_clock (g : HostIf → HostIf) : (s.onHost g).clock = s.clock := rfl
@[simp] theorem State.onHost_regs (g : HostIf → HostIf) : (s.onHost g).regs = s.regs := rfl
@[simp] theorem State.onHost_mem (g : HostIf → HostIf) : (s.onHost g).mem = s.mem := rfl
@[simp] theorem State.onHost_poison (g : HostIf → HostIf) : (s.onHost g).poison = s.poison := rfl
@[simp] theorem State.onHost_cores (g : HostIf → HostIf) : (s.onHost g).cores = s.cores := rfl
@[simp] theorem State.onHost_parts (g : HostIf → HostIf) : (s.onHost g).parts = s.parts := rfl
@[simp] theorem State.onHost_tenants (g : HostIf → HostIf) : (s.onHost g).tenants = s.tenants := rfl
@[simp] theorem State.onHost_fab (g : HostIf → HostIf) : (s.onHost g).fab = s.fab := rfl
@[simp] theorem State.onHost_boot (g : HostIf → HostIf) : (s.onHost g).boot = s.boot := rfl
@[simp] theorem State.onHost_twin (g : HostIf → HostIf) : (s.onHost g).twin = s.twin := rfl
@[simp] theorem State.onHost_time (g : HostIf → HostIf) : (s.onHost g).time = s.time := rfl
@[simp] theorem State.onHost_gov (g : HostIf → HostIf) : (s.onHost g).gov = s.gov := rfl
@[simp] theorem State.onHost_pins (g : HostIf → HostIf) : (s.onHost g).pins = s.pins := rfl
@[simp] theorem State.onHost_tap (g : HostIf → HostIf) : (s.onHost g).tap = s.tap := rfl
@[simp] theorem State.onHost_bench (g : HostIf → HostIf) : (s.onHost g).bench = s.bench := rfl
@[simp] theorem State.onHost_out (g : HostIf → HostIf) : (s.onHost g).out = s.out := rfl
@[simp] theorem State.onHost_free (g : HostIf → HostIf) : (s.onHost g).free = s.free := rfl
@[simp] theorem State.onHost_pending (g : HostIf → HostIf) : (s.onHost g).pending = s.pending := rfl

@[simp] theorem State.writeBytes_fuses (a : Nat) (bs : List Byte) : (s.writeBytes a bs).fuses = s.fuses := rfl
@[simp] theorem State.writeBytes_clock (a : Nat) (bs : List Byte) : (s.writeBytes a bs).clock = s.clock := rfl
@[simp] theorem State.writeBytes_regs (a : Nat) (bs : List Byte) : (s.writeBytes a bs).regs = s.regs := rfl
@[simp] theorem State.writeBytes_cores (a : Nat) (bs : List Byte) : (s.writeBytes a bs).cores = s.cores := rfl
@[simp] theorem State.writeBytes_parts (a : Nat) (bs : List Byte) : (s.writeBytes a bs).parts = s.parts := rfl
@[simp] theorem State.writeBytes_tenants (a : Nat) (bs : List Byte) : (s.writeBytes a bs).tenants = s.tenants := rfl
@[simp] theorem State.writeBytes_fab (a : Nat) (bs : List Byte) : (s.writeBytes a bs).fab = s.fab := rfl
@[simp] theorem State.writeBytes_boot (a : Nat) (bs : List Byte) : (s.writeBytes a bs).boot = s.boot := rfl
@[simp] theorem State.writeBytes_twin (a : Nat) (bs : List Byte) : (s.writeBytes a bs).twin = s.twin := rfl
@[simp] theorem State.writeBytes_host (a : Nat) (bs : List Byte) : (s.writeBytes a bs).host = s.host := rfl
@[simp] theorem State.writeBytes_time (a : Nat) (bs : List Byte) : (s.writeBytes a bs).time = s.time := rfl
@[simp] theorem State.writeBytes_gov (a : Nat) (bs : List Byte) : (s.writeBytes a bs).gov = s.gov := rfl
@[simp] theorem State.writeBytes_pins (a : Nat) (bs : List Byte) : (s.writeBytes a bs).pins = s.pins := rfl
@[simp] theorem State.writeBytes_tap (a : Nat) (bs : List Byte) : (s.writeBytes a bs).tap = s.tap := rfl
@[simp] theorem State.writeBytes_bench (a : Nat) (bs : List Byte) : (s.writeBytes a bs).bench = s.bench := rfl
@[simp] theorem State.writeBytes_out (a : Nat) (bs : List Byte) : (s.writeBytes a bs).out = s.out := rfl
@[simp] theorem State.writeBytes_free (a : Nat) (bs : List Byte) : (s.writeBytes a bs).free = s.free := rfl
@[simp] theorem State.writeBytes_pending (a : Nat) (bs : List Byte) : (s.writeBytes a bs).pending = s.pending := rfl

@[simp] theorem State.writeN_fuses (a n v : Nat) : (s.writeN a n v).fuses = s.fuses := rfl
@[simp] theorem State.writeN_clock (a n v : Nat) : (s.writeN a n v).clock = s.clock := rfl
@[simp] theorem State.writeN_regs (a n v : Nat) : (s.writeN a n v).regs = s.regs := rfl
@[simp] theorem State.writeN_cores (a n v : Nat) : (s.writeN a n v).cores = s.cores := rfl
@[simp] theorem State.writeN_parts (a n v : Nat) : (s.writeN a n v).parts = s.parts := rfl
@[simp] theorem State.writeN_tenants (a n v : Nat) : (s.writeN a n v).tenants = s.tenants := rfl
@[simp] theorem State.writeN_fab (a n v : Nat) : (s.writeN a n v).fab = s.fab := rfl
@[simp] theorem State.writeN_boot (a n v : Nat) : (s.writeN a n v).boot = s.boot := rfl
@[simp] theorem State.writeN_twin (a n v : Nat) : (s.writeN a n v).twin = s.twin := rfl
@[simp] theorem State.writeN_host (a n v : Nat) : (s.writeN a n v).host = s.host := rfl
@[simp] theorem State.writeN_time (a n v : Nat) : (s.writeN a n v).time = s.time := rfl
@[simp] theorem State.writeN_gov (a n v : Nat) : (s.writeN a n v).gov = s.gov := rfl
@[simp] theorem State.writeN_pins (a n v : Nat) : (s.writeN a n v).pins = s.pins := rfl
@[simp] theorem State.writeN_tap (a n v : Nat) : (s.writeN a n v).tap = s.tap := rfl
@[simp] theorem State.writeN_bench (a n v : Nat) : (s.writeN a n v).bench = s.bench := rfl
@[simp] theorem State.writeN_out (a n v : Nat) : (s.writeN a n v).out = s.out := rfl
@[simp] theorem State.writeN_free (a n v : Nat) : (s.writeN a n v).free = s.free := rfl
@[simp] theorem State.writeN_pending (a n v : Nat) : (s.writeN a n v).pending = s.pending := rfl

@[simp] theorem State.poisonRange_fuses (a n : Nat) : (s.poisonRange a n).fuses = s.fuses := rfl
@[simp] theorem State.poisonRange_clock (a n : Nat) : (s.poisonRange a n).clock = s.clock := rfl
@[simp] theorem State.poisonRange_regs (a n : Nat) : (s.poisonRange a n).regs = s.regs := rfl
@[simp] theorem State.poisonRange_mem (a n : Nat) : (s.poisonRange a n).mem = s.mem := rfl
@[simp] theorem State.poisonRange_cores (a n : Nat) : (s.poisonRange a n).cores = s.cores := rfl
@[simp] theorem State.poisonRange_parts (a n : Nat) : (s.poisonRange a n).parts = s.parts := rfl
@[simp] theorem State.poisonRange_tenants (a n : Nat) : (s.poisonRange a n).tenants = s.tenants := rfl
@[simp] theorem State.poisonRange_fab (a n : Nat) : (s.poisonRange a n).fab = s.fab := rfl
@[simp] theorem State.poisonRange_boot (a n : Nat) : (s.poisonRange a n).boot = s.boot := rfl
@[simp] theorem State.poisonRange_twin (a n : Nat) : (s.poisonRange a n).twin = s.twin := rfl
@[simp] theorem State.poisonRange_host (a n : Nat) : (s.poisonRange a n).host = s.host := rfl
@[simp] theorem State.poisonRange_time (a n : Nat) : (s.poisonRange a n).time = s.time := rfl
@[simp] theorem State.poisonRange_gov (a n : Nat) : (s.poisonRange a n).gov = s.gov := rfl
@[simp] theorem State.poisonRange_pins (a n : Nat) : (s.poisonRange a n).pins = s.pins := rfl
@[simp] theorem State.poisonRange_tap (a n : Nat) : (s.poisonRange a n).tap = s.tap := rfl
@[simp] theorem State.poisonRange_bench (a n : Nat) : (s.poisonRange a n).bench = s.bench := rfl
@[simp] theorem State.poisonRange_out (a n : Nat) : (s.poisonRange a n).out = s.out := rfl
@[simp] theorem State.poisonRange_free (a n : Nat) : (s.poisonRange a n).free = s.free := rfl
@[simp] theorem State.poisonRange_pending (a n : Nat) : (s.poisonRange a n).pending = s.pending := rfl

@[simp] theorem State.zeroRange_fuses (a n : Nat) : (s.zeroRange a n).fuses = s.fuses := rfl
@[simp] theorem State.zeroRange_clock (a n : Nat) : (s.zeroRange a n).clock = s.clock := rfl
@[simp] theorem State.zeroRange_regs (a n : Nat) : (s.zeroRange a n).regs = s.regs := rfl
@[simp] theorem State.zeroRange_cores (a n : Nat) : (s.zeroRange a n).cores = s.cores := rfl
@[simp] theorem State.zeroRange_parts (a n : Nat) : (s.zeroRange a n).parts = s.parts := rfl
@[simp] theorem State.zeroRange_tenants (a n : Nat) : (s.zeroRange a n).tenants = s.tenants := rfl
@[simp] theorem State.zeroRange_fab (a n : Nat) : (s.zeroRange a n).fab = s.fab := rfl
@[simp] theorem State.zeroRange_boot (a n : Nat) : (s.zeroRange a n).boot = s.boot := rfl
@[simp] theorem State.zeroRange_twin (a n : Nat) : (s.zeroRange a n).twin = s.twin := rfl
@[simp] theorem State.zeroRange_host (a n : Nat) : (s.zeroRange a n).host = s.host := rfl
@[simp] theorem State.zeroRange_time (a n : Nat) : (s.zeroRange a n).time = s.time := rfl
@[simp] theorem State.zeroRange_gov (a n : Nat) : (s.zeroRange a n).gov = s.gov := rfl
@[simp] theorem State.zeroRange_pins (a n : Nat) : (s.zeroRange a n).pins = s.pins := rfl
@[simp] theorem State.zeroRange_tap (a n : Nat) : (s.zeroRange a n).tap = s.tap := rfl
@[simp] theorem State.zeroRange_bench (a n : Nat) : (s.zeroRange a n).bench = s.bench := rfl
@[simp] theorem State.zeroRange_out (a n : Nat) : (s.zeroRange a n).out = s.out := rfl
@[simp] theorem State.zeroRange_free (a n : Nat) : (s.zeroRange a n).free = s.free := rfl
@[simp] theorem State.zeroRange_pending (a n : Nat) : (s.zeroRange a n).pending = s.pending := rfl

/-! ## Registers, cores, partitions, tenants and memory through other updates -/

@[simp] theorem State.core_of_setRegAt (key v : Nat) (c' : Nat) : (s.setRegAt key v).core c' = s.core c' := rfl
@[simp] theorem State.part_of_setRegAt (key v : Nat) (p' : Nat) : (s.setRegAt key v).part p' = s.part p' := rfl
@[simp] theorem State.tenant_of_setRegAt (key v : Nat) (t' : Nat) : (s.setRegAt key v).tenant t' = s.tenant t' := rfl
@[simp] theorem State.readN_of_setRegAt (key v : Nat) (a' n' : Nat) : (s.setRegAt key v).readN a' n' = s.readN a' n' := rfl
@[simp] theorem State.readBytes_of_setRegAt (key v : Nat) (a' n' : Nat) : (s.setRegAt key v).readBytes a' n' = s.readBytes a' n' := rfl
@[simp] theorem State.poisoned_of_setRegAt (key v : Nat) (a' n' : Nat) : (s.setRegAt key v).poisoned a' n' = s.poisoned a' n' := rfl
@[simp] theorem State.qp_of_setRegAt (key v : Nat) (q' : Nat) : (s.setRegAt key v).qp q' = s.qp q' := rfl
@[simp] theorem State.link_of_setRegAt (key v : Nat) (x' : Nat) : (s.setRegAt key v).link x' = s.link x' := rfl

@[simp] theorem State.core_of_setB (f : Fld) (i b v : Nat) (c' : Nat) : (s.setB f i b v).core c' = s.core c' := rfl
@[simp] theorem State.part_of_setB (f : Fld) (i b v : Nat) (p' : Nat) : (s.setB f i b v).part p' = s.part p' := rfl
@[simp] theorem State.tenant_of_setB (f : Fld) (i b v : Nat) (t' : Nat) : (s.setB f i b v).tenant t' = s.tenant t' := rfl
@[simp] theorem State.readN_of_setB (f : Fld) (i b v : Nat) (a' n' : Nat) : (s.setB f i b v).readN a' n' = s.readN a' n' := rfl
@[simp] theorem State.readBytes_of_setB (f : Fld) (i b v : Nat) (a' n' : Nat) : (s.setB f i b v).readBytes a' n' = s.readBytes a' n' := rfl
@[simp] theorem State.poisoned_of_setB (f : Fld) (i b v : Nat) (a' n' : Nat) : (s.setB f i b v).poisoned a' n' = s.poisoned a' n' := rfl
@[simp] theorem State.qp_of_setB (f : Fld) (i b v : Nat) (q' : Nat) : (s.setB f i b v).qp q' = s.qp q' := rfl
@[simp] theorem State.link_of_setB (f : Fld) (i b v : Nat) (x' : Nat) : (s.setB f i b v).link x' = s.link x' := rfl

@[simp] theorem State.core_of_set (f : Fld) (i v : Nat) (c' : Nat) : (s.set f i v).core c' = s.core c' := rfl
@[simp] theorem State.part_of_set (f : Fld) (i v : Nat) (p' : Nat) : (s.set f i v).part p' = s.part p' := rfl
@[simp] theorem State.tenant_of_set (f : Fld) (i v : Nat) (t' : Nat) : (s.set f i v).tenant t' = s.tenant t' := rfl
@[simp] theorem State.readN_of_set (f : Fld) (i v : Nat) (a' n' : Nat) : (s.set f i v).readN a' n' = s.readN a' n' := rfl
@[simp] theorem State.readBytes_of_set (f : Fld) (i v : Nat) (a' n' : Nat) : (s.set f i v).readBytes a' n' = s.readBytes a' n' := rfl
@[simp] theorem State.poisoned_of_set (f : Fld) (i v : Nat) (a' n' : Nat) : (s.set f i v).poisoned a' n' = s.poisoned a' n' := rfl
@[simp] theorem State.qp_of_set (f : Fld) (i v : Nat) (q' : Nat) : (s.set f i v).qp q' = s.qp q' := rfl
@[simp] theorem State.link_of_set (f : Fld) (i v : Nat) (x' : Nat) : (s.set f i v).link x' = s.link x' := rfl

@[simp] theorem State.core_of_bump (f : Fld) (i n : Nat) (c' : Nat) : (s.bump f i n).core c' = s.core c' := rfl
@[simp] theorem State.part_of_bump (f : Fld) (i n : Nat) (p' : Nat) : (s.bump f i n).part p' = s.part p' := rfl
@[simp] theorem State.tenant_of_bump (f : Fld) (i n : Nat) (t' : Nat) : (s.bump f i n).tenant t' = s.tenant t' := rfl
@[simp] theorem State.readN_of_bump (f : Fld) (i n : Nat) (a' n' : Nat) : (s.bump f i n).readN a' n' = s.readN a' n' := rfl
@[simp] theorem State.readBytes_of_bump (f : Fld) (i n : Nat) (a' n' : Nat) : (s.bump f i n).readBytes a' n' = s.readBytes a' n' := rfl
@[simp] theorem State.poisoned_of_bump (f : Fld) (i n : Nat) (a' n' : Nat) : (s.bump f i n).poisoned a' n' = s.poisoned a' n' := rfl
@[simp] theorem State.qp_of_bump (f : Fld) (i n : Nat) (q' : Nat) : (s.bump f i n).qp q' = s.qp q' := rfl
@[simp] theorem State.link_of_bump (f : Fld) (i n : Nat) (x' : Nat) : (s.bump f i n).link x' = s.link x' := rfl

@[simp] theorem State.core_of_bumpB (f : Fld) (i b n : Nat) (c' : Nat) : (s.bumpB f i b n).core c' = s.core c' := rfl
@[simp] theorem State.part_of_bumpB (f : Fld) (i b n : Nat) (p' : Nat) : (s.bumpB f i b n).part p' = s.part p' := rfl
@[simp] theorem State.tenant_of_bumpB (f : Fld) (i b n : Nat) (t' : Nat) : (s.bumpB f i b n).tenant t' = s.tenant t' := rfl
@[simp] theorem State.readN_of_bumpB (f : Fld) (i b n : Nat) (a' n' : Nat) : (s.bumpB f i b n).readN a' n' = s.readN a' n' := rfl
@[simp] theorem State.readBytes_of_bumpB (f : Fld) (i b n : Nat) (a' n' : Nat) : (s.bumpB f i b n).readBytes a' n' = s.readBytes a' n' := rfl
@[simp] theorem State.poisoned_of_bumpB (f : Fld) (i b n : Nat) (a' n' : Nat) : (s.bumpB f i b n).poisoned a' n' = s.poisoned a' n' := rfl
@[simp] theorem State.qp_of_bumpB (f : Fld) (i b n : Nat) (q' : Nat) : (s.bumpB f i b n).qp q' = s.qp q' := rfl
@[simp] theorem State.link_of_bumpB (f : Fld) (i b n : Nat) (x' : Nat) : (s.bumpB f i b n).link x' = s.link x' := rfl

@[simp] theorem State.regAt_of_setCore (c : Nat) (k : Core) (key' : Nat) : (s.setCore c k).regAt key' = s.regAt key' := rfl
@[simp] theorem State.getB_of_setCore (c : Nat) (k : Core) (f' : Fld) (i' b' : Nat) : (s.setCore c k).getB f' i' b' = s.getB f' i' b' := rfl
@[simp] theorem State.get_of_setCore (c : Nat) (k : Core) (f' : Fld) (i' : Nat) : (s.setCore c k).get f' i' = s.get f' i' := rfl
@[simp] theorem State.getBit_of_setCore (c : Nat) (k : Core) (f' : Fld) (i' : Nat) : (s.setCore c k).getBit f' i' = s.getBit f' i' := rfl
@[simp] theorem State.part_of_setCore (c : Nat) (k : Core) (p' : Nat) : (s.setCore c k).part p' = s.part p' := rfl
@[simp] theorem State.tenant_of_setCore (c : Nat) (k : Core) (t' : Nat) : (s.setCore c k).tenant t' = s.tenant t' := rfl
@[simp] theorem State.readN_of_setCore (c : Nat) (k : Core) (a' n' : Nat) : (s.setCore c k).readN a' n' = s.readN a' n' := rfl
@[simp] theorem State.readBytes_of_setCore (c : Nat) (k : Core) (a' n' : Nat) : (s.setCore c k).readBytes a' n' = s.readBytes a' n' := rfl
@[simp] theorem State.poisoned_of_setCore (c : Nat) (k : Core) (a' n' : Nat) : (s.setCore c k).poisoned a' n' = s.poisoned a' n' := rfl
@[simp] theorem State.qp_of_setCore (c : Nat) (k : Core) (q' : Nat) : (s.setCore c k).qp q' = s.qp q' := rfl
@[simp] theorem State.link_of_setCore (c : Nat) (k : Core) (x' : Nat) : (s.setCore c k).link x' = s.link x' := rfl

@[simp] theorem State.regAt_of_onCore (c : Nat) (g : Core → Core) (key' : Nat) : (s.onCore c g).regAt key' = s.regAt key' := rfl
@[simp] theorem State.getB_of_onCore (c : Nat) (g : Core → Core) (f' : Fld) (i' b' : Nat) : (s.onCore c g).getB f' i' b' = s.getB f' i' b' := rfl
@[simp] theorem State.get_of_onCore (c : Nat) (g : Core → Core) (f' : Fld) (i' : Nat) : (s.onCore c g).get f' i' = s.get f' i' := rfl
@[simp] theorem State.getBit_of_onCore (c : Nat) (g : Core → Core) (f' : Fld) (i' : Nat) : (s.onCore c g).getBit f' i' = s.getBit f' i' := rfl
@[simp] theorem State.part_of_onCore (c : Nat) (g : Core → Core) (p' : Nat) : (s.onCore c g).part p' = s.part p' := rfl
@[simp] theorem State.tenant_of_onCore (c : Nat) (g : Core → Core) (t' : Nat) : (s.onCore c g).tenant t' = s.tenant t' := rfl
@[simp] theorem State.readN_of_onCore (c : Nat) (g : Core → Core) (a' n' : Nat) : (s.onCore c g).readN a' n' = s.readN a' n' := rfl
@[simp] theorem State.readBytes_of_onCore (c : Nat) (g : Core → Core) (a' n' : Nat) : (s.onCore c g).readBytes a' n' = s.readBytes a' n' := rfl
@[simp] theorem State.poisoned_of_onCore (c : Nat) (g : Core → Core) (a' n' : Nat) : (s.onCore c g).poisoned a' n' = s.poisoned a' n' := rfl
@[simp] theorem State.qp_of_onCore (c : Nat) (g : Core → Core) (q' : Nat) : (s.onCore c g).qp q' = s.qp q' := rfl
@[simp] theorem State.link_of_onCore (c : Nat) (g : Core → Core) (x' : Nat) : (s.onCore c g).link x' = s.link x' := rfl

@[simp] theorem State.regAt_of_setPart (p : Nat) (k : Part) (key' : Nat) : (s.setPart p k).regAt key' = s.regAt key' := rfl
@[simp] theorem State.getB_of_setPart (p : Nat) (k : Part) (f' : Fld) (i' b' : Nat) : (s.setPart p k).getB f' i' b' = s.getB f' i' b' := rfl
@[simp] theorem State.get_of_setPart (p : Nat) (k : Part) (f' : Fld) (i' : Nat) : (s.setPart p k).get f' i' = s.get f' i' := rfl
@[simp] theorem State.getBit_of_setPart (p : Nat) (k : Part) (f' : Fld) (i' : Nat) : (s.setPart p k).getBit f' i' = s.getBit f' i' := rfl
@[simp] theorem State.core_of_setPart (p : Nat) (k : Part) (c' : Nat) : (s.setPart p k).core c' = s.core c' := rfl
@[simp] theorem State.tenant_of_setPart (p : Nat) (k : Part) (t' : Nat) : (s.setPart p k).tenant t' = s.tenant t' := rfl
@[simp] theorem State.readN_of_setPart (p : Nat) (k : Part) (a' n' : Nat) : (s.setPart p k).readN a' n' = s.readN a' n' := rfl
@[simp] theorem State.readBytes_of_setPart (p : Nat) (k : Part) (a' n' : Nat) : (s.setPart p k).readBytes a' n' = s.readBytes a' n' := rfl
@[simp] theorem State.poisoned_of_setPart (p : Nat) (k : Part) (a' n' : Nat) : (s.setPart p k).poisoned a' n' = s.poisoned a' n' := rfl
@[simp] theorem State.qp_of_setPart (p : Nat) (k : Part) (q' : Nat) : (s.setPart p k).qp q' = s.qp q' := rfl
@[simp] theorem State.link_of_setPart (p : Nat) (k : Part) (x' : Nat) : (s.setPart p k).link x' = s.link x' := rfl

@[simp] theorem State.regAt_of_onPart (p : Nat) (g : Part → Part) (key' : Nat) : (s.onPart p g).regAt key' = s.regAt key' := rfl
@[simp] theorem State.getB_of_onPart (p : Nat) (g : Part → Part) (f' : Fld) (i' b' : Nat) : (s.onPart p g).getB f' i' b' = s.getB f' i' b' := rfl
@[simp] theorem State.get_of_onPart (p : Nat) (g : Part → Part) (f' : Fld) (i' : Nat) : (s.onPart p g).get f' i' = s.get f' i' := rfl
@[simp] theorem State.getBit_of_onPart (p : Nat) (g : Part → Part) (f' : Fld) (i' : Nat) : (s.onPart p g).getBit f' i' = s.getBit f' i' := rfl
@[simp] theorem State.core_of_onPart (p : Nat) (g : Part → Part) (c' : Nat) : (s.onPart p g).core c' = s.core c' := rfl
@[simp] theorem State.tenant_of_onPart (p : Nat) (g : Part → Part) (t' : Nat) : (s.onPart p g).tenant t' = s.tenant t' := rfl
@[simp] theorem State.readN_of_onPart (p : Nat) (g : Part → Part) (a' n' : Nat) : (s.onPart p g).readN a' n' = s.readN a' n' := rfl
@[simp] theorem State.readBytes_of_onPart (p : Nat) (g : Part → Part) (a' n' : Nat) : (s.onPart p g).readBytes a' n' = s.readBytes a' n' := rfl
@[simp] theorem State.poisoned_of_onPart (p : Nat) (g : Part → Part) (a' n' : Nat) : (s.onPart p g).poisoned a' n' = s.poisoned a' n' := rfl
@[simp] theorem State.qp_of_onPart (p : Nat) (g : Part → Part) (q' : Nat) : (s.onPart p g).qp q' = s.qp q' := rfl
@[simp] theorem State.link_of_onPart (p : Nat) (g : Part → Part) (x' : Nat) : (s.onPart p g).link x' = s.link x' := rfl

@[simp] theorem State.regAt_of_onSched (p : Nat) (g : Sched → Sched) (key' : Nat) : (s.onSched p g).regAt key' = s.regAt key' := rfl
@[simp] theorem State.getB_of_onSched (p : Nat) (g : Sched → Sched) (f' : Fld) (i' b' : Nat) : (s.onSched p g).getB f' i' b' = s.getB f' i' b' := rfl
@[simp] theorem State.get_of_onSched (p : Nat) (g : Sched → Sched) (f' : Fld) (i' : Nat) : (s.onSched p g).get f' i' = s.get f' i' := rfl
@[simp] theorem State.getBit_of_onSched (p : Nat) (g : Sched → Sched) (f' : Fld) (i' : Nat) : (s.onSched p g).getBit f' i' = s.getBit f' i' := rfl
@[simp] theorem State.core_of_onSched (p : Nat) (g : Sched → Sched) (c' : Nat) : (s.onSched p g).core c' = s.core c' := rfl
@[simp] theorem State.tenant_of_onSched (p : Nat) (g : Sched → Sched) (t' : Nat) : (s.onSched p g).tenant t' = s.tenant t' := rfl
@[simp] theorem State.readN_of_onSched (p : Nat) (g : Sched → Sched) (a' n' : Nat) : (s.onSched p g).readN a' n' = s.readN a' n' := rfl
@[simp] theorem State.readBytes_of_onSched (p : Nat) (g : Sched → Sched) (a' n' : Nat) : (s.onSched p g).readBytes a' n' = s.readBytes a' n' := rfl
@[simp] theorem State.poisoned_of_onSched (p : Nat) (g : Sched → Sched) (a' n' : Nat) : (s.onSched p g).poisoned a' n' = s.poisoned a' n' := rfl
@[simp] theorem State.qp_of_onSched (p : Nat) (g : Sched → Sched) (q' : Nat) : (s.onSched p g).qp q' = s.qp q' := rfl
@[simp] theorem State.link_of_onSched (p : Nat) (g : Sched → Sched) (x' : Nat) : (s.onSched p g).link x' = s.link x' := rfl

@[simp] theorem State.regAt_of_onTiers (p : Nat) (g : Tiers → Tiers) (key' : Nat) : (s.onTiers p g).regAt key' = s.regAt key' := rfl
@[simp] theorem State.getB_of_onTiers (p : Nat) (g : Tiers → Tiers) (f' : Fld) (i' b' : Nat) : (s.onTiers p g).getB f' i' b' = s.getB f' i' b' := rfl
@[simp] theorem State.get_of_onTiers (p : Nat) (g : Tiers → Tiers) (f' : Fld) (i' : Nat) : (s.onTiers p g).get f' i' = s.get f' i' := rfl
@[simp] theorem State.getBit_of_onTiers (p : Nat) (g : Tiers → Tiers) (f' : Fld) (i' : Nat) : (s.onTiers p g).getBit f' i' = s.getBit f' i' := rfl
@[simp] theorem State.core_of_onTiers (p : Nat) (g : Tiers → Tiers) (c' : Nat) : (s.onTiers p g).core c' = s.core c' := rfl
@[simp] theorem State.tenant_of_onTiers (p : Nat) (g : Tiers → Tiers) (t' : Nat) : (s.onTiers p g).tenant t' = s.tenant t' := rfl
@[simp] theorem State.readN_of_onTiers (p : Nat) (g : Tiers → Tiers) (a' n' : Nat) : (s.onTiers p g).readN a' n' = s.readN a' n' := rfl
@[simp] theorem State.readBytes_of_onTiers (p : Nat) (g : Tiers → Tiers) (a' n' : Nat) : (s.onTiers p g).readBytes a' n' = s.readBytes a' n' := rfl
@[simp] theorem State.poisoned_of_onTiers (p : Nat) (g : Tiers → Tiers) (a' n' : Nat) : (s.onTiers p g).poisoned a' n' = s.poisoned a' n' := rfl
@[simp] theorem State.qp_of_onTiers (p : Nat) (g : Tiers → Tiers) (q' : Nat) : (s.onTiers p g).qp q' = s.qp q' := rfl
@[simp] theorem State.link_of_onTiers (p : Nat) (g : Tiers → Tiers) (x' : Nat) : (s.onTiers p g).link x' = s.link x' := rfl

@[simp] theorem State.regAt_of_onGen (p : Nat) (g : Gen → Gen) (key' : Nat) : (s.onGen p g).regAt key' = s.regAt key' := rfl
@[simp] theorem State.getB_of_onGen (p : Nat) (g : Gen → Gen) (f' : Fld) (i' b' : Nat) : (s.onGen p g).getB f' i' b' = s.getB f' i' b' := rfl
@[simp] theorem State.get_of_onGen (p : Nat) (g : Gen → Gen) (f' : Fld) (i' : Nat) : (s.onGen p g).get f' i' = s.get f' i' := rfl
@[simp] theorem State.getBit_of_onGen (p : Nat) (g : Gen → Gen) (f' : Fld) (i' : Nat) : (s.onGen p g).getBit f' i' = s.getBit f' i' := rfl
@[simp] theorem State.core_of_onGen (p : Nat) (g : Gen → Gen) (c' : Nat) : (s.onGen p g).core c' = s.core c' := rfl
@[simp] theorem State.tenant_of_onGen (p : Nat) (g : Gen → Gen) (t' : Nat) : (s.onGen p g).tenant t' = s.tenant t' := rfl
@[simp] theorem State.readN_of_onGen (p : Nat) (g : Gen → Gen) (a' n' : Nat) : (s.onGen p g).readN a' n' = s.readN a' n' := rfl
@[simp] theorem State.readBytes_of_onGen (p : Nat) (g : Gen → Gen) (a' n' : Nat) : (s.onGen p g).readBytes a' n' = s.readBytes a' n' := rfl
@[simp] theorem State.poisoned_of_onGen (p : Nat) (g : Gen → Gen) (a' n' : Nat) : (s.onGen p g).poisoned a' n' = s.poisoned a' n' := rfl
@[simp] theorem State.qp_of_onGen (p : Nat) (g : Gen → Gen) (q' : Nat) : (s.onGen p g).qp q' = s.qp q' := rfl
@[simp] theorem State.link_of_onGen (p : Nat) (g : Gen → Gen) (x' : Nat) : (s.onGen p g).link x' = s.link x' := rfl

@[simp] theorem State.regAt_of_onRed (p : Nat) (g : Red → Red) (key' : Nat) : (s.onRed p g).regAt key' = s.regAt key' := rfl
@[simp] theorem State.getB_of_onRed (p : Nat) (g : Red → Red) (f' : Fld) (i' b' : Nat) : (s.onRed p g).getB f' i' b' = s.getB f' i' b' := rfl
@[simp] theorem State.get_of_onRed (p : Nat) (g : Red → Red) (f' : Fld) (i' : Nat) : (s.onRed p g).get f' i' = s.get f' i' := rfl
@[simp] theorem State.getBit_of_onRed (p : Nat) (g : Red → Red) (f' : Fld) (i' : Nat) : (s.onRed p g).getBit f' i' = s.getBit f' i' := rfl
@[simp] theorem State.core_of_onRed (p : Nat) (g : Red → Red) (c' : Nat) : (s.onRed p g).core c' = s.core c' := rfl
@[simp] theorem State.tenant_of_onRed (p : Nat) (g : Red → Red) (t' : Nat) : (s.onRed p g).tenant t' = s.tenant t' := rfl
@[simp] theorem State.readN_of_onRed (p : Nat) (g : Red → Red) (a' n' : Nat) : (s.onRed p g).readN a' n' = s.readN a' n' := rfl
@[simp] theorem State.readBytes_of_onRed (p : Nat) (g : Red → Red) (a' n' : Nat) : (s.onRed p g).readBytes a' n' = s.readBytes a' n' := rfl
@[simp] theorem State.poisoned_of_onRed (p : Nat) (g : Red → Red) (a' n' : Nat) : (s.onRed p g).poisoned a' n' = s.poisoned a' n' := rfl
@[simp] theorem State.qp_of_onRed (p : Nat) (g : Red → Red) (q' : Nat) : (s.onRed p g).qp q' = s.qp q' := rfl
@[simp] theorem State.link_of_onRed (p : Nat) (g : Red → Red) (x' : Nat) : (s.onRed p g).link x' = s.link x' := rfl

@[simp] theorem State.regAt_of_onUpd (p : Nat) (g : Upd → Upd) (key' : Nat) : (s.onUpd p g).regAt key' = s.regAt key' := rfl
@[simp] theorem State.getB_of_onUpd (p : Nat) (g : Upd → Upd) (f' : Fld) (i' b' : Nat) : (s.onUpd p g).getB f' i' b' = s.getB f' i' b' := rfl
@[simp] theorem State.get_of_onUpd (p : Nat) (g : Upd → Upd) (f' : Fld) (i' : Nat) : (s.onUpd p g).get f' i' = s.get f' i' := rfl
@[simp] theorem State.getBit_of_onUpd (p : Nat) (g : Upd → Upd) (f' : Fld) (i' : Nat) : (s.onUpd p g).getBit f' i' = s.getBit f' i' := rfl
@[simp] theorem State.core_of_onUpd (p : Nat) (g : Upd → Upd) (c' : Nat) : (s.onUpd p g).core c' = s.core c' := rfl
@[simp] theorem State.tenant_of_onUpd (p : Nat) (g : Upd → Upd) (t' : Nat) : (s.onUpd p g).tenant t' = s.tenant t' := rfl
@[simp] theorem State.readN_of_onUpd (p : Nat) (g : Upd → Upd) (a' n' : Nat) : (s.onUpd p g).readN a' n' = s.readN a' n' := rfl
@[simp] theorem State.readBytes_of_onUpd (p : Nat) (g : Upd → Upd) (a' n' : Nat) : (s.onUpd p g).readBytes a' n' = s.readBytes a' n' := rfl
@[simp] theorem State.poisoned_of_onUpd (p : Nat) (g : Upd → Upd) (a' n' : Nat) : (s.onUpd p g).poisoned a' n' = s.poisoned a' n' := rfl
@[simp] theorem State.qp_of_onUpd (p : Nat) (g : Upd → Upd) (q' : Nat) : (s.onUpd p g).qp q' = s.qp q' := rfl
@[simp] theorem State.link_of_onUpd (p : Nat) (g : Upd → Upd) (x' : Nat) : (s.onUpd p g).link x' = s.link x' := rfl

@[simp] theorem State.regAt_of_onChecks (p : Nat) (g : Checks → Checks) (key' : Nat) : (s.onChecks p g).regAt key' = s.regAt key' := rfl
@[simp] theorem State.getB_of_onChecks (p : Nat) (g : Checks → Checks) (f' : Fld) (i' b' : Nat) : (s.onChecks p g).getB f' i' b' = s.getB f' i' b' := rfl
@[simp] theorem State.get_of_onChecks (p : Nat) (g : Checks → Checks) (f' : Fld) (i' : Nat) : (s.onChecks p g).get f' i' = s.get f' i' := rfl
@[simp] theorem State.getBit_of_onChecks (p : Nat) (g : Checks → Checks) (f' : Fld) (i' : Nat) : (s.onChecks p g).getBit f' i' = s.getBit f' i' := rfl
@[simp] theorem State.core_of_onChecks (p : Nat) (g : Checks → Checks) (c' : Nat) : (s.onChecks p g).core c' = s.core c' := rfl
@[simp] theorem State.tenant_of_onChecks (p : Nat) (g : Checks → Checks) (t' : Nat) : (s.onChecks p g).tenant t' = s.tenant t' := rfl
@[simp] theorem State.readN_of_onChecks (p : Nat) (g : Checks → Checks) (a' n' : Nat) : (s.onChecks p g).readN a' n' = s.readN a' n' := rfl
@[simp] theorem State.readBytes_of_onChecks (p : Nat) (g : Checks → Checks) (a' n' : Nat) : (s.onChecks p g).readBytes a' n' = s.readBytes a' n' := rfl
@[simp] theorem State.poisoned_of_onChecks (p : Nat) (g : Checks → Checks) (a' n' : Nat) : (s.onChecks p g).poisoned a' n' = s.poisoned a' n' := rfl
@[simp] theorem State.qp_of_onChecks (p : Nat) (g : Checks → Checks) (q' : Nat) : (s.onChecks p g).qp q' = s.qp q' := rfl
@[simp] theorem State.link_of_onChecks (p : Nat) (g : Checks → Checks) (x' : Nat) : (s.onChecks p g).link x' = s.link x' := rfl

@[simp] theorem State.regAt_of_onBulk (p : Nat) (g : Bulk → Bulk) (key' : Nat) : (s.onBulk p g).regAt key' = s.regAt key' := rfl
@[simp] theorem State.getB_of_onBulk (p : Nat) (g : Bulk → Bulk) (f' : Fld) (i' b' : Nat) : (s.onBulk p g).getB f' i' b' = s.getB f' i' b' := rfl
@[simp] theorem State.get_of_onBulk (p : Nat) (g : Bulk → Bulk) (f' : Fld) (i' : Nat) : (s.onBulk p g).get f' i' = s.get f' i' := rfl
@[simp] theorem State.getBit_of_onBulk (p : Nat) (g : Bulk → Bulk) (f' : Fld) (i' : Nat) : (s.onBulk p g).getBit f' i' = s.getBit f' i' := rfl
@[simp] theorem State.core_of_onBulk (p : Nat) (g : Bulk → Bulk) (c' : Nat) : (s.onBulk p g).core c' = s.core c' := rfl
@[simp] theorem State.tenant_of_onBulk (p : Nat) (g : Bulk → Bulk) (t' : Nat) : (s.onBulk p g).tenant t' = s.tenant t' := rfl
@[simp] theorem State.readN_of_onBulk (p : Nat) (g : Bulk → Bulk) (a' n' : Nat) : (s.onBulk p g).readN a' n' = s.readN a' n' := rfl
@[simp] theorem State.readBytes_of_onBulk (p : Nat) (g : Bulk → Bulk) (a' n' : Nat) : (s.onBulk p g).readBytes a' n' = s.readBytes a' n' := rfl
@[simp] theorem State.poisoned_of_onBulk (p : Nat) (g : Bulk → Bulk) (a' n' : Nat) : (s.onBulk p g).poisoned a' n' = s.poisoned a' n' := rfl
@[simp] theorem State.qp_of_onBulk (p : Nat) (g : Bulk → Bulk) (q' : Nat) : (s.onBulk p g).qp q' = s.qp q' := rfl
@[simp] theorem State.link_of_onBulk (p : Nat) (g : Bulk → Bulk) (x' : Nat) : (s.onBulk p g).link x' = s.link x' := rfl

@[simp] theorem State.regAt_of_onCkpt (p : Nat) (g : Ckpt → Ckpt) (key' : Nat) : (s.onCkpt p g).regAt key' = s.regAt key' := rfl
@[simp] theorem State.getB_of_onCkpt (p : Nat) (g : Ckpt → Ckpt) (f' : Fld) (i' b' : Nat) : (s.onCkpt p g).getB f' i' b' = s.getB f' i' b' := rfl
@[simp] theorem State.get_of_onCkpt (p : Nat) (g : Ckpt → Ckpt) (f' : Fld) (i' : Nat) : (s.onCkpt p g).get f' i' = s.get f' i' := rfl
@[simp] theorem State.getBit_of_onCkpt (p : Nat) (g : Ckpt → Ckpt) (f' : Fld) (i' : Nat) : (s.onCkpt p g).getBit f' i' = s.getBit f' i' := rfl
@[simp] theorem State.core_of_onCkpt (p : Nat) (g : Ckpt → Ckpt) (c' : Nat) : (s.onCkpt p g).core c' = s.core c' := rfl
@[simp] theorem State.tenant_of_onCkpt (p : Nat) (g : Ckpt → Ckpt) (t' : Nat) : (s.onCkpt p g).tenant t' = s.tenant t' := rfl
@[simp] theorem State.readN_of_onCkpt (p : Nat) (g : Ckpt → Ckpt) (a' n' : Nat) : (s.onCkpt p g).readN a' n' = s.readN a' n' := rfl
@[simp] theorem State.readBytes_of_onCkpt (p : Nat) (g : Ckpt → Ckpt) (a' n' : Nat) : (s.onCkpt p g).readBytes a' n' = s.readBytes a' n' := rfl
@[simp] theorem State.poisoned_of_onCkpt (p : Nat) (g : Ckpt → Ckpt) (a' n' : Nat) : (s.onCkpt p g).poisoned a' n' = s.poisoned a' n' := rfl
@[simp] theorem State.qp_of_onCkpt (p : Nat) (g : Ckpt → Ckpt) (q' : Nat) : (s.onCkpt p g).qp q' = s.qp q' := rfl
@[simp] theorem State.link_of_onCkpt (p : Nat) (g : Ckpt → Ckpt) (x' : Nat) : (s.onCkpt p g).link x' = s.link x' := rfl

@[simp] theorem State.regAt_of_onWslot (p n : Nat) (g : WSlot → WSlot) (key' : Nat) : (s.onWslot p n g).regAt key' = s.regAt key' := rfl
@[simp] theorem State.getB_of_onWslot (p n : Nat) (g : WSlot → WSlot) (f' : Fld) (i' b' : Nat) : (s.onWslot p n g).getB f' i' b' = s.getB f' i' b' := rfl
@[simp] theorem State.get_of_onWslot (p n : Nat) (g : WSlot → WSlot) (f' : Fld) (i' : Nat) : (s.onWslot p n g).get f' i' = s.get f' i' := rfl
@[simp] theorem State.getBit_of_onWslot (p n : Nat) (g : WSlot → WSlot) (f' : Fld) (i' : Nat) : (s.onWslot p n g).getBit f' i' = s.getBit f' i' := rfl
@[simp] theorem State.core_of_onWslot (p n : Nat) (g : WSlot → WSlot) (c' : Nat) : (s.onWslot p n g).core c' = s.core c' := rfl
@[simp] theorem State.tenant_of_onWslot (p n : Nat) (g : WSlot → WSlot) (t' : Nat) : (s.onWslot p n g).tenant t' = s.tenant t' := rfl
@[simp] theorem State.readN_of_onWslot (p n : Nat) (g : WSlot → WSlot) (a' n' : Nat) : (s.onWslot p n g).readN a' n' = s.readN a' n' := rfl
@[simp] theorem State.readBytes_of_onWslot (p n : Nat) (g : WSlot → WSlot) (a' n' : Nat) : (s.onWslot p n g).readBytes a' n' = s.readBytes a' n' := rfl
@[simp] theorem State.poisoned_of_onWslot (p n : Nat) (g : WSlot → WSlot) (a' n' : Nat) : (s.onWslot p n g).poisoned a' n' = s.poisoned a' n' := rfl
@[simp] theorem State.qp_of_onWslot (p n : Nat) (g : WSlot → WSlot) (q' : Nat) : (s.onWslot p n g).qp q' = s.qp q' := rfl
@[simp] theorem State.link_of_onWslot (p n : Nat) (g : WSlot → WSlot) (x' : Nat) : (s.onWslot p n g).link x' = s.link x' := rfl

@[simp] theorem State.regAt_of_setTenant (i : Nat) (k : Tenant) (key' : Nat) : (s.setTenant i k).regAt key' = s.regAt key' := rfl
@[simp] theorem State.getB_of_setTenant (i : Nat) (k : Tenant) (f' : Fld) (i' b' : Nat) : (s.setTenant i k).getB f' i' b' = s.getB f' i' b' := rfl
@[simp] theorem State.get_of_setTenant (i : Nat) (k : Tenant) (f' : Fld) (i' : Nat) : (s.setTenant i k).get f' i' = s.get f' i' := rfl
@[simp] theorem State.getBit_of_setTenant (i : Nat) (k : Tenant) (f' : Fld) (i' : Nat) : (s.setTenant i k).getBit f' i' = s.getBit f' i' := rfl
@[simp] theorem State.core_of_setTenant (i : Nat) (k : Tenant) (c' : Nat) : (s.setTenant i k).core c' = s.core c' := rfl
@[simp] theorem State.part_of_setTenant (i : Nat) (k : Tenant) (p' : Nat) : (s.setTenant i k).part p' = s.part p' := rfl
@[simp] theorem State.readN_of_setTenant (i : Nat) (k : Tenant) (a' n' : Nat) : (s.setTenant i k).readN a' n' = s.readN a' n' := rfl
@[simp] theorem State.readBytes_of_setTenant (i : Nat) (k : Tenant) (a' n' : Nat) : (s.setTenant i k).readBytes a' n' = s.readBytes a' n' := rfl
@[simp] theorem State.poisoned_of_setTenant (i : Nat) (k : Tenant) (a' n' : Nat) : (s.setTenant i k).poisoned a' n' = s.poisoned a' n' := rfl
@[simp] theorem State.qp_of_setTenant (i : Nat) (k : Tenant) (q' : Nat) : (s.setTenant i k).qp q' = s.qp q' := rfl
@[simp] theorem State.link_of_setTenant (i : Nat) (k : Tenant) (x' : Nat) : (s.setTenant i k).link x' = s.link x' := rfl

@[simp] theorem State.regAt_of_emit (o : Out) (key' : Nat) : (s.emit o).regAt key' = s.regAt key' := rfl
@[simp] theorem State.getB_of_emit (o : Out) (f' : Fld) (i' b' : Nat) : (s.emit o).getB f' i' b' = s.getB f' i' b' := rfl
@[simp] theorem State.get_of_emit (o : Out) (f' : Fld) (i' : Nat) : (s.emit o).get f' i' = s.get f' i' := rfl
@[simp] theorem State.getBit_of_emit (o : Out) (f' : Fld) (i' : Nat) : (s.emit o).getBit f' i' = s.getBit f' i' := rfl
@[simp] theorem State.core_of_emit (o : Out) (c' : Nat) : (s.emit o).core c' = s.core c' := rfl
@[simp] theorem State.part_of_emit (o : Out) (p' : Nat) : (s.emit o).part p' = s.part p' := rfl
@[simp] theorem State.tenant_of_emit (o : Out) (t' : Nat) : (s.emit o).tenant t' = s.tenant t' := rfl
@[simp] theorem State.readN_of_emit (o : Out) (a' n' : Nat) : (s.emit o).readN a' n' = s.readN a' n' := rfl
@[simp] theorem State.readBytes_of_emit (o : Out) (a' n' : Nat) : (s.emit o).readBytes a' n' = s.readBytes a' n' := rfl
@[simp] theorem State.poisoned_of_emit (o : Out) (a' n' : Nat) : (s.emit o).poisoned a' n' = s.poisoned a' n' := rfl
@[simp] theorem State.qp_of_emit (o : Out) (q' : Nat) : (s.emit o).qp q' = s.qp q' := rfl
@[simp] theorem State.link_of_emit (o : Out) (x' : Nat) : (s.emit o).link x' = s.link x' := rfl

@[simp] theorem State.regAt_of_onFab (g : Fabric → Fabric) (key' : Nat) : (s.onFab g).regAt key' = s.regAt key' := rfl
@[simp] theorem State.getB_of_onFab (g : Fabric → Fabric) (f' : Fld) (i' b' : Nat) : (s.onFab g).getB f' i' b' = s.getB f' i' b' := rfl
@[simp] theorem State.get_of_onFab (g : Fabric → Fabric) (f' : Fld) (i' : Nat) : (s.onFab g).get f' i' = s.get f' i' := rfl
@[simp] theorem State.getBit_of_onFab (g : Fabric → Fabric) (f' : Fld) (i' : Nat) : (s.onFab g).getBit f' i' = s.getBit f' i' := rfl
@[simp] theorem State.core_of_onFab (g : Fabric → Fabric) (c' : Nat) : (s.onFab g).core c' = s.core c' := rfl
@[simp] theorem State.part_of_onFab (g : Fabric → Fabric) (p' : Nat) : (s.onFab g).part p' = s.part p' := rfl
@[simp] theorem State.tenant_of_onFab (g : Fabric → Fabric) (t' : Nat) : (s.onFab g).tenant t' = s.tenant t' := rfl
@[simp] theorem State.readN_of_onFab (g : Fabric → Fabric) (a' n' : Nat) : (s.onFab g).readN a' n' = s.readN a' n' := rfl
@[simp] theorem State.readBytes_of_onFab (g : Fabric → Fabric) (a' n' : Nat) : (s.onFab g).readBytes a' n' = s.readBytes a' n' := rfl
@[simp] theorem State.poisoned_of_onFab (g : Fabric → Fabric) (a' n' : Nat) : (s.onFab g).poisoned a' n' = s.poisoned a' n' := rfl
@[simp] theorem State.qp_of_onFab (g : Fabric → Fabric) (q' : Nat) : (s.onFab g).qp q' = s.qp q' := rfl

@[simp] theorem State.regAt_of_onLink (p : Nat) (g : Link → Link) (key' : Nat) : (s.onLink p g).regAt key' = s.regAt key' := rfl
@[simp] theorem State.getB_of_onLink (p : Nat) (g : Link → Link) (f' : Fld) (i' b' : Nat) : (s.onLink p g).getB f' i' b' = s.getB f' i' b' := rfl
@[simp] theorem State.get_of_onLink (p : Nat) (g : Link → Link) (f' : Fld) (i' : Nat) : (s.onLink p g).get f' i' = s.get f' i' := rfl
@[simp] theorem State.getBit_of_onLink (p : Nat) (g : Link → Link) (f' : Fld) (i' : Nat) : (s.onLink p g).getBit f' i' = s.getBit f' i' := rfl
@[simp] theorem State.core_of_onLink (p : Nat) (g : Link → Link) (c' : Nat) : (s.onLink p g).core c' = s.core c' := rfl
@[simp] theorem State.part_of_onLink (p : Nat) (g : Link → Link) (p' : Nat) : (s.onLink p g).part p' = s.part p' := rfl
@[simp] theorem State.tenant_of_onLink (p : Nat) (g : Link → Link) (t' : Nat) : (s.onLink p g).tenant t' = s.tenant t' := rfl
@[simp] theorem State.readN_of_onLink (p : Nat) (g : Link → Link) (a' n' : Nat) : (s.onLink p g).readN a' n' = s.readN a' n' := rfl
@[simp] theorem State.readBytes_of_onLink (p : Nat) (g : Link → Link) (a' n' : Nat) : (s.onLink p g).readBytes a' n' = s.readBytes a' n' := rfl
@[simp] theorem State.poisoned_of_onLink (p : Nat) (g : Link → Link) (a' n' : Nat) : (s.onLink p g).poisoned a' n' = s.poisoned a' n' := rfl
@[simp] theorem State.qp_of_onLink (p : Nat) (g : Link → Link) (q' : Nat) : (s.onLink p g).qp q' = s.qp q' := rfl

@[simp] theorem State.regAt_of_onBoot (g : Boot → Boot) (key' : Nat) : (s.onBoot g).regAt key' = s.regAt key' := rfl
@[simp] theorem State.getB_of_onBoot (g : Boot → Boot) (f' : Fld) (i' b' : Nat) : (s.onBoot g).getB f' i' b' = s.getB f' i' b' := rfl
@[simp] theorem State.get_of_onBoot (g : Boot → Boot) (f' : Fld) (i' : Nat) : (s.onBoot g).get f' i' = s.get f' i' := rfl
@[simp] theorem State.getBit_of_onBoot (g : Boot → Boot) (f' : Fld) (i' : Nat) : (s.onBoot g).getBit f' i' = s.getBit f' i' := rfl
@[simp] theorem State.core_of_onBoot (g : Boot → Boot) (c' : Nat) : (s.onBoot g).core c' = s.core c' := rfl
@[simp] theorem State.part_of_onBoot (g : Boot → Boot) (p' : Nat) : (s.onBoot g).part p' = s.part p' := rfl
@[simp] theorem State.tenant_of_onBoot (g : Boot → Boot) (t' : Nat) : (s.onBoot g).tenant t' = s.tenant t' := rfl
@[simp] theorem State.readN_of_onBoot (g : Boot → Boot) (a' n' : Nat) : (s.onBoot g).readN a' n' = s.readN a' n' := rfl
@[simp] theorem State.readBytes_of_onBoot (g : Boot → Boot) (a' n' : Nat) : (s.onBoot g).readBytes a' n' = s.readBytes a' n' := rfl
@[simp] theorem State.poisoned_of_onBoot (g : Boot → Boot) (a' n' : Nat) : (s.onBoot g).poisoned a' n' = s.poisoned a' n' := rfl
@[simp] theorem State.qp_of_onBoot (g : Boot → Boot) (q' : Nat) : (s.onBoot g).qp q' = s.qp q' := rfl
@[simp] theorem State.link_of_onBoot (g : Boot → Boot) (x' : Nat) : (s.onBoot g).link x' = s.link x' := rfl

@[simp] theorem State.regAt_of_onTwin (g : Twin → Twin) (key' : Nat) : (s.onTwin g).regAt key' = s.regAt key' := rfl
@[simp] theorem State.getB_of_onTwin (g : Twin → Twin) (f' : Fld) (i' b' : Nat) : (s.onTwin g).getB f' i' b' = s.getB f' i' b' := rfl
@[simp] theorem State.get_of_onTwin (g : Twin → Twin) (f' : Fld) (i' : Nat) : (s.onTwin g).get f' i' = s.get f' i' := rfl
@[simp] theorem State.getBit_of_onTwin (g : Twin → Twin) (f' : Fld) (i' : Nat) : (s.onTwin g).getBit f' i' = s.getBit f' i' := rfl
@[simp] theorem State.core_of_onTwin (g : Twin → Twin) (c' : Nat) : (s.onTwin g).core c' = s.core c' := rfl
@[simp] theorem State.part_of_onTwin (g : Twin → Twin) (p' : Nat) : (s.onTwin g).part p' = s.part p' := rfl
@[simp] theorem State.tenant_of_onTwin (g : Twin → Twin) (t' : Nat) : (s.onTwin g).tenant t' = s.tenant t' := rfl
@[simp] theorem State.readN_of_onTwin (g : Twin → Twin) (a' n' : Nat) : (s.onTwin g).readN a' n' = s.readN a' n' := rfl
@[simp] theorem State.readBytes_of_onTwin (g : Twin → Twin) (a' n' : Nat) : (s.onTwin g).readBytes a' n' = s.readBytes a' n' := rfl
@[simp] theorem State.poisoned_of_onTwin (g : Twin → Twin) (a' n' : Nat) : (s.onTwin g).poisoned a' n' = s.poisoned a' n' := rfl
@[simp] theorem State.qp_of_onTwin (g : Twin → Twin) (q' : Nat) : (s.onTwin g).qp q' = s.qp q' := rfl
@[simp] theorem State.link_of_onTwin (g : Twin → Twin) (x' : Nat) : (s.onTwin g).link x' = s.link x' := rfl

@[simp] theorem State.regAt_of_onHost (g : HostIf → HostIf) (key' : Nat) : (s.onHost g).regAt key' = s.regAt key' := rfl
@[simp] theorem State.getB_of_onHost (g : HostIf → HostIf) (f' : Fld) (i' b' : Nat) : (s.onHost g).getB f' i' b' = s.getB f' i' b' := rfl
@[simp] theorem State.get_of_onHost (g : HostIf → HostIf) (f' : Fld) (i' : Nat) : (s.onHost g).get f' i' = s.get f' i' := rfl
@[simp] theorem State.getBit_of_onHost (g : HostIf → HostIf) (f' : Fld) (i' : Nat) : (s.onHost g).getBit f' i' = s.getBit f' i' := rfl
@[simp] theorem State.core_of_onHost (g : HostIf → HostIf) (c' : Nat) : (s.onHost g).core c' = s.core c' := rfl
@[simp] theorem State.part_of_onHost (g : HostIf → HostIf) (p' : Nat) : (s.onHost g).part p' = s.part p' := rfl
@[simp] theorem State.tenant_of_onHost (g : HostIf → HostIf) (t' : Nat) : (s.onHost g).tenant t' = s.tenant t' := rfl
@[simp] theorem State.readN_of_onHost (g : HostIf → HostIf) (a' n' : Nat) : (s.onHost g).readN a' n' = s.readN a' n' := rfl
@[simp] theorem State.readBytes_of_onHost (g : HostIf → HostIf) (a' n' : Nat) : (s.onHost g).readBytes a' n' = s.readBytes a' n' := rfl
@[simp] theorem State.poisoned_of_onHost (g : HostIf → HostIf) (a' n' : Nat) : (s.onHost g).poisoned a' n' = s.poisoned a' n' := rfl
@[simp] theorem State.link_of_onHost (g : HostIf → HostIf) (x' : Nat) : (s.onHost g).link x' = s.link x' := rfl

@[simp] theorem State.regAt_of_writeBytes (a : Nat) (bs : List Byte) (key' : Nat) : (s.writeBytes a bs).regAt key' = s.regAt key' := rfl
@[simp] theorem State.getB_of_writeBytes (a : Nat) (bs : List Byte) (f' : Fld) (i' b' : Nat) : (s.writeBytes a bs).getB f' i' b' = s.getB f' i' b' := rfl
@[simp] theorem State.get_of_writeBytes (a : Nat) (bs : List Byte) (f' : Fld) (i' : Nat) : (s.writeBytes a bs).get f' i' = s.get f' i' := rfl
@[simp] theorem State.getBit_of_writeBytes (a : Nat) (bs : List Byte) (f' : Fld) (i' : Nat) : (s.writeBytes a bs).getBit f' i' = s.getBit f' i' := rfl
@[simp] theorem State.core_of_writeBytes (a : Nat) (bs : List Byte) (c' : Nat) : (s.writeBytes a bs).core c' = s.core c' := rfl
@[simp] theorem State.part_of_writeBytes (a : Nat) (bs : List Byte) (p' : Nat) : (s.writeBytes a bs).part p' = s.part p' := rfl
@[simp] theorem State.tenant_of_writeBytes (a : Nat) (bs : List Byte) (t' : Nat) : (s.writeBytes a bs).tenant t' = s.tenant t' := rfl
@[simp] theorem State.qp_of_writeBytes (a : Nat) (bs : List Byte) (q' : Nat) : (s.writeBytes a bs).qp q' = s.qp q' := rfl
@[simp] theorem State.link_of_writeBytes (a : Nat) (bs : List Byte) (x' : Nat) : (s.writeBytes a bs).link x' = s.link x' := rfl

@[simp] theorem State.regAt_of_writeN (a n v : Nat) (key' : Nat) : (s.writeN a n v).regAt key' = s.regAt key' := rfl
@[simp] theorem State.getB_of_writeN (a n v : Nat) (f' : Fld) (i' b' : Nat) : (s.writeN a n v).getB f' i' b' = s.getB f' i' b' := rfl
@[simp] theorem State.get_of_writeN (a n v : Nat) (f' : Fld) (i' : Nat) : (s.writeN a n v).get f' i' = s.get f' i' := rfl
@[simp] theorem State.getBit_of_writeN (a n v : Nat) (f' : Fld) (i' : Nat) : (s.writeN a n v).getBit f' i' = s.getBit f' i' := rfl
@[simp] theorem State.core_of_writeN (a n v : Nat) (c' : Nat) : (s.writeN a n v).core c' = s.core c' := rfl
@[simp] theorem State.part_of_writeN (a n v : Nat) (p' : Nat) : (s.writeN a n v).part p' = s.part p' := rfl
@[simp] theorem State.tenant_of_writeN (a n v : Nat) (t' : Nat) : (s.writeN a n v).tenant t' = s.tenant t' := rfl
@[simp] theorem State.qp_of_writeN (a n v : Nat) (q' : Nat) : (s.writeN a n v).qp q' = s.qp q' := rfl
@[simp] theorem State.link_of_writeN (a n v : Nat) (x' : Nat) : (s.writeN a n v).link x' = s.link x' := rfl

@[simp] theorem State.regAt_of_poisonRange (a n : Nat) (key' : Nat) : (s.poisonRange a n).regAt key' = s.regAt key' := rfl
@[simp] theorem State.getB_of_poisonRange (a n : Nat) (f' : Fld) (i' b' : Nat) : (s.poisonRange a n).getB f' i' b' = s.getB f' i' b' := rfl
@[simp] theorem State.get_of_poisonRange (a n : Nat) (f' : Fld) (i' : Nat) : (s.poisonRange a n).get f' i' = s.get f' i' := rfl
@[simp] theorem State.getBit_of_poisonRange (a n : Nat) (f' : Fld) (i' : Nat) : (s.poisonRange a n).getBit f' i' = s.getBit f' i' := rfl
@[simp] theorem State.core_of_poisonRange (a n : Nat) (c' : Nat) : (s.poisonRange a n).core c' = s.core c' := rfl
@[simp] theorem State.part_of_poisonRange (a n : Nat) (p' : Nat) : (s.poisonRange a n).part p' = s.part p' := rfl
@[simp] theorem State.tenant_of_poisonRange (a n : Nat) (t' : Nat) : (s.poisonRange a n).tenant t' = s.tenant t' := rfl
@[simp] theorem State.readN_of_poisonRange (a n : Nat) (a' n' : Nat) : (s.poisonRange a n).readN a' n' = s.readN a' n' := rfl
@[simp] theorem State.readBytes_of_poisonRange (a n : Nat) (a' n' : Nat) : (s.poisonRange a n).readBytes a' n' = s.readBytes a' n' := rfl
@[simp] theorem State.qp_of_poisonRange (a n : Nat) (q' : Nat) : (s.poisonRange a n).qp q' = s.qp q' := rfl
@[simp] theorem State.link_of_poisonRange (a n : Nat) (x' : Nat) : (s.poisonRange a n).link x' = s.link x' := rfl

@[simp] theorem State.regAt_of_zeroRange (a n : Nat) (key' : Nat) : (s.zeroRange a n).regAt key' = s.regAt key' := rfl
@[simp] theorem State.getB_of_zeroRange (a n : Nat) (f' : Fld) (i' b' : Nat) : (s.zeroRange a n).getB f' i' b' = s.getB f' i' b' := rfl
@[simp] theorem State.get_of_zeroRange (a n : Nat) (f' : Fld) (i' : Nat) : (s.zeroRange a n).get f' i' = s.get f' i' := rfl
@[simp] theorem State.getBit_of_zeroRange (a n : Nat) (f' : Fld) (i' : Nat) : (s.zeroRange a n).getBit f' i' = s.getBit f' i' := rfl
@[simp] theorem State.core_of_zeroRange (a n : Nat) (c' : Nat) : (s.zeroRange a n).core c' = s.core c' := rfl
@[simp] theorem State.part_of_zeroRange (a n : Nat) (p' : Nat) : (s.zeroRange a n).part p' = s.part p' := rfl
@[simp] theorem State.tenant_of_zeroRange (a n : Nat) (t' : Nat) : (s.zeroRange a n).tenant t' = s.tenant t' := rfl
@[simp] theorem State.qp_of_zeroRange (a n : Nat) (q' : Nat) : (s.zeroRange a n).qp q' = s.qp q' := rfl
@[simp] theorem State.link_of_zeroRange (a n : Nat) (x' : Nat) : (s.zeroRange a n).link x' = s.link x' := rfl

end Sys2Proof.Machine
end

