-- ==== Sys2Proof/Laws/Regs.lean ====
section
/-! SUPPORT. Laws of bit fields and of the page registers: what a field reads after a write. -/
/- One declaration after another: the package as one text then needs few threads at a time. -/
set_option Elab.async false

namespace Sys2Proof.Machine

/-! ## Bit fields -/

theorem field_testBit (w hi lo i : Nat) : (field w hi lo).testBit i = (decide (i < hi + 1 - lo) && w.testBit (lo + i)) := by
  simp [field, Nat.testBit_mod_two_pow, Nat.testBit_shiftRight]

theorem field_lt (w hi lo : Nat) : field w hi lo < 2 ^ (hi + 1 - lo) := Nat.mod_lt _ (Nat.two_pow_pos _)

theorem setField_eq (w hi lo v : Nat) :
    setField w hi lo v = 2 ^ lo * (2 ^ (hi + 1 - lo) * (w / 2 ^ lo / 2 ^ (hi + 1 - lo)) + v % 2 ^ (hi + 1 - lo)) + w % 2 ^ lo := by
  unfold setField field
  rw [Nat.shiftRight_eq_div_pow]
  generalize hq : w / 2 ^ lo = q
  have h1 : w = 2 ^ lo * q + w % 2 ^ lo := by rw [← hq]; exact (Nat.div_add_mod w (2 ^ lo)).symm
  generalize hn : 2 ^ (hi + 1 - lo) = n at *
  have h2 : q = n * (q / n) + q % n := (Nat.div_add_mod q n).symm
  generalize hr : w % 2 ^ lo = r at *
  generalize 2 ^ lo = b at *
  have h3 : b * q = b * (n * (q / n)) + b * (q % n) := by rw [← Nat.mul_add, ← h2]
  have h4 : w - q % n * b = b * (n * (q / n)) + r := by
    rw [h1, h3, Nat.mul_comm (q % n) b]
    omega
  rw [h4, Nat.mul_add, Nat.mul_comm (v % n) b]
  omega

theorem setField_testBit (w hi lo v i : Nat) :
    (setField w hi lo v).testBit i =
      if i < lo then w.testBit i else if i < lo + (hi + 1 - lo) then v.testBit (i - lo) else w.testBit i := by
  rw [setField_eq, Nat.testBit_two_pow_mul_add _ (Nat.mod_lt _ (Nat.two_pow_pos _)),
    Nat.testBit_two_pow_mul_add _ (Nat.mod_lt _ (Nat.two_pow_pos _))]
  simp only [Nat.testBit_mod_two_pow, Nat.testBit_div_two_pow]
  split
  · simp [*]
  · split
    · rw [if_pos (by omega)]
      simp only [Bool.and_eq_right_iff_imp, decide_eq_true_eq]
      omega
    · rw [if_neg (by omega)]
      congr 1
      omega

/-- A field reads what was put there, cut to its width. -/
theorem field_setField_same (w hi lo v : Nat) : field (setField w hi lo v) hi lo = v % 2 ^ (hi + 1 - lo) := by
  apply Nat.eq_of_testBit_eq
  intro i
  rw [field_testBit, setField_testBit, Nat.testBit_mod_two_pow]
  by_cases h : i < hi + 1 - lo
  · rw [if_neg (by omega), if_pos (by omega)]
    simp
  · simp [h]

/-- A field apart from the one put reads as before. -/
theorem field_setField_ne (w hi lo v hi' lo' : Nat) (h : hi' < lo ∨ hi < lo') (hl : lo ≤ hi) :
    field (setField w hi lo v) hi' lo' = field w hi' lo' := by
  apply Nat.eq_of_testBit_eq
  intro i
  rw [field_testBit, setField_testBit, field_testBit]
  by_cases hi1 : i < hi' + 1 - lo'
  · rcases h with h | h
    · rw [if_pos (by omega)]
    · rw [if_neg (by omega), if_neg (by omega)]
  · simp [hi1]

theorem field_mod64 (w hi lo : Nat) (h : hi < 64) : field (w % 2 ^ 64) hi lo = field w hi lo := by
  apply Nat.eq_of_testBit_eq
  intro i
  rw [field_testBit, field_testBit, Nat.testBit_mod_two_pow]
  by_cases hi1 : i < hi + 1 - lo
  · have : lo + i < 64 := by omega
    simp [this]
  · simp [hi1]

/-- The whole of a 64-bit register. -/
theorem field_all (w : Nat) : field w 63 0 = w % 2 ^ 64 := rfl

/-! ## Page registers -/

@[simp] theorem State.regAt_setRegAt_same (s : State) (k v : Nat) : (s.setRegAt k v).regAt k = v % 2 ^ 64 := by
  simp [State.regAt, State.setRegAt]

theorem State.regAt_setRegAt_ne (s : State) (k k' v : Nat) (h : k' ≠ k) : (s.setRegAt k v).regAt k' = s.regAt k' := by
  simp [State.regAt, State.setRegAt, Map.getD_put_ne _ _ _ _ _ h]

/-- A banked field reads what was put there. -/
theorem State.getB_setB_same (s : State) (f : Fld) (i b v : Nat) (h : f.hi < 64) :
    (s.setB f i b v).getB f i b = v % 2 ^ (f.hi + 1 - f.lo) := by
  simp only [State.getB, State.setB, State.regAt_setRegAt_same, field_mod64 _ _ _ h, field_setField_same]

/-- A field of another register, or apart in the same one, reads as before. -/
theorem State.getB_setB_ne (s : State) (f f' : Fld) (i b i' b' v : Nat)
    (h : regKey f' i' b' ≠ regKey f i b ∨ (f'.hi < 64 ∧ f.lo ≤ f.hi ∧ (f'.hi < f.lo ∨ f.hi < f'.lo))) :
    (s.setB f i b v).getB f' i' b' = s.getB f' i' b' := by
  by_cases hk : regKey f' i' b' = regKey f i b
  · rcases h with h | ⟨h1, h2, h3⟩
    · exact absurd hk h
    · simp only [State.getB, State.setB, hk, State.regAt_setRegAt_same]
      rw [field_mod64 _ _ _ h1, field_setField_ne _ _ _ _ _ _ h3 h2]
  · simp [State.getB, State.setB, State.regAt_setRegAt_ne _ _ _ _ hk]

theorem State.get_set_same (s : State) (f : Fld) (i v : Nat) (h : f.hi < 64) :
    (s.set f i v).get f i = v % 2 ^ (f.hi + 1 - f.lo) := State.getB_setB_same s f i 0 v h

theorem State.get_set_ne (s : State) (f f' : Fld) (i i' v : Nat)
    (h : regKey f' i' 0 ≠ regKey f i 0 ∨ (f'.hi < 64 ∧ f.lo ≤ f.hi ∧ (f'.hi < f.lo ∨ f.hi < f'.lo))) :
    (s.set f i v).get f' i' = s.get f' i' := State.getB_setB_ne s f f' i 0 i' 0 v h

theorem State.get_bump_same (s : State) (f : Fld) (i n : Nat) (h : f.hi < 64) :
    (s.bump f i n).get f i = (s.get f i + n) % 2 ^ (f.hi + 1 - f.lo) := State.get_set_same s f i _ h

/-- A counter of 64 bits wraps modulo 2^64. -/
theorem State.get_bump_ne (s : State) (f f' : Fld) (i i' n : Nat)
    (h : regKey f' i' 0 ≠ regKey f i 0 ∨ (f'.hi < 64 ∧ f.lo ≤ f.hi ∧ (f'.hi < f.lo ∨ f.hi < f'.lo))) :
    (s.bump f i n).get f' i' = s.get f' i' := State.get_set_ne s f f' i i' _ h

/-! ## Cores, partitions and tenants after they are replaced -/

@[simp] theorem State.core_setCore_same (s : State) (c : Nat) (k : Core) : (s.setCore c k).core c = k := by
  simp [State.core, State.setCore]

theorem State.core_setCore_ne (s : State) (c c' : Nat) (k : Core) (h : c' ≠ c) : (s.setCore c k).core c' = s.core c' := by
  simp [State.core, State.setCore, Map.getD_put_ne _ _ _ _ _ h]

@[simp] theorem State.core_onCore_same (s : State) (c : Nat) (f : Core → Core) : (s.onCore c f).core c = f (s.core c) :=
  State.core_setCore_same s c _

theorem State.core_onCore_ne (s : State) (c c' : Nat) (f : Core → Core) (h : c' ≠ c) : (s.onCore c f).core c' = s.core c' :=
  State.core_setCore_ne s c c' _ h

@[simp] theorem State.part_setPart_same (s : State) (p : Nat) (k : Part) : (s.setPart p k).part p = k := by
  simp [State.part, State.setPart]

theorem State.part_setPart_ne (s : State) (p p' : Nat) (k : Part) (h : p' ≠ p) : (s.setPart p k).part p' = s.part p' := by
  simp [State.part, State.setPart, Map.getD_put_ne _ _ _ _ _ h]

@[simp] theorem State.part_onPart_same (s : State) (p : Nat) (f : Part → Part) : (s.onPart p f).part p = f (s.part p) :=
  State.part_setPart_same s p _

theorem State.part_onPart_ne (s : State) (p p' : Nat) (f : Part → Part) (h : p' ≠ p) : (s.onPart p f).part p' = s.part p' :=
  State.part_setPart_ne s p p' _ h

@[simp] theorem State.tenant_setTenant_same (s : State) (t : Nat) (k : Tenant) : (s.setTenant t k).tenant t = k := by
  simp [State.tenant, State.setTenant]

theorem State.tenant_setTenant_ne (s : State) (t t' : Nat) (k : Tenant) (h : t' ≠ t) :
    (s.setTenant t k).tenant t' = s.tenant t' := by
  simp [State.tenant, State.setTenant, Map.getD_put_ne _ _ _ _ _ h]

/-- A change of a core is what it makes of that core. -/
theorem State.onCore_congr (s : State) (c : Nat) (f g : Core → Core) (h : f (s.core c) = g (s.core c)) : s.onCore c f = s.onCore c g := by
  simp [State.onCore, h]

/-- Two changes of one core are one. -/
theorem State.onCore_onCore (s : State) (c : Nat) (f g : Core → Core) : (s.onCore c f).onCore c g = s.onCore c (fun k => g (f k)) := by
  simp only [State.onCore, State.core_setCore_same]
  simp [State.setCore, Map.put_put]

end Sys2Proof.Machine
end

