-- ==== Sys2Proof/Laws/Issue.lean ====
section
/-! SUPPORT. What issue can do: an operation that passes its checks takes effect whole. -/
/- One declaration after another: the package as one text then needs few threads at a time. -/
set_option Elab.async false

namespace Sys2Proof.Machine

/-- One operation never names a destination twice. -/
theorem conflict_one (o : SlotOp) : conflict [o] = false := by
  have key : ∀ l : List Nat, l.Nodup → (l.eraseDups).length = l.length := by
    intro l
    induction l with
    | nil => intro _; rfl
    | cons a l ih =>
      intro h
      have ⟨h1, h2⟩ := List.nodup_cons.mp h
      rw [List.eraseDups_cons]
      have : l.filter (fun b => !(b == a)) = l := by
        apply List.filter_eq_self.mpr
        intro b hb
        have : b ≠ a := fun e => h1 (e ▸ hb)
        simp [this]
      rw [this]
      simp [ih h2]
  have nd : (o.dests).Nodup := by
    cases o with
    | scalar o => cases o <;> simp [SlotOp.dests, ScalarOp.dests]
    | mat o f => cases o <;> simp [SlotOp.dests]
    | vec o f =>
      have hv : codeV f.vd ≠ codeV (f.vd + 1) := by
        simp only [codeV, ne_eq, Nat.add_left_cancel_iff]
        intro h
        have := BitVec.eq_of_toNat_eq h
        bv_omega
      cases o <;> (try simp [SlotOp.dests, VOp.dests]) <;> exact hv
    | sf o f => cases o <;> simp [SlotOp.dests]
    | mv o f => cases o <;> simp [SlotOp.dests]
    | sy o f =>
      have hs : codeS f.rd ≠ codeS (nextReg f.rd) := by
        simp only [codeS, nextReg, ne_eq]
        intro h
        have := BitVec.eq_of_toNat_eq h
        bv_omega
      cases o <;> simp [SlotOp.dests, SyOp.dests, hs]
  have := key _ (nd.filter (fun c => c != 0 && c != 32))
  simp [conflict, this]

/-- An operation that passes its checks takes effect (R73, R92). -/
theorem runOne_perform (s : State) (p c : Nat) (rom : Bool) (o : SlotOp) (h : Issues s p c o) :
    s.runOne c rom o = s.perform p c [(issueSlot (s.core c) o, o)] false rom := by
  obtain ⟨⟨_, hp, ht, hf⟩, hfe, hl, hr, hc, hw⟩ := h
  have ht' : (s.core c).task.isNone = false := by simpa [Option.isNone_eq_false_iff] using ht
  simp only [State.runOne, State.ofTask, hp, ht', hf, Bool.or_false, Bool.false_eq_true, if_false, State.decoded,
    List.findSome?_cons, List.findSome?_nil, hfe, Option.map_none, hl, List.map_cons, List.map_nil, conflict_one,
    Bool.false_and, State.issue, hr, hc, hw]

/-- A core command whose operation passes its checks completes with that operation performed. -/
theorem exec_coreOp (s : State) (p c : Nat) (rom : Bool) (o : SlotOp) (i : Instr) (hi : coreOp i = some (c, rom, o))
    (h : Issues s p c o) : exec i s = .next (s.perform p c [(issueSlot (s.core c) o, o)] false rom) := by
  have hx := h.runs.exists?
  have e : exec i s = onCoreId c (.next (s.runOne c rom o)) := by
    cases i <;> simp only [coreOp, Option.some.injEq, Prod.mk.injEq, reduceCtorEq] at hi <;>
      (obtain ⟨rfl, rfl, rfl⟩ := hi; rfl)
  rw [e, onCoreId, if_pos hx, runOne_perform s p c rom o h]

/-- What performing one operation does (R69, R74): its effect, then the PC and mode of the next fetch; a HALT ends the task. -/
theorem perform_one (s : State) (p c n : Nat) (o : SlotOp) (rom : Bool) (h : o ≠ .scalar .halt) :
    s.perform p c [(n, o)] false rom =
      (slotEffect rom p c (s.core c) s o).onCore c (fun k =>
        k.goto (nextFetch (s.core c) [(n, o)] false).1 (nextFetch (s.core c) [(n, o)] false).2) := by
  have hh : halts [(n, o)] = false := by simp [halts, h]
  simp [State.perform, hh, Core.goto]

/-- Fetch goes on with the next instruction or bundle unless a scalar operation redirects it. -/
theorem nextFetch_plain (k : Core) (n : Nat) (o : SlotOp) (h : ∀ x, o = .scalar x → redirect k x = none) :
    nextFetch k [(n, o)] false = k.spec.after false := by
  cases o with
  | scalar x => simp [nextFetch, h x rfl]
  | _ => simp [nextFetch]

@[simp] theorem Core.setS_spec (k : Core) (r : BitVec 5) (w : Word) : (k.setS r w).spec = k.spec := by
  unfold Core.setS; split <;> rfl

@[simp] theorem Core.setS_sync (k : Core) (r : BitVec 5) (w : Word) : (k.setS r w).sync = k.sync := by
  unfold Core.setS; split <;> rfl

/-- A scalar operation whose effect is one register written. -/
theorem perform_wrote (s : State) (p c n : Nat) (o : ScalarOp) (rom : Bool) (rd : BitVec 5) (w : Word) (hh : o ≠ .halt)
    (hr : redirect (s.core c) o = none) (he : scalarEffect s p c (s.core c) o = s.onCore c (fun k => k.setS rd w)) :
    s.perform p c [(n, .scalar o)] false rom = wrote s c rd w := by
  rw [perform_one _ _ _ _ _ _ (by simp [hh]), nextFetch_plain _ _ _ (by rintro x ⟨⟩; exact hr)]
  simp only [slotEffect, he, State.onCore_onCore, wrote]
  apply State.onCore_congr
  simp [Core.advance, Core.goto, Special.after]

/-- Clean registers are not poisoned. -/
theorem poisonExn_clean (k : Core) (l : List Nat) (h : ∀ c ∈ l, Map.find k.poison c = none) : k.poisonExn l = none := by
  have : l.findSome? (fun c => Map.find k.poison c) = none := by simpa using h
  simp [Core.poisonExn, Core.firstPoison, this]

/-- A scalar operation that reads clean registers, is no memory access, special or control operation, issues. -/
theorem issues_plain (s : State) (p c : Nat) (o : ScalarOp) (hr : Runs s p c) (hp : ∀ x ∈ o.srcs, Map.find (s.core c).poison x = none)
    (hl : o.illegal (s.core c) = false) (hc : o.control = false)
    (hk : scalarCheck s p c (s.core c) o = (s.core c).poisonExn o.srcs) (hf : fetchExn (s.core c) o = none) : Issues s p c (.scalar o) where
  runs := hr
  fetch := hf
  legal := by simp [slotIllegal, hl, hc]
  room := by simp [resourceStall, SlotOp.tiles]
  checks := by simp only [slotCheck]; rw [hk, poisonExn_clean _ _ hp]
  wait := by simp [waitOf]

end Sys2Proof.Machine
end

