-- ==== Sys2Proof/Laws/Memory.lean ====
section
/-! SUPPORT. Laws of memory: the canonical form is kept by every memory operation; a read after a write. -/
/- One declaration after another: the package as one text then needs few threads at a time. -/
set_option Elab.async false

namespace Sys2Proof.Machine

/-! ## The canonical form -/

theorem Mem.wfFrom_le (m : Mem) : ∀ lo lo' : Nat, lo' ≤ lo → Mem.wfFrom lo m = true → Mem.wfFrom lo' m = true := by
  cases m with
  | nil => intros; rfl
  | cons x m =>
    obtain ⟨j, c⟩ := x
    intro lo lo' h hw
    simp only [Mem.wfFrom, Bool.and_eq_true, decide_eq_true_eq] at *
    exact ⟨⟨by omega, hw.1.2⟩, hw.2⟩

theorem Mem.write_wfFrom (m : Mem) (a : Nat) (b : BitVec 8) : ∀ lo : Nat, lo ≤ a → Mem.wfFrom lo m = true →
    Mem.wfFrom lo (Mem.write m a b) = true := by
  induction m with
  | nil =>
    intro lo h _
    simp only [Mem.write]
    split
    · rfl
    · simp [Mem.wfFrom, *]
  | cons x m ih =>
    obtain ⟨j, c⟩ := x
    intro lo h hw
    simp only [Mem.wfFrom, Bool.and_eq_true, decide_eq_true_eq] at hw
    obtain ⟨⟨h1, h2⟩, h3⟩ := hw
    simp only [Mem.write]
    split
    · split
      · simp [Mem.wfFrom, h1, h2, h3]
      · simp only [Mem.wfFrom, Bool.and_eq_true, decide_eq_true_eq]
        exact ⟨⟨h, ‹_›⟩, ⟨by omega, h2⟩, h3⟩
    · split
      · split
        · exact Mem.wfFrom_le m _ _ (by omega) h3
        · simp only [Mem.wfFrom, Bool.and_eq_true, decide_eq_true_eq]
          subst_vars
          exact ⟨⟨h, ‹_›⟩, h3⟩
      · simp only [Mem.wfFrom, Bool.and_eq_true, decide_eq_true_eq]
        exact ⟨⟨h1, h2⟩, ih (j + 1) (by omega) h3⟩

/-- A byte written keeps the canonical form. -/
theorem Mem.write_wf (m : Mem) (a : Nat) (b : BitVec 8) (h : Mem.wf m = true) : Mem.wf (Mem.write m a b) = true :=
  Mem.write_wfFrom m a b 0 (Nat.zero_le _) h

/-- Bytes written keep the canonical form. -/
theorem Mem.writeBytes_wf (bs : List (BitVec 8)) : ∀ (m : Mem) (a : Nat), Mem.wf m = true → Mem.wf (Mem.writeBytes m a bs) = true := by
  induction bs with
  | nil => intro m a h; exact h
  | cons b bs ih => intro m a h; exact ih _ _ (Mem.write_wf m a b h)

theorem Mem.keep_wfFrom (f : Nat → BitVec 8 → Bool) (m : Mem) : ∀ lo : Nat, Mem.wfFrom lo m = true →
    Mem.wfFrom lo (Map.keep f m) = true := by
  induction m with
  | nil => intro lo _; rfl
  | cons x m ih =>
    obtain ⟨j, c⟩ := x
    intro lo hw
    simp only [Mem.wfFrom, Bool.and_eq_true, decide_eq_true_eq] at hw
    have ih' := ih (j + 1) hw.2
    simp only [Map.keep, List.filter_cons] at *
    split
    · simp [Mem.wfFrom, hw.1.1, hw.1.2, ih']
    · exact Mem.wfFrom_le _ _ _ (by omega) ih'

/-- Dropping entries keeps the canonical form. -/
theorem Mem.keep_wf (f : Nat → BitVec 8 → Bool) (m : Mem) (h : Mem.wf m = true) : Mem.wf (Map.keep f m) = true :=
  Mem.keep_wfFrom f m 0 h

theorem State.writeBytes_wf (s : State) (a : Nat) (bs : List Byte) (h : Mem.wf s.mem = true) :
    Mem.wf (s.writeBytes a bs).mem = true := Mem.writeBytes_wf bs s.mem a h

theorem State.writeN_wf (s : State) (a n v : Nat) (h : Mem.wf s.mem = true) : Mem.wf (s.writeN a n v).mem = true :=
  Mem.writeBytes_wf _ s.mem a h

theorem State.zeroRange_wf (s : State) (a n : Nat) (h : Mem.wf s.mem = true) : Mem.wf (s.zeroRange a n).mem = true :=
  Mem.keep_wf (fun k _ => !(decide (a ≤ k) && decide (k < a + n))) s.mem h

theorem State.addWord_wf (s : State) (a v : Nat) (h : Mem.wf s.mem = true) : Mem.wf (s.addWord a v).mem = true := by
  unfold State.addWord
  split <;> exact State.writeN_wf s _ _ _ h

theorem State.copyRange_wf (s : State) (a b n : Nat) (h : Mem.wf s.mem = true) : Mem.wf (s.copyRange a b n).mem = true := by
  unfold State.copyRange
  suffices H : ∀ (l : List Nat) (t : State), Mem.wf t.mem = true →
      Mem.wf (l.foldl (fun t w => let lo := max (8 * w) a - a
        t.poisonRange (b + lo) (min (8 * w + 8) (a + n) - a - lo)) t).mem = true from H _ _ (State.writeBytes_wf s _ _ h)
  intro l
  induction l with
  | nil => intro t ht; exact ht
  | cons x l ih => intro t ht; exact ih _ ht

/-- The memory after reset has the canonical form. -/
theorem State.reset_mem_wf : Mem.wf State.reset.mem = true := rfl

/-! ## Reading and writing -/

theorem Mem.read_write_same (m : Mem) (a : Nat) (b : BitVec 8) : ∀ lo : Nat, Mem.wfFrom lo m = true →
    Mem.read (Mem.write m a b) a = b := by
  induction m with
  | nil =>
    intro lo _
    simp only [Mem.write]
    split <;> simp_all [Mem.read, Map.getD, Map.find]
  | cons x m ih =>
    obtain ⟨j, c⟩ := x
    intro lo hw
    simp only [Mem.wfFrom, Bool.and_eq_true, decide_eq_true_eq] at hw
    have low : ∀ (l : Mem) (k : Nat), a < k → Mem.wfFrom k l = true → Map.find l a = none := by
      intro l
      induction l with
      | nil => intros; rfl
      | cons y l ihl =>
        obtain ⟨i, d⟩ := y
        intro k hk hl
        simp only [Mem.wfFrom, Bool.and_eq_true, decide_eq_true_eq] at hl
        simp only [Map.find]
        rw [if_neg (by omega)]
        exact ihl (i + 1) (by omega) hl.2
    simp only [Mem.write]
    split
    · split
      · have hn := low m (j + 1) (by omega) hw.2
        have hj : a ≠ j := by omega
        simp_all [Mem.read, Map.getD, Map.find]
      · simp [Mem.read, Map.getD, Map.find]
    · split
      · split
        · subst_vars
          have := low m (j + 1) (by omega) hw.2
          simp [Mem.read, Map.getD, this]
        · simp [Mem.read, Map.getD, Map.find]
      · have := ih (j + 1) hw.2
        simp only [Mem.read, Map.getD, Map.find] at *
        rw [if_neg (by omega)]
        exact this

theorem Mem.read_write_ne (m : Mem) (a a' : Nat) (b : BitVec 8) (h : a' ≠ a) : Mem.read (Mem.write m a b) a' = Mem.read m a' := by
  induction m with
  | nil =>
    simp only [Mem.write]
    split <;> simp [Mem.read, Map.getD, Map.find, h]
  | cons x m ih =>
    obtain ⟨j, c⟩ := x
    simp only [Mem.write]
    split
    · split
      · rfl
      · simp [Mem.read, Map.getD, Map.find, h]
    · split
      · split
        · subst_vars; simp [Mem.read, Map.getD, Map.find, h]
        · subst_vars; simp [Mem.read, Map.getD, Map.find, h]
      · simp only [Mem.read, Map.getD, Map.find] at *
        split
        · rfl
        · exact ih

/-- The canonical form is unique: reading after a write gives the byte written. -/
theorem Mem.read_write (m : Mem) (a a' : Nat) (b : BitVec 8) (h : Mem.wf m = true) :
    Mem.read (Mem.write m a b) a' = if a' = a then b else Mem.read m a' := by
  split
  · subst_vars; exact Mem.read_write_same m _ b 0 h
  · exact Mem.read_write_ne m a a' b ‹_›

/-- Every byte outside those written reads as before. -/
theorem Mem.read_writeBytes_out (bs : List (BitVec 8)) : ∀ (m : Mem) (a a' : Nat), (a' < a ∨ a + bs.length ≤ a') →
    Mem.read (Mem.writeBytes m a bs) a' = Mem.read m a' := by
  induction bs with
  | nil => intros; rfl
  | cons b bs ih =>
    intro m a a' h
    simp only [List.length_cons] at h
    rw [Mem.writeBytes, ih _ _ _ (by omega), Mem.read_write_ne _ _ _ _ (by omega)]

/-- The bytes written read back. -/
theorem Mem.read_writeBytes_in (bs : List (BitVec 8)) : ∀ (m : Mem) (a i : Nat) (h : i < bs.length), Mem.wf m = true →
    Mem.read (Mem.writeBytes m a bs) (a + i) = bs[i] := by
  induction bs with
  | nil => intro m a i h; exact absurd h (Nat.not_lt_zero _)
  | cons b bs ih =>
    intro m a i h hw
    rw [Mem.writeBytes]
    cases i with
    | zero =>
      rw [Mem.read_writeBytes_out _ _ _ _ (by omega), Nat.add_zero, Mem.read_write_same _ _ _ 0 hw]
      rfl
    | succ i =>
      have := ih (Mem.write m a b) (a + 1) i (by simpa using h) (Mem.write_wf m a b hw)
      simpa [Nat.add_assoc, Nat.add_comm 1 i] using this

theorem Mem.length_readBytes (m : Mem) (n : Nat) : ∀ a, (Mem.readBytes m a n).length = n := by
  induction n with
  | zero => intro a; rfl
  | succ n ih => intro a; simp [Mem.readBytes, ih]

end Sys2Proof.Machine
end

