-- ==== Sys2Proof/Laws/Keccak.lean ====
section
/-! SUPPORT. Lengths of SHAKE256 outputs and of little-endian words; a run of bytes written reads back. -/
/- One declaration after another: the package as one text then needs few threads at a time. -/
set_option Elab.async false

namespace Sys2Proof.Machine

@[simp] theorem leBytes_length (n : Nat) : ∀ w, (leBytes n w).length = n := by
  induction n with
  | zero => intro w; rfl
  | succ n ih => intro w; simp [leBytes, ih]

@[simp] theorem keccakRound_length (a : List Nat) (rc : Nat) : (keccakRound a rc).length = 25 := by simp [keccakRound, upTo]

theorem keccakFold_length (l : List Nat) : ∀ a : List Nat, a.length = 25 → (l.foldl keccakRound a).length = 25 := by
  induction l with
  | nil => intro a h; exact h
  | cons x l ih => intro a _; exact ih _ (keccakRound_length a x)

theorem keccakF_length (a : List Nat) (h : a.length = 25) : (keccakF a).length = 25 := keccakFold_length _ a h

theorem keccakAbsorbAll_length (l : List (List Byte)) : ∀ a : List Nat, a.length = 25 →
    (l.foldl (fun a b => keccakF (keccakAbsorb a b)) a).length = 25 := by
  induction l with
  | nil => intro a h; exact h
  | cons x l ih => intro a _; exact ih _ (keccakF_length _ (by simp [keccakAbsorb, upTo]))

theorem flatMap_leBytes_length (l : List Nat) : (l.flatMap (leBytes 8)).length = 8 * l.length := by
  induction l with
  | nil => rfl
  | cons x l ih => simp [ih]; omega

theorem keccakSqueeze_length (n : Nat) : ∀ a : List Nat, a.length = 25 → (keccakSqueeze n a).length = 136 * n := by
  induction n with
  | zero => intros; rfl
  | succ n ih =>
    intro a h
    rw [keccakSqueeze, List.length_append, flatMap_leBytes_length, ih _ (keccakF_length a h), List.length_take, h]
    omega

theorem shake256_length (m : List Byte) (n : Nat) : (shake256 m n).length = n := by
  unfold shake256
  simp only [List.length_take]
  rw [keccakSqueeze_length _ _ (keccakAbsorbAll_length _ _ (by simp))]
  simp only [ceilDiv]
  omega

theorem Mem.readBytes_eq (m m' : Mem) (n : Nat) : ∀ a, (∀ i, i < n → Mem.read m (a + i) = Mem.read m' (a + i)) →
    Mem.readBytes m a n = Mem.readBytes m' a n := by
  induction n with
  | zero => intros; rfl
  | succ n ih =>
    intro a h
    rw [Mem.readBytes, Mem.readBytes, show Mem.read m a = Mem.read m' a from h 0 (by omega),
      ih (a + 1) (fun i hi => by simpa [Nat.add_assoc, Nat.add_comm 1 i] using h (i + 1) (by omega))]

/-- Bytes outside those written read as before. -/
theorem Mem.readBytes_writeBytes_out (m : Mem) (a b n : Nat) (bs : List (BitVec 8)) (h : a + n ≤ b ∨ b + bs.length ≤ a) :
    Mem.readBytes (Mem.writeBytes m b bs) a n = Mem.readBytes m a n :=
  Mem.readBytes_eq _ _ n a (fun i hi => Mem.read_writeBytes_out bs m b (a + i) (by omega))

/-- The bytes written read back. -/
theorem Mem.readBytes_writeBytes_in (m : Mem) (a : Nat) (bs : List (BitVec 8)) (h : Mem.wf m = true) :
    Mem.readBytes (Mem.writeBytes m a bs) a bs.length = bs := by
  have key : ∀ n, ∀ (m : Mem) (a : Nat) (l : List (BitVec 8)), l.length = n →
      (∀ i (hi : i < l.length), Mem.read m (a + i) = l[i]) → Mem.readBytes m a n = l := by
    intro n
    induction n with
    | zero => intro m a l hl _; cases l with
      | nil => rfl
      | cons _ _ => simp at hl
    | succ n ih =>
      intro m a l hl hr
      cases l with
      | nil => simp at hl
      | cons x l =>
        have h0 := hr 0 (by simp)
        have := ih m (a + 1) l (by simpa using hl) (fun i hi => by
          have := hr (i + 1) (by simpa using hi)
          simpa [Nat.add_assoc, Nat.add_comm 1 i] using this)
        simp only [Nat.add_zero, List.getElem_cons_zero] at h0
        rw [Mem.readBytes, h0, this]
  exact key _ _ a bs rfl (fun i hi => Mem.read_writeBytes_in bs m a i hi h)

end Sys2Proof.Machine
end

