-- ==== Sys2Proof/Laws/Keeps.lean ====
section
/-! SUPPORT. What no operation of the device undoes: the rules of `Keeps`, from which the lemmas of each operation follow. -/
/- One declaration after another: the package as one text then needs few threads at a time. -/
set_option Elab.async false

namespace Sys2Proof.Machine

theorem Keeps.refl (s : State) : Keeps s s := ⟨rfl, rfl, Nat.le_refl _, id, id, List.prefix_refl _⟩

theorem Keeps.trans {r s t : State} (h : Keeps r s) (g : Keeps s t) : Keeps r t where
  pending := g.pending.trans h.pending
  fuses := by
    have h1 := h.fuses
    have h2 := g.fuses
    rw [h1] at h2
    exact h2
  svn := Nat.le_trans h.svn g.svn
  mem := g.mem ∘ h.mem
  regs := g.regs ∘ h.regs
  out := h.out.trans g.out

/-- A change of none of the parts that `Keeps` names. -/
theorem Keeps.same {z s t : State} (h : Keeps z s) (hp : t.pending = s.pending) (hf : t.fuses = s.fuses) (hm : t.mem = s.mem)
    (hr : t.regs = s.regs) (ho : t.out = s.out) : Keeps z t :=
  h.trans ⟨hp, by rw [hf], by simp [hf], by rw [hm]; exact id, by rw [hr]; exact id,
    by simp [ho]⟩

/-- A change of memory that keeps its form. -/
theorem Keeps.onMem {z s t : State} (h : Keeps z s) (hp : t.pending = s.pending) (hf : t.fuses = s.fuses)
    (hr : t.regs = s.regs) (ho : t.out = s.out) (hm : Mem.wf s.mem = true → Mem.wf t.mem = true) : Keeps z t :=
  h.trans ⟨hp, by rw [hf], by simp [hf], hm, by rw [hr]; exact id, by simp [ho]⟩

/-- A change of registers that keeps their width. -/
theorem Keeps.onRegs {z s t : State} (h : Keeps z s) (hp : t.pending = s.pending) (hf : t.fuses = s.fuses) (hm : t.mem = s.mem)
    (ho : t.out = s.out) (hr : (∀ x ∈ s.regs, x.2 < 2 ^ 64) → ∀ x ∈ t.regs, x.2 < 2 ^ 64) : Keeps z t :=
  h.trans ⟨hp, by rw [hf], by simp [hf], by rw [hm]; exact id, hr, by simp [ho]⟩

theorem Keeps.foldl {z : State} {α : Type} (f : State → α → State) (hf : ∀ s x, Keeps z s → Keeps z (f s x)) :
    ∀ (l : List α) (s : State), Keeps z s → Keeps z (l.foldl f s) := by
  intro l
  induction l with
  | nil => intro s h; exact h
  | cons x l ih => intro s h; exact ih _ (hf s x h)

theorem Keeps.next {z t : State} (h : Keeps z t) : KeepsR z (.next t) := by
  rintro u ⟨⟩; exact h

theorem Keeps.fault {z : State} (f : Fault) : KeepsR z (.fault f) := by
  rintro u ⟨⟩

/-- A state built from another with the parts that `Keeps` names as they were. -/
theorem Keeps.built {z s : State} {clock poison cores parts tenants fab boot twin host time gov pins tap bench free}
    (h : Keeps z s) :
    Keeps z ⟨s.fuses, clock, s.regs, s.mem, poison, cores, parts, tenants, fab, boot, twin, host, time, gov, pins, tap, bench,
      s.out, free, s.pending⟩ := h.same rfl rfl rfl rfl rfl

theorem Keeps.ite {z s t : State} {c : Prop} [Decidable c] (h : Keeps z s) (g : Keeps z t) : Keeps z (if c then s else t) := by
  split
  · exact h
  · exact g

theorem KeepsR.ite {z : State} {r q : Res} {c : Prop} [Decidable c] (h : KeepsR z r) (g : KeepsR z q) :
    KeepsR z (if c then r else q) := by
  split
  · exact h
  · exact g

end Sys2Proof.Machine
end

