-- ==== Sys2Proof/Laws/KeepsOps.lean ====
section
/-! SUPPORT. The shared operations, time and addresses undo nothing that `Keeps` names. -/
/- One declaration after another: the package as one text then needs few threads at a time. -/
set_option Elab.async false
/- One chain of tactics serves every lemma here; a step of it that finds nothing to do is meant. -/
set_option linter.all false

namespace Sys2Proof.Machine

theorem keeps_State_setRegAt {z : State} : ∀ s key v, Keeps z s → Keeps z (State.setRegAt s key v) := by
  intro s key v h
  refine h.onRegs rfl rfl rfl rfl (fun hr x hx => ?_)
  rcases Map.mem_put _ _ _ _ hx with rfl | hx
  · exact Nat.mod_lt _ (by decide)
  · exact hr _ hx

theorem keeps_State_setB {z : State} : ∀ s a1 a2 a3 a4, Keeps z s → Keeps z (State.setB s a1 a2 a3 a4) := by
  intro s a1 a2 a3 a4 h
  unfold State.setB
  try dsimp only
  repeat' first | with_reducible assumption | with_reducible apply keeps_State_setRegAt | with_reducible apply Keeps.foldl | with_reducible apply Keeps.next | with_reducible apply Keeps.fault | with_reducible apply Keeps.ite | with_reducible apply KeepsR.ite | split | (intro) | with_reducible apply Keeps.built

theorem keeps_State_set {z : State} : ∀ s a1 a2 a3, Keeps z s → Keeps z (State.set s a1 a2 a3) := by
  intro s a1 a2 a3 h
  unfold State.set
  try dsimp only
  repeat' first | with_reducible assumption | with_reducible apply keeps_State_setB | with_reducible apply Keeps.foldl | with_reducible apply Keeps.next | with_reducible apply Keeps.fault | with_reducible apply Keeps.ite | with_reducible apply KeepsR.ite | split | (intro) | with_reducible apply Keeps.built

theorem keeps_State_bump {z : State} : ∀ s a1 a2 a3, Keeps z s → Keeps z (State.bump s a1 a2 a3) := by
  intro s a1 a2 a3 h
  unfold State.bump
  try dsimp only
  repeat' first | with_reducible assumption | with_reducible apply keeps_State_set | with_reducible apply Keeps.foldl | with_reducible apply Keeps.next | with_reducible apply Keeps.fault | with_reducible apply Keeps.ite | with_reducible apply KeepsR.ite | split | (intro) | with_reducible apply Keeps.built

theorem keeps_State_bumpB {z : State} : ∀ s a1 a2 a3 a4, Keeps z s → Keeps z (State.bumpB s a1 a2 a3 a4) := by
  intro s a1 a2 a3 a4 h
  unfold State.bumpB
  try dsimp only
  repeat' first | with_reducible assumption | with_reducible apply keeps_State_setB | with_reducible apply Keeps.foldl | with_reducible apply Keeps.next | with_reducible apply Keeps.fault | with_reducible apply Keeps.ite | with_reducible apply KeepsR.ite | split | (intro) | with_reducible apply Keeps.built

theorem keeps_State_setCore {z : State} : ∀ s a1 a2, Keeps z s → Keeps z (State.setCore s a1 a2) := by
  intro s a1 a2 h
  unfold State.setCore
  try dsimp only
  repeat' first | with_reducible assumption | with_reducible apply Keeps.foldl | with_reducible apply Keeps.next | with_reducible apply Keeps.fault | with_reducible apply Keeps.ite | with_reducible apply KeepsR.ite | split | (intro) | with_reducible apply Keeps.built

theorem keeps_State_onCore {z : State} : ∀ s a1 a2, Keeps z s → Keeps z (State.onCore s a1 a2) := by
  intro s a1 a2 h
  unfold State.onCore
  try dsimp only
  repeat' first | with_reducible assumption | with_reducible apply keeps_State_setCore | with_reducible apply Keeps.foldl | with_reducible apply Keeps.next | with_reducible apply Keeps.fault | with_reducible apply Keeps.ite | with_reducible apply KeepsR.ite | split | (intro) | with_reducible apply Keeps.built

theorem keeps_State_setPart {z : State} : ∀ s a1 a2, Keeps z s → Keeps z (State.setPart s a1 a2) := by
  intro s a1 a2 h
  unfold State.setPart
  try dsimp only
  repeat' first | with_reducible assumption | with_reducible apply Keeps.foldl | with_reducible apply Keeps.next | with_reducible apply Keeps.fault | with_reducible apply Keeps.ite | with_reducible apply KeepsR.ite | split | (intro) | with_reducible apply Keeps.built

theorem keeps_State_onPart {z : State} : ∀ s a1 a2, Keeps z s → Keeps z (State.onPart s a1 a2) := by
  intro s a1 a2 h
  unfold State.onPart
  try dsimp only
  repeat' first | with_reducible assumption | with_reducible apply keeps_State_setPart | with_reducible apply Keeps.foldl | with_reducible apply Keeps.next | with_reducible apply Keeps.fault | with_reducible apply Keeps.ite | with_reducible apply KeepsR.ite | split | (intro) | with_reducible apply Keeps.built

theorem keeps_State_onSched {z : State} : ∀ s a1 a2, Keeps z s → Keeps z (State.onSched s a1 a2) := by
  intro s a1 a2 h
  unfold State.onSched
  try dsimp only
  repeat' first | with_reducible assumption | with_reducible apply keeps_State_onPart | with_reducible apply Keeps.foldl | with_reducible apply Keeps.next | with_reducible apply Keeps.fault | with_reducible apply Keeps.ite | with_reducible apply KeepsR.ite | split | (intro) | with_reducible apply Keeps.built

theorem keeps_State_onTiers {z : State} : ∀ s a1 a2, Keeps z s → Keeps z (State.onTiers s a1 a2) := by
  intro s a1 a2 h
  unfold State.onTiers
  try dsimp only
  repeat' first | with_reducible assumption | with_reducible apply keeps_State_onPart | with_reducible apply Keeps.foldl | with_reducible apply Keeps.next | with_reducible apply Keeps.fault | with_reducible apply Keeps.ite | with_reducible apply KeepsR.ite | split | (intro) | with_reducible apply Keeps.built

theorem keeps_State_onGen {z : State} : ∀ s a1 a2, Keeps z s → Keeps z (State.onGen s a1 a2) := by
  intro s a1 a2 h
  unfold State.onGen
  try dsimp only
  repeat' first | with_reducible assumption | with_reducible apply keeps_State_onPart | with_reducible apply Keeps.foldl | with_reducible apply Keeps.next | with_reducible apply Keeps.fault | with_reducible apply Keeps.ite | with_reducible apply KeepsR.ite | split | (intro) | with_reducible apply Keeps.built

theorem keeps_State_onWslot {z : State} : ∀ s a1 a2 a3, Keeps z s → Keeps z (State.onWslot s a1 a2 a3) := by
  intro s a1 a2 a3 h
  unfold State.onWslot
  try dsimp only
  repeat' first | with_reducible assumption | with_reducible apply keeps_State_onPart | with_reducible apply Keeps.foldl | with_reducible apply Keeps.next | with_reducible apply Keeps.fault | with_reducible apply Keeps.ite | with_reducible apply KeepsR.ite | split | (intro) | with_reducible apply Keeps.built

theorem keeps_State_onRed {z : State} : ∀ s a1 a2, Keeps z s → Keeps z (State.onRed s a1 a2) := by
  intro s a1 a2 h
  unfold State.onRed
  try dsimp only
  repeat' first | with_reducible assumption | with_reducible apply keeps_State_onPart | with_reducible apply Keeps.foldl | with_reducible apply Keeps.next | with_reducible apply Keeps.fault | with_reducible apply Keeps.ite | with_reducible apply KeepsR.ite | split | (intro) | with_reducible apply Keeps.built

theorem keeps_State_onUpd {z : State} : ∀ s a1 a2, Keeps z s → Keeps z (State.onUpd s a1 a2) := by
  intro s a1 a2 h
  unfold State.onUpd
  try dsimp only
  repeat' first | with_reducible assumption | with_reducible apply keeps_State_onPart | with_reducible apply Keeps.foldl | with_reducible apply Keeps.next | with_reducible apply Keeps.fault | with_reducible apply Keeps.ite | with_reducible apply KeepsR.ite | split | (intro) | with_reducible apply Keeps.built

theorem keeps_State_onChecks {z : State} : ∀ s a1 a2, Keeps z s → Keeps z (State.onChecks s a1 a2) := by
  intro s a1 a2 h
  unfold State.onChecks
  try dsimp only
  repeat' first | with_reducible assumption | with_reducible apply keeps_State_onPart | with_reducible apply Keeps.foldl | with_reducible apply Keeps.next | with_reducible apply Keeps.fault | with_reducible apply Keeps.ite | with_reducible apply KeepsR.ite | split | (intro) | with_reducible apply Keeps.built

theorem keeps_State_onBulk {z : State} : ∀ s a1 a2, Keeps z s → Keeps z (State.onBulk s a1 a2) := by
  intro s a1 a2 h
  unfold State.onBulk
  try dsimp only
  repeat' first | with_reducible assumption | with_reducible apply keeps_State_onPart | with_reducible apply Keeps.foldl | with_reducible apply Keeps.next | with_reducible apply Keeps.fault | with_reducible apply Keeps.ite | with_reducible apply KeepsR.ite | split | (intro) | with_reducible apply Keeps.built

theorem keeps_State_onCkpt {z : State} : ∀ s a1 a2, Keeps z s → Keeps z (State.onCkpt s a1 a2) := by
  intro s a1 a2 h
  unfold State.onCkpt
  try dsimp only
  repeat' first | with_reducible assumption | with_reducible apply keeps_State_onPart | with_reducible apply Keeps.foldl | with_reducible apply Keeps.next | with_reducible apply Keeps.fault | with_reducible apply Keeps.ite | with_reducible apply KeepsR.ite | split | (intro) | with_reducible apply Keeps.built

theorem keeps_State_onTwin {z : State} : ∀ s a1, Keeps z s → Keeps z (State.onTwin s a1) := by
  intro s a1 h
  unfold State.onTwin
  try dsimp only
  repeat' first | with_reducible assumption | with_reducible apply Keeps.foldl | with_reducible apply Keeps.next | with_reducible apply Keeps.fault | with_reducible apply Keeps.ite | with_reducible apply KeepsR.ite | split | (intro) | with_reducible apply Keeps.built

theorem keeps_State_stepFails {z : State} : ∀ s a1 a2, Keeps z s → Keeps z (State.stepFails s a1 a2) := by
  intro s a1 a2 h
  unfold State.stepFails
  try dsimp only
  repeat' first | with_reducible assumption | with_reducible apply keeps_State_onChecks | with_reducible apply Keeps.foldl | with_reducible apply Keeps.next | with_reducible apply Keeps.fault | with_reducible apply Keeps.ite | with_reducible apply KeepsR.ite | split | (intro) | with_reducible apply Keeps.built

theorem keeps_State_onFab {z : State} : ∀ s a1, Keeps z s → Keeps z (State.onFab s a1) := by
  intro s a1 h
  unfold State.onFab
  try dsimp only
  repeat' first | with_reducible assumption | with_reducible apply Keeps.foldl | with_reducible apply Keeps.next | with_reducible apply Keeps.fault | with_reducible apply Keeps.ite | with_reducible apply KeepsR.ite | split | (intro) | with_reducible apply Keeps.built

theorem keeps_State_onLink {z : State} : ∀ s a1 a2, Keeps z s → Keeps z (State.onLink s a1 a2) := by
  intro s a1 a2 h
  unfold State.onLink
  try dsimp only
  repeat' first | with_reducible assumption | with_reducible apply keeps_State_onFab | with_reducible apply Keeps.foldl | with_reducible apply Keeps.next | with_reducible apply Keeps.fault | with_reducible apply Keeps.ite | with_reducible apply KeepsR.ite | split | (intro) | with_reducible apply Keeps.built

theorem keeps_State_onBoot {z : State} : ∀ s a1, Keeps z s → Keeps z (State.onBoot s a1) := by
  intro s a1 h
  unfold State.onBoot
  try dsimp only
  repeat' first | with_reducible assumption | with_reducible apply Keeps.foldl | with_reducible apply Keeps.next | with_reducible apply Keeps.fault | with_reducible apply Keeps.ite | with_reducible apply KeepsR.ite | split | (intro) | with_reducible apply Keeps.built

theorem keeps_State_setTenant {z : State} : ∀ s a1 a2, Keeps z s → Keeps z (State.setTenant s a1 a2) := by
  intro s a1 a2 h
  unfold State.setTenant
  try dsimp only
  repeat' first | with_reducible assumption | with_reducible apply Keeps.foldl | with_reducible apply Keeps.next | with_reducible apply Keeps.fault | with_reducible apply Keeps.ite | with_reducible apply KeepsR.ite | split | (intro) | with_reducible apply Keeps.built

theorem keeps_State_drawFree {z : State} : ∀ s, Keeps z s → Keeps z (State.drawFree s).2 := by
  intro s h
  unfold State.drawFree
  try dsimp only
  repeat' first | with_reducible assumption | with_reducible apply Keeps.foldl | with_reducible apply Keeps.next | with_reducible apply Keeps.fault | with_reducible apply Keeps.ite | with_reducible apply KeepsR.ite | split | (intro) | with_reducible apply Keeps.built


theorem keeps_State_drawFree_eq {z : State} : ∀ s x t, (State.drawFree s) = (x, t) → Keeps z s → Keeps z t := by
  intro s x t e h
  have := keeps_State_drawFree s h
  rw [e] at this
  exact this

theorem keeps_State_emit {z : State} : ∀ s o, Keeps z s → Keeps z (State.emit s o) := by
  intro s o h
  exact h.trans ⟨rfl, rfl, Nat.le_refl _, id, id, List.prefix_append _ _⟩

theorem keeps_State_writeBytes {z : State} : ∀ s a bs, Keeps z s → Keeps z (State.writeBytes s a bs) := by
  intro s a bs h
  exact h.onMem rfl rfl rfl rfl (State.writeBytes_wf s a bs)

theorem keeps_State_writeN {z : State} : ∀ s a1 a2 a3, Keeps z s → Keeps z (State.writeN s a1 a2 a3) := by
  intro s a1 a2 a3 h
  unfold State.writeN
  try dsimp only
  repeat' first | with_reducible assumption | with_reducible apply keeps_State_writeBytes | with_reducible apply Keeps.foldl | with_reducible apply Keeps.next | with_reducible apply Keeps.fault | with_reducible apply Keeps.ite | with_reducible apply KeepsR.ite | split | (intro) | with_reducible apply Keeps.built

theorem keeps_State_poisonRange {z : State} : ∀ s a1 a2, Keeps z s → Keeps z (State.poisonRange s a1 a2) := by
  intro s a1 a2 h
  unfold State.poisonRange
  try dsimp only
  repeat' first | with_reducible assumption | with_reducible apply Keeps.foldl | with_reducible apply Keeps.next | with_reducible apply Keeps.fault | with_reducible apply Keeps.ite | with_reducible apply KeepsR.ite | split | (intro) | with_reducible apply Keeps.built

theorem keeps_State_zeroRange {z : State} : ∀ s a n, Keeps z s → Keeps z (State.zeroRange s a n) := by
  intro s a n h
  exact h.onMem rfl rfl rfl rfl (State.zeroRange_wf s a n)

theorem keeps_State_copyRange {z : State} : ∀ s a1 a2 a3, Keeps z s → Keeps z (State.copyRange s a1 a2 a3) := by
  intro s a1 a2 a3 h
  unfold State.copyRange
  try dsimp only
  repeat' first | with_reducible assumption | with_reducible apply keeps_State_poisonRange | with_reducible apply keeps_State_writeBytes | with_reducible apply Keeps.foldl | with_reducible apply Keeps.next | with_reducible apply Keeps.fault | with_reducible apply Keeps.ite | with_reducible apply KeepsR.ite | split | (intro) | with_reducible apply Keeps.built

theorem keeps_State_addWord {z : State} : ∀ s a1 a2, Keeps z s → Keeps z (State.addWord s a1 a2) := by
  intro s a1 a2 h
  unfold State.addWord
  try dsimp only
  repeat' first | with_reducible assumption | with_reducible apply keeps_State_writeN | with_reducible apply keeps_State_poisonRange | with_reducible apply Keeps.foldl | with_reducible apply Keeps.next | with_reducible apply Keeps.fault | with_reducible apply Keeps.ite | with_reducible apply KeepsR.ite | split | (intro) | with_reducible apply Keeps.built

theorem keeps_State_freeBytes {z : State} : ∀ s a1, Keeps z s → Keeps z (State.freeBytes s a1).2 := by
  intro s a1 h
  unfold State.freeBytes
  try dsimp only
  repeat' first | with_reducible assumption | with_reducible apply Keeps.foldl | with_reducible apply Keeps.next | with_reducible apply Keeps.fault | with_reducible apply Keeps.ite | with_reducible apply KeepsR.ite | split | (intro) | with_reducible apply Keeps.built


theorem keeps_State_freeBytes_eq {z : State} : ∀ s a1 x t, (State.freeBytes s a1) = (x, t) → Keeps z s → Keeps z t := by
  intro s a1 x t e h
  have := keeps_State_freeBytes s a1 h
  rw [e] at this
  exact this

theorem keeps_State_onHost {z : State} : ∀ s a1, Keeps z s → Keeps z (State.onHost s a1) := by
  intro s a1 h
  unfold State.onHost
  try dsimp only
  repeat' first | with_reducible assumption | with_reducible apply Keeps.foldl | with_reducible apply Keeps.next | with_reducible apply Keeps.fault | with_reducible apply Keeps.ite | with_reducible apply KeepsR.ite | split | (intro) | with_reducible apply Keeps.built

theorem keeps_State_hostSend {z : State} : ∀ s a1 a2 a3 a4 a5 a6, Keeps z s → Keeps z (State.hostSend s a1 a2 a3 a4 a5 a6) := by
  intro s a1 a2 a3 a4 a5 a6 h
  unfold State.hostSend
  try dsimp only
  repeat' first | with_reducible assumption | with_reducible apply keeps_State_bump | with_reducible apply keeps_State_emit | with_reducible apply keeps_State_onHost | with_reducible apply Keeps.foldl | with_reducible apply Keeps.next | with_reducible apply Keeps.fault | with_reducible apply Keeps.ite | with_reducible apply KeepsR.ite | split | (intro) | with_reducible apply Keeps.built

theorem keeps_State_hostEntry {z : State} : ∀ s a1 a2 a3 a4 a5 a6, Keeps z s → Keeps z (State.hostEntry s a1 a2 a3 a4 a5 a6) := by
  intro s a1 a2 a3 a4 a5 a6 h
  unfold State.hostEntry
  try dsimp only
  repeat' first | with_reducible assumption | with_reducible apply keeps_State_hostSend | with_reducible apply Keeps.foldl | with_reducible apply Keeps.next | with_reducible apply Keeps.fault | with_reducible apply Keeps.ite | with_reducible apply KeepsR.ite | split | (intro) | with_reducible apply Keeps.built

theorem keeps_State_putEvent {z : State} : ∀ s a1 a2 a3 a4 a5, Keeps z s → Keeps z (State.putEvent s a1 a2 a3 a4 a5) := by
  intro s a1 a2 a3 a4 a5 h
  unfold State.putEvent
  try dsimp only
  repeat' first | with_reducible assumption | with_reducible apply keeps_State_setTenant | with_reducible apply keeps_State_hostEntry | with_reducible apply Keeps.foldl | with_reducible apply Keeps.next | with_reducible apply Keeps.fault | with_reducible apply Keeps.ite | with_reducible apply KeepsR.ite | split | (intro) | with_reducible apply Keeps.built

theorem keeps_State_loseEvent {z : State} : ∀ s a1, Keeps z s → Keeps z (State.loseEvent s a1) := by
  intro s a1 h
  unfold State.loseEvent
  try dsimp only
  repeat' first | with_reducible assumption | with_reducible apply keeps_State_setTenant | with_reducible apply keeps_State_bump | with_reducible apply Keeps.foldl | with_reducible apply Keeps.next | with_reducible apply Keeps.fault | with_reducible apply Keeps.ite | with_reducible apply KeepsR.ite | split | (intro) | with_reducible apply Keeps.built

theorem keeps_State_reportLost {z : State} : ∀ s a1, Keeps z s → Keeps z (State.reportLost s a1) := by
  intro s a1 h
  unfold State.reportLost
  try dsimp only
  repeat' first | with_reducible assumption | with_reducible apply keeps_State_set | with_reducible apply keeps_State_setTenant | with_reducible apply keeps_State_bump | with_reducible apply keeps_State_putEvent | with_reducible apply Keeps.foldl | with_reducible apply Keeps.next | with_reducible apply Keeps.fault | with_reducible apply Keeps.ite | with_reducible apply KeepsR.ite | split | (intro) | with_reducible apply Keeps.built

theorem keeps_State_deliverEvent {z : State} : ∀ s a1 a2 a3 a4 a5, Keeps z s → Keeps z (State.deliverEvent s a1 a2 a3 a4 a5) := by
  intro s a1 a2 a3 a4 a5 h
  unfold State.deliverEvent
  try dsimp only
  repeat' first | with_reducible assumption | with_reducible apply keeps_State_loseEvent | with_reducible apply keeps_State_reportLost | with_reducible apply keeps_State_putEvent | with_reducible apply Keeps.foldl | with_reducible apply Keeps.next | with_reducible apply Keeps.fault | with_reducible apply Keeps.ite | with_reducible apply KeepsR.ite | split | (intro) | with_reducible apply Keeps.built

theorem keeps_State_routeDevice {z : State} : ∀ s a1 a2, Keeps z s → Keeps z (State.routeDevice s a1 a2) := by
  intro s a1 a2 h
  unfold State.routeDevice
  try dsimp only
  repeat' first | with_reducible assumption | with_reducible apply keeps_State_deliverEvent | with_reducible apply keeps_State_bump | with_reducible apply Keeps.foldl | with_reducible apply Keeps.next | with_reducible apply Keeps.fault | with_reducible apply Keeps.ite | with_reducible apply KeepsR.ite | split | (intro) | with_reducible apply Keeps.built

theorem keeps_State_markEvent {z : State} : ∀ s a1 a2 a3, Keeps z s → Keeps z (State.markEvent s a1 a2 a3) := by
  intro s a1 a2 a3 h
  unfold State.markEvent
  try dsimp only
  repeat' first | with_reducible assumption | with_reducible apply keeps_State_bump | with_reducible apply keeps_State_set | with_reducible apply Keeps.foldl | with_reducible apply Keeps.next | with_reducible apply Keeps.fault | with_reducible apply Keeps.ite | with_reducible apply KeepsR.ite | split | (intro) | with_reducible apply Keeps.built

theorem keeps_State_raise {z : State} : ∀ s a1 a2 a3 a4, Keeps z s → Keeps z (State.raise s a1 a2 a3 a4) := by
  intro s a1 a2 a3 a4 h
  unfold State.raise
  try dsimp only
  repeat' first | with_reducible assumption | with_reducible apply keeps_State_markEvent | with_reducible apply keeps_State_routeDevice | with_reducible apply keeps_State_deliverEvent | with_reducible apply Keeps.foldl | with_reducible apply Keeps.next | with_reducible apply Keeps.fault | with_reducible apply Keeps.ite | with_reducible apply KeepsR.ite | split | (intro) | with_reducible apply Keeps.built

theorem keeps_State_pageFault {z : State} : ∀ s a1 a2 a3 a4, Keeps z s → Keeps z (State.pageFault s a1 a2 a3 a4) := by
  intro s a1 a2 a3 a4 h
  unfold State.pageFault
  try dsimp only
  repeat' first | with_reducible assumption | with_reducible apply keeps_State_set | with_reducible apply keeps_State_raise | with_reducible apply Keeps.foldl | with_reducible apply Keeps.next | with_reducible apply Keeps.fault | with_reducible apply Keeps.ite | with_reducible apply KeepsR.ite | split | (intro) | with_reducible apply Keeps.built

theorem keeps_State_regFault {z : State} : ∀ s a1 a2, Keeps z s → Keeps z (State.regFault s a1 a2) := by
  intro s a1 a2 h
  unfold State.regFault
  try dsimp only
  repeat' first | with_reducible assumption | with_reducible apply keeps_State_pageFault | with_reducible apply Keeps.foldl | with_reducible apply Keeps.next | with_reducible apply Keeps.fault | with_reducible apply Keeps.ite | with_reducible apply KeepsR.ite | split | (intro) | with_reducible apply Keeps.built

theorem keeps_State_cqReserve {z : State} : ∀ s a1, Keeps z s → Keeps z (State.cqReserve s a1) := by
  intro s a1 h
  unfold State.cqReserve
  try dsimp only
  repeat' first | with_reducible assumption | with_reducible apply keeps_State_setTenant | with_reducible apply Keeps.foldl | with_reducible apply Keeps.next | with_reducible apply Keeps.fault | with_reducible apply Keeps.ite | with_reducible apply KeepsR.ite | split | (intro) | with_reducible apply Keeps.built

theorem keeps_State_complete {z : State} : ∀ s a1 a2 a3 a4 a5, Keeps z s → Keeps z (State.complete s a1 a2 a3 a4 a5) := by
  intro s a1 a2 a3 a4 a5 h
  unfold State.complete
  try dsimp only
  repeat' first | with_reducible assumption | with_reducible apply keeps_State_setTenant | with_reducible apply keeps_State_hostEntry | with_reducible apply Keeps.foldl | with_reducible apply Keeps.next | with_reducible apply Keeps.fault | with_reducible apply Keeps.ite | with_reducible apply KeepsR.ite | split | (intro) | with_reducible apply Keeps.built

theorem keeps_State_faultRecord {z : State} : ∀ s a1 a2, Keeps z s → Keeps z (State.faultRecord s a1 a2) := by
  intro s a1 a2 h
  unfold State.faultRecord
  try dsimp only
  repeat' first | with_reducible assumption | with_reducible apply keeps_State_writeBytes | with_reducible apply keeps_State_raise | with_reducible apply keeps_State_bump | with_reducible apply Keeps.foldl | with_reducible apply Keeps.next | with_reducible apply Keeps.fault | with_reducible apply Keeps.ite | with_reducible apply KeepsR.ite | split | (intro) | with_reducible apply Keeps.built

theorem keeps_State_countTick {z : State} : ∀ s, Keeps z s → Keeps z (State.countTick s) := by
  intro s h
  unfold State.countTick
  try dsimp only
  repeat' first | with_reducible assumption | with_reducible apply keeps_State_bump | with_reducible apply Keeps.foldl | with_reducible apply Keeps.next | with_reducible apply Keeps.fault | with_reducible apply Keeps.ite | with_reducible apply KeepsR.ite | split | (intro) | with_reducible apply Keeps.built

theorem keeps_State_tick {z : State} : ∀ s, Keeps z s → Keeps z (State.tick s) := by
  intro s h
  unfold State.tick
  try dsimp only
  repeat' first | with_reducible assumption | with_reducible apply keeps_State_countTick | with_reducible apply Keeps.foldl | with_reducible apply Keeps.next | with_reducible apply Keeps.fault | with_reducible apply Keeps.ite | with_reducible apply KeepsR.ite | split | (intro) | with_reducible apply Keeps.built

theorem keeps_State_wakeUp {z : State} : ∀ s a1, Keeps z s → Keeps z (State.wakeUp s a1) := by
  intro s a1 h
  unfold State.wakeUp
  try dsimp only
  repeat' first | with_reducible assumption | with_reducible apply keeps_State_set | with_reducible apply Keeps.foldl | with_reducible apply Keeps.next | with_reducible apply Keeps.fault | with_reducible apply Keeps.ite | with_reducible apply KeepsR.ite | split | (intro) | with_reducible apply Keeps.built

theorem keeps_onCoreId {z : State} : ∀ c r, KeepsR z r → KeepsR z (onCoreId c r) := by
  intro c r h
  unfold onCoreId
  split
  · exact h
  · exact Keeps.fault _

theorem keeps_onPid {z : State} : ∀ c r, KeepsR z r → KeepsR z (onPid c r) := by
  intro c r h
  unfold onPid
  split
  · exact h
  · exact Keeps.fault _

theorem keeps_onTid {z : State} : ∀ c r, KeepsR z r → KeepsR z (onTid c r) := by
  intro c r h
  unfold onTid
  split
  · exact h
  · exact Keeps.fault _

theorem keeps_onPort {z : State} : ∀ c r, KeepsR z r → KeepsR z (onPort c r) := by
  intro c r h
  unfold onPort
  split
  · exact h
  · exact Keeps.fault _

theorem keeps_onHport {z : State} : ∀ c r, KeepsR z r → KeepsR z (onHport c r) := by
  intro c r h
  unfold onHport
  split
  · exact h
  · exact Keeps.fault _

theorem keeps_onQp {z : State} : ∀ c r, KeepsR z r → KeepsR z (onQp c r) := by
  intro c r h
  unfold onQp
  split
  · exact h
  · exact Keeps.fault _

theorem keeps_State_guard {z : State} : ∀ s r a t, Keeps z s → Keeps z t → Keeps z (State.guard s r a t) := by
  intro s r a t h g
  unfold State.guard
  repeat' first | with_reducible exact h | with_reducible exact g | split | with_reducible apply keeps_State_raise | with_reducible apply keeps_State_regFault | (with_reducible apply keeps_State_pageFault) | (with_reducible apply keeps_State_set) | with_reducible apply keeps_State_bump

theorem keeps_State_writeReg {z : State} : ∀ s a1 a2 a3 a4 a5, Keeps z s → Keeps z (State.writeReg s a1 a2 a3 a4 a5) := by
  intro s a1 a2 a3 a4 a5 h
  unfold State.writeReg
  try dsimp only
  repeat' first | with_reducible assumption | with_reducible apply keeps_State_setRegAt | with_reducible apply keeps_State_regFault | with_reducible apply Keeps.foldl | with_reducible apply Keeps.next | with_reducible apply Keeps.fault | with_reducible apply Keeps.ite | with_reducible apply KeepsR.ite | split | (intro) | with_reducible apply Keeps.built

end Sys2Proof.Machine
end

