-- ==== Sys2Proof/Laws/KeepsA.lean ====
section
/-! SUPPORT. The same of boot, time, links, the core's slots, tasks, contexts, weights, tiers and setts. -/
/- One declaration after another: the package as one text then needs few threads at a time. -/
set_option Elab.async false
/- One chain of tactics serves every lemma here; a step of it that finds nothing to do is meant. -/
set_option linter.all false

namespace Sys2Proof.Machine

theorem keeps_State_setMeas {z : State} : ∀ s a1 a2, Keeps z s → Keeps z (State.setMeas s a1 a2) := by
  intro s a1 a2 h
  unfold State.setMeas
  try dsimp only
  repeat' first | with_reducible intro _ | with_reducible assumption | with_reducible apply Keeps.ite | with_reducible apply KeepsR.ite | with_reducible apply keeps_State_onBoot | with_reducible apply Keeps.foldl | with_reducible apply Keeps.next | with_reducible apply Keeps.fault | with_reducible apply Keeps.ite | with_reducible apply KeepsR.ite | split | with_reducible apply Keeps.built

theorem keeps_State_extendMeas {z : State} : ∀ s a1 a2, Keeps z s → Keeps z (State.extendMeas s a1 a2) := by
  intro s a1 a2 h
  unfold State.extendMeas
  try dsimp only
  repeat' first | with_reducible intro _ | with_reducible assumption | with_reducible apply Keeps.ite | with_reducible apply KeepsR.ite | with_reducible apply keeps_State_setMeas | with_reducible apply Keeps.foldl | with_reducible apply Keeps.next | with_reducible apply Keeps.fault | with_reducible apply Keeps.ite | with_reducible apply KeepsR.ite | split | with_reducible apply Keeps.built

theorem keeps_State_setRegBytes {z : State} : ∀ s off n bs, Keeps z s → Keeps z (State.setRegBytes s off n bs) := by
  intro s off n bs
  induction n generalizing s off bs with
  | zero =>
    intro h
    unfold State.setRegBytes
    repeat' first | with_reducible intro _ | with_reducible assumption | with_reducible apply keeps_State_setRegAt | with_reducible apply Keeps.foldl | with_reducible apply Keeps.next | with_reducible apply Keeps.fault | with_reducible apply Keeps.ite | with_reducible apply KeepsR.ite | split | with_reducible apply Keeps.built
  | succ n ih =>
    intro h
    unfold State.setRegBytes
    try dsimp only
    repeat' first | with_reducible intro _ | with_reducible assumption | with_reducible apply ih | with_reducible apply keeps_State_setRegAt | with_reducible apply Keeps.foldl | with_reducible apply Keeps.next | with_reducible apply Keeps.fault | with_reducible apply Keeps.ite | with_reducible apply KeepsR.ite | split | with_reducible apply Keeps.built

theorem keeps_State_setBootState {z : State} : ∀ s a1, Keeps z s → Keeps z (State.setBootState s a1) := by
  intro s a1 h
  unfold State.setBootState
  try dsimp only
  repeat' first | with_reducible intro _ | with_reducible assumption | with_reducible apply Keeps.ite | with_reducible apply KeepsR.ite | with_reducible apply keeps_State_set | with_reducible apply Keeps.foldl | with_reducible apply Keeps.next | with_reducible apply Keeps.fault | with_reducible apply Keeps.ite | with_reducible apply KeepsR.ite | split | with_reducible apply Keeps.built

theorem keeps_State_coldBoot {z : State} : ∀ s a1 a2, Keeps z s → Keeps z (State.coldBoot s a1 a2) := by
  intro s a1 a2 h
  unfold State.coldBoot
  try dsimp only
  repeat' first | with_reducible intro _ | with_reducible assumption | with_reducible apply Keeps.ite | with_reducible apply KeepsR.ite | with_reducible apply keeps_State_set | with_reducible apply keeps_State_setMeas | with_reducible apply keeps_State_pageFault | with_reducible apply keeps_State_onBoot | with_reducible apply keeps_State_setBootState | with_reducible apply keeps_State_setRegBytes | with_reducible apply keeps_State_zeroRange | with_reducible apply Keeps.foldl | with_reducible apply Keeps.next | with_reducible apply Keeps.fault | with_reducible apply Keeps.ite | with_reducible apply KeepsR.ite | split | with_reducible apply Keeps.built

theorem keeps_execColdBoot {z : State} : ∀ a0 a1 s, Keeps z s → KeepsR z (execColdBoot a0 a1 s) := by
  intro a0 a1 s h
  unfold execColdBoot
  try dsimp only
  repeat' first | with_reducible intro _ | with_reducible assumption | with_reducible apply Keeps.ite | with_reducible apply KeepsR.ite | with_reducible apply keeps_State_coldBoot | with_reducible apply Keeps.foldl | with_reducible apply Keeps.next | with_reducible apply Keeps.fault | with_reducible apply Keeps.ite | with_reducible apply KeepsR.ite | split | with_reducible apply Keeps.built

theorem keeps_State_beginVerify {z : State} : ∀ s a1 a2, Keeps z s → Keeps z (State.beginVerify s a1 a2) := by
  intro s a1 a2 h
  unfold State.beginVerify
  try dsimp only
  repeat' first | with_reducible intro _ | with_reducible assumption | with_reducible apply Keeps.ite | with_reducible apply KeepsR.ite | with_reducible apply keeps_State_setBootState | with_reducible apply keeps_State_onBoot | with_reducible apply Keeps.foldl | with_reducible apply Keeps.next | with_reducible apply Keeps.fault | with_reducible apply Keeps.ite | with_reducible apply KeepsR.ite | split | with_reducible apply Keeps.built

theorem keeps_State_imageVerified {z : State} : ∀ s a1, Keeps z s → Keeps z (State.imageVerified s a1) := by
  intro s a1 h
  unfold State.imageVerified
  try dsimp only
  repeat' first | with_reducible intro _ | with_reducible assumption | with_reducible apply Keeps.ite | with_reducible apply KeepsR.ite | with_reducible apply keeps_State_set | with_reducible apply keeps_State_setMeas | with_reducible apply keeps_State_setBootState | with_reducible apply keeps_State_bump | with_reducible apply Keeps.foldl | with_reducible apply Keeps.next | with_reducible apply Keeps.fault | with_reducible apply Keeps.ite | with_reducible apply KeepsR.ite | split | with_reducible apply Keeps.built

theorem keeps_execImageVerified {z : State} : ∀ a0 s, Keeps z s → KeepsR z (execImageVerified a0 s) := by
  intro a0 s h
  unfold execImageVerified
  try dsimp only
  repeat' first | with_reducible intro _ | with_reducible assumption | with_reducible apply Keeps.ite | with_reducible apply KeepsR.ite | with_reducible apply keeps_State_imageVerified | with_reducible apply Keeps.foldl | with_reducible apply Keeps.next | with_reducible apply Keeps.fault | with_reducible apply Keeps.ite | with_reducible apply KeepsR.ite | split | with_reducible apply Keeps.built

theorem keeps_State_firmwareSets {z : State} : ∀ s a1, Keeps z s → Keeps z (State.firmwareSets s a1) := by
  intro s a1 h
  unfold State.firmwareSets
  try dsimp only
  repeat' first | with_reducible intro _ | with_reducible assumption | with_reducible apply Keeps.ite | with_reducible apply KeepsR.ite | with_reducible apply keeps_State_set | with_reducible apply keeps_State_setRegAt | with_reducible apply keeps_State_onHost | with_reducible apply Keeps.foldl | with_reducible apply Keeps.next | with_reducible apply Keeps.fault | with_reducible apply Keeps.ite | with_reducible apply KeepsR.ite | split | with_reducible apply Keeps.built

theorem keeps_State_portTrained {z : State} : ∀ s a1 a2, Keeps z s → Keeps z (State.portTrained s a1 a2) := by
  intro s a1 a2 h
  unfold State.portTrained
  try dsimp only
  repeat' first | with_reducible intro _ | with_reducible assumption | with_reducible apply Keeps.ite | with_reducible apply KeepsR.ite | with_reducible apply keeps_State_set | with_reducible apply Keeps.foldl | with_reducible apply Keeps.next | with_reducible apply Keeps.fault | with_reducible apply Keeps.ite | with_reducible apply KeepsR.ite | split | with_reducible apply Keeps.built

theorem keeps_State_t0Results {z : State} : ∀ s a1, Keeps z s → Keeps z (State.t0Results s a1) := by
  intro s a1 h
  unfold State.t0Results
  try dsimp only
  repeat' first | with_reducible intro _ | with_reducible assumption | with_reducible apply Keeps.ite | with_reducible apply KeepsR.ite | with_reducible apply keeps_State_set | with_reducible apply keeps_State_setRegAt | with_reducible apply Keeps.foldl | with_reducible apply Keeps.next | with_reducible apply Keeps.fault | with_reducible apply Keeps.ite | with_reducible apply KeepsR.ite | split | with_reducible apply Keeps.built

theorem keeps_State_overwriteSlice {z : State} : ∀ s a1, Keeps z s → Keeps z (State.overwriteSlice s a1) := by
  intro s a1 h
  unfold State.overwriteSlice
  try dsimp only
  repeat' first | with_reducible intro _ | with_reducible assumption | with_reducible apply Keeps.ite | with_reducible apply KeepsR.ite | with_reducible apply keeps_State_freeBytes | with_reducible apply keeps_State_writeBytes | (with_reducible apply keeps_State_freeBytes_eq; with_reducible assumption) | with_reducible apply Keeps.foldl | with_reducible apply Keeps.next | with_reducible apply Keeps.fault | with_reducible apply Keeps.ite | with_reducible apply KeepsR.ite | split | with_reducible apply Keeps.built

theorem keeps_State_t0Retire {z : State} : ∀ s a1, Keeps z s → Keeps z (State.t0Retire s a1) := by
  intro s a1 h
  unfold State.t0Retire
  try dsimp only
  repeat' first | with_reducible intro _ | with_reducible assumption | with_reducible apply Keeps.ite | with_reducible apply KeepsR.ite | with_reducible apply keeps_State_set | with_reducible apply Keeps.foldl | with_reducible apply Keeps.next | with_reducible apply Keeps.fault | with_reducible apply Keeps.ite | with_reducible apply KeepsR.ite | split | with_reducible apply Keeps.built

theorem keeps_State_t0Boot {z : State} : ∀ s a1, Keeps z s → Keeps z (State.t0Boot s a1) := by
  intro s a1 h
  unfold State.t0Boot
  try dsimp only
  repeat' first | with_reducible intro _ | with_reducible assumption | with_reducible apply Keeps.ite | with_reducible apply KeepsR.ite | with_reducible apply keeps_State_overwriteSlice | with_reducible apply keeps_State_t0Retire | with_reducible apply keeps_State_t0Results | with_reducible apply Keeps.foldl | with_reducible apply Keeps.next | with_reducible apply Keeps.fault | with_reducible apply Keeps.ite | with_reducible apply KeepsR.ite | split | with_reducible apply Keeps.built

theorem keeps_State_deviceStatus {z : State} : ∀ s a1 a2, Keeps z s → Keeps z (State.deviceStatus s a1 a2) := by
  intro s a1 a2 h
  unfold State.deviceStatus
  try dsimp only
  repeat' first | with_reducible intro _ | with_reducible assumption | with_reducible apply Keeps.ite | with_reducible apply KeepsR.ite | with_reducible apply keeps_State_set | with_reducible apply Keeps.foldl | with_reducible apply Keeps.next | with_reducible apply Keeps.fault | with_reducible apply Keeps.ite | with_reducible apply KeepsR.ite | split | with_reducible apply Keeps.built

theorem keeps_State_keysDerived {z : State} : ∀ s a1, Keeps z s → Keeps z (State.keysDerived s a1) := by
  intro s a1 h
  unfold State.keysDerived
  try dsimp only
  repeat' first | with_reducible intro _ | with_reducible assumption | with_reducible apply Keeps.ite | with_reducible apply KeepsR.ite | with_reducible apply keeps_State_set | with_reducible apply keeps_State_setRegBytes | with_reducible apply keeps_State_setBootState | with_reducible apply keeps_State_onTwin | with_reducible apply keeps_State_onBoot | with_reducible apply keeps_State_t0Boot | with_reducible apply keeps_State_firmwareSets | with_reducible apply keeps_State_deviceStatus | with_reducible apply keeps_State_portTrained | with_reducible apply Keeps.foldl | with_reducible apply Keeps.next | with_reducible apply Keeps.fault | with_reducible apply Keeps.ite | with_reducible apply KeepsR.ite | split | with_reducible apply Keeps.built

theorem keeps_execBootKeysDerived {z : State} : ∀ a0 s, Keeps z s → KeepsR z (execBootKeysDerived a0 s) := by
  intro a0 s h
  unfold execBootKeysDerived
  try dsimp only
  repeat' first | with_reducible intro _ | with_reducible assumption | with_reducible apply Keeps.ite | with_reducible apply KeepsR.ite | with_reducible apply keeps_State_keysDerived | with_reducible apply Keeps.foldl | with_reducible apply Keeps.next | with_reducible apply Keeps.fault | with_reducible apply Keeps.ite | with_reducible apply KeepsR.ite | split | with_reducible apply Keeps.built

theorem keeps_State_commitSvn {z : State} : ∀ s, Keeps z s → Keeps z (State.commitSvn s) := by
  intro s h
  unfold State.commitSvn
  dsimp only
  split
  · rename_i hv
    exact h.trans ⟨rfl, rfl, Nat.le_of_lt hv, id, id, List.prefix_refl _⟩
  · exact h

theorem keeps_execCommitSvn {z : State} : ∀ a0 s, Keeps z s → KeepsR z (execCommitSvn a0 s) := by
  intro a0 s h
  unfold execCommitSvn
  try dsimp only
  repeat' first | with_reducible intro _ | with_reducible assumption | with_reducible apply Keeps.ite | with_reducible apply KeepsR.ite | with_reducible apply keeps_State_guard | with_reducible apply keeps_State_commitSvn | with_reducible apply Keeps.foldl | with_reducible apply Keeps.next | with_reducible apply Keeps.fault | with_reducible apply Keeps.ite | with_reducible apply KeepsR.ite | split | with_reducible apply Keeps.built

theorem keeps_State_quote {z : State} : ∀ s a1, Keeps z s → Keeps z (State.quote s a1) := by
  intro s a1 h
  unfold State.quote
  try dsimp only
  repeat' first | with_reducible intro _ | with_reducible assumption | with_reducible apply Keeps.ite | with_reducible apply KeepsR.ite | with_reducible apply keeps_State_regFault | with_reducible apply keeps_State_set | with_reducible apply keeps_State_onBoot | with_reducible apply Keeps.foldl | with_reducible apply Keeps.next | with_reducible apply Keeps.fault | with_reducible apply Keeps.ite | with_reducible apply KeepsR.ite | split | with_reducible apply Keeps.built

theorem keeps_execQuote {z : State} : ∀ a0 a1 s, Keeps z s → KeepsR z (execQuote a0 a1 s) := by
  intro a0 a1 s h
  unfold execQuote
  try dsimp only
  repeat' first | with_reducible intro _ | with_reducible assumption | with_reducible apply Keeps.ite | with_reducible apply KeepsR.ite | with_reducible apply keeps_onTid | with_reducible apply keeps_State_guard | with_reducible apply keeps_State_quote | with_reducible apply Keeps.foldl | with_reducible apply Keeps.next | with_reducible apply Keeps.fault | with_reducible apply Keeps.ite | with_reducible apply KeepsR.ite | split | with_reducible apply Keeps.built

theorem keeps_State_quoteDone {z : State} : ∀ s a1, Keeps z s → Keeps z (State.quoteDone s a1) := by
  intro s a1 h
  unfold State.quoteDone
  try dsimp only
  repeat' first | with_reducible intro _ | with_reducible assumption | with_reducible apply Keeps.ite | with_reducible apply KeepsR.ite | with_reducible apply keeps_State_setRegBytes | with_reducible apply keeps_State_raise | with_reducible apply keeps_State_set | with_reducible apply keeps_State_onBoot | with_reducible apply Keeps.foldl | with_reducible apply Keeps.next | with_reducible apply Keeps.fault | with_reducible apply Keeps.ite | with_reducible apply KeepsR.ite | split | with_reducible apply Keeps.built

theorem keeps_execQuoteDone {z : State} : ∀ a0 s, Keeps z s → KeepsR z (execQuoteDone a0 s) := by
  intro a0 s h
  unfold execQuoteDone
  try dsimp only
  repeat' first | with_reducible intro _ | with_reducible assumption | with_reducible apply Keeps.ite | with_reducible apply KeepsR.ite | with_reducible apply keeps_onTid | with_reducible apply keeps_State_quoteDone | with_reducible apply Keeps.foldl | with_reducible apply Keeps.next | with_reducible apply Keeps.fault | with_reducible apply Keeps.ite | with_reducible apply KeepsR.ite | split | with_reducible apply Keeps.built

theorem keeps_State_timeEvent {z : State} : ∀ s a1 a2, Keeps z s → Keeps z (State.timeEvent s a1 a2) := by
  intro s a1 a2 h
  unfold State.timeEvent
  try dsimp only
  repeat' first | with_reducible intro _ | with_reducible assumption | with_reducible apply Keeps.ite | with_reducible apply KeepsR.ite | with_reducible apply keeps_State_raise | with_reducible apply Keeps.foldl | with_reducible apply Keeps.next | with_reducible apply Keeps.fault | with_reducible apply Keeps.ite | with_reducible apply KeepsR.ite | split | with_reducible apply Keeps.built

theorem keeps_State_setTimeState {z : State} : ∀ s a1, Keeps z s → Keeps z (State.setTimeState s a1) := by
  intro s a1 h
  unfold State.setTimeState
  try dsimp only
  repeat' first | with_reducible intro _ | with_reducible assumption | with_reducible apply Keeps.ite | with_reducible apply KeepsR.ite | with_reducible apply keeps_State_set | with_reducible apply keeps_State_timeEvent | with_reducible apply Keeps.foldl | with_reducible apply Keeps.next | with_reducible apply Keeps.fault | with_reducible apply Keeps.ite | with_reducible apply KeepsR.ite | split | with_reducible apply Keeps.built

theorem keeps_State_noSource {z : State} : ∀ s, Keeps z s → Keeps z (State.noSource s) := by
  intro s h
  unfold State.noSource
  try dsimp only
  repeat' first | with_reducible intro _ | with_reducible assumption | with_reducible apply Keeps.ite | with_reducible apply KeepsR.ite | with_reducible apply keeps_State_set | with_reducible apply Keeps.foldl | with_reducible apply Keeps.next | with_reducible apply Keeps.fault | with_reducible apply Keeps.ite | with_reducible apply KeepsR.ite | split | with_reducible apply Keeps.built

theorem keeps_State_timeSelect {z : State} : ∀ s, Keeps z s → Keeps z (State.timeSelect s) := by
  intro s h
  unfold State.timeSelect
  try dsimp only
  repeat' first | with_reducible intro _ | with_reducible assumption | with_reducible apply Keeps.ite | with_reducible apply KeepsR.ite | with_reducible apply keeps_State_noSource | with_reducible apply keeps_State_setTimeState | with_reducible apply keeps_State_set | with_reducible apply Keeps.foldl | with_reducible apply Keeps.next | with_reducible apply Keeps.fault | with_reducible apply Keeps.ite | with_reducible apply KeepsR.ite | split | with_reducible apply Keeps.built

theorem keeps_execTimeWordSend {z : State} : ∀ s, Keeps z s → KeepsR z (execTimeWordSend s) := by
  intro s h
  unfold execTimeWordSend
  try dsimp only
  repeat' first | with_reducible intro _ | with_reducible assumption | with_reducible apply Keeps.ite | with_reducible apply KeepsR.ite | with_reducible apply keeps_State_emit | with_reducible apply Keeps.foldl | with_reducible apply Keeps.next | with_reducible apply Keeps.fault | with_reducible apply Keeps.ite | with_reducible apply KeepsR.ite | split | with_reducible apply Keeps.built

theorem keeps_State_stepCount {z : State} : ∀ s a1, Keeps z s → Keeps z (State.stepCount s a1) := by
  intro s a1 h
  unfold State.stepCount
  try dsimp only
  repeat' first | with_reducible intro _ | with_reducible assumption | with_reducible apply Keeps.ite | with_reducible apply KeepsR.ite | with_reducible apply keeps_State_timeEvent | with_reducible apply keeps_State_bump | with_reducible apply Keeps.foldl | with_reducible apply Keeps.next | with_reducible apply Keeps.fault | with_reducible apply Keeps.ite | with_reducible apply KeepsR.ite | split | with_reducible apply Keeps.built

theorem keeps_State_firstLock {z : State} : ∀ s a1, Keeps z s → Keeps z (State.firstLock s a1) := by
  intro s a1 h
  unfold State.firstLock
  try dsimp only
  repeat' first | with_reducible intro _ | with_reducible assumption | with_reducible apply Keeps.ite | with_reducible apply KeepsR.ite | with_reducible apply keeps_State_stepCount | with_reducible apply keeps_State_timeEvent | with_reducible apply keeps_State_setTimeState | with_reducible apply Keeps.foldl | with_reducible apply Keeps.next | with_reducible apply Keeps.fault | with_reducible apply Keeps.ite | with_reducible apply KeepsR.ite | split | with_reducible apply Keeps.built

theorem keeps_State_sourceWord {z : State} : ∀ s a1, Keeps z s → Keeps z (State.sourceWord s a1) := by
  intro s a1 h
  unfold State.sourceWord
  try dsimp only
  repeat' first | with_reducible intro _ | with_reducible assumption | with_reducible apply Keeps.ite | with_reducible apply KeepsR.ite | with_reducible apply keeps_State_drawFree | with_reducible apply keeps_State_set | with_reducible apply keeps_State_firstLock | with_reducible apply keeps_State_setTimeState | (with_reducible apply keeps_State_drawFree_eq; with_reducible assumption) | with_reducible apply Keeps.foldl | with_reducible apply Keeps.next | with_reducible apply Keeps.fault | with_reducible apply Keeps.ite | with_reducible apply KeepsR.ite | split | with_reducible apply Keeps.built

theorem keeps_State_timeWordIn {z : State} : ∀ s a1 a2, Keeps z s → Keeps z (State.timeWordIn s a1 a2) := by
  intro s a1 a2 h
  unfold State.timeWordIn
  try dsimp only
  repeat' first | with_reducible intro _ | with_reducible assumption | with_reducible apply Keeps.ite | with_reducible apply KeepsR.ite | with_reducible apply keeps_State_timeSelect | with_reducible apply keeps_State_sourceWord | with_reducible apply Keeps.foldl | with_reducible apply Keeps.next | with_reducible apply Keeps.fault | with_reducible apply Keeps.ite | with_reducible apply KeepsR.ite | split | with_reducible apply Keeps.built

theorem keeps_execTimeWord {z : State} : ∀ a0 a1 s, Keeps z s → KeepsR z (execTimeWord a0 a1 s) := by
  intro a0 a1 s h
  unfold execTimeWord
  try dsimp only
  repeat' first | with_reducible intro _ | with_reducible assumption | with_reducible apply Keeps.ite | with_reducible apply KeepsR.ite | with_reducible apply keeps_onPort | with_reducible apply keeps_State_timeWordIn | with_reducible apply Keeps.foldl | with_reducible apply Keeps.next | with_reducible apply Keeps.fault | with_reducible apply Keeps.ite | with_reducible apply KeepsR.ite | split | with_reducible apply Keeps.built

theorem keeps_execHoldoverExpiry {z : State} : ∀ s, Keeps z s → KeepsR z (execHoldoverExpiry s) := by
  intro s h
  unfold execHoldoverExpiry
  try dsimp only
  repeat' first | with_reducible intro _ | with_reducible assumption | with_reducible apply Keeps.ite | with_reducible apply KeepsR.ite | with_reducible apply keeps_State_setTimeState | with_reducible apply Keeps.foldl | with_reducible apply Keeps.next | with_reducible apply Keeps.fault | with_reducible apply Keeps.ite | with_reducible apply KeepsR.ite | split | with_reducible apply Keeps.built

theorem keeps_State_forceStep {z : State} : ∀ s, Keeps z s → Keeps z (State.forceStep s) := by
  intro s h
  unfold State.forceStep
  try dsimp only
  repeat' first | with_reducible intro _ | with_reducible assumption | with_reducible apply Keeps.ite | with_reducible apply KeepsR.ite | with_reducible apply keeps_State_regFault | with_reducible apply keeps_State_stepCount | with_reducible apply keeps_State_setTimeState | with_reducible apply Keeps.foldl | with_reducible apply Keeps.next | with_reducible apply Keeps.fault | with_reducible apply Keeps.ite | with_reducible apply KeepsR.ite | split | with_reducible apply Keeps.built

theorem keeps_execForceStep {z : State} : ∀ a0 s, Keeps z s → KeepsR z (execForceStep a0 s) := by
  intro a0 s h
  unfold execForceStep
  try dsimp only
  repeat' first | with_reducible intro _ | with_reducible assumption | with_reducible apply Keeps.ite | with_reducible apply KeepsR.ite | with_reducible apply keeps_State_guard | with_reducible apply keeps_State_forceStep | with_reducible apply Keeps.foldl | with_reducible apply Keeps.next | with_reducible apply Keeps.fault | with_reducible apply Keeps.ite | with_reducible apply KeepsR.ite | split | with_reducible apply Keeps.built

theorem keeps_State_portLost {z : State} : ∀ s a1, Keeps z s → Keeps z (State.portLost s a1) := by
  intro s a1 h
  unfold State.portLost
  try dsimp only
  repeat' first | with_reducible intro _ | with_reducible assumption | with_reducible apply Keeps.ite | with_reducible apply KeepsR.ite | with_reducible apply keeps_State_bump | with_reducible apply Keeps.foldl | with_reducible apply Keeps.next | with_reducible apply Keeps.fault | with_reducible apply Keeps.ite | with_reducible apply KeepsR.ite | split | with_reducible apply Keeps.built

theorem keeps_State_portEvent {z : State} : ∀ s a1 a2, Keeps z s → Keeps z (State.portEvent s a1 a2) := by
  intro s a1 a2 h
  unfold State.portEvent
  try dsimp only
  repeat' first | with_reducible intro _ | with_reducible assumption | with_reducible apply Keeps.ite | with_reducible apply KeepsR.ite | with_reducible apply keeps_State_raise | with_reducible apply Keeps.foldl | with_reducible apply Keeps.next | with_reducible apply Keeps.fault | with_reducible apply Keeps.ite | with_reducible apply KeepsR.ite | split | with_reducible apply Keeps.built

theorem keeps_State_portDown {z : State} : ∀ s a1, Keeps z s → Keeps z (State.portDown s a1) := by
  intro s a1 h
  unfold State.portDown
  try dsimp only
  repeat' first | with_reducible intro _ | with_reducible assumption | with_reducible apply Keeps.ite | with_reducible apply KeepsR.ite | with_reducible apply keeps_State_onLink | with_reducible apply keeps_State_set | with_reducible apply keeps_State_portEvent | with_reducible apply keeps_State_bump | with_reducible apply keeps_State_timeSelect | with_reducible apply Keeps.foldl | with_reducible apply Keeps.next | with_reducible apply Keeps.fault | with_reducible apply Keeps.ite | with_reducible apply KeepsR.ite | split | with_reducible apply Keeps.built

theorem keeps_State_portLanes {z : State} : ∀ s a1 a2, Keeps z s → Keeps z (State.portLanes s a1 a2) := by
  intro s a1 a2 h
  unfold State.portLanes
  try dsimp only
  repeat' first | with_reducible intro _ | with_reducible assumption | with_reducible apply Keeps.ite | with_reducible apply KeepsR.ite | with_reducible apply keeps_State_onLink | with_reducible apply keeps_State_portEvent | with_reducible apply keeps_State_set | with_reducible apply keeps_State_portDown | with_reducible apply Keeps.foldl | with_reducible apply Keeps.next | with_reducible apply Keeps.fault | with_reducible apply Keeps.ite | with_reducible apply KeepsR.ite | split | with_reducible apply Keeps.built

theorem keeps_execLaneFailure {z : State} : ∀ a0 a1 s, Keeps z s → KeepsR z (execLaneFailure a0 a1 s) := by
  intro a0 a1 s h
  unfold execLaneFailure
  try dsimp only
  repeat' first | with_reducible intro _ | with_reducible assumption | with_reducible apply Keeps.ite | with_reducible apply KeepsR.ite | with_reducible apply keeps_onPort | with_reducible apply keeps_State_portLanes | with_reducible apply Keeps.foldl | with_reducible apply Keeps.next | with_reducible apply Keeps.fault | with_reducible apply Keeps.ite | with_reducible apply KeepsR.ite | split | with_reducible apply Keeps.built

theorem keeps_State_trainPort {z : State} : ∀ s a1 a2, Keeps z s → Keeps z (State.trainPort s a1 a2) := by
  intro s a1 a2 h
  unfold State.trainPort
  try dsimp only
  repeat' first | with_reducible intro _ | with_reducible assumption | with_reducible apply Keeps.ite | with_reducible apply KeepsR.ite | with_reducible apply keeps_State_portEvent | with_reducible apply keeps_State_set | with_reducible apply keeps_State_onLink | with_reducible apply Keeps.foldl | with_reducible apply Keeps.next | with_reducible apply Keeps.fault | with_reducible apply Keeps.ite | with_reducible apply KeepsR.ite | split | with_reducible apply Keeps.built

theorem keeps_execPortTrainRetry {z : State} : ∀ a0 a1 s, Keeps z s → KeepsR z (execPortTrainRetry a0 a1 s) := by
  intro a0 a1 s h
  unfold execPortTrainRetry
  try dsimp only
  repeat' first | with_reducible intro _ | with_reducible assumption | with_reducible apply Keeps.ite | with_reducible apply KeepsR.ite | with_reducible apply keeps_onPort | with_reducible apply keeps_State_trainPort | with_reducible apply Keeps.foldl | with_reducible apply Keeps.next | with_reducible apply Keeps.fault | with_reducible apply Keeps.ite | with_reducible apply KeepsR.ite | split | with_reducible apply Keeps.built

theorem keeps_State_linkReset {z : State} : ∀ s a1, Keeps z s → Keeps z (State.linkReset s a1) := by
  intro s a1 h
  unfold State.linkReset
  try dsimp only
  repeat' first | with_reducible intro _ | with_reducible assumption | with_reducible apply Keeps.ite | with_reducible apply KeepsR.ite | with_reducible apply keeps_State_portDown | with_reducible apply keeps_State_set | with_reducible apply Keeps.foldl | with_reducible apply Keeps.next | with_reducible apply Keeps.fault | with_reducible apply Keeps.ite | with_reducible apply KeepsR.ite | split | with_reducible apply Keeps.built

theorem keeps_execLinkReset {z : State} : ∀ a0 s, Keeps z s → KeepsR z (execLinkReset a0 s) := by
  intro a0 s h
  unfold execLinkReset
  try dsimp only
  repeat' first | with_reducible intro _ | with_reducible assumption | with_reducible apply Keeps.ite | with_reducible apply KeepsR.ite | with_reducible apply keeps_onPort | with_reducible apply keeps_State_linkReset | with_reducible apply Keeps.foldl | with_reducible apply Keeps.next | with_reducible apply Keeps.fault | with_reducible apply Keeps.ite | with_reducible apply KeepsR.ite | split | with_reducible apply Keeps.built

theorem keeps_State_unitsIn {z : State} : ∀ s a1 a2, Keeps z s → Keeps z (State.unitsIn s a1 a2) := by
  intro s a1 a2 h
  unfold State.unitsIn
  try dsimp only
  repeat' first | with_reducible intro _ | with_reducible assumption | with_reducible apply Keeps.ite | with_reducible apply KeepsR.ite | with_reducible apply keeps_State_emit | with_reducible apply keeps_State_onLink | with_reducible apply Keeps.foldl | with_reducible apply Keeps.next | with_reducible apply Keeps.fault | with_reducible apply Keeps.ite | with_reducible apply KeepsR.ite | split | with_reducible apply Keeps.built

theorem keeps_State_crcError {z : State} : ∀ s a1, Keeps z s → Keeps z (State.crcError s a1) := by
  intro s a1 h
  unfold State.crcError
  try dsimp only
  repeat' first | with_reducible intro _ | with_reducible assumption | with_reducible apply Keeps.ite | with_reducible apply KeepsR.ite | with_reducible apply keeps_State_bump | with_reducible apply keeps_State_emit | with_reducible apply keeps_State_onLink | with_reducible apply keeps_State_portLost | with_reducible apply keeps_State_raise | with_reducible apply Keeps.foldl | with_reducible apply Keeps.next | with_reducible apply Keeps.fault | with_reducible apply Keeps.ite | with_reducible apply KeepsR.ite | split | with_reducible apply Keeps.built

theorem keeps_execLinkCrcError {z : State} : ∀ a0 s, Keeps z s → KeepsR z (execLinkCrcError a0 s) := by
  intro a0 s h
  unfold execLinkCrcError
  try dsimp only
  repeat' first | with_reducible intro _ | with_reducible assumption | with_reducible apply Keeps.ite | with_reducible apply KeepsR.ite | with_reducible apply keeps_onPort | with_reducible apply keeps_State_crcError | with_reducible apply Keeps.foldl | with_reducible apply Keeps.next | with_reducible apply Keeps.fault | with_reducible apply Keeps.ite | with_reducible apply KeepsR.ite | split | with_reducible apply Keeps.built

theorem keeps_State_controlWord {z : State} : ∀ s a1 a2, Keeps z s → Keeps z (State.controlWord s a1 a2) := by
  intro s a1 a2 h
  unfold State.controlWord
  try dsimp only
  repeat' first | with_reducible intro _ | with_reducible assumption | with_reducible apply Keeps.ite | with_reducible apply KeepsR.ite | with_reducible apply keeps_State_onLink | with_reducible apply keeps_State_emit | with_reducible apply Keeps.foldl | with_reducible apply Keeps.next | with_reducible apply Keeps.fault | with_reducible apply Keeps.ite | with_reducible apply KeepsR.ite | split | with_reducible apply Keeps.built

theorem keeps_execLinkControlWord {z : State} : ∀ a0 a1 s, Keeps z s → KeepsR z (execLinkControlWord a0 a1 s) := by
  intro a0 a1 s h
  unfold execLinkControlWord
  try dsimp only
  repeat' first | with_reducible intro _ | with_reducible assumption | with_reducible apply Keeps.ite | with_reducible apply KeepsR.ite | with_reducible apply keeps_onPort | with_reducible apply keeps_State_controlWord | with_reducible apply Keeps.foldl | with_reducible apply Keeps.next | with_reducible apply Keeps.fault | with_reducible apply Keeps.ite | with_reducible apply KeepsR.ite | split | with_reducible apply Keeps.built

theorem keeps_State_egress {z : State} : ∀ s a1 a2 a3, Keeps z s → Keeps z (State.egress s a1 a2 a3) := by
  intro s a1 a2 a3 h
  unfold State.egress
  try dsimp only
  repeat' first | with_reducible intro _ | with_reducible assumption | with_reducible apply Keeps.ite | with_reducible apply KeepsR.ite | with_reducible apply keeps_State_emit | with_reducible apply keeps_State_onLink | with_reducible apply Keeps.foldl | with_reducible apply Keeps.next | with_reducible apply Keeps.fault | with_reducible apply Keeps.ite | with_reducible apply KeepsR.ite | split | with_reducible apply Keeps.built

theorem keeps_State_stamp {z : State} : ∀ s a1, Keeps z s → Keeps z (State.stamp s a1).2 := by
  intro s a1 h
  unfold State.stamp
  try dsimp only
  repeat' first | with_reducible intro _ | with_reducible assumption | with_reducible apply Keeps.ite | with_reducible apply KeepsR.ite | with_reducible apply keeps_State_onFab | with_reducible apply Keeps.foldl | with_reducible apply Keeps.next | with_reducible apply Keeps.fault | with_reducible apply Keeps.ite | with_reducible apply KeepsR.ite | split | with_reducible apply Keeps.built


theorem keeps_State_stamp_eq {z : State} : ∀ s a1 x t, (State.stamp s a1) = (x, t) → Keeps z s → Keeps z t := by
  intro s a1 x t e h
  have := keeps_State_stamp s a1 h
  rw [e] at this
  exact this

theorem keeps_State_send {z : State} : ∀ s a1, Keeps z s → Keeps z (State.send s a1) := by
  intro s a1 h
  unfold State.send
  try dsimp only
  repeat' first | with_reducible intro _ | with_reducible assumption | with_reducible apply Keeps.ite | with_reducible apply KeepsR.ite | with_reducible apply keeps_State_stamp | with_reducible apply keeps_State_emit | with_reducible apply keeps_State_egress | (with_reducible apply keeps_State_stamp_eq; with_reducible assumption) | with_reducible apply Keeps.foldl | with_reducible apply Keeps.next | with_reducible apply Keeps.fault | with_reducible apply Keeps.ite | with_reducible apply KeepsR.ite | split | with_reducible apply Keeps.built

theorem keeps_State_sendBy {z : State} : ∀ s a1 a2, Keeps z s → Keeps z (State.sendBy s a1 a2) := by
  intro s a1 a2 h
  unfold State.sendBy
  try dsimp only
  repeat' first | with_reducible intro _ | with_reducible assumption | with_reducible apply Keeps.ite | with_reducible apply KeepsR.ite | with_reducible apply keeps_State_stamp | with_reducible apply keeps_State_egress | (with_reducible apply keeps_State_stamp_eq; with_reducible assumption) | with_reducible apply Keeps.foldl | with_reducible apply Keeps.next | with_reducible apply Keeps.fault | with_reducible apply Keeps.ite | with_reducible apply KeepsR.ite | split | with_reducible apply Keeps.built

theorem keeps_State_ackPacket {z : State} : ∀ s a1, Keeps z s → Keeps z (State.ackPacket s a1) := by
  intro s a1 h
  unfold State.ackPacket
  try dsimp only
  repeat' first | with_reducible intro _ | with_reducible assumption | with_reducible apply Keeps.ite | with_reducible apply KeepsR.ite | with_reducible apply keeps_State_send | with_reducible apply Keeps.foldl | with_reducible apply Keeps.next | with_reducible apply Keeps.fault | with_reducible apply Keeps.ite | with_reducible apply KeepsR.ite | split | with_reducible apply Keeps.built

theorem keeps_State_routeData {z : State} : ∀ s a1, Keeps z s → Keeps z (State.routeData s a1) := by
  intro s a1 h
  unfold State.routeData
  try dsimp only
  repeat' first | with_reducible intro _ | with_reducible assumption | with_reducible apply Keeps.ite | with_reducible apply KeepsR.ite | with_reducible apply keeps_State_set | with_reducible apply keeps_State_onFab | with_reducible apply Keeps.foldl | with_reducible apply Keeps.next | with_reducible apply Keeps.fault | with_reducible apply Keeps.ite | with_reducible apply KeepsR.ite | split | with_reducible apply Keeps.built

theorem keeps_execRouteDataWrite {z : State} : ∀ a0 a1 s, Keeps z s → KeepsR z (execRouteDataWrite a0 a1 s) := by
  intro a0 a1 s h
  unfold execRouteDataWrite
  try dsimp only
  repeat' first | with_reducible intro _ | with_reducible assumption | with_reducible apply Keeps.ite | with_reducible apply KeepsR.ite | with_reducible apply keeps_State_guard | with_reducible apply keeps_State_routeData | with_reducible apply Keeps.foldl | with_reducible apply Keeps.next | with_reducible apply Keeps.fault | with_reducible apply Keeps.ite | with_reducible apply KeepsR.ite | split | with_reducible apply Keeps.built

theorem keeps_State_commitRoutes {z : State} : ∀ s, Keeps z s → Keeps z (State.commitRoutes s) := by
  intro s h
  unfold State.commitRoutes
  try dsimp only
  repeat' first | with_reducible intro _ | with_reducible assumption | with_reducible apply Keeps.ite | with_reducible apply KeepsR.ite | with_reducible apply keeps_State_extendMeas | with_reducible apply keeps_State_onFab | with_reducible apply keeps_State_regFault | with_reducible apply Keeps.foldl | with_reducible apply Keeps.next | with_reducible apply Keeps.fault | with_reducible apply Keeps.ite | with_reducible apply KeepsR.ite | split | with_reducible apply Keeps.built

theorem keeps_execCommitRoutes {z : State} : ∀ a0 s, Keeps z s → KeepsR z (execCommitRoutes a0 s) := by
  intro a0 s h
  unfold execCommitRoutes
  try dsimp only
  repeat' first | with_reducible intro _ | with_reducible assumption | with_reducible apply Keeps.ite | with_reducible apply KeepsR.ite | with_reducible apply keeps_State_guard | with_reducible apply keeps_State_commitRoutes | with_reducible apply Keeps.foldl | with_reducible apply Keeps.next | with_reducible apply Keeps.fault | with_reducible apply Keeps.ite | with_reducible apply KeepsR.ite | split | with_reducible apply Keeps.built

theorem keeps_State_flitError {z : State} : ∀ s a1 a2 a3, Keeps z s → Keeps z (State.flitError s a1 a2 a3) := by
  intro s a1 a2 a3 h
  unfold State.flitError
  try dsimp only
  repeat' first | with_reducible intro _ | with_reducible assumption | with_reducible apply Keeps.ite | with_reducible apply KeepsR.ite | with_reducible apply keeps_State_raise | with_reducible apply keeps_State_set | with_reducible apply keeps_State_onBoot | with_reducible apply keeps_State_deviceStatus | with_reducible apply Keeps.foldl | with_reducible apply Keeps.next | with_reducible apply Keeps.fault | with_reducible apply Keeps.ite | with_reducible apply KeepsR.ite | split | with_reducible apply Keeps.built

theorem keeps_execBridgeFlitError {z : State} : ∀ a0 a1 a2 s, Keeps z s → KeepsR z (execBridgeFlitError a0 a1 a2 s) := by
  intro a0 a1 a2 s h
  unfold execBridgeFlitError
  try dsimp only
  repeat' first | with_reducible intro _ | with_reducible assumption | with_reducible apply Keeps.ite | with_reducible apply KeepsR.ite | with_reducible apply keeps_State_flitError | with_reducible apply Keeps.foldl | with_reducible apply Keeps.next | with_reducible apply Keeps.fault | with_reducible apply Keeps.ite | with_reducible apply KeepsR.ite | split | with_reducible apply Keeps.built

theorem keeps_State_drawR {z : State} : ∀ s a1 a2 a3 a4, Keeps z s → Keeps z (State.drawR s a1 a2 a3 a4) := by
  intro s a1 a2 a3 a4 h
  unfold State.drawR
  try dsimp only
  repeat' first | with_reducible intro _ | with_reducible assumption | with_reducible apply Keeps.ite | with_reducible apply KeepsR.ite | with_reducible apply keeps_State_onCore | with_reducible apply keeps_State_bump | with_reducible apply Keeps.foldl | with_reducible apply Keeps.next | with_reducible apply Keeps.fault | with_reducible apply Keeps.ite | with_reducible apply KeepsR.ite | split | with_reducible apply Keeps.built

theorem keeps_State_drawD {z : State} : ∀ s a1 a2 a3 a4, Keeps z s → Keeps z (State.drawD s a1 a2 a3 a4) := by
  intro s a1 a2 a3 a4 h
  unfold State.drawD
  try dsimp only
  repeat' first | with_reducible intro _ | with_reducible assumption | with_reducible apply Keeps.ite | with_reducible apply KeepsR.ite | with_reducible apply keeps_State_onCore | with_reducible apply keeps_State_bump | with_reducible apply Keeps.foldl | with_reducible apply Keeps.next | with_reducible apply Keeps.fault | with_reducible apply Keeps.ite | with_reducible apply KeepsR.ite | split | with_reducible apply Keeps.built

theorem keeps_State_drawLoose {z : State} : ∀ s a1 a2 a3, Keeps z s → Keeps z (State.drawLoose s a1 a2 a3) := by
  intro s a1 a2 a3 h
  unfold State.drawLoose
  try dsimp only
  repeat' first | with_reducible intro _ | with_reducible assumption | with_reducible apply Keeps.ite | with_reducible apply KeepsR.ite | with_reducible apply keeps_State_bump | with_reducible apply keeps_State_setCore | with_reducible apply Keeps.foldl | with_reducible apply Keeps.next | with_reducible apply Keeps.fault | with_reducible apply Keeps.ite | with_reducible apply KeepsR.ite | split | with_reducible apply Keeps.built

theorem keeps_State_roundBlock {z : State} : ∀ s a1 a2 a3 a4, Keeps z s → Keeps z (State.roundBlock s a1 a2 a3 a4).2 := by
  intro s a1 a2 a3 a4 h
  unfold State.roundBlock
  try dsimp only
  repeat' first | with_reducible intro _ | with_reducible assumption | with_reducible apply Keeps.ite | with_reducible apply KeepsR.ite | with_reducible apply keeps_State_drawLoose | with_reducible apply keeps_State_drawR | with_reducible apply keeps_State_onCore | with_reducible apply Keeps.foldl | with_reducible apply Keeps.next | with_reducible apply Keeps.fault | with_reducible apply Keeps.ite | with_reducible apply KeepsR.ite | split | with_reducible apply Keeps.built


theorem keeps_State_roundBlock_eq {z : State} : ∀ s a1 a2 a3 a4 x t, (State.roundBlock s a1 a2 a3 a4) = (x, t) → Keeps z s → Keeps z t := by
  intro s a1 a2 a3 a4 x t e h
  have := keeps_State_roundBlock s a1 a2 a3 a4 h
  rw [e] at this
  exact this

theorem keeps_State_putLanes {z : State} : ∀ s a1 a2 a3 a4, Keeps z s → Keeps z (State.putLanes s a1 a2 a3 a4) := by
  intro s a1 a2 a3 a4 h
  unfold State.putLanes
  try dsimp only
  repeat' first | with_reducible intro _ | with_reducible assumption | with_reducible apply Keeps.ite | with_reducible apply KeepsR.ite | with_reducible apply keeps_State_onCore | with_reducible apply Keeps.foldl | with_reducible apply Keeps.next | with_reducible apply Keeps.fault | with_reducible apply Keeps.ite | with_reducible apply KeepsR.ite | split | with_reducible apply Keeps.built

theorem keeps_State_markLanes {z : State} : ∀ s a1 a2 a3 a4 a5, Keeps z s → Keeps z (State.markLanes s a1 a2 a3 a4 a5) := by
  intro s a1 a2 a3 a4 a5 h
  unfold State.markLanes
  try dsimp only
  repeat' first | with_reducible intro _ | with_reducible assumption | with_reducible apply Keeps.ite | with_reducible apply KeepsR.ite | with_reducible apply keeps_State_onCore | with_reducible apply Keeps.foldl | with_reducible apply Keeps.next | with_reducible apply Keeps.fault | with_reducible apply Keeps.ite | with_reducible apply KeepsR.ite | split | with_reducible apply Keeps.built

theorem keeps_State_loadLanes {z : State} : ∀ s a1 a2 a3 a4 a5, Keeps z s → Keeps z (State.loadLanes s a1 a2 a3 a4 a5) := by
  intro s a1 a2 a3 a4 a5 h
  unfold State.loadLanes
  try dsimp only
  repeat' first | with_reducible intro _ | with_reducible assumption | with_reducible apply Keeps.ite | with_reducible apply KeepsR.ite | with_reducible apply keeps_State_markLanes | with_reducible apply keeps_State_putLanes | with_reducible apply Keeps.foldl | with_reducible apply Keeps.next | with_reducible apply Keeps.fault | with_reducible apply Keeps.ite | with_reducible apply KeepsR.ite | split | with_reducible apply Keeps.built

theorem keeps_State_storeLanes {z : State} : ∀ s a1 a2 a3 a4 a5, Keeps z s → Keeps z (State.storeLanes s a1 a2 a3 a4 a5) := by
  intro s a1 a2 a3 a4 a5 h
  unfold State.storeLanes
  try dsimp only
  repeat' first | with_reducible intro _ | with_reducible assumption | with_reducible apply Keeps.ite | with_reducible apply KeepsR.ite | with_reducible apply keeps_State_writeN | with_reducible apply Keeps.foldl | with_reducible apply Keeps.next | with_reducible apply Keeps.fault | with_reducible apply Keeps.ite | with_reducible apply KeepsR.ite | split | with_reducible apply Keeps.built

theorem keeps_State_putAll {z : State} : ∀ s a1 a2 a3 a4, Keeps z s → Keeps z (State.putAll s a1 a2 a3 a4) := by
  intro s a1 a2 a3 a4 h
  unfold State.putAll
  try dsimp only
  repeat' first | with_reducible intro _ | with_reducible assumption | with_reducible apply Keeps.ite | with_reducible apply KeepsR.ite | with_reducible apply keeps_State_onCore | with_reducible apply Keeps.foldl | with_reducible apply Keeps.next | with_reducible apply Keeps.fault | with_reducible apply Keeps.ite | with_reducible apply KeepsR.ite | split | with_reducible apply Keeps.built

theorem keeps_State_dropChain {z : State} : ∀ s a1 a2 a3, Keeps z s → Keeps z (State.dropChain s a1 a2 a3) := by
  intro s a1 a2 a3 h
  unfold State.dropChain
  try dsimp only
  repeat' first | with_reducible intro _ | with_reducible assumption | with_reducible apply Keeps.ite | with_reducible apply KeepsR.ite | with_reducible apply keeps_State_onCore | with_reducible apply keeps_State_bump | with_reducible apply Keeps.foldl | with_reducible apply Keeps.next | with_reducible apply Keeps.fault | with_reducible apply Keeps.ite | with_reducible apply KeepsR.ite | split | with_reducible apply Keeps.built

theorem keeps_State_vrandDraw {z : State} : ∀ s a1 a2 a3 a4, Keeps z s → Keeps z (State.vrandDraw s a1 a2 a3 a4) := by
  intro s a1 a2 a3 a4 h
  unfold State.vrandDraw
  try dsimp only
  repeat' first | with_reducible intro _ | with_reducible assumption | with_reducible apply Keeps.ite | with_reducible apply KeepsR.ite | with_reducible apply keeps_State_drawLoose | with_reducible apply keeps_State_drawD | with_reducible apply Keeps.foldl | with_reducible apply Keeps.next | with_reducible apply Keeps.fault | with_reducible apply Keeps.ite | with_reducible apply KeepsR.ite | split | with_reducible apply Keeps.built

theorem keeps_State_putPairs {z : State} : ∀ s a1 a2 a3 a4, Keeps z s → Keeps z (State.putPairs s a1 a2 a3 a4) := by
  intro s a1 a2 a3 a4 h
  unfold State.putPairs
  try dsimp only
  repeat' first | with_reducible intro _ | with_reducible assumption | with_reducible apply Keeps.ite | with_reducible apply KeepsR.ite | with_reducible apply keeps_State_onCore | with_reducible apply Keeps.foldl | with_reducible apply Keeps.next | with_reducible apply Keeps.fault | with_reducible apply Keeps.ite | with_reducible apply KeepsR.ite | split | with_reducible apply Keeps.built

theorem keeps_vecEffect {z : State} : ∀ s a1 a2 a3 a4 a5, Keeps z s → Keeps z (vecEffect s a1 a2 a3 a4 a5) := by
  intro s a1 a2 a3 a4 a5 h
  unfold vecEffect
  try dsimp only
  repeat' first | with_reducible intro _ | with_reducible assumption | with_reducible apply Keeps.ite | with_reducible apply KeepsR.ite | with_reducible apply keeps_State_onCore | with_reducible apply keeps_State_putLanes | with_reducible apply keeps_State_putAll | with_reducible apply keeps_State_roundBlock | with_reducible apply keeps_State_putPairs | with_reducible apply keeps_State_vrandDraw | with_reducible apply keeps_State_dropChain | with_reducible apply keeps_State_loadLanes | with_reducible apply keeps_State_storeLanes | (with_reducible apply keeps_State_roundBlock_eq; with_reducible assumption) | with_reducible apply Keeps.foldl | with_reducible apply Keeps.next | with_reducible apply Keeps.fault | with_reducible apply Keeps.ite | with_reducible apply KeepsR.ite | split | with_reducible apply Keeps.built

theorem keeps_State_openChain {z : State} : ∀ s a1 a2 a3, Keeps z s → Keeps z (State.openChain s a1 a2 a3) := by
  intro s a1 a2 a3 h
  unfold State.openChain
  try dsimp only
  repeat' first | with_reducible intro _ | with_reducible assumption | with_reducible apply Keeps.ite | with_reducible apply KeepsR.ite | with_reducible apply keeps_State_setCore | with_reducible apply Keeps.foldl | with_reducible apply Keeps.next | with_reducible apply Keeps.fault | with_reducible apply Keeps.ite | with_reducible apply KeepsR.ite | split | with_reducible apply Keeps.built

theorem keeps_matEffect {z : State} : ∀ s a1 a2 a3 a4 a5, Keeps z s → Keeps z (matEffect s a1 a2 a3 a4 a5) := by
  intro s a1 a2 a3 a4 a5 h
  unfold matEffect
  try dsimp only
  repeat' first | with_reducible intro _ | with_reducible assumption | with_reducible apply Keeps.ite | with_reducible apply KeepsR.ite | with_reducible apply keeps_State_bump | with_reducible apply keeps_State_onCore | with_reducible apply keeps_State_openChain | with_reducible apply Keeps.foldl | with_reducible apply Keeps.next | with_reducible apply Keeps.fault | with_reducible apply Keeps.ite | with_reducible apply KeepsR.ite | split | with_reducible apply Keeps.built

theorem keeps_mvEffect {z : State} : ∀ s a1 a2 a3 a4 a5, Keeps z s → Keeps z (mvEffect s a1 a2 a3 a4 a5) := by
  intro s a1 a2 a3 a4 a5 h
  unfold mvEffect
  try dsimp only
  repeat' first | with_reducible intro _ | with_reducible assumption | with_reducible apply Keeps.ite | with_reducible apply KeepsR.ite | with_reducible apply keeps_State_roundBlock | with_reducible apply keeps_State_onCore | with_reducible apply keeps_State_dropChain | (with_reducible apply keeps_State_roundBlock_eq; with_reducible assumption) | with_reducible apply Keeps.foldl | with_reducible apply Keeps.next | with_reducible apply Keeps.fault | with_reducible apply Keeps.ite | with_reducible apply KeepsR.ite | split | with_reducible apply Keeps.built

theorem keeps_State_putDstRow {z : State} : ∀ s a1 a2 a3 a4 a5, Keeps z s → Keeps z (State.putDstRow s a1 a2 a3 a4 a5) := by
  intro s a1 a2 a3 a4 a5 h
  unfold State.putDstRow
  try dsimp only
  repeat' first | with_reducible intro _ | with_reducible assumption | with_reducible apply Keeps.ite | with_reducible apply KeepsR.ite | with_reducible apply keeps_State_writeN | with_reducible apply keeps_State_writeBytes | with_reducible apply Keeps.foldl | with_reducible apply Keeps.next | with_reducible apply Keeps.fault | with_reducible apply Keeps.ite | with_reducible apply KeepsR.ite | split | with_reducible apply Keeps.built

theorem keeps_State_doConvert {z : State} : ∀ s a1 a2 a3, Keeps z s → Keeps z (State.doConvert s a1 a2 a3) := by
  intro s a1 a2 a3 h
  unfold State.doConvert
  try dsimp only
  repeat' first | with_reducible intro _ | with_reducible assumption | with_reducible apply Keeps.ite | with_reducible apply KeepsR.ite | with_reducible apply keeps_State_onCore | with_reducible apply keeps_State_putDstRow | with_reducible apply Keeps.foldl | with_reducible apply Keeps.next | with_reducible apply Keeps.fault | with_reducible apply Keeps.ite | with_reducible apply KeepsR.ite | split | with_reducible apply Keeps.built

theorem keeps_State_doTranspose {z : State} : ∀ s a1 a2, Keeps z s → Keeps z (State.doTranspose s a1 a2) := by
  intro s a1 a2 h
  unfold State.doTranspose
  try dsimp only
  repeat' first | with_reducible intro _ | with_reducible assumption | with_reducible apply Keeps.ite | with_reducible apply KeepsR.ite | with_reducible apply keeps_State_writeN | with_reducible apply Keeps.foldl | with_reducible apply Keeps.next | with_reducible apply Keeps.fault | with_reducible apply Keeps.ite | with_reducible apply KeepsR.ite | split | with_reducible apply Keeps.built

theorem keeps_State_doRows {z : State} : ∀ s a1 a2, Keeps z s → Keeps z (State.doRows s a1 a2) := by
  intro s a1 a2 h
  unfold State.doRows
  try dsimp only
  repeat' first | with_reducible intro _ | with_reducible assumption | with_reducible apply Keeps.ite | with_reducible apply KeepsR.ite | with_reducible apply keeps_State_writeBytes | with_reducible apply Keeps.foldl | with_reducible apply Keeps.next | with_reducible apply Keeps.fault | with_reducible apply Keeps.ite | with_reducible apply KeepsR.ite | split | with_reducible apply Keeps.built

theorem keeps_State_doAccstRows {z : State} : ∀ s a1 a2, Keeps z s → Keeps z (State.doAccstRows s a1 a2) := by
  intro s a1 a2 h
  unfold State.doAccstRows
  try dsimp only
  repeat' first | with_reducible intro _ | with_reducible assumption | with_reducible apply Keeps.ite | with_reducible apply KeepsR.ite | with_reducible apply keeps_State_writeN | with_reducible apply Keeps.foldl | with_reducible apply Keeps.next | with_reducible apply Keeps.fault | with_reducible apply Keeps.ite | with_reducible apply KeepsR.ite | split | with_reducible apply Keeps.built

theorem keeps_State_doFill {z : State} : ∀ s a1 a2, Keeps z s → Keeps z (State.doFill s a1 a2) := by
  intro s a1 a2 h
  unfold State.doFill
  try dsimp only
  repeat' first | with_reducible intro _ | with_reducible assumption | with_reducible apply Keeps.ite | with_reducible apply KeepsR.ite | with_reducible apply keeps_State_writeN | with_reducible apply Keeps.foldl | with_reducible apply Keeps.next | with_reducible apply Keeps.fault | with_reducible apply Keeps.ite | with_reducible apply KeepsR.ite | split | with_reducible apply Keeps.built

theorem keeps_State_doRacc {z : State} : ∀ s a1 a2, Keeps z s → Keeps z (State.doRacc s a1 a2) := by
  intro s a1 a2 h
  unfold State.doRacc
  try dsimp only
  repeat' first | with_reducible intro _ | with_reducible assumption | with_reducible apply Keeps.ite | with_reducible apply KeepsR.ite | with_reducible apply keeps_State_addWord | with_reducible apply Keeps.foldl | with_reducible apply Keeps.next | with_reducible apply Keeps.fault | with_reducible apply Keeps.ite | with_reducible apply KeepsR.ite | split | with_reducible apply Keeps.built

theorem keeps_State_doAtom {z : State} : ∀ s a1 a2 a3 a4, Keeps z s → Keeps z (State.doAtom s a1 a2 a3 a4) := by
  intro s a1 a2 a3 a4 h
  unfold State.doAtom
  try dsimp only
  repeat' first | with_reducible intro _ | with_reducible assumption | with_reducible apply Keeps.ite | with_reducible apply KeepsR.ite | with_reducible apply keeps_State_writeN | with_reducible apply keeps_State_poisonRange | with_reducible apply Keeps.foldl | with_reducible apply Keeps.next | with_reducible apply Keeps.fault | with_reducible apply Keeps.ite | with_reducible apply KeepsR.ite | split | with_reducible apply Keeps.built

theorem keeps_State_doAccld {z : State} : ∀ s a1 a2 a3, Keeps z s → Keeps z (State.doAccld s a1 a2 a3) := by
  intro s a1 a2 a3 h
  unfold State.doAccld
  try dsimp only
  repeat' first | with_reducible intro _ | with_reducible assumption | with_reducible apply Keeps.ite | with_reducible apply KeepsR.ite | with_reducible apply keeps_State_onCore | with_reducible apply Keeps.foldl | with_reducible apply Keeps.next | with_reducible apply Keeps.fault | with_reducible apply Keeps.ite | with_reducible apply KeepsR.ite | split | with_reducible apply Keeps.built

theorem keeps_State_doMove {z : State} : ∀ s a1 a2 a3, Keeps z s → Keeps z (State.doMove s a1 a2 a3) := by
  intro s a1 a2 a3 h
  unfold State.doMove
  try dsimp only
  repeat' first | with_reducible intro _ | with_reducible assumption | with_reducible apply Keeps.ite | with_reducible apply KeepsR.ite | with_reducible apply keeps_State_doRows | with_reducible apply keeps_State_doTranspose | with_reducible apply keeps_State_doConvert | with_reducible apply keeps_State_doFill | with_reducible apply keeps_State_doRacc | with_reducible apply keeps_State_doAtom | with_reducible apply keeps_State_doAccstRows | with_reducible apply keeps_State_doAccld | with_reducible apply Keeps.foldl | with_reducible apply Keeps.next | with_reducible apply Keeps.fault | with_reducible apply Keeps.ite | with_reducible apply KeepsR.ite | split | with_reducible apply Keeps.built

theorem keeps_State_finishMove {z : State} : ∀ s a1 a2 a3, Keeps z s → Keeps z (State.finishMove s a1 a2 a3) := by
  intro s a1 a2 a3 h
  unfold State.finishMove
  try dsimp only
  repeat' first | with_reducible intro _ | with_reducible assumption | with_reducible apply Keeps.ite | with_reducible apply KeepsR.ite | with_reducible apply keeps_State_doMove | with_reducible apply keeps_State_onCore | with_reducible apply Keeps.foldl | with_reducible apply Keeps.next | with_reducible apply Keeps.fault | with_reducible apply Keeps.ite | with_reducible apply KeepsR.ite | split | with_reducible apply Keeps.built

theorem keeps_State_finishMoves {z : State} : ∀ s p c n, Keeps z s → Keeps z (State.finishMoves s p c n) := by
  intro s p c n
  induction n generalizing s with
  | zero =>
    intro h
    unfold State.finishMoves
    repeat' first | with_reducible intro _ | with_reducible assumption | with_reducible apply keeps_State_finishMove | with_reducible apply Keeps.foldl | with_reducible apply Keeps.next | with_reducible apply Keeps.fault | with_reducible apply Keeps.ite | with_reducible apply KeepsR.ite | split | with_reducible apply Keeps.built
  | succ n ih =>
    intro h
    unfold State.finishMoves
    try dsimp only
    repeat' first | with_reducible intro _ | with_reducible assumption | with_reducible apply ih | with_reducible apply keeps_State_finishMove | with_reducible apply Keeps.foldl | with_reducible apply Keeps.next | with_reducible apply Keeps.fault | with_reducible apply Keeps.ite | with_reducible apply KeepsR.ite | split | with_reducible apply Keeps.built

theorem keeps_State_drainCore {z : State} : ∀ s a1 a2, Keeps z s → Keeps z (State.drainCore s a1 a2) := by
  intro s a1 a2 h
  unfold State.drainCore
  try dsimp only
  repeat' first | with_reducible intro _ | with_reducible assumption | with_reducible apply Keeps.ite | with_reducible apply KeepsR.ite | with_reducible apply keeps_State_finishMoves | with_reducible apply Keeps.foldl | with_reducible apply Keeps.next | with_reducible apply Keeps.fault | with_reducible apply Keeps.ite | with_reducible apply KeepsR.ite | split | with_reducible apply Keeps.built

theorem keeps_State_setSem {z : State} : ∀ s a1 a2 a3, Keeps z s → Keeps z (State.setSem s a1 a2 a3) := by
  intro s a1 a2 a3 h
  unfold State.setSem
  try dsimp only
  repeat' first | with_reducible intro _ | with_reducible assumption | with_reducible apply Keeps.ite | with_reducible apply KeepsR.ite | with_reducible apply keeps_State_setB | with_reducible apply Keeps.foldl | with_reducible apply Keeps.next | with_reducible apply Keeps.fault | with_reducible apply Keeps.ite | with_reducible apply KeepsR.ite | split | with_reducible apply Keeps.built

theorem keeps_State_semInc {z : State} : ∀ s a1 a2, Keeps z s → Keeps z (State.semInc s a1 a2) := by
  intro s a1 a2 h
  unfold State.semInc
  try dsimp only
  repeat' first | with_reducible intro _ | with_reducible assumption | with_reducible apply Keeps.ite | with_reducible apply KeepsR.ite | with_reducible apply keeps_State_raise | with_reducible apply keeps_State_setSem | with_reducible apply Keeps.foldl | with_reducible apply Keeps.next | with_reducible apply Keeps.fault | with_reducible apply Keeps.ite | with_reducible apply KeepsR.ite | split | with_reducible apply Keeps.built

theorem keeps_State_arrive {z : State} : ∀ s a1 a2 a3 a4, Keeps z s → Keeps z (State.arrive s a1 a2 a3 a4) := by
  intro s a1 a2 a3 a4 h
  unfold State.arrive
  try dsimp only
  repeat' first | with_reducible intro _ | with_reducible assumption | with_reducible apply Keeps.ite | with_reducible apply KeepsR.ite | with_reducible apply keeps_State_onSched | with_reducible apply Keeps.foldl | with_reducible apply Keeps.next | with_reducible apply Keeps.fault | with_reducible apply Keeps.ite | with_reducible apply KeepsR.ite | split | with_reducible apply Keeps.built

theorem keeps_State_noteConsumed {z : State} : ∀ s a1 a2 a3, Keeps z s → Keeps z (State.noteConsumed s a1 a2 a3) := by
  intro s a1 a2 a3 h
  unfold State.noteConsumed
  try dsimp only
  repeat' first | with_reducible intro _ | with_reducible assumption | with_reducible apply Keeps.ite | with_reducible apply KeepsR.ite | with_reducible apply keeps_State_onTiers | with_reducible apply Keeps.foldl | with_reducible apply Keeps.next | with_reducible apply Keeps.fault | with_reducible apply Keeps.ite | with_reducible apply KeepsR.ite | split | with_reducible apply Keeps.built

theorem keeps_syEffect {z : State} : ∀ s a1 a2 a3 a4 a5, Keeps z s → Keeps z (syEffect s a1 a2 a3 a4 a5) := by
  intro s a1 a2 a3 a4 a5 h
  unfold syEffect
  try dsimp only
  repeat' first | with_reducible intro _ | with_reducible assumption | with_reducible apply Keeps.ite | with_reducible apply KeepsR.ite | with_reducible apply keeps_State_onSched | with_reducible apply keeps_State_onCore | with_reducible apply keeps_State_setSem | with_reducible apply keeps_State_semInc | with_reducible apply keeps_State_noteConsumed | with_reducible apply Keeps.foldl | with_reducible apply Keeps.next | with_reducible apply Keeps.fault | with_reducible apply Keeps.ite | with_reducible apply KeepsR.ite | split | with_reducible apply Keeps.built

theorem keeps_State_startTask {z : State} : ∀ s a1 a2 a3 a4, Keeps z s → Keeps z (State.startTask s a1 a2 a3 a4) := by
  intro s a1 a2 a3 a4 h
  unfold State.startTask
  try dsimp only
  repeat' first | with_reducible intro _ | with_reducible assumption | with_reducible apply Keeps.ite | with_reducible apply KeepsR.ite | with_reducible apply keeps_State_writeBytes | with_reducible apply keeps_State_cqReserve | with_reducible apply keeps_State_onCore | with_reducible apply keeps_State_onSched | with_reducible apply Keeps.foldl | with_reducible apply Keeps.next | with_reducible apply Keeps.fault | with_reducible apply Keeps.ite | with_reducible apply KeepsR.ite | split | with_reducible apply Keeps.built

theorem keeps_State_releaseSems {z : State} : ∀ s a1 a2 a3, Keeps z s → Keeps z (State.releaseSems s a1 a2 a3) := by
  intro s a1 a2 a3 h
  unfold State.releaseSems
  try dsimp only
  repeat' first | with_reducible intro _ | with_reducible assumption | with_reducible apply Keeps.ite | with_reducible apply KeepsR.ite | with_reducible apply keeps_State_raise | with_reducible apply keeps_State_semInc | with_reducible apply Keeps.foldl | with_reducible apply Keeps.next | with_reducible apply Keeps.fault | with_reducible apply Keeps.ite | with_reducible apply KeepsR.ite | split | with_reducible apply Keeps.built

theorem keeps_State_endTask {z : State} : ∀ s a1 a2 a3, Keeps z s → Keeps z (State.endTask s a1 a2 a3) := by
  intro s a1 a2 a3 h
  unfold State.endTask
  try dsimp only
  repeat' first | with_reducible intro _ | with_reducible assumption | with_reducible apply Keeps.ite | with_reducible apply KeepsR.ite | with_reducible apply keeps_State_drainCore | with_reducible apply keeps_State_releaseSems | with_reducible apply keeps_State_semInc | with_reducible apply keeps_State_complete | with_reducible apply keeps_State_bump | with_reducible apply keeps_State_onCore | with_reducible apply keeps_State_stepFails | with_reducible apply Keeps.foldl | with_reducible apply Keeps.next | with_reducible apply Keeps.fault | with_reducible apply Keeps.ite | with_reducible apply KeepsR.ite | split | with_reducible apply Keeps.built

theorem keeps_State_exnRecord {z : State} : ∀ s a1 a2 a3, Keeps z s → Keeps z (State.exnRecord s a1 a2 a3) := by
  intro s a1 a2 a3 h
  unfold State.exnRecord
  try dsimp only
  repeat' first | with_reducible intro _ | with_reducible assumption | with_reducible apply Keeps.ite | with_reducible apply KeepsR.ite | with_reducible apply keeps_State_faultRecord | with_reducible apply Keeps.foldl | with_reducible apply Keeps.next | with_reducible apply Keeps.fault | with_reducible apply Keeps.ite | with_reducible apply KeepsR.ite | split | with_reducible apply Keeps.built

theorem keeps_State_saveTask {z : State} : ∀ s a1 a2 a3 a4 a5 a6, Keeps z s → Keeps z (State.saveTask s a1 a2 a3 a4 a5 a6) := by
  intro s a1 a2 a3 a4 a5 a6 h
  unfold State.saveTask
  try dsimp only
  repeat' first | with_reducible intro _ | with_reducible assumption | with_reducible apply Keeps.ite | with_reducible apply KeepsR.ite | with_reducible apply keeps_State_drainCore | with_reducible apply keeps_State_writeBytes | with_reducible apply keeps_State_bump | with_reducible apply keeps_State_setCore | with_reducible apply Keeps.foldl | with_reducible apply Keeps.next | with_reducible apply Keeps.fault | with_reducible apply Keeps.ite | with_reducible apply KeepsR.ite | split | with_reducible apply Keeps.built

theorem keeps_State_resumeTask {z : State} : ∀ s a1 a2, Keeps z s → Keeps z (State.resumeTask s a1 a2) := by
  intro s a1 a2 h
  unfold State.resumeTask
  try dsimp only
  repeat' first | with_reducible intro _ | with_reducible assumption | with_reducible apply Keeps.ite | with_reducible apply KeepsR.ite | with_reducible apply keeps_State_writeN | with_reducible apply keeps_State_setCore | with_reducible apply Keeps.foldl | with_reducible apply Keeps.next | with_reducible apply Keeps.fault | with_reducible apply Keeps.ite | with_reducible apply KeepsR.ite | split | with_reducible apply Keeps.built

theorem keeps_State_landSaved {z : State} : ∀ s a1 a2 a3, Keeps z s → Keeps z (State.landSaved s a1 a2 a3) := by
  intro s a1 a2 a3 h
  unfold State.landSaved
  try dsimp only
  repeat' first | with_reducible intro _ | with_reducible assumption | with_reducible apply Keeps.ite | with_reducible apply KeepsR.ite | with_reducible apply keeps_State_writeN | with_reducible apply Keeps.foldl | with_reducible apply Keeps.next | with_reducible apply Keeps.fault | with_reducible apply Keeps.ite | with_reducible apply KeepsR.ite | split | with_reducible apply Keeps.built

theorem keeps_State_landOn {z : State} : ∀ s a1 a2 a3, Keeps z s → Keeps z (State.landOn s a1 a2 a3) := by
  intro s a1 a2 a3 h
  unfold State.landOn
  try dsimp only
  repeat' first | with_reducible intro _ | with_reducible assumption | with_reducible apply Keeps.ite | with_reducible apply KeepsR.ite | with_reducible apply keeps_State_onCore | with_reducible apply keeps_State_landSaved | with_reducible apply Keeps.foldl | with_reducible apply Keeps.next | with_reducible apply Keeps.fault | with_reducible apply Keeps.ite | with_reducible apply KeepsR.ite | split | with_reducible apply Keeps.built

theorem keeps_State_armOn {z : State} : ∀ s c n t, State.armOn s c n = some t → Keeps z s → Keeps z t := by
  intro s c n t e h
  unfold State.armOn at e
  split at e
  · cases e
    exact keeps_State_onCore _ _ _ h
  · cases e

theorem keeps_State_armOn_getD {z : State} : ∀ s c n t, Keeps z s → Keeps z t → Keeps z ((State.armOn s c n).getD t) := by
  intro s c n t h g
  cases e : State.armOn s c n with
  | none => exact g
  | some u => exact keeps_State_armOn s c n u e h

theorem keeps_State_disarmOn {z : State} : ∀ s a1 a2, Keeps z s → Keeps z (State.disarmOn s a1 a2) := by
  intro s a1 a2 h
  unfold State.disarmOn
  try dsimp only
  repeat' first | with_reducible intro _ | with_reducible assumption | with_reducible apply Keeps.ite | with_reducible apply KeepsR.ite | with_reducible apply keeps_State_onCore | with_reducible apply Keeps.foldl | with_reducible apply Keeps.next | with_reducible apply Keeps.fault | with_reducible apply Keeps.ite | with_reducible apply KeepsR.ite | split | with_reducible apply Keeps.built

theorem keeps_State_writeImage {z : State} : ∀ s a1, Keeps z s → Keeps z (State.writeImage s a1) := by
  intro s a1 h
  unfold State.writeImage
  try dsimp only
  repeat' first | with_reducible intro _ | with_reducible assumption | with_reducible apply Keeps.ite | with_reducible apply KeepsR.ite | with_reducible apply keeps_State_writeBytes | with_reducible apply Keeps.foldl | with_reducible apply Keeps.next | with_reducible apply Keeps.fault | with_reducible apply Keeps.ite | with_reducible apply KeepsR.ite | split | with_reducible apply Keeps.built

theorem keeps_State_setSchedState {z : State} : ∀ s a1 a2, Keeps z s → Keeps z (State.setSchedState s a1 a2) := by
  intro s a1 a2 h
  unfold State.setSchedState
  try dsimp only
  repeat' first | with_reducible intro _ | with_reducible assumption | with_reducible apply Keeps.ite | with_reducible apply KeepsR.ite | with_reducible apply keeps_State_set | with_reducible apply Keeps.foldl | with_reducible apply Keeps.next | with_reducible apply Keeps.fault | with_reducible apply Keeps.ite | with_reducible apply KeepsR.ite | split | with_reducible apply Keeps.built

theorem keeps_State_loadImage {z : State} : ∀ s a1 a2, Keeps z s → Keeps z (State.loadImage s a1 a2) := by
  intro s a1 a2 h
  unfold State.loadImage
  try dsimp only
  repeat' first | with_reducible intro _ | with_reducible assumption | with_reducible apply Keeps.ite | with_reducible apply KeepsR.ite | with_reducible apply keeps_State_onSched | with_reducible apply keeps_State_set | with_reducible apply keeps_State_writeBytes | with_reducible apply keeps_State_onCore | with_reducible apply keeps_State_setB | with_reducible apply keeps_State_setSem | with_reducible apply Keeps.foldl | with_reducible apply Keeps.next | with_reducible apply Keeps.fault | with_reducible apply Keeps.ite | with_reducible apply KeepsR.ite | split | with_reducible apply Keeps.built

theorem keeps_State_setBuf {z : State} : ∀ s a1 a2 a3 a4 a5, Keeps z s → Keeps z (State.setBuf s a1 a2 a3 a4 a5) := by
  intro s a1 a2 a3 a4 a5 h
  unfold State.setBuf
  try dsimp only
  repeat' first | with_reducible intro _ | with_reducible assumption | with_reducible apply Keeps.ite | with_reducible apply KeepsR.ite | with_reducible apply keeps_State_setB | with_reducible apply Keeps.foldl | with_reducible apply Keeps.next | with_reducible apply Keeps.fault | with_reducible apply Keeps.ite | with_reducible apply KeepsR.ite | split | with_reducible apply Keeps.built

theorem keeps_State_dropSwap {z : State} : ∀ s a1 a2, Keeps z s → Keeps z (State.dropSwap s a1 a2) := by
  intro s a1 a2 h
  unfold State.dropSwap
  try dsimp only
  repeat' first | with_reducible intro _ | with_reducible assumption | with_reducible apply Keeps.ite | with_reducible apply KeepsR.ite | with_reducible apply keeps_State_onWslot | with_reducible apply Keeps.foldl | with_reducible apply Keeps.next | with_reducible apply Keeps.fault | with_reducible apply Keeps.ite | with_reducible apply KeepsR.ite | split | with_reducible apply Keeps.built

theorem keeps_State_addSwap {z : State} : ∀ s a1 a2, Keeps z s → Keeps z (State.addSwap s a1 a2) := by
  intro s a1 a2 h
  unfold State.addSwap
  try dsimp only
  repeat' first | with_reducible intro _ | with_reducible assumption | with_reducible apply Keeps.ite | with_reducible apply KeepsR.ite | with_reducible apply keeps_State_onWslot | with_reducible apply Keeps.foldl | with_reducible apply Keeps.next | with_reducible apply Keeps.fault | with_reducible apply Keeps.ite | with_reducible apply KeepsR.ite | split | with_reducible apply Keeps.built

theorem keeps_State_reportSwap {z : State} : ∀ s a1 a2 a3, Keeps z s → Keeps z (State.reportSwap s a1 a2 a3) := by
  intro s a1 a2 a3 h
  unfold State.reportSwap
  try dsimp only
  repeat' first | with_reducible intro _ | with_reducible assumption | with_reducible apply Keeps.ite | with_reducible apply KeepsR.ite | with_reducible apply keeps_State_raise | with_reducible apply keeps_State_set | with_reducible apply Keeps.foldl | with_reducible apply Keeps.next | with_reducible apply Keeps.fault | with_reducible apply Keeps.ite | with_reducible apply KeepsR.ite | split | with_reducible apply Keeps.built

theorem keeps_State_deferSwap {z : State} : ∀ s a1 a2, Keeps z s → Keeps z (State.deferSwap s a1 a2) := by
  intro s a1 a2 h
  unfold State.deferSwap
  try dsimp only
  repeat' first | with_reducible intro _ | with_reducible assumption | with_reducible apply Keeps.ite | with_reducible apply KeepsR.ite | with_reducible apply keeps_State_raise | with_reducible apply keeps_State_bump | with_reducible apply Keeps.foldl | with_reducible apply Keeps.next | with_reducible apply Keeps.fault | with_reducible apply Keeps.ite | with_reducible apply KeepsR.ite | split | with_reducible apply Keeps.built

theorem keeps_State_activate {z : State} : ∀ s a1 a2, Keeps z s → Keeps z (State.activate s a1 a2) := by
  intro s a1 a2 h
  unfold State.activate
  try dsimp only
  repeat' first | with_reducible intro _ | with_reducible assumption | with_reducible apply Keeps.ite | with_reducible apply KeepsR.ite | with_reducible apply keeps_State_setBuf | with_reducible apply Keeps.foldl | with_reducible apply Keeps.next | with_reducible apply Keeps.fault | with_reducible apply Keeps.ite | with_reducible apply KeepsR.ite | split | with_reducible apply Keeps.built

theorem keeps_State_choosePennant {z : State} : ∀ s a1 a2, Keeps z s → Keeps z (State.choosePennant s a1 a2).2 := by
  intro s a1 a2 h
  unfold State.choosePennant
  try dsimp only
  repeat' first | with_reducible intro _ | with_reducible assumption | with_reducible apply Keeps.ite | with_reducible apply KeepsR.ite | with_reducible apply keeps_State_onWslot | with_reducible apply keeps_State_deferSwap | with_reducible apply keeps_State_reportSwap | with_reducible apply keeps_State_dropSwap | with_reducible apply Keeps.foldl | with_reducible apply Keeps.next | with_reducible apply Keeps.fault | with_reducible apply Keeps.ite | with_reducible apply KeepsR.ite | split | with_reducible apply Keeps.built


theorem keeps_State_choosePennant_eq {z : State} : ∀ s a1 a2 x t, (State.choosePennant s a1 a2) = (x, t) → Keeps z s → Keeps z t := by
  intro s a1 a2 x t e h
  have := keeps_State_choosePennant s a1 a2 h
  rw [e] at this
  exact this

theorem keeps_State_quietSwap {z : State} : ∀ s a1 a2, Keeps z s → Keeps z (State.quietSwap s a1 a2) := by
  intro s a1 a2 h
  unfold State.quietSwap
  try dsimp only
  repeat' first | with_reducible intro _ | with_reducible assumption | with_reducible apply Keeps.ite | with_reducible apply KeepsR.ite | with_reducible apply keeps_State_reportSwap | with_reducible apply keeps_State_onWslot | with_reducible apply keeps_State_dropSwap | with_reducible apply keeps_State_activate | with_reducible apply Keeps.foldl | with_reducible apply Keeps.next | with_reducible apply Keeps.fault | with_reducible apply Keeps.ite | with_reducible apply KeepsR.ite | split | with_reducible apply Keeps.built

theorem keeps_State_stepBegins {z : State} : ∀ s a1 a2, Keeps z s → Keeps z (State.stepBegins s a1 a2) := by
  intro s a1 a2 h
  unfold State.stepBegins
  try dsimp only
  repeat' first | with_reducible intro _ | with_reducible assumption | with_reducible apply Keeps.ite | with_reducible apply KeepsR.ite | with_reducible apply keeps_State_activate | with_reducible apply Keeps.foldl | with_reducible apply Keeps.next | with_reducible apply Keeps.fault | with_reducible apply Keeps.ite | with_reducible apply KeepsR.ite | split | with_reducible apply Keeps.built

theorem keeps_State_setRegion {z : State} : ∀ s a1 a2 a3, Keeps z s → Keeps z (State.setRegion s a1 a2 a3) := by
  intro s a1 a2 a3 h
  unfold State.setRegion
  try dsimp only
  repeat' first | with_reducible intro _ | with_reducible assumption | with_reducible apply Keeps.ite | with_reducible apply KeepsR.ite | with_reducible apply keeps_State_onTiers | with_reducible apply Keeps.foldl | with_reducible apply Keeps.next | with_reducible apply Keeps.fault | with_reducible apply Keeps.ite | with_reducible apply KeepsR.ite | split | with_reducible apply Keeps.built

theorem keeps_State_beginMigration {z : State} : ∀ s a1 a2 a3 a4, Keeps z s → Keeps z (State.beginMigration s a1 a2 a3 a4) := by
  intro s a1 a2 a3 a4 h
  unfold State.beginMigration
  try dsimp only
  repeat' first | with_reducible intro _ | with_reducible assumption | with_reducible apply Keeps.ite | with_reducible apply KeepsR.ite | with_reducible apply keeps_State_setRegion | with_reducible apply Keeps.foldl | with_reducible apply Keeps.next | with_reducible apply Keeps.fault | with_reducible apply Keeps.ite | with_reducible apply KeepsR.ite | split | with_reducible apply Keeps.built

theorem keeps_State_landRegion {z : State} : ∀ s a1 a2 a3 a4, Keeps z s → Keeps z (State.landRegion s a1 a2 a3 a4) := by
  intro s a1 a2 a3 a4 h
  unfold State.landRegion
  try dsimp only
  repeat' first | with_reducible intro _ | with_reducible assumption | with_reducible apply Keeps.ite | with_reducible apply KeepsR.ite | with_reducible apply keeps_State_setRegion | with_reducible apply keeps_State_copyRange | with_reducible apply Keeps.foldl | with_reducible apply Keeps.next | with_reducible apply Keeps.fault | with_reducible apply Keeps.ite | with_reducible apply KeepsR.ite | split | with_reducible apply Keeps.built

theorem keeps_State_regionFault {z : State} : ∀ s a1 a2, Keeps z s → Keeps z (State.regionFault s a1 a2) := by
  intro s a1 a2 h
  unfold State.regionFault
  try dsimp only
  repeat' first | with_reducible intro _ | with_reducible assumption | with_reducible apply Keeps.ite | with_reducible apply KeepsR.ite | with_reducible apply keeps_State_regFault | with_reducible apply Keeps.foldl | with_reducible apply Keeps.next | with_reducible apply Keeps.fault | with_reducible apply Keeps.ite | with_reducible apply KeepsR.ite | split | with_reducible apply Keeps.built

theorem keeps_State_regionHint {z : State} : ∀ s a1 a2, Keeps z s → Keeps z (State.regionHint s a1 a2) := by
  intro s a1 a2 h
  unfold State.regionHint
  try dsimp only
  repeat' first | with_reducible intro _ | with_reducible assumption | with_reducible apply Keeps.ite | with_reducible apply KeepsR.ite | with_reducible apply keeps_State_setB | with_reducible apply keeps_State_regionFault | with_reducible apply keeps_State_setRegion | with_reducible apply keeps_State_beginMigration | with_reducible apply Keeps.foldl | with_reducible apply Keeps.next | with_reducible apply Keeps.fault | with_reducible apply Keeps.ite | with_reducible apply KeepsR.ite | split | with_reducible apply Keeps.built

theorem keeps_State_regionDefine {z : State} : ∀ s a1 a2, Keeps z s → Keeps z (State.regionDefine s a1 a2) := by
  intro s a1 a2 h
  unfold State.regionDefine
  try dsimp only
  repeat' first | with_reducible intro _ | with_reducible assumption | with_reducible apply Keeps.ite | with_reducible apply KeepsR.ite | with_reducible apply keeps_State_regionFault | with_reducible apply keeps_State_setRegion | with_reducible apply keeps_State_setB | with_reducible apply Keeps.foldl | with_reducible apply Keeps.next | with_reducible apply Keeps.fault | with_reducible apply Keeps.ite | with_reducible apply KeepsR.ite | split | with_reducible apply Keeps.built

theorem keeps_State_regionDelete {z : State} : ∀ s a1, Keeps z s → Keeps z (State.regionDelete s a1) := by
  intro s a1 h
  unfold State.regionDelete
  try dsimp only
  repeat' first | with_reducible intro _ | with_reducible assumption | with_reducible apply Keeps.ite | with_reducible apply KeepsR.ite | with_reducible apply keeps_State_regionFault | with_reducible apply keeps_State_onTiers | with_reducible apply Keeps.foldl | with_reducible apply Keeps.next | with_reducible apply Keeps.fault | with_reducible apply Keeps.ite | with_reducible apply KeepsR.ite | split | with_reducible apply Keeps.built

theorem keeps_State_regionCtrl {z : State} : ∀ s a1 a2 a3, Keeps z s → Keeps z (State.regionCtrl s a1 a2 a3) := by
  intro s a1 a2 a3 h
  unfold State.regionCtrl
  try dsimp only
  repeat' first | with_reducible intro _ | with_reducible assumption | with_reducible apply Keeps.ite | with_reducible apply KeepsR.ite | with_reducible apply keeps_State_regionHint | with_reducible apply keeps_State_regionDefine | with_reducible apply keeps_State_regionDelete | with_reducible apply keeps_State_regionFault | with_reducible apply Keeps.foldl | with_reducible apply Keeps.next | with_reducible apply Keeps.fault | with_reducible apply Keeps.ite | with_reducible apply KeepsR.ite | split | with_reducible apply Keeps.built

theorem keeps_execRegionHintWrite {z : State} : ∀ a0 a1 a2 s, Keeps z s → KeepsR z (execRegionHintWrite a0 a1 a2 s) := by
  intro a0 a1 a2 s h
  unfold execRegionHintWrite
  try dsimp only
  repeat' first | with_reducible intro _ | with_reducible assumption | with_reducible apply Keeps.ite | with_reducible apply KeepsR.ite | with_reducible apply keeps_onPid | with_reducible apply keeps_State_guard | with_reducible apply keeps_State_regionHint | with_reducible apply Keeps.foldl | with_reducible apply Keeps.next | with_reducible apply Keeps.fault | with_reducible apply Keeps.ite | with_reducible apply KeepsR.ite | split | with_reducible apply Keeps.built

theorem keeps_execRegionDefine {z : State} : ∀ a0 a1 a2 s, Keeps z s → KeepsR z (execRegionDefine a0 a1 a2 s) := by
  intro a0 a1 a2 s h
  unfold execRegionDefine
  try dsimp only
  repeat' first | with_reducible intro _ | with_reducible assumption | with_reducible apply Keeps.ite | with_reducible apply KeepsR.ite | with_reducible apply keeps_onPid | with_reducible apply keeps_State_guard | with_reducible apply keeps_State_regionDefine | with_reducible apply Keeps.foldl | with_reducible apply Keeps.next | with_reducible apply Keeps.fault | with_reducible apply Keeps.ite | with_reducible apply KeepsR.ite | split | with_reducible apply Keeps.built

theorem keeps_execRegionDelete {z : State} : ∀ a0 a1 s, Keeps z s → KeepsR z (execRegionDelete a0 a1 s) := by
  intro a0 a1 s h
  unfold execRegionDelete
  try dsimp only
  repeat' first | with_reducible intro _ | with_reducible assumption | with_reducible apply Keeps.ite | with_reducible apply KeepsR.ite | with_reducible apply keeps_onPid | with_reducible apply keeps_State_guard | with_reducible apply keeps_State_regionDelete | with_reducible apply Keeps.foldl | with_reducible apply Keeps.next | with_reducible apply Keeps.fault | with_reducible apply Keeps.ite | with_reducible apply KeepsR.ite | split | with_reducible apply Keeps.built

theorem keeps_State_epoch {z : State} : ∀ s a1, Keeps z s → Keeps z (State.epoch s a1) := by
  intro s a1 h
  unfold State.epoch
  try dsimp only
  repeat' first | with_reducible intro _ | with_reducible assumption | with_reducible apply Keeps.ite | with_reducible apply KeepsR.ite | with_reducible apply keeps_State_onTiers | with_reducible apply Keeps.foldl | with_reducible apply Keeps.next | with_reducible apply Keeps.fault | with_reducible apply Keeps.ite | with_reducible apply KeepsR.ite | split | with_reducible apply Keeps.built

theorem keeps_execMigrationEpoch {z : State} : ∀ a0 s, Keeps z s → KeepsR z (execMigrationEpoch a0 s) := by
  intro a0 s h
  unfold execMigrationEpoch
  try dsimp only
  repeat' first | with_reducible intro _ | with_reducible assumption | with_reducible apply Keeps.ite | with_reducible apply KeepsR.ite | with_reducible apply keeps_onPid | with_reducible apply keeps_State_epoch | with_reducible apply Keeps.foldl | with_reducible apply Keeps.next | with_reducible apply Keeps.fault | with_reducible apply Keeps.ite | with_reducible apply KeepsR.ite | split | with_reducible apply Keeps.built

theorem keeps_State_evictLoop {z : State} : ∀ s p target l use, Keeps z s → Keeps z (State.evictLoop s p target l use) := by
  intro s p target l
  induction l generalizing s with
  | nil =>
    intro use h
    exact h
  | cons x l ih =>
    intro use h
    unfold State.evictLoop
    dsimp only
    repeat' first | with_reducible intro _ | with_reducible assumption | with_reducible apply ih | with_reducible apply keeps_State_beginMigration | with_reducible apply Keeps.foldl | with_reducible apply Keeps.next | with_reducible apply Keeps.fault | with_reducible apply Keeps.ite | with_reducible apply KeepsR.ite | split | with_reducible apply Keeps.built

theorem keeps_State_evict {z : State} : ∀ s a1, Keeps z s → Keeps z (State.evict s a1) := by
  intro s a1 h
  unfold State.evict
  try dsimp only
  repeat' first | with_reducible intro _ | with_reducible assumption | with_reducible apply Keeps.ite | with_reducible apply KeepsR.ite | with_reducible apply keeps_State_evictLoop | with_reducible apply Keeps.foldl | with_reducible apply Keeps.next | with_reducible apply Keeps.fault | with_reducible apply Keeps.ite | with_reducible apply KeepsR.ite | split | with_reducible apply Keeps.built

theorem keeps_execMigrationEvict {z : State} : ∀ a0 s, Keeps z s → KeepsR z (execMigrationEvict a0 s) := by
  intro a0 s h
  unfold execMigrationEvict
  try dsimp only
  repeat' first | with_reducible intro _ | with_reducible assumption | with_reducible apply Keeps.ite | with_reducible apply KeepsR.ite | with_reducible apply keeps_onPid | with_reducible apply keeps_State_evict | with_reducible apply Keeps.foldl | with_reducible apply Keeps.next | with_reducible apply Keeps.fault | with_reducible apply Keeps.ite | with_reducible apply KeepsR.ite | split | with_reducible apply Keeps.built

theorem keeps_State_promote {z : State} : ∀ s a1, Keeps z s → Keeps z (State.promote s a1) := by
  intro s a1 h
  unfold State.promote
  try dsimp only
  repeat' first | with_reducible intro _ | with_reducible assumption | with_reducible apply Keeps.ite | with_reducible apply KeepsR.ite | with_reducible apply keeps_State_beginMigration | with_reducible apply Keeps.foldl | with_reducible apply Keeps.next | with_reducible apply Keeps.fault | with_reducible apply Keeps.ite | with_reducible apply KeepsR.ite | split | with_reducible apply Keeps.built

theorem keeps_execMigrationPromote {z : State} : ∀ a0 s, Keeps z s → KeepsR z (execMigrationPromote a0 s) := by
  intro a0 s h
  unfold execMigrationPromote
  try dsimp only
  repeat' first | with_reducible intro _ | with_reducible assumption | with_reducible apply Keeps.ite | with_reducible apply KeepsR.ite | with_reducible apply keeps_onPid | with_reducible apply keeps_State_promote | with_reducible apply Keeps.foldl | with_reducible apply Keeps.next | with_reducible apply Keeps.fault | with_reducible apply Keeps.ite | with_reducible apply KeepsR.ite | split | with_reducible apply Keeps.built

theorem keeps_State_migrated {z : State} : ∀ s a1 a2, Keeps z s → Keeps z (State.migrated s a1 a2) := by
  intro s a1 a2 h
  unfold State.migrated
  try dsimp only
  repeat' first | with_reducible intro _ | with_reducible assumption | with_reducible apply Keeps.ite | with_reducible apply KeepsR.ite | with_reducible apply keeps_State_bump | with_reducible apply keeps_State_landRegion | with_reducible apply Keeps.foldl | with_reducible apply Keeps.next | with_reducible apply Keeps.fault | with_reducible apply Keeps.ite | with_reducible apply KeepsR.ite | split | with_reducible apply Keeps.built

theorem keeps_execRegionMigrationDone {z : State} : ∀ a0 a1 s, Keeps z s → KeepsR z (execRegionMigrationDone a0 a1 s) := by
  intro a0 a1 s h
  unfold execRegionMigrationDone
  try dsimp only
  repeat' first | with_reducible intro _ | with_reducible assumption | with_reducible apply Keeps.ite | with_reducible apply KeepsR.ite | with_reducible apply keeps_onPid | with_reducible apply keeps_State_migrated | with_reducible apply Keeps.foldl | with_reducible apply Keeps.next | with_reducible apply Keeps.fault | with_reducible apply Keeps.ite | with_reducible apply KeepsR.ite | split | with_reducible apply Keeps.built

theorem keeps_State_setTlist {z : State} : ∀ s a1 a2 a3, Keeps z s → Keeps z (State.setTlist s a1 a2 a3) := by
  intro s a1 a2 a3 h
  unfold State.setTlist
  try dsimp only
  repeat' first | with_reducible intro _ | with_reducible assumption | with_reducible apply Keeps.ite | with_reducible apply KeepsR.ite | with_reducible apply keeps_State_onTiers | with_reducible apply Keeps.foldl | with_reducible apply Keeps.next | with_reducible apply Keeps.fault | with_reducible apply Keeps.ite | with_reducible apply KeepsR.ite | split | with_reducible apply Keeps.built

theorem keeps_State_armFlags {z : State} : ∀ s p l seen, Keeps z s → Keeps z (State.armFlags s p l seen).1 := by
  intro s p l
  induction l generalizing s with
  | nil =>
    intro seen h
    exact h
  | cons x l ih =>
    intro seen h
    unfold State.armFlags
    split
    · exact ih _ _ h
    · split
      · exact ih _ _ h
      · split
        · rename_i t e
          exact ih _ _ (keeps_State_armOn _ _ _ _ e h)
        · exact h

theorem keeps_State_armFlags_eq {z : State} : ∀ s p l seen x t, State.armFlags s p l seen = (x, t) → Keeps z s → Keeps z x := by
  intro s p l seen x t e h
  have := keeps_State_armFlags s p l seen h
  rw [e] at this
  exact this

theorem keeps_State_startList {z : State} : ∀ s a1 a2 a3, Keeps z s → Keeps z (State.startList s a1 a2 a3) := by
  intro s a1 a2 a3 h
  unfold State.startList
  try dsimp only
  repeat' first | with_reducible intro _ | with_reducible assumption | with_reducible apply Keeps.ite | with_reducible apply KeepsR.ite | with_reducible apply keeps_State_armFlags | with_reducible apply keeps_State_onTiers | (with_reducible apply keeps_State_armFlags_eq; with_reducible assumption) | with_reducible apply Keeps.foldl | with_reducible apply Keeps.next | with_reducible apply Keeps.fault | with_reducible apply Keeps.ite | with_reducible apply KeepsR.ite | split | with_reducible apply Keeps.built

theorem keeps_State_listGo {z : State} : ∀ s a1, Keeps z s → Keeps z (State.listGo s a1) := by
  intro s a1 h
  unfold State.listGo
  try dsimp only
  repeat' first | with_reducible intro _ | with_reducible assumption | with_reducible apply Keeps.ite | with_reducible apply KeepsR.ite | with_reducible apply keeps_State_regFault | with_reducible apply keeps_State_startList | with_reducible apply Keeps.foldl | with_reducible apply Keeps.next | with_reducible apply Keeps.fault | with_reducible apply Keeps.ite | with_reducible apply KeepsR.ite | split | with_reducible apply Keeps.built

theorem keeps_execListGo {z : State} : ∀ a0 a1 s, Keeps z s → KeepsR z (execListGo a0 a1 s) := by
  intro a0 a1 s h
  unfold execListGo
  try dsimp only
  repeat' first | with_reducible intro _ | with_reducible assumption | with_reducible apply Keeps.ite | with_reducible apply KeepsR.ite | with_reducible apply keeps_onPid | with_reducible apply keeps_State_guard | with_reducible apply keeps_State_listGo | with_reducible apply Keeps.foldl | with_reducible apply Keeps.next | with_reducible apply Keeps.fault | with_reducible apply Keeps.ite | with_reducible apply KeepsR.ite | split | with_reducible apply Keeps.built

theorem keeps_State_disarm {z : State} : ∀ s a1 a2 a3, Keeps z s → Keeps z (State.disarm s a1 a2 a3) := by
  intro s a1 a2 a3 h
  unfold State.disarm
  try dsimp only
  repeat' first | with_reducible intro _ | with_reducible assumption | with_reducible apply Keeps.ite | with_reducible apply KeepsR.ite | with_reducible apply keeps_State_disarmOn | with_reducible apply Keeps.foldl | with_reducible apply Keeps.next | with_reducible apply Keeps.fault | with_reducible apply Keeps.ite | with_reducible apply KeepsR.ite | split | with_reducible apply Keeps.built

theorem keeps_State_failList {z : State} : ∀ s a1 a2 a3 a4, Keeps z s → Keeps z (State.failList s a1 a2 a3 a4) := by
  intro s a1 a2 a3 a4 h
  unfold State.failList
  try dsimp only
  repeat' first | with_reducible intro _ | with_reducible assumption | with_reducible apply Keeps.ite | with_reducible apply KeepsR.ite | with_reducible apply keeps_State_disarm | with_reducible apply keeps_State_set | with_reducible apply keeps_State_raise | with_reducible apply keeps_State_onCore | with_reducible apply keeps_State_setTlist | with_reducible apply Keeps.foldl | with_reducible apply Keeps.next | with_reducible apply Keeps.fault | with_reducible apply Keeps.ite | with_reducible apply KeepsR.ite | split | with_reducible apply Keeps.built

theorem keeps_State_countUse {z : State} : ∀ s a1 a2, Keeps z s → Keeps z (State.countUse s a1 a2) := by
  intro s a1 a2 h
  unfold State.countUse
  try dsimp only
  repeat' first | with_reducible intro _ | with_reducible assumption | with_reducible apply Keeps.ite | with_reducible apply KeepsR.ite | with_reducible apply keeps_State_onTiers | with_reducible apply Keeps.foldl | with_reducible apply Keeps.next | with_reducible apply Keeps.fault | with_reducible apply Keeps.ite | with_reducible apply KeepsR.ite | split | with_reducible apply Keeps.built

theorem keeps_State_nextDesc {z : State} : ∀ s p l op run, Keeps z s → (∀ x d, Keeps z (run x d)) →
    Keeps z (State.nextDesc s p l op run) := by
  intro s p l op run h g
  unfold State.nextDesc
  repeat' first | with_reducible intro _ | with_reducible assumption | with_reducible apply g | with_reducible apply keeps_State_failList | with_reducible apply Keeps.ite | split

theorem keeps_State_runStream {z : State} : ∀ s a1 a2 a3 a4, Keeps z s → Keeps z (State.runStream s a1 a2 a3 a4) := by
  intro s a1 a2 a3 a4 h
  unfold State.runStream
  try dsimp only
  repeat' first | with_reducible intro _ | with_reducible assumption | with_reducible apply Keeps.ite | with_reducible apply KeepsR.ite | with_reducible apply keeps_State_copyRange | with_reducible apply keeps_State_countUse | with_reducible apply keeps_State_setTlist | with_reducible apply Keeps.foldl | with_reducible apply Keeps.next | with_reducible apply Keeps.fault | with_reducible apply Keeps.ite | with_reducible apply KeepsR.ite | split | with_reducible apply Keeps.built

theorem keeps_execStream {z : State} : ∀ a0 a1 s, Keeps z s → KeepsR z (execStream a0 a1 s) := by
  intro a0 a1 s h
  unfold execStream
  try dsimp only
  repeat' first | with_reducible intro _ | with_reducible assumption | with_reducible apply Keeps.ite | with_reducible apply KeepsR.ite | with_reducible apply keeps_onPid | with_reducible apply keeps_State_nextDesc | with_reducible apply keeps_State_runStream | with_reducible apply Keeps.foldl | with_reducible apply Keeps.next | with_reducible apply Keeps.fault | with_reducible apply Keeps.ite | with_reducible apply KeepsR.ite | split | with_reducible apply Keeps.built

theorem keeps_State_streamLanded {z : State} : ∀ s a1 a2 a3 a4, Keeps z s → Keeps z (State.streamLanded s a1 a2 a3 a4) := by
  intro s a1 a2 a3 a4 h
  unfold State.streamLanded
  try dsimp only
  repeat' first | with_reducible intro _ | with_reducible assumption | with_reducible apply Keeps.ite | with_reducible apply KeepsR.ite | with_reducible apply keeps_State_setTlist | with_reducible apply keeps_State_landOn | with_reducible apply Keeps.foldl | with_reducible apply Keeps.next | with_reducible apply Keeps.fault | with_reducible apply Keeps.ite | with_reducible apply KeepsR.ite | split | with_reducible apply Keeps.built

theorem keeps_execStreamLanded {z : State} : ∀ a0 a1 a2 a3 s, Keeps z s → KeepsR z (execStreamLanded a0 a1 a2 a3 s) := by
  intro a0 a1 a2 a3 s h
  unfold execStreamLanded
  try dsimp only
  repeat' first | with_reducible intro _ | with_reducible assumption | with_reducible apply Keeps.ite | with_reducible apply KeepsR.ite | with_reducible apply keeps_onPid | with_reducible apply keeps_State_streamLanded | with_reducible apply Keeps.foldl | with_reducible apply Keeps.next | with_reducible apply Keeps.fault | with_reducible apply Keeps.ite | with_reducible apply KeepsR.ite | split | with_reducible apply Keeps.built

theorem keeps_State_runMove {z : State} : ∀ s a1 a2 a3 a4, Keeps z s → Keeps z (State.runMove s a1 a2 a3 a4) := by
  intro s a1 a2 a3 a4 h
  unfold State.runMove
  try dsimp only
  repeat' first | with_reducible intro _ | with_reducible assumption | with_reducible apply Keeps.ite | with_reducible apply KeepsR.ite | with_reducible apply keeps_State_setTlist | with_reducible apply keeps_State_setRegion | with_reducible apply Keeps.foldl | with_reducible apply Keeps.next | with_reducible apply Keeps.fault | with_reducible apply Keeps.ite | with_reducible apply KeepsR.ite | split | with_reducible apply Keeps.built

theorem keeps_execMoveRegion {z : State} : ∀ a0 a1 s, Keeps z s → KeepsR z (execMoveRegion a0 a1 s) := by
  intro a0 a1 s h
  unfold execMoveRegion
  try dsimp only
  repeat' first | with_reducible intro _ | with_reducible assumption | with_reducible apply Keeps.ite | with_reducible apply KeepsR.ite | with_reducible apply keeps_onPid | with_reducible apply keeps_State_nextDesc | with_reducible apply keeps_State_runMove | with_reducible apply Keeps.foldl | with_reducible apply Keeps.next | with_reducible apply Keeps.fault | with_reducible apply Keeps.ite | with_reducible apply KeepsR.ite | split | with_reducible apply Keeps.built

theorem keeps_State_moveDone {z : State} : ∀ s a1 a2, Keeps z s → Keeps z (State.moveDone s a1 a2) := by
  intro s a1 a2 h
  unfold State.moveDone
  try dsimp only
  repeat' first | with_reducible intro _ | with_reducible assumption | with_reducible apply Keeps.ite | with_reducible apply KeepsR.ite | with_reducible apply keeps_State_landRegion | with_reducible apply Keeps.foldl | with_reducible apply Keeps.next | with_reducible apply Keeps.fault | with_reducible apply Keeps.ite | with_reducible apply KeepsR.ite | split | with_reducible apply Keeps.built

theorem keeps_execMoveRegionDone {z : State} : ∀ a0 a1 s, Keeps z s → KeepsR z (execMoveRegionDone a0 a1 s) := by
  intro a0 a1 s h
  unfold execMoveRegionDone
  try dsimp only
  repeat' first | with_reducible intro _ | with_reducible assumption | with_reducible apply Keeps.ite | with_reducible apply KeepsR.ite | with_reducible apply keeps_onPid | with_reducible apply keeps_State_moveDone | with_reducible apply Keeps.foldl | with_reducible apply Keeps.next | with_reducible apply Keeps.fault | with_reducible apply Keeps.ite | with_reducible apply KeepsR.ite | split | with_reducible apply Keeps.built

theorem keeps_State_runGate {z : State} : ∀ s a1 a2 a3 a4, Keeps z s → Keeps z (State.runGate s a1 a2 a3 a4) := by
  intro s a1 a2 a3 a4 h
  unfold State.runGate
  try dsimp only
  repeat' first | with_reducible intro _ | with_reducible assumption | with_reducible apply Keeps.ite | with_reducible apply KeepsR.ite | with_reducible apply keeps_State_setTlist | with_reducible apply Keeps.foldl | with_reducible apply Keeps.next | with_reducible apply Keeps.fault | with_reducible apply Keeps.ite | with_reducible apply KeepsR.ite | split | with_reducible apply Keeps.built

theorem keeps_execGate {z : State} : ∀ a0 a1 s, Keeps z s → KeepsR z (execGate a0 a1 s) := by
  intro a0 a1 s h
  unfold execGate
  try dsimp only
  repeat' first | with_reducible intro _ | with_reducible assumption | with_reducible apply Keeps.ite | with_reducible apply KeepsR.ite | with_reducible apply keeps_onPid | with_reducible apply keeps_State_nextDesc | with_reducible apply keeps_State_runGate | with_reducible apply Keeps.foldl | with_reducible apply Keeps.next | with_reducible apply Keeps.fault | with_reducible apply Keeps.ite | with_reducible apply KeepsR.ite | split | with_reducible apply Keeps.built

theorem keeps_execEndList {z : State} : ∀ a0 a1 s, Keeps z s → KeepsR z (execEndList a0 a1 s) := by
  intro a0 a1 s h
  unfold execEndList
  try dsimp only
  repeat' first | with_reducible intro _ | with_reducible assumption | with_reducible apply Keeps.ite | with_reducible apply KeepsR.ite | with_reducible apply keeps_onPid | with_reducible apply keeps_State_nextDesc | with_reducible apply keeps_State_setTlist | with_reducible apply Keeps.foldl | with_reducible apply Keeps.next | with_reducible apply Keeps.fault | with_reducible apply Keeps.ite | with_reducible apply KeepsR.ite | split | with_reducible apply Keeps.built

theorem keeps_State_stopStepLists {z : State} : ∀ s a1, Keeps z s → Keeps z (State.stopStepLists s a1) := by
  intro s a1 h
  unfold State.stopStepLists
  try dsimp only
  repeat' first | with_reducible intro _ | with_reducible assumption | with_reducible apply Keeps.ite | with_reducible apply KeepsR.ite | with_reducible apply keeps_State_disarm | with_reducible apply keeps_State_onTiers | with_reducible apply Keeps.foldl | with_reducible apply Keeps.next | with_reducible apply Keeps.fault | with_reducible apply Keeps.ite | with_reducible apply KeepsR.ite | split | with_reducible apply Keeps.built

theorem keeps_State_t1Ue {z : State} : ∀ s a1 a2, Keeps z s → Keeps z (State.t1Ue s a1 a2) := by
  intro s a1 a2 h
  unfold State.t1Ue
  try dsimp only
  repeat' first | with_reducible intro _ | with_reducible assumption | with_reducible apply Keeps.ite | with_reducible apply KeepsR.ite | with_reducible apply keeps_State_poisonRange | with_reducible apply keeps_State_raise | with_reducible apply keeps_State_setRegion | with_reducible apply keeps_State_bump | with_reducible apply Keeps.foldl | with_reducible apply Keeps.next | with_reducible apply Keeps.fault | with_reducible apply Keeps.ite | with_reducible apply KeepsR.ite | split | with_reducible apply Keeps.built

theorem keeps_execT1UeRetry {z : State} : ∀ a0 a1 s, Keeps z s → KeepsR z (execT1UeRetry a0 a1 s) := by
  intro a0 a1 s h
  unfold execT1UeRetry
  try dsimp only
  repeat' first | with_reducible intro _ | with_reducible assumption | with_reducible apply Keeps.ite | with_reducible apply KeepsR.ite | with_reducible apply keeps_State_t1Ue | with_reducible apply Keeps.foldl | with_reducible apply Keeps.next | with_reducible apply Keeps.fault | with_reducible apply Keeps.ite | with_reducible apply KeepsR.ite | split | with_reducible apply Keeps.built

theorem keeps_State_onSett {z : State} : ∀ s a1 a2 a3, Keeps z s → Keeps z (State.onSett s a1 a2 a3) := by
  intro s a1 a2 a3 h
  unfold State.onSett
  try dsimp only
  repeat' first | with_reducible intro _ | with_reducible assumption | with_reducible apply Keeps.ite | with_reducible apply KeepsR.ite | with_reducible apply keeps_State_onPart | with_reducible apply Keeps.foldl | with_reducible apply Keeps.next | with_reducible apply Keeps.fault | with_reducible apply Keeps.ite | with_reducible apply KeepsR.ite | split | with_reducible apply Keeps.built

theorem keeps_State_settFault {z : State} : ∀ s a1 a2, Keeps z s → Keeps z (State.settFault s a1 a2) := by
  intro s a1 a2 h
  unfold State.settFault
  try dsimp only
  repeat' first | with_reducible intro _ | with_reducible assumption | with_reducible apply Keeps.ite | with_reducible apply KeepsR.ite | with_reducible apply keeps_State_regFault | with_reducible apply Keeps.foldl | with_reducible apply Keeps.next | with_reducible apply Keeps.fault | with_reducible apply Keeps.ite | with_reducible apply KeepsR.ite | split | with_reducible apply Keeps.built

theorem keeps_State_settMail {z : State} : ∀ s a1 a2 a3 a4, Keeps z s → Keeps z (State.settMail s a1 a2 a3 a4) := by
  intro s a1 a2 a3 a4 h
  unfold State.settMail
  try dsimp only
  repeat' first | with_reducible intro _ | with_reducible assumption | with_reducible apply Keeps.ite | with_reducible apply KeepsR.ite | with_reducible apply keeps_State_writeN | with_reducible apply Keeps.foldl | with_reducible apply Keeps.next | with_reducible apply Keeps.fault | with_reducible apply Keeps.ite | with_reducible apply KeepsR.ite | split | with_reducible apply Keeps.built

theorem keeps_State_settLand {z : State} : ∀ s a1 a2 a3 a4 a5, Keeps z s → Keeps z (State.settLand s a1 a2 a3 a4 a5) := by
  intro s a1 a2 a3 a4 a5 h
  unfold State.settLand
  try dsimp only
  repeat' first | with_reducible intro _ | with_reducible assumption | with_reducible apply Keeps.ite | with_reducible apply KeepsR.ite | with_reducible apply keeps_State_landOn | with_reducible apply keeps_State_settMail | with_reducible apply keeps_State_bump | with_reducible apply Keeps.foldl | with_reducible apply Keeps.next | with_reducible apply Keeps.fault | with_reducible apply Keeps.ite | with_reducible apply KeepsR.ite | split | with_reducible apply Keeps.built

theorem keeps_State_settSpill {z : State} : ∀ s a1 a2 a3 a4, Keeps z s → Keeps z (State.settSpill s a1 a2 a3 a4) := by
  intro s a1 a2 a3 a4 h
  unfold State.settSpill
  try dsimp only
  repeat' first | with_reducible intro _ | with_reducible assumption | with_reducible apply Keeps.ite | with_reducible apply KeepsR.ite | with_reducible apply keeps_State_copyRange | with_reducible apply keeps_State_bump | with_reducible apply keeps_State_onSett | with_reducible apply Keeps.foldl | with_reducible apply Keeps.next | with_reducible apply Keeps.fault | with_reducible apply Keeps.ite | with_reducible apply KeepsR.ite | split | with_reducible apply Keeps.built

theorem keeps_State_settFillAt {z : State} : ∀ s a1 a2 a3 a4 a5, Keeps z s → Keeps z (State.settFillAt s a1 a2 a3 a4 a5) := by
  intro s a1 a2 a3 a4 a5 h
  unfold State.settFillAt
  try dsimp only
  repeat' first | with_reducible intro _ | with_reducible assumption | with_reducible apply Keeps.ite | with_reducible apply KeepsR.ite | with_reducible apply keeps_State_copyRange | with_reducible apply keeps_State_freeBytes | with_reducible apply keeps_State_writeBytes | with_reducible apply keeps_State_bump | (with_reducible apply keeps_State_freeBytes_eq; with_reducible assumption) | with_reducible apply Keeps.foldl | with_reducible apply Keeps.next | with_reducible apply Keeps.fault | with_reducible apply Keeps.ite | with_reducible apply KeepsR.ite | split | with_reducible apply Keeps.built

theorem keeps_State_settPlace {z : State} : ∀ s a1 a2, Keeps z s → Keeps z (State.settPlace s a1 a2) := by
  intro s a1 a2 h
  unfold State.settPlace
  try dsimp only
  repeat' first | with_reducible intro _ | with_reducible assumption | with_reducible apply Keeps.ite | with_reducible apply KeepsR.ite | with_reducible apply keeps_State_settSpill | with_reducible apply keeps_State_onSett | with_reducible apply keeps_State_settFillAt | with_reducible apply keeps_State_settLand | with_reducible apply Keeps.foldl | with_reducible apply Keeps.next | with_reducible apply Keeps.fault | with_reducible apply Keeps.ite | with_reducible apply KeepsR.ite | split | with_reducible apply Keeps.built

theorem keeps_execSettPlacement {z : State} : ∀ a0 a1 s, Keeps z s → KeepsR z (execSettPlacement a0 a1 s) := by
  intro a0 a1 s h
  unfold execSettPlacement
  try dsimp only
  repeat' first | with_reducible intro _ | with_reducible assumption | with_reducible apply Keeps.ite | with_reducible apply KeepsR.ite | with_reducible apply keeps_onPid | with_reducible apply keeps_State_settPlace | with_reducible apply Keeps.foldl | with_reducible apply Keeps.next | with_reducible apply Keeps.fault | with_reducible apply Keeps.ite | with_reducible apply KeepsR.ite | split | with_reducible apply Keeps.built

theorem keeps_State_settLeadSpill {z : State} : ∀ s a1 a2, Keeps z s → Keeps z (State.settLeadSpill s a1 a2) := by
  intro s a1 a2 h
  unfold State.settLeadSpill
  try dsimp only
  repeat' first | with_reducible intro _ | with_reducible assumption | with_reducible apply Keeps.ite | with_reducible apply KeepsR.ite | with_reducible apply keeps_State_settSpill | with_reducible apply Keeps.foldl | with_reducible apply Keeps.next | with_reducible apply Keeps.fault | with_reducible apply Keeps.ite | with_reducible apply KeepsR.ite | split | with_reducible apply Keeps.built

theorem keeps_execSettLeadSpill {z : State} : ∀ a0 a1 s, Keeps z s → KeepsR z (execSettLeadSpill a0 a1 s) := by
  intro a0 a1 s h
  unfold execSettLeadSpill
  try dsimp only
  repeat' first | with_reducible intro _ | with_reducible assumption | with_reducible apply Keeps.ite | with_reducible apply KeepsR.ite | with_reducible apply keeps_onPid | with_reducible apply keeps_State_settLeadSpill | with_reducible apply Keeps.foldl | with_reducible apply Keeps.next | with_reducible apply Keeps.fault | with_reducible apply Keeps.ite | with_reducible apply KeepsR.ite | split | with_reducible apply Keeps.built

theorem keeps_State_settFill {z : State} : ∀ s a1 a2, Keeps z s → Keeps z (State.settFill s a1 a2) := by
  intro s a1 a2 h
  unfold State.settFill
  try dsimp only
  repeat' first | with_reducible intro _ | with_reducible assumption | with_reducible apply Keeps.ite | with_reducible apply KeepsR.ite | with_reducible apply keeps_State_onSett | with_reducible apply keeps_State_settFillAt | with_reducible apply Keeps.foldl | with_reducible apply Keeps.next | with_reducible apply Keeps.fault | with_reducible apply Keeps.ite | with_reducible apply KeepsR.ite | split | with_reducible apply Keeps.built

theorem keeps_execSettFill {z : State} : ∀ a0 a1 s, Keeps z s → KeepsR z (execSettFill a0 a1 s) := by
  intro a0 a1 s h
  unfold execSettFill
  try dsimp only
  repeat' first | with_reducible intro _ | with_reducible assumption | with_reducible apply Keeps.ite | with_reducible apply KeepsR.ite | with_reducible apply keeps_onPid | with_reducible apply keeps_State_settFill | with_reducible apply Keeps.foldl | with_reducible apply Keeps.next | with_reducible apply Keeps.fault | with_reducible apply Keeps.ite | with_reducible apply KeepsR.ite | split | with_reducible apply Keeps.built

theorem keeps_State_settReserve {z : State} : ∀ s a1 a2 a3 a4 a5 a6, Keeps z s → Keeps z (State.settReserve s a1 a2 a3 a4 a5 a6) := by
  intro s a1 a2 a3 a4 a5 a6 h
  unfold State.settReserve
  try dsimp only
  repeat' first | with_reducible intro _ | with_reducible assumption | with_reducible apply Keeps.ite | with_reducible apply KeepsR.ite | with_reducible apply keeps_State_settFault | (with_reducible apply keeps_State_armOn; with_reducible assumption) | with_reducible apply keeps_State_armOn_getD | with_reducible apply keeps_State_onSett | with_reducible apply Keeps.foldl | with_reducible apply Keeps.next | with_reducible apply Keeps.fault | with_reducible apply Keeps.ite | with_reducible apply KeepsR.ite | split | with_reducible apply Keeps.built

theorem keeps_State_settPush {z : State} : ∀ s a1 a2 a3, Keeps z s → Keeps z (State.settPush s a1 a2 a3) := by
  intro s a1 a2 a3 h
  unfold State.settPush
  try dsimp only
  repeat' first | with_reducible intro _ | with_reducible assumption | with_reducible apply Keeps.ite | with_reducible apply KeepsR.ite | with_reducible apply keeps_State_settFault | with_reducible apply keeps_State_onSett | with_reducible apply Keeps.foldl | with_reducible apply Keeps.next | with_reducible apply Keeps.fault | with_reducible apply Keeps.ite | with_reducible apply KeepsR.ite | split | with_reducible apply Keeps.built

theorem keeps_State_settFetch {z : State} : ∀ s a1 a2 a3 a4 a5, Keeps z s → Keeps z (State.settFetch s a1 a2 a3 a4 a5) := by
  intro s a1 a2 a3 a4 a5 h
  unfold State.settFetch
  try dsimp only
  repeat' first | with_reducible intro _ | with_reducible assumption | with_reducible apply Keeps.ite | with_reducible apply KeepsR.ite | with_reducible apply keeps_State_settFault | (with_reducible apply keeps_State_armOn; with_reducible assumption) | with_reducible apply keeps_State_armOn_getD | with_reducible apply keeps_State_onSett | with_reducible apply keeps_State_settLand | with_reducible apply Keeps.foldl | with_reducible apply Keeps.next | with_reducible apply Keeps.fault | with_reducible apply Keeps.ite | with_reducible apply KeepsR.ite | split | with_reducible apply Keeps.built

theorem keeps_State_settRelease {z : State} : ∀ s a1 a2 a3, Keeps z s → Keeps z (State.settRelease s a1 a2 a3) := by
  intro s a1 a2 a3 h
  unfold State.settRelease
  try dsimp only
  repeat' first | with_reducible intro _ | with_reducible assumption | with_reducible apply Keeps.ite | with_reducible apply KeepsR.ite | with_reducible apply keeps_State_settFault | with_reducible apply keeps_State_onSett | with_reducible apply Keeps.foldl | with_reducible apply Keeps.next | with_reducible apply Keeps.fault | with_reducible apply Keeps.ite | with_reducible apply KeepsR.ite | split | with_reducible apply Keeps.built

theorem keeps_State_settClear {z : State} : ∀ s a1 a2 a3, Keeps z s → Keeps z (State.settClear s a1 a2 a3) := by
  intro s a1 a2 a3 h
  unfold State.settClear
  try dsimp only
  repeat' first | with_reducible intro _ | with_reducible assumption | with_reducible apply Keeps.ite | with_reducible apply KeepsR.ite | with_reducible apply keeps_State_disarmOn | with_reducible apply keeps_State_onSett | with_reducible apply Keeps.foldl | with_reducible apply Keeps.next | with_reducible apply Keeps.fault | with_reducible apply Keeps.ite | with_reducible apply KeepsR.ite | split | with_reducible apply Keeps.built

theorem keeps_State_emptySetts {z : State} : ∀ s a1, Keeps z s → Keeps z (State.emptySetts s a1) := by
  intro s a1 h
  unfold State.emptySetts
  try dsimp only
  repeat' first | with_reducible intro _ | with_reducible assumption | with_reducible apply Keeps.ite | with_reducible apply KeepsR.ite | with_reducible apply keeps_State_settClear | with_reducible apply keeps_State_onPart | with_reducible apply Keeps.foldl | with_reducible apply Keeps.next | with_reducible apply Keeps.fault | with_reducible apply Keeps.ite | with_reducible apply KeepsR.ite | split | with_reducible apply Keeps.built

theorem keeps_State_settEvacuate {z : State} : ∀ s a1 a2, Keeps z s → Keeps z (State.settEvacuate s a1 a2) := by
  intro s a1 a2 h
  unfold State.settEvacuate
  try dsimp only
  repeat' first | with_reducible intro _ | with_reducible assumption | with_reducible apply Keeps.ite | with_reducible apply KeepsR.ite | with_reducible apply keeps_State_onSett | with_reducible apply keeps_State_settSpill | with_reducible apply Keeps.foldl | with_reducible apply Keeps.next | with_reducible apply Keeps.fault | with_reducible apply Keeps.ite | with_reducible apply KeepsR.ite | split | with_reducible apply Keeps.built

theorem keeps_State_settOp {z : State} : ∀ s a1 a2 a3 a4, Keeps z s → Keeps z (State.settOp s a1 a2 a3 a4) := by
  intro s a1 a2 a3 a4 h
  unfold State.settOp
  try dsimp only
  repeat' first | with_reducible intro _ | with_reducible assumption | with_reducible apply Keeps.ite | with_reducible apply KeepsR.ite | with_reducible apply keeps_State_settFault | with_reducible apply keeps_State_settReserve | with_reducible apply keeps_State_settPush | with_reducible apply keeps_State_settFetch | with_reducible apply keeps_State_settRelease | with_reducible apply keeps_State_settClear | with_reducible apply Keeps.foldl | with_reducible apply Keeps.next | with_reducible apply Keeps.fault | with_reducible apply Keeps.ite | with_reducible apply KeepsR.ite | split | with_reducible apply Keeps.built

theorem keeps_State_coreStore {z : State} : ∀ s c f run, Keeps z s → (∀ p l, Keeps z (run p l)) →
    Keeps z (State.coreStore s c f run) := by
  intro s c f run h g
  unfold State.coreStore
  repeat' first | with_reducible intro _ | with_reducible assumption | with_reducible apply g | with_reducible apply Keeps.ite | split

theorem keeps_State_settCommand {z : State} : ∀ s a1 a2 a3, Keeps z s → Keeps z (State.settCommand s a1 a2 a3) := by
  intro s a1 a2 a3 h
  unfold State.settCommand
  try dsimp only
  repeat' first | with_reducible intro _ | with_reducible assumption | with_reducible apply Keeps.ite | with_reducible apply KeepsR.ite | with_reducible apply keeps_State_coreStore | with_reducible apply keeps_State_settOp | with_reducible apply Keeps.foldl | with_reducible apply Keeps.next | with_reducible apply Keeps.fault | with_reducible apply Keeps.ite | with_reducible apply KeepsR.ite | split | with_reducible apply Keeps.built

theorem keeps_execReserve {z : State} : ∀ a0 a1 s, Keeps z s → KeepsR z (execReserve a0 a1 s) := by
  intro a0 a1 s h
  unfold execReserve
  try dsimp only
  repeat' first | with_reducible intro _ | with_reducible assumption | with_reducible apply Keeps.ite | with_reducible apply KeepsR.ite | with_reducible apply keeps_onCoreId | with_reducible apply keeps_State_settCommand | with_reducible apply Keeps.foldl | with_reducible apply Keeps.next | with_reducible apply Keeps.fault | with_reducible apply Keeps.ite | with_reducible apply KeepsR.ite | split | with_reducible apply Keeps.built

theorem keeps_execPush {z : State} : ∀ a0 a1 s, Keeps z s → KeepsR z (execPush a0 a1 s) := by
  intro a0 a1 s h
  unfold execPush
  try dsimp only
  repeat' first | with_reducible intro _ | with_reducible assumption | with_reducible apply Keeps.ite | with_reducible apply KeepsR.ite | with_reducible apply keeps_onCoreId | with_reducible apply keeps_State_settCommand | with_reducible apply Keeps.foldl | with_reducible apply Keeps.next | with_reducible apply Keeps.fault | with_reducible apply Keeps.ite | with_reducible apply KeepsR.ite | split | with_reducible apply Keeps.built

theorem keeps_execFetch {z : State} : ∀ a0 a1 s, Keeps z s → KeepsR z (execFetch a0 a1 s) := by
  intro a0 a1 s h
  unfold execFetch
  try dsimp only
  repeat' first | with_reducible intro _ | with_reducible assumption | with_reducible apply Keeps.ite | with_reducible apply KeepsR.ite | with_reducible apply keeps_onCoreId | with_reducible apply keeps_State_settCommand | with_reducible apply Keeps.foldl | with_reducible apply Keeps.next | with_reducible apply Keeps.fault | with_reducible apply Keeps.ite | with_reducible apply KeepsR.ite | split | with_reducible apply Keeps.built

theorem keeps_execRelease {z : State} : ∀ a0 a1 s, Keeps z s → KeepsR z (execRelease a0 a1 s) := by
  intro a0 a1 s h
  unfold execRelease
  try dsimp only
  repeat' first | with_reducible intro _ | with_reducible assumption | with_reducible apply Keeps.ite | with_reducible apply KeepsR.ite | with_reducible apply keeps_onCoreId | with_reducible apply keeps_State_settCommand | with_reducible apply Keeps.foldl | with_reducible apply Keeps.next | with_reducible apply Keeps.fault | with_reducible apply Keeps.ite | with_reducible apply KeepsR.ite | split | with_reducible apply Keeps.built

theorem keeps_execClear {z : State} : ∀ a0 a1 s, Keeps z s → KeepsR z (execClear a0 a1 s) := by
  intro a0 a1 s h
  unfold execClear
  try dsimp only
  repeat' first | with_reducible intro _ | with_reducible assumption | with_reducible apply Keeps.ite | with_reducible apply KeepsR.ite | with_reducible apply keeps_onCoreId | with_reducible apply keeps_State_settCommand | with_reducible apply Keeps.foldl | with_reducible apply Keeps.next | with_reducible apply Keeps.fault | with_reducible apply Keeps.ite | with_reducible apply KeepsR.ite | split | with_reducible apply Keeps.built

end Sys2Proof.Machine
end

