-- ==== Sys2Proof/Laws/KeepsB.lean ====
section
/-! SUPPORT. The same of hare, reduction, update, dispatch, checks, seeds, KV, requests, plan, twin, publication, steps and collectives. -/
/- One declaration after another: the package as one text then needs few threads at a time. -/
set_option Elab.async false
/- One chain of tactics serves every lemma here; a step of it that finds nothing to do is meant. -/
set_option linter.all false

namespace Sys2Proof.Machine

theorem keeps_State_setHareOp {z : State} : ∀ s a1 a2 a3 a4, Keeps z s → Keeps z (State.setHareOp s a1 a2 a3 a4) := by
  intro s a1 a2 a3 a4 h
  unfold State.setHareOp
  try dsimp only
  repeat' first | with_reducible intro _ | with_reducible assumption | with_reducible apply Keeps.ite | with_reducible apply KeepsR.ite | with_reducible apply keeps_State_onFab | with_reducible apply Keeps.foldl | with_reducible apply Keeps.next | with_reducible apply Keeps.fault | with_reducible apply Keeps.ite | with_reducible apply KeepsR.ite | split | with_reducible apply Keeps.built

theorem keeps_State_hareSend {z : State} : ∀ s a1 a2 a3 a4 a5 a6, Keeps z s → Keeps z (State.hareSend s a1 a2 a3 a4 a5 a6) := by
  intro s a1 a2 a3 a4 a5 a6 h
  unfold State.hareSend
  try dsimp only
  repeat' first | with_reducible intro _ | with_reducible assumption | with_reducible apply Keeps.ite | with_reducible apply KeepsR.ite | with_reducible apply keeps_State_drawFree | with_reducible apply keeps_State_sendBy | (with_reducible apply keeps_State_drawFree_eq; with_reducible assumption) | with_reducible apply Keeps.foldl | with_reducible apply Keeps.next | with_reducible apply Keeps.fault | with_reducible apply Keeps.ite | with_reducible apply KeepsR.ite | split | with_reducible apply Keeps.built

theorem keeps_State_ringSend {z : State} : ∀ s a1 a2 a3, Keeps z s → Keeps z (State.ringSend s a1 a2 a3) := by
  intro s a1 a2 a3 h
  unfold State.ringSend
  try dsimp only
  repeat' first | with_reducible intro _ | with_reducible assumption | with_reducible apply Keeps.ite | with_reducible apply KeepsR.ite | with_reducible apply keeps_State_hareSend | with_reducible apply Keeps.foldl | with_reducible apply Keeps.next | with_reducible apply Keeps.fault | with_reducible apply Keeps.ite | with_reducible apply KeepsR.ite | split | with_reducible apply Keeps.built

theorem keeps_State_hareFinish {z : State} : ∀ s a1 a2 a3 a4, Keeps z s → Keeps z (State.hareFinish s a1 a2 a3 a4) := by
  intro s a1 a2 a3 a4 h
  unfold State.hareFinish
  try dsimp only
  repeat' first | with_reducible intro _ | with_reducible assumption | with_reducible apply Keeps.ite | with_reducible apply KeepsR.ite | with_reducible apply keeps_State_bump | with_reducible apply keeps_State_landOn | with_reducible apply keeps_State_writeN | with_reducible apply keeps_State_writeBytes | with_reducible apply keeps_State_onFab | with_reducible apply Keeps.foldl | with_reducible apply Keeps.next | with_reducible apply Keeps.fault | with_reducible apply Keeps.ite | with_reducible apply KeepsR.ite | split | with_reducible apply Keeps.built

theorem keeps_State_resultDown {z : State} : ∀ s a1 a2 a3 a4 a5, Keeps z s → Keeps z (State.resultDown s a1 a2 a3 a4 a5) := by
  intro s a1 a2 a3 a4 a5 h
  unfold State.resultDown
  try dsimp only
  repeat' first | with_reducible intro _ | with_reducible assumption | with_reducible apply Keeps.ite | with_reducible apply KeepsR.ite | with_reducible apply keeps_State_hareSend | with_reducible apply Keeps.foldl | with_reducible apply Keeps.next | with_reducible apply Keeps.fault | with_reducible apply Keeps.ite | with_reducible apply KeepsR.ite | split | with_reducible apply Keeps.built

theorem keeps_State_hareRun {z : State} : ∀ s g tag op n, Keeps z s → Keeps z (State.hareRun s g tag op n) := by
  intro s g tag op n
  induction n generalizing s with
  | zero =>
    intro h
    unfold State.hareRun
    repeat' first | with_reducible intro _ | with_reducible assumption | with_reducible apply keeps_State_setHareOp | with_reducible apply keeps_State_hareFinish | with_reducible apply keeps_State_ringSend | with_reducible apply keeps_State_hareSend | with_reducible apply keeps_State_resultDown | with_reducible apply Keeps.foldl | with_reducible apply Keeps.next | with_reducible apply Keeps.fault | with_reducible apply Keeps.ite | with_reducible apply KeepsR.ite | split | with_reducible apply Keeps.built
  | succ n ih =>
    intro h
    unfold State.hareRun
    try dsimp only
    repeat' first | with_reducible intro _ | with_reducible assumption | with_reducible apply ih | with_reducible apply keeps_State_setHareOp | with_reducible apply keeps_State_hareFinish | with_reducible apply keeps_State_ringSend | with_reducible apply keeps_State_hareSend | with_reducible apply keeps_State_resultDown | with_reducible apply Keeps.foldl | with_reducible apply Keeps.next | with_reducible apply Keeps.fault | with_reducible apply Keeps.ite | with_reducible apply KeepsR.ite | split | with_reducible apply Keeps.built

theorem keeps_State_hareResultIn {z : State} : ∀ s a1, Keeps z s → Keeps z (State.hareResultIn s a1) := by
  intro s a1 h
  unfold State.hareResultIn
  try dsimp only
  repeat' first | with_reducible intro _ | with_reducible assumption | with_reducible apply Keeps.ite | with_reducible apply KeepsR.ite | with_reducible apply keeps_State_resultDown | with_reducible apply keeps_State_hareFinish | with_reducible apply keeps_State_setHareOp | with_reducible apply keeps_State_onFab | with_reducible apply Keeps.foldl | with_reducible apply Keeps.next | with_reducible apply Keeps.fault | with_reducible apply Keeps.ite | with_reducible apply KeepsR.ite | split | with_reducible apply Keeps.built

theorem keeps_State_takeWaiting {z : State} : ∀ s a1 a2, Keeps z s → Keeps z (State.takeWaiting s a1 a2) := by
  intro s a1 a2 h
  unfold State.takeWaiting
  try dsimp only
  repeat' first | with_reducible intro _ | with_reducible assumption | with_reducible apply Keeps.ite | with_reducible apply KeepsR.ite | with_reducible apply keeps_State_hareResultIn | with_reducible apply keeps_State_hareFinish | with_reducible apply keeps_State_setHareOp | with_reducible apply keeps_State_onFab | with_reducible apply Keeps.foldl | with_reducible apply Keeps.next | with_reducible apply Keeps.fault | with_reducible apply Keeps.ite | with_reducible apply KeepsR.ite | split | with_reducible apply Keeps.built

theorem keeps_State_hareEnter {z : State} : ∀ s a1 a2 a3 a4 a5 a6, Keeps z s → Keeps z (State.hareEnter s a1 a2 a3 a4 a5 a6) := by
  intro s a1 a2 a3 a4 a5 a6 h
  unfold State.hareEnter
  try dsimp only
  repeat' first | with_reducible intro _ | with_reducible assumption | with_reducible apply Keeps.ite | with_reducible apply KeepsR.ite | with_reducible apply keeps_State_takeWaiting | with_reducible apply keeps_State_setHareOp | with_reducible apply keeps_State_ringSend | with_reducible apply keeps_State_hareRun | with_reducible apply Keeps.foldl | with_reducible apply Keeps.next | with_reducible apply Keeps.fault | with_reducible apply Keeps.ite | with_reducible apply KeepsR.ite | split | with_reducible apply Keeps.built

theorem keeps_State_hareTaken {z : State} : ∀ s a1 a2, Keeps z s → Keeps z (State.hareTaken s a1 a2) := by
  intro s a1 a2 h
  unfold State.hareTaken
  try dsimp only
  repeat' first | with_reducible intro _ | with_reducible assumption | with_reducible apply Keeps.ite | with_reducible apply KeepsR.ite | with_reducible apply keeps_State_onFab | with_reducible apply Keeps.foldl | with_reducible apply Keeps.next | with_reducible apply Keeps.fault | with_reducible apply Keeps.ite | with_reducible apply KeepsR.ite | split | with_reducible apply Keeps.built

theorem keeps_State_hareFault {z : State} : ∀ s a1 a2, Keeps z s → Keeps z (State.hareFault s a1 a2) := by
  intro s a1 a2 h
  unfold State.hareFault
  try dsimp only
  repeat' first | with_reducible intro _ | with_reducible assumption | with_reducible apply Keeps.ite | with_reducible apply KeepsR.ite | with_reducible apply keeps_State_regFault | with_reducible apply Keeps.foldl | with_reducible apply Keeps.next | with_reducible apply Keeps.fault | with_reducible apply Keeps.ite | with_reducible apply KeepsR.ite | split | with_reducible apply Keeps.built

theorem keeps_State_hareGo {z : State} : ∀ s a1 a2 a3, Keeps z s → Keeps z (State.hareGo s a1 a2 a3) := by
  intro s a1 a2 a3 h
  unfold State.hareGo
  try dsimp only
  repeat' first | with_reducible intro _ | with_reducible assumption | with_reducible apply Keeps.ite | with_reducible apply KeepsR.ite | with_reducible apply keeps_State_hareFault | (with_reducible apply keeps_State_armOn; with_reducible assumption) | with_reducible apply keeps_State_armOn_getD | with_reducible apply keeps_State_hareFinish | with_reducible apply keeps_State_send | with_reducible apply keeps_State_landOn | with_reducible apply keeps_State_hareEnter | with_reducible apply Keeps.foldl | with_reducible apply Keeps.next | with_reducible apply Keeps.fault | with_reducible apply Keeps.ite | with_reducible apply KeepsR.ite | split | with_reducible apply Keeps.built

theorem keeps_execHareGo {z : State} : ∀ a0 a1 s, Keeps z s → KeepsR z (execHareGo a0 a1 s) := by
  intro a0 a1 s h
  unfold execHareGo
  try dsimp only
  repeat' first | with_reducible intro _ | with_reducible assumption | with_reducible apply Keeps.ite | with_reducible apply KeepsR.ite | with_reducible apply keeps_onCoreId | with_reducible apply keeps_State_coreStore | with_reducible apply keeps_State_hareGo | with_reducible apply Keeps.foldl | with_reducible apply Keeps.next | with_reducible apply Keeps.fault | with_reducible apply Keeps.ite | with_reducible apply KeepsR.ite | split | with_reducible apply Keeps.built

theorem keeps_State_packetViolation {z : State} : ∀ s a1 a2, Keeps z s → Keeps z (State.packetViolation s a1 a2) := by
  intro s a1 a2 h
  unfold State.packetViolation
  try dsimp only
  repeat' first | with_reducible intro _ | with_reducible assumption | with_reducible apply Keeps.ite | with_reducible apply KeepsR.ite | with_reducible apply keeps_State_pageFault | with_reducible apply Keeps.foldl | with_reducible apply Keeps.next | with_reducible apply Keeps.fault | with_reducible apply Keeps.ite | with_reducible apply KeepsR.ite | split | with_reducible apply Keeps.built

theorem keeps_State_partIn {z : State} : ∀ s a1 a2, Keeps z s → Keeps z (State.partIn s a1 a2) := by
  intro s a1 a2 h
  unfold State.partIn
  try dsimp only
  repeat' first | with_reducible intro _ | with_reducible assumption | with_reducible apply Keeps.ite | with_reducible apply KeepsR.ite | with_reducible apply keeps_State_portLost | with_reducible apply keeps_State_packetViolation | with_reducible apply keeps_State_onFab | with_reducible apply keeps_State_hareSend | with_reducible apply keeps_State_hareRun | with_reducible apply keeps_State_setHareOp | with_reducible apply Keeps.foldl | with_reducible apply Keeps.next | with_reducible apply Keeps.fault | with_reducible apply Keeps.ite | with_reducible apply KeepsR.ite | split | with_reducible apply Keeps.built

theorem keeps_State_releaseHeld {z : State} : ∀ s, Keeps z s → Keeps z (State.releaseHeld s) := by
  intro s h
  unfold State.releaseHeld
  try dsimp only
  repeat' first | with_reducible intro _ | with_reducible assumption | with_reducible apply Keeps.ite | with_reducible apply KeepsR.ite | with_reducible apply keeps_State_partIn | with_reducible apply keeps_State_onFab | with_reducible apply Keeps.foldl | with_reducible apply Keeps.next | with_reducible apply Keeps.fault | with_reducible apply Keeps.ite | with_reducible apply KeepsR.ite | split | with_reducible apply Keeps.built

theorem keeps_State_harePart {z : State} : ∀ s a1 a2, Keeps z s → Keeps z (State.harePart s a1 a2) := by
  intro s a1 a2 h
  unfold State.harePart
  try dsimp only
  repeat' first | with_reducible intro _ | with_reducible assumption | with_reducible apply Keeps.ite | with_reducible apply KeepsR.ite | with_reducible apply keeps_State_releaseHeld | with_reducible apply keeps_State_partIn | with_reducible apply Keeps.foldl | with_reducible apply Keeps.next | with_reducible apply Keeps.fault | with_reducible apply Keeps.ite | with_reducible apply KeepsR.ite | split | with_reducible apply Keeps.built

theorem keeps_State_combineStatus {z : State} : ∀ s a1 a2, Keeps z s → Keeps z (State.combineStatus s a1 a2) := by
  intro s a1 a2 h
  unfold State.combineStatus
  try dsimp only
  repeat' first | with_reducible intro _ | with_reducible assumption | with_reducible apply Keeps.ite | with_reducible apply KeepsR.ite | with_reducible apply keeps_State_set | with_reducible apply Keeps.foldl | with_reducible apply Keeps.next | with_reducible apply Keeps.fault | with_reducible apply Keeps.ite | with_reducible apply KeepsR.ite | split | with_reducible apply Keeps.built

theorem keeps_State_combineLoad {z : State} : ∀ s a1 a2, Keeps z s → Keeps z (State.combineLoad s a1 a2) := by
  intro s a1 a2 h
  unfold State.combineLoad
  try dsimp only
  repeat' first | with_reducible intro _ | with_reducible assumption | with_reducible apply Keeps.ite | with_reducible apply KeepsR.ite | with_reducible apply keeps_State_combineStatus | with_reducible apply keeps_State_extendMeas | with_reducible apply keeps_State_onFab | with_reducible apply Keeps.foldl | with_reducible apply Keeps.next | with_reducible apply Keeps.fault | with_reducible apply Keeps.ite | with_reducible apply KeepsR.ite | split | with_reducible apply Keeps.built

theorem keeps_State_combineRemove {z : State} : ∀ s a1 a2, Keeps z s → Keeps z (State.combineRemove s a1 a2) := by
  intro s a1 a2 h
  unfold State.combineRemove
  try dsimp only
  repeat' first | with_reducible intro _ | with_reducible assumption | with_reducible apply Keeps.ite | with_reducible apply KeepsR.ite | with_reducible apply keeps_State_combineStatus | with_reducible apply keeps_State_extendMeas | with_reducible apply keeps_State_onFab | with_reducible apply Keeps.foldl | with_reducible apply Keeps.next | with_reducible apply Keeps.fault | with_reducible apply Keeps.ite | with_reducible apply KeepsR.ite | split | with_reducible apply Keeps.built

theorem keeps_State_combineCommand {z : State} : ∀ s a1 a2 a3 a4, Keeps z s → Keeps z (State.combineCommand s a1 a2 a3 a4) := by
  intro s a1 a2 a3 a4 h
  unfold State.combineCommand
  try dsimp only
  repeat' first | with_reducible intro _ | with_reducible assumption | with_reducible apply Keeps.ite | with_reducible apply KeepsR.ite | with_reducible apply keeps_State_regFault | with_reducible apply keeps_State_combineLoad | with_reducible apply keeps_State_combineRemove | with_reducible apply keeps_State_combineStatus | with_reducible apply Keeps.foldl | with_reducible apply Keeps.next | with_reducible apply Keeps.fault | with_reducible apply Keeps.ite | with_reducible apply KeepsR.ite | split | with_reducible apply Keeps.built

theorem keeps_execCombineLoad {z : State} : ∀ a0 a1 a2 s, Keeps z s → KeepsR z (execCombineLoad a0 a1 a2 s) := by
  intro a0 a1 a2 s h
  unfold execCombineLoad
  try dsimp only
  repeat' first | with_reducible intro _ | with_reducible assumption | with_reducible apply Keeps.ite | with_reducible apply KeepsR.ite | with_reducible apply keeps_onPid | with_reducible apply keeps_State_guard | with_reducible apply keeps_State_combineCommand | with_reducible apply Keeps.foldl | with_reducible apply Keeps.next | with_reducible apply Keeps.fault | with_reducible apply Keeps.ite | with_reducible apply KeepsR.ite | split | with_reducible apply Keeps.built

theorem keeps_execCombineRemove {z : State} : ∀ a0 a1 a2 s, Keeps z s → KeepsR z (execCombineRemove a0 a1 a2 s) := by
  intro a0 a1 a2 s h
  unfold execCombineRemove
  try dsimp only
  repeat' first | with_reducible intro _ | with_reducible assumption | with_reducible apply Keeps.ite | with_reducible apply KeepsR.ite | with_reducible apply keeps_onPid | with_reducible apply keeps_State_guard | with_reducible apply keeps_State_combineCommand | with_reducible apply Keeps.foldl | with_reducible apply Keeps.next | with_reducible apply Keeps.fault | with_reducible apply Keeps.ite | with_reducible apply KeepsR.ite | split | with_reducible apply Keeps.built

theorem keeps_State_onBucket {z : State} : ∀ s a1 a2 a3, Keeps z s → Keeps z (State.onBucket s a1 a2 a3) := by
  intro s a1 a2 a3 h
  unfold State.onBucket
  try dsimp only
  repeat' first | with_reducible intro _ | with_reducible assumption | with_reducible apply Keeps.ite | with_reducible apply KeepsR.ite | with_reducible apply keeps_State_onRed | with_reducible apply Keeps.foldl | with_reducible apply Keeps.next | with_reducible apply Keeps.fault | with_reducible apply Keeps.ite | with_reducible apply KeepsR.ite | split | with_reducible apply Keeps.built

theorem keeps_State_scaleTo {z : State} : ∀ s a1 a2 a3 a4, Keeps z s → Keeps z (State.scaleTo s a1 a2 a3 a4) := by
  intro s a1 a2 a3 a4 h
  unfold State.scaleTo
  try dsimp only
  repeat' first | with_reducible intro _ | with_reducible assumption | with_reducible apply Keeps.ite | with_reducible apply KeepsR.ite | with_reducible apply keeps_State_landOn | with_reducible apply keeps_State_writeBytes | with_reducible apply Keeps.foldl | with_reducible apply Keeps.next | with_reducible apply Keeps.fault | with_reducible apply Keeps.ite | with_reducible apply KeepsR.ite | split | with_reducible apply Keeps.built

theorem keeps_State_notifyAll {z : State} : ∀ s a1 a2 a3, Keeps z s → Keeps z (State.notifyAll s a1 a2 a3) := by
  intro s a1 a2 a3 h
  unfold State.notifyAll
  try dsimp only
  repeat' first | with_reducible intro _ | with_reducible assumption | with_reducible apply Keeps.ite | with_reducible apply KeepsR.ite | with_reducible apply keeps_State_scaleTo | with_reducible apply keeps_State_onBucket | with_reducible apply Keeps.foldl | with_reducible apply Keeps.next | with_reducible apply Keeps.fault | with_reducible apply Keeps.ite | with_reducible apply KeepsR.ite | split | with_reducible apply Keeps.built

theorem keeps_State_bucketDone {z : State} : ∀ s a1 a2, Keeps z s → Keeps z (State.bucketDone s a1 a2) := by
  intro s a1 a2 h
  unfold State.bucketDone
  try dsimp only
  repeat' first | with_reducible intro _ | with_reducible assumption | with_reducible apply Keeps.ite | with_reducible apply KeepsR.ite | with_reducible apply keeps_State_notifyAll | with_reducible apply keeps_State_bump | with_reducible apply keeps_State_onBucket | with_reducible apply Keeps.foldl | with_reducible apply Keeps.next | with_reducible apply Keeps.fault | with_reducible apply Keeps.ite | with_reducible apply KeepsR.ite | split | with_reducible apply Keeps.built

theorem keeps_State_bucketFails {z : State} : ∀ s a1 a2 a3, Keeps z s → Keeps z (State.bucketFails s a1 a2 a3) := by
  intro s a1 a2 a3 h
  unfold State.bucketFails
  try dsimp only
  repeat' first | with_reducible intro _ | with_reducible assumption | with_reducible apply Keeps.ite | with_reducible apply KeepsR.ite | with_reducible apply keeps_State_set | with_reducible apply keeps_State_onBucket | with_reducible apply keeps_State_bump | with_reducible apply keeps_State_notifyAll | with_reducible apply keeps_State_raise | with_reducible apply keeps_State_stepFails | with_reducible apply keeps_State_faultRecord | with_reducible apply Keeps.foldl | with_reducible apply Keeps.next | with_reducible apply Keeps.fault | with_reducible apply Keeps.ite | with_reducible apply KeepsR.ite | split | with_reducible apply Keeps.built

theorem keeps_State_bucketCheck {z : State} : ∀ s a1 a2, Keeps z s → Keeps z (State.bucketCheck s a1 a2) := by
  intro s a1 a2 h
  unfold State.bucketCheck
  try dsimp only
  repeat' first | with_reducible intro _ | with_reducible assumption | with_reducible apply Keeps.ite | with_reducible apply KeepsR.ite | with_reducible apply keeps_State_bucketDone | with_reducible apply keeps_State_bucketFails | with_reducible apply keeps_State_bump | with_reducible apply Keeps.foldl | with_reducible apply Keeps.next | with_reducible apply Keeps.fault | with_reducible apply Keeps.ite | with_reducible apply KeepsR.ite | split | with_reducible apply Keeps.built

theorem keeps_State_redOpen {z : State} : ∀ s a1 a2, Keeps z s → Keeps z (State.redOpen s a1 a2) := by
  intro s a1 a2 h
  unfold State.redOpen
  try dsimp only
  repeat' first | with_reducible intro _ | with_reducible assumption | with_reducible apply Keeps.ite | with_reducible apply KeepsR.ite | with_reducible apply keeps_State_onRed | with_reducible apply Keeps.foldl | with_reducible apply Keeps.next | with_reducible apply Keeps.fault | with_reducible apply Keeps.ite | with_reducible apply KeepsR.ite | split | with_reducible apply Keeps.built

theorem keeps_execRedOpen {z : State} : ∀ a0 a1 s, Keeps z s → KeepsR z (execRedOpen a0 a1 s) := by
  intro a0 a1 s h
  unfold execRedOpen
  try dsimp only
  repeat' first | with_reducible intro _ | with_reducible assumption | with_reducible apply Keeps.ite | with_reducible apply KeepsR.ite | with_reducible apply keeps_onCoreId | with_reducible apply keeps_State_coreStore | with_reducible apply keeps_State_redOpen | with_reducible apply Keeps.foldl | with_reducible apply Keeps.next | with_reducible apply Keeps.fault | with_reducible apply Keeps.ite | with_reducible apply KeepsR.ite | split | with_reducible apply Keeps.built

theorem keeps_State_zeroResults {z : State} : ∀ s a1, Keeps z s → Keeps z (State.zeroResults s a1) := by
  intro s a1 h
  unfold State.zeroResults
  try dsimp only
  repeat' first | with_reducible intro _ | with_reducible assumption | with_reducible apply Keeps.ite | with_reducible apply KeepsR.ite | with_reducible apply keeps_State_zeroRange | with_reducible apply Keeps.foldl | with_reducible apply Keeps.next | with_reducible apply Keeps.fault | with_reducible apply Keeps.ite | with_reducible apply KeepsR.ite | split | with_reducible apply Keeps.built

theorem keeps_State_redFault {z : State} : ∀ s a1 a2 a3, Keeps z s → Keeps z (State.redFault s a1 a2 a3) := by
  intro s a1 a2 a3 h
  unfold State.redFault
  try dsimp only
  repeat' first | with_reducible intro _ | with_reducible assumption | with_reducible apply Keeps.ite | with_reducible apply KeepsR.ite | with_reducible apply keeps_State_regFault | with_reducible apply Keeps.foldl | with_reducible apply Keeps.next | with_reducible apply Keeps.fault | with_reducible apply Keeps.ite | with_reducible apply KeepsR.ite | split | with_reducible apply Keeps.built

theorem keeps_State_redClose {z : State} : ∀ s a1 a2 a3 a4, Keeps z s → Keeps z (State.redClose s a1 a2 a3 a4) := by
  intro s a1 a2 a3 a4 h
  unfold State.redClose
  try dsimp only
  repeat' first | with_reducible intro _ | with_reducible assumption | with_reducible apply Keeps.ite | with_reducible apply KeepsR.ite | with_reducible apply keeps_State_redFault | (with_reducible apply keeps_State_armOn; with_reducible assumption) | with_reducible apply keeps_State_armOn_getD | with_reducible apply keeps_State_onBucket | with_reducible apply keeps_State_bucketFails | with_reducible apply keeps_State_hareEnter | with_reducible apply Keeps.foldl | with_reducible apply Keeps.next | with_reducible apply Keeps.fault | with_reducible apply Keeps.ite | with_reducible apply KeepsR.ite | split | with_reducible apply Keeps.built

theorem keeps_execRedClose {z : State} : ∀ a0 a1 s, Keeps z s → KeepsR z (execRedClose a0 a1 s) := by
  intro a0 a1 s h
  unfold execRedClose
  try dsimp only
  repeat' first | with_reducible intro _ | with_reducible assumption | with_reducible apply Keeps.ite | with_reducible apply KeepsR.ite | with_reducible apply keeps_onCoreId | with_reducible apply keeps_State_coreStore | with_reducible apply keeps_State_redClose | with_reducible apply Keeps.foldl | with_reducible apply Keeps.next | with_reducible apply Keeps.fault | with_reducible apply Keeps.ite | with_reducible apply KeepsR.ite | split | with_reducible apply Keeps.built

theorem keeps_State_exponentFormed {z : State} : ∀ s a1 a2 a3, Keeps z s → Keeps z (State.exponentFormed s a1 a2 a3) := by
  intro s a1 a2 a3 h
  unfold State.exponentFormed
  try dsimp only
  repeat' first | with_reducible intro _ | with_reducible assumption | with_reducible apply Keeps.ite | with_reducible apply KeepsR.ite | with_reducible apply keeps_State_scaleTo | with_reducible apply keeps_State_onBucket | with_reducible apply keeps_State_bucketDone | with_reducible apply Keeps.foldl | with_reducible apply Keeps.next | with_reducible apply Keeps.fault | with_reducible apply Keeps.ite | with_reducible apply KeepsR.ite | split | with_reducible apply Keeps.built

theorem keeps_execExponentAgreed {z : State} : ∀ a0 a1 a2 s, Keeps z s → KeepsR z (execExponentAgreed a0 a1 a2 s) := by
  intro a0 a1 a2 s h
  unfold execExponentAgreed
  try dsimp only
  repeat' first | with_reducible intro _ | with_reducible assumption | with_reducible apply Keeps.ite | with_reducible apply KeepsR.ite | with_reducible apply keeps_onPid | with_reducible apply keeps_State_exponentFormed | with_reducible apply keeps_State_hareTaken | with_reducible apply Keeps.foldl | with_reducible apply Keeps.next | with_reducible apply Keeps.fault | with_reducible apply Keeps.ite | with_reducible apply KeepsR.ite | split | with_reducible apply Keeps.built

theorem keeps_State_addHalf {z : State} : ∀ s a1 a2 a3 a4 a5 a6 a7, Keeps z s → Keeps z (State.addHalf s a1 a2 a3 a4 a5 a6 a7) := by
  intro s a1 a2 a3 a4 a5 a6 a7 h
  unfold State.addHalf
  try dsimp only
  repeat' first | with_reducible intro _ | with_reducible assumption | with_reducible apply Keeps.ite | with_reducible apply KeepsR.ite | with_reducible apply keeps_State_addWord | with_reducible apply keeps_State_poisonRange | with_reducible apply keeps_State_bump | with_reducible apply keeps_State_onBucket | with_reducible apply Keeps.foldl | with_reducible apply Keeps.next | with_reducible apply Keeps.fault | with_reducible apply Keeps.ite | with_reducible apply KeepsR.ite | split | with_reducible apply Keeps.built

theorem keeps_State_sendHalf {z : State} : ∀ s a1 a2 a3 a4 a5 a6, Keeps z s → Keeps z (State.sendHalf s a1 a2 a3 a4 a5 a6) := by
  intro s a1 a2 a3 a4 a5 a6 h
  unfold State.sendHalf
  try dsimp only
  repeat' first | with_reducible intro _ | with_reducible assumption | with_reducible apply Keeps.ite | with_reducible apply KeepsR.ite | with_reducible apply keeps_State_bump | with_reducible apply keeps_State_send | with_reducible apply Keeps.foldl | with_reducible apply Keeps.next | with_reducible apply Keeps.fault | with_reducible apply Keeps.ite | with_reducible apply KeepsR.ite | split | with_reducible apply Keeps.built

theorem keeps_State_stageHalves {z : State} : ∀ s a1 a2 a3 a4 a5 a6, Keeps z s → Keeps z (State.stageHalves s a1 a2 a3 a4 a5 a6) := by
  intro s a1 a2 a3 a4 a5 a6 h
  unfold State.stageHalves
  try dsimp only
  repeat' first | with_reducible intro _ | with_reducible assumption | with_reducible apply Keeps.ite | with_reducible apply KeepsR.ite | with_reducible apply keeps_State_addHalf | with_reducible apply keeps_State_sendHalf | with_reducible apply Keeps.foldl | with_reducible apply Keeps.next | with_reducible apply Keeps.fault | with_reducible apply Keeps.ite | with_reducible apply KeepsR.ite | split | with_reducible apply Keeps.built

theorem keeps_State_stageRun {z : State} : ∀ s a1 a2 a3 a4, Keeps z s → Keeps z (State.stageRun s a1 a2 a3 a4) := by
  intro s a1 a2 a3 a4 h
  unfold State.stageRun
  try dsimp only
  repeat' first | with_reducible intro _ | with_reducible assumption | with_reducible apply Keeps.ite | with_reducible apply KeepsR.ite | with_reducible apply keeps_State_stageHalves | with_reducible apply keeps_State_onBucket | with_reducible apply Keeps.foldl | with_reducible apply Keeps.next | with_reducible apply Keeps.fault | with_reducible apply Keeps.ite | with_reducible apply KeepsR.ite | split | with_reducible apply Keeps.built

theorem keeps_State_enterSums {z : State} : ∀ s a1 a2, Keeps z s → Keeps z (State.enterSums s a1 a2) := by
  intro s a1 a2 h
  unfold State.enterSums
  try dsimp only
  repeat' first | with_reducible intro _ | with_reducible assumption | with_reducible apply Keeps.ite | with_reducible apply KeepsR.ite | with_reducible apply keeps_State_hareEnter | with_reducible apply keeps_State_onBucket | with_reducible apply Keeps.foldl | with_reducible apply Keeps.next | with_reducible apply Keeps.fault | with_reducible apply Keeps.ite | with_reducible apply KeepsR.ite | split | with_reducible apply Keeps.built

theorem keeps_State_redStaged {z : State} : ∀ s a1 a2 a3, Keeps z s → Keeps z (State.redStaged s a1 a2 a3) := by
  intro s a1 a2 a3 h
  unfold State.redStaged
  try dsimp only
  repeat' first | with_reducible intro _ | with_reducible assumption | with_reducible apply Keeps.ite | with_reducible apply KeepsR.ite | with_reducible apply keeps_State_stageRun | with_reducible apply keeps_State_bucketFails | with_reducible apply keeps_State_onBucket | with_reducible apply keeps_State_enterSums | with_reducible apply Keeps.foldl | with_reducible apply Keeps.next | with_reducible apply Keeps.fault | with_reducible apply Keeps.ite | with_reducible apply KeepsR.ite | split | with_reducible apply Keeps.built

theorem keeps_execRedStaged {z : State} : ∀ a0 a1 s, Keeps z s → KeepsR z (execRedStaged a0 a1 s) := by
  intro a0 a1 s h
  unfold execRedStaged
  try dsimp only
  repeat' first | with_reducible intro _ | with_reducible assumption | with_reducible apply Keeps.ite | with_reducible apply KeepsR.ite | with_reducible apply keeps_onCoreId | with_reducible apply keeps_State_coreStore | with_reducible apply keeps_State_redStaged | with_reducible apply Keeps.foldl | with_reducible apply Keeps.next | with_reducible apply Keeps.fault | with_reducible apply Keeps.ite | with_reducible apply KeepsR.ite | split | with_reducible apply Keeps.built

theorem keeps_State_redNotify {z : State} : ∀ s a1 a2 a3 a4, Keeps z s → Keeps z (State.redNotify s a1 a2 a3 a4) := by
  intro s a1 a2 a3 a4 h
  unfold State.redNotify
  try dsimp only
  repeat' first | with_reducible intro _ | with_reducible assumption | with_reducible apply Keeps.ite | with_reducible apply KeepsR.ite | with_reducible apply keeps_State_redFault | (with_reducible apply keeps_State_armOn; with_reducible assumption) | with_reducible apply keeps_State_armOn_getD | with_reducible apply keeps_State_onBucket | with_reducible apply keeps_State_scaleTo | with_reducible apply Keeps.foldl | with_reducible apply Keeps.next | with_reducible apply Keeps.fault | with_reducible apply Keeps.ite | with_reducible apply KeepsR.ite | split | with_reducible apply Keeps.built

theorem keeps_execRedNotify {z : State} : ∀ a0 a1 s, Keeps z s → KeepsR z (execRedNotify a0 a1 s) := by
  intro a0 a1 s h
  unfold execRedNotify
  try dsimp only
  repeat' first | with_reducible intro _ | with_reducible assumption | with_reducible apply Keeps.ite | with_reducible apply KeepsR.ite | with_reducible apply keeps_onCoreId | with_reducible apply keeps_State_coreStore | with_reducible apply keeps_State_redNotify | with_reducible apply Keeps.foldl | with_reducible apply Keeps.next | with_reducible apply Keeps.fault | with_reducible apply Keeps.ite | with_reducible apply KeepsR.ite | split | with_reducible apply Keeps.built

theorem keeps_State_raccIn {z : State} : ∀ s a1 a2, Keeps z s → Keeps z (State.raccIn s a1 a2) := by
  intro s a1 a2 h
  unfold State.raccIn
  try dsimp only
  repeat' first | with_reducible intro _ | with_reducible assumption | with_reducible apply Keeps.ite | with_reducible apply KeepsR.ite | with_reducible apply keeps_State_bump | with_reducible apply keeps_State_addHalf | with_reducible apply keeps_State_ackPacket | with_reducible apply Keeps.foldl | with_reducible apply Keeps.next | with_reducible apply Keeps.fault | with_reducible apply Keeps.ite | with_reducible apply KeepsR.ite | split | with_reducible apply Keeps.built

theorem keeps_execRaccArrival {z : State} : ∀ a0 a1 s, Keeps z s → KeepsR z (execRaccArrival a0 a1 s) := by
  intro a0 a1 s h
  unfold execRaccArrival
  try dsimp only
  repeat' first | with_reducible intro _ | with_reducible assumption | with_reducible apply Keeps.ite | with_reducible apply KeepsR.ite | with_reducible apply keeps_onPid | with_reducible apply keeps_State_raccIn | with_reducible apply keeps_State_packetViolation | with_reducible apply Keeps.foldl | with_reducible apply Keeps.next | with_reducible apply Keeps.fault | with_reducible apply Keeps.ite | with_reducible apply KeepsR.ite | split | with_reducible apply Keeps.built

theorem keeps_State_raccAcked {z : State} : ∀ s a1 a2 a3, Keeps z s → Keeps z (State.raccAcked s a1 a2 a3) := by
  intro s a1 a2 a3 h
  unfold State.raccAcked
  try dsimp only
  repeat' first | with_reducible intro _ | with_reducible assumption | with_reducible apply Keeps.ite | with_reducible apply KeepsR.ite | with_reducible apply keeps_State_bucketCheck | with_reducible apply keeps_State_onBucket | with_reducible apply Keeps.foldl | with_reducible apply Keeps.next | with_reducible apply Keeps.fault | with_reducible apply Keeps.ite | with_reducible apply KeepsR.ite | split | with_reducible apply Keeps.built

theorem keeps_execRaccAcknowledged {z : State} : ∀ a0 a1 a2 s, Keeps z s → KeepsR z (execRaccAcknowledged a0 a1 a2 s) := by
  intro a0 a1 a2 s h
  unfold execRaccAcknowledged
  try dsimp only
  repeat' first | with_reducible intro _ | with_reducible assumption | with_reducible apply Keeps.ite | with_reducible apply KeepsR.ite | with_reducible apply keeps_onPid | with_reducible apply keeps_State_raccAcked | with_reducible apply Keeps.foldl | with_reducible apply Keeps.next | with_reducible apply Keeps.fault | with_reducible apply Keeps.ite | with_reducible apply KeepsR.ite | split | with_reducible apply Keeps.built

theorem keeps_State_checksumFormed {z : State} : ∀ s a1 a2 a3, Keeps z s → Keeps z (State.checksumFormed s a1 a2 a3) := by
  intro s a1 a2 a3 h
  unfold State.checksumFormed
  try dsimp only
  repeat' first | with_reducible intro _ | with_reducible assumption | with_reducible apply Keeps.ite | with_reducible apply KeepsR.ite | with_reducible apply keeps_State_bucketCheck | with_reducible apply keeps_State_onBucket | with_reducible apply Keeps.foldl | with_reducible apply Keeps.next | with_reducible apply Keeps.fault | with_reducible apply Keeps.ite | with_reducible apply KeepsR.ite | split | with_reducible apply Keeps.built

theorem keeps_execChecksumResult {z : State} : ∀ a0 a1 a2 s, Keeps z s → KeepsR z (execChecksumResult a0 a1 a2 s) := by
  intro a0 a1 a2 s h
  unfold execChecksumResult
  try dsimp only
  repeat' first | with_reducible intro _ | with_reducible assumption | with_reducible apply Keeps.ite | with_reducible apply KeepsR.ite | with_reducible apply keeps_onPid | with_reducible apply keeps_State_checksumFormed | with_reducible apply keeps_State_hareTaken | with_reducible apply Keeps.foldl | with_reducible apply Keeps.next | with_reducible apply Keeps.fault | with_reducible apply Keeps.ite | with_reducible apply KeepsR.ite | split | with_reducible apply Keeps.built

theorem keeps_State_deadline {z : State} : ∀ s a1 a2, Keeps z s → Keeps z (State.deadline s a1 a2) := by
  intro s a1 a2 h
  unfold State.deadline
  try dsimp only
  repeat' first | with_reducible intro _ | with_reducible assumption | with_reducible apply Keeps.ite | with_reducible apply KeepsR.ite | with_reducible apply keeps_State_bucketFails | with_reducible apply Keeps.foldl | with_reducible apply Keeps.next | with_reducible apply Keeps.fault | with_reducible apply Keeps.ite | with_reducible apply KeepsR.ite | split | with_reducible apply Keeps.built

theorem keeps_execBucketDeadline {z : State} : ∀ a0 a1 s, Keeps z s → KeepsR z (execBucketDeadline a0 a1 s) := by
  intro a0 a1 s h
  unfold execBucketDeadline
  try dsimp only
  repeat' first | with_reducible intro _ | with_reducible assumption | with_reducible apply Keeps.ite | with_reducible apply KeepsR.ite | with_reducible apply keeps_onPid | with_reducible apply keeps_State_deadline | with_reducible apply Keeps.foldl | with_reducible apply Keeps.next | with_reducible apply Keeps.fault | with_reducible apply Keeps.ite | with_reducible apply KeepsR.ite | split | with_reducible apply Keeps.built

theorem keeps_execAgreeTimeout {z : State} : ∀ a0 a1 s, Keeps z s → KeepsR z (execAgreeTimeout a0 a1 s) := by
  intro a0 a1 s h
  unfold execAgreeTimeout
  try dsimp only
  repeat' first | with_reducible intro _ | with_reducible assumption | with_reducible apply Keeps.ite | with_reducible apply KeepsR.ite | with_reducible apply keeps_onPid | with_reducible apply keeps_State_bucketFails | with_reducible apply Keeps.foldl | with_reducible apply Keeps.next | with_reducible apply Keeps.fault | with_reducible apply Keeps.ite | with_reducible apply KeepsR.ite | split | with_reducible apply Keeps.built

theorem keeps_State_quiesced {z : State} : ∀ s a1, Keeps z s → Keeps z (State.quiesced s a1) := by
  intro s a1 h
  unfold State.quiesced
  try dsimp only
  repeat' first | with_reducible intro _ | with_reducible assumption | with_reducible apply Keeps.ite | with_reducible apply KeepsR.ite | with_reducible apply keeps_State_set | with_reducible apply keeps_State_onRed | with_reducible apply Keeps.foldl | with_reducible apply Keeps.next | with_reducible apply Keeps.fault | with_reducible apply Keeps.ite | with_reducible apply KeepsR.ite | split | with_reducible apply Keeps.built

theorem keeps_execQuiescenceDone {z : State} : ∀ a0 s, Keeps z s → KeepsR z (execQuiescenceDone a0 s) := by
  intro a0 s h
  unfold execQuiescenceDone
  try dsimp only
  repeat' first | with_reducible intro _ | with_reducible assumption | with_reducible apply Keeps.ite | with_reducible apply KeepsR.ite | with_reducible apply keeps_onPid | with_reducible apply keeps_State_quiesced | with_reducible apply keeps_State_hareTaken | with_reducible apply Keeps.foldl | with_reducible apply Keeps.next | with_reducible apply Keeps.fault | with_reducible apply Keeps.ite | with_reducible apply KeepsR.ite | split | with_reducible apply Keeps.built

theorem keeps_State_normFormed {z : State} : ∀ s a1 a2, Keeps z s → Keeps z (State.normFormed s a1 a2) := by
  intro s a1 a2 h
  unfold State.normFormed
  try dsimp only
  repeat' first | with_reducible intro _ | with_reducible assumption | with_reducible apply Keeps.ite | with_reducible apply KeepsR.ite | with_reducible apply keeps_State_emit | with_reducible apply keeps_State_set | with_reducible apply keeps_State_onRed | with_reducible apply Keeps.foldl | with_reducible apply Keeps.next | with_reducible apply Keeps.fault | with_reducible apply Keeps.ite | with_reducible apply KeepsR.ite | split | with_reducible apply Keeps.built

theorem keeps_execNormResult {z : State} : ∀ a0 a1 s, Keeps z s → KeepsR z (execNormResult a0 a1 s) := by
  intro a0 a1 s h
  unfold execNormResult
  try dsimp only
  repeat' first | with_reducible intro _ | with_reducible assumption | with_reducible apply Keeps.ite | with_reducible apply KeepsR.ite | with_reducible apply keeps_onPid | with_reducible apply keeps_State_normFormed | with_reducible apply Keeps.foldl | with_reducible apply Keeps.next | with_reducible apply Keeps.fault | with_reducible apply Keeps.ite | with_reducible apply KeepsR.ite | split | with_reducible apply Keeps.built

theorem keeps_State_updFails {z : State} : ∀ s a1 a2 a3, Keeps z s → Keeps z (State.updFails s a1 a2 a3) := by
  intro s a1 a2 a3 h
  unfold State.updFails
  try dsimp only
  repeat' first | with_reducible intro _ | with_reducible assumption | with_reducible apply Keeps.ite | with_reducible apply KeepsR.ite | with_reducible apply keeps_State_set | with_reducible apply keeps_State_onUpd | with_reducible apply keeps_State_stepFails | with_reducible apply keeps_State_faultRecord | with_reducible apply Keeps.foldl | with_reducible apply Keeps.next | with_reducible apply Keeps.fault | with_reducible apply Keeps.ite | with_reducible apply KeepsR.ite | split | with_reducible apply Keeps.built

theorem keeps_State_putPart {z : State} : ∀ s a1 a2 a3 a4, Keeps z s → Keeps z (State.putPart s a1 a2 a3 a4) := by
  intro s a1 a2 a3 a4 h
  unfold State.putPart
  try dsimp only
  repeat' first | with_reducible intro _ | with_reducible assumption | with_reducible apply Keeps.ite | with_reducible apply KeepsR.ite | with_reducible apply keeps_State_writeBytes | with_reducible apply Keeps.foldl | with_reducible apply Keeps.next | with_reducible apply Keeps.fault | with_reducible apply Keeps.ite | with_reducible apply KeepsR.ite | split | with_reducible apply Keeps.built

theorem keeps_State_queueGather {z : State} : ∀ s a1 a2 a3, Keeps z s → Keeps z (State.queueGather s a1 a2 a3) := by
  intro s a1 a2 a3 h
  unfold State.queueGather
  try dsimp only
  repeat' first | with_reducible intro _ | with_reducible assumption | with_reducible apply Keeps.ite | with_reducible apply KeepsR.ite | with_reducible apply keeps_State_onUpd | with_reducible apply Keeps.foldl | with_reducible apply Keeps.next | with_reducible apply Keeps.fault | with_reducible apply Keeps.ite | with_reducible apply KeepsR.ite | split | with_reducible apply Keeps.built

theorem keeps_State_fillWrite {z : State} : ∀ s a1, Keeps z s → Keeps z (State.fillWrite s a1) := by
  intro s a1 h
  unfold State.fillWrite
  try dsimp only
  repeat' first | with_reducible intro _ | with_reducible assumption | with_reducible apply Keeps.ite | with_reducible apply KeepsR.ite | with_reducible apply keeps_State_setBuf | with_reducible apply Keeps.foldl | with_reducible apply Keeps.next | with_reducible apply Keeps.fault | with_reducible apply Keeps.ite | with_reducible apply KeepsR.ite | split | with_reducible apply Keeps.built

theorem keeps_State_updateRun {z : State} : ∀ s p kappa x pg t, State.updateRun s p kappa x pg = .ok t → Keeps z s → Keeps z t := by
  intro s p kappa x pg t e h
  unfold State.updateRun at e
  dsimp only at e
  split at e
  · cases e
  · split at e
    · cases e
    · split at e
      · cases e
      · split at e
        · cases e
        · injection e with e
          subst e
          repeat' first | with_reducible intro _ | with_reducible assumption | with_reducible apply keeps_State_bump | with_reducible apply keeps_State_queueGather | with_reducible apply keeps_State_writeBytes | with_reducible apply keeps_State_putPart | with_reducible apply keeps_State_fillWrite

theorem keeps_State_precondition {z : State} : ∀ s p b i e xs t l, State.precondition s p b i e xs = .ok (t, l) →
    Keeps z s → Keeps z t := by
  intro s p b i e xs t l q h
  unfold State.precondition at q
  dsimp only at q
  split at q
  · split at q
    · cases q
    · split at q
      · cases q
      · injection q with q
        injection q with q
        subst q
        repeat' first | with_reducible intro _ | with_reducible assumption | with_reducible apply keeps_State_writeBytes | with_reducible apply keeps_State_fillWrite | with_reducible apply Keeps.ite | with_reducible apply keeps_State_raise | with_reducible apply keeps_State_bump
  · cases q

theorem keeps_State_preconditionAll {z : State} : ∀ s p b xs is pg, Keeps z s →
    (∀ t l, State.preconditionAll s p b xs is pg = .ok (t, l) → Keeps z t) ∧
    (∀ c a t, State.preconditionAll s p b xs is pg = .error (c, a, t) → Keeps z t) := by
  intro s p b xs is
  induction is generalizing s with
  | nil =>
    intro pg h
    exact ⟨fun t l e => (by cases e; exact h), fun c a t e => by cases e⟩
  | cons i is ih =>
    intro pg h
    unfold State.preconditionAll
    split
    · exact ⟨fun t l e => (by cases e), fun c a t e => by cases e; exact h⟩
    · split
      · exact ⟨fun t l e => (by cases e), fun c a t e => by cases e; exact h⟩
      · rename_i t l e
        exact ih t _ (keeps_State_precondition _ _ _ _ _ _ _ _ e h)

theorem keeps_State_preconditionAll_ok {z : State} (s p b xs is pg t l) (e : State.preconditionAll s p b xs is pg = .ok (t, l))
    (h : Keeps z s) : Keeps z t := (keeps_State_preconditionAll s p b xs is pg h).1 t l e

theorem keeps_State_preconditionAll_error {z : State} (s p b xs is pg c a t)
    (e : State.preconditionAll s p b xs is pg = .error (c, a, t)) (h : Keeps z s) : Keeps z t :=
  (keeps_State_preconditionAll s p b xs is pg h).2 c a t e

theorem keeps_State_updateAll {z : State} : ∀ s p kappa pg l, Keeps z s → Keeps z (State.updateAll s p kappa pg l) := by
  intro s p kappa pg l
  induction l generalizing s with
  | nil =>
    intro h
    exact keeps_State_set _ _ _ _ (keeps_State_onUpd _ _ _ h)
  | cons x l ih =>
    intro h
    unfold State.updateAll
    split
    · exact keeps_State_updFails _ _ _ _ h
    · rename_i t e
      exact ih t (keeps_State_updateRun _ _ _ _ _ _ e h)

theorem keeps_State_pumpGather {z : State} : ∀ s p i n, Keeps z s → Keeps z (State.pumpGather s p i n) := by
  intro s p i n
  induction n generalizing s with
  | zero =>
    intro h
    unfold State.pumpGather
    repeat' first | with_reducible intro _ | with_reducible assumption | with_reducible apply keeps_State_send | with_reducible apply keeps_State_onUpd | with_reducible apply Keeps.foldl | with_reducible apply Keeps.next | with_reducible apply Keeps.fault | with_reducible apply Keeps.ite | with_reducible apply KeepsR.ite | split | with_reducible apply Keeps.built
  | succ n ih =>
    intro h
    unfold State.pumpGather
    try dsimp only
    repeat' first | with_reducible intro _ | with_reducible assumption | with_reducible apply ih | with_reducible apply keeps_State_send | with_reducible apply keeps_State_onUpd | with_reducible apply Keeps.foldl | with_reducible apply Keeps.next | with_reducible apply Keeps.fault | with_reducible apply Keeps.ite | with_reducible apply KeepsR.ite | split | with_reducible apply Keeps.built

theorem keeps_State_pumpAll {z : State} : ∀ s a1, Keeps z s → Keeps z (State.pumpAll s a1) := by
  intro s a1 h
  unfold State.pumpAll
  try dsimp only
  repeat' first | with_reducible intro _ | with_reducible assumption | with_reducible apply Keeps.ite | with_reducible apply KeepsR.ite | with_reducible apply keeps_State_pumpGather | with_reducible apply Keeps.foldl | with_reducible apply Keeps.next | with_reducible apply Keeps.fault | with_reducible apply Keeps.ite | with_reducible apply KeepsR.ite | split | with_reducible apply Keeps.built

theorem keeps_State_grantGather {z : State} : ∀ s a1 a2 a3, Keeps z s → Keeps z (State.grantGather s a1 a2 a3) := by
  intro s a1 a2 a3 h
  unfold State.grantGather
  try dsimp only
  repeat' first | with_reducible intro _ | with_reducible assumption | with_reducible apply Keeps.ite | with_reducible apply KeepsR.ite | with_reducible apply keeps_State_send | with_reducible apply keeps_State_onUpd | with_reducible apply Keeps.foldl | with_reducible apply Keeps.next | with_reducible apply Keeps.fault | with_reducible apply Keeps.ite | with_reducible apply KeepsR.ite | split | with_reducible apply Keeps.built

theorem keeps_State_openGather {z : State} : ∀ s a1, Keeps z s → Keeps z (State.openGather s a1) := by
  intro s a1 h
  unfold State.openGather
  try dsimp only
  repeat' first | with_reducible intro _ | with_reducible assumption | with_reducible apply Keeps.ite | with_reducible apply KeepsR.ite | with_reducible apply keeps_State_grantGather | with_reducible apply Keeps.foldl | with_reducible apply Keeps.next | with_reducible apply Keeps.fault | with_reducible apply Keeps.ite | with_reducible apply KeepsR.ite | split | with_reducible apply Keeps.built

theorem keeps_State_updateStart {z : State} : ∀ s a1, Keeps z s → Keeps z (State.updateStart s a1) := by
  intro s a1 h
  unfold State.updateStart
  try dsimp only
  repeat' first | with_reducible intro _ | with_reducible assumption | with_reducible apply Keeps.ite | with_reducible apply KeepsR.ite | with_reducible apply keeps_State_set | with_reducible apply keeps_State_onUpd | with_reducible apply keeps_State_bump | with_reducible apply keeps_State_updFails | (with_reducible apply keeps_State_preconditionAll_ok; with_reducible assumption) | (with_reducible apply keeps_State_preconditionAll_error; with_reducible assumption) | with_reducible apply keeps_State_pumpAll | with_reducible apply keeps_State_updateAll | with_reducible apply Keeps.foldl | with_reducible apply Keeps.next | with_reducible apply Keeps.fault | with_reducible apply Keeps.ite | with_reducible apply KeepsR.ite | split | with_reducible apply Keeps.built

theorem keeps_execUpdateStart {z : State} : ∀ a0 s, Keeps z s → KeepsR z (execUpdateStart a0 s) := by
  intro a0 s h
  unfold execUpdateStart
  try dsimp only
  repeat' first | with_reducible intro _ | with_reducible assumption | with_reducible apply Keeps.ite | with_reducible apply KeepsR.ite | with_reducible apply keeps_onPid | with_reducible apply keeps_State_updateStart | with_reducible apply Keeps.foldl | with_reducible apply Keeps.next | with_reducible apply Keeps.fault | with_reducible apply Keeps.ite | with_reducible apply KeepsR.ite | split | with_reducible apply Keeps.built

theorem keeps_State_gatherIn {z : State} : ∀ s a1 a2, Keeps z s → Keeps z (State.gatherIn s a1 a2) := by
  intro s a1 a2 h
  unfold State.gatherIn
  try dsimp only
  repeat' first | with_reducible intro _ | with_reducible assumption | with_reducible apply Keeps.ite | with_reducible apply KeepsR.ite | with_reducible apply keeps_State_putPart | with_reducible apply keeps_State_fillWrite | with_reducible apply keeps_State_poisonRange | with_reducible apply keeps_State_onUpd | with_reducible apply keeps_State_grantGather | with_reducible apply Keeps.foldl | with_reducible apply Keeps.next | with_reducible apply Keeps.fault | with_reducible apply Keeps.ite | with_reducible apply KeepsR.ite | split | with_reducible apply Keeps.built

theorem keeps_execWeightGather {z : State} : ∀ a0 a1 s, Keeps z s → KeepsR z (execWeightGather a0 a1 s) := by
  intro a0 a1 s h
  unfold execWeightGather
  try dsimp only
  repeat' first | with_reducible intro _ | with_reducible assumption | with_reducible apply Keeps.ite | with_reducible apply KeepsR.ite | with_reducible apply keeps_onPid | with_reducible apply keeps_State_ackPacket | with_reducible apply keeps_State_gatherIn | with_reducible apply keeps_State_packetViolation | with_reducible apply Keeps.foldl | with_reducible apply Keeps.next | with_reducible apply Keeps.fault | with_reducible apply Keeps.ite | with_reducible apply KeepsR.ite | split | with_reducible apply Keeps.built

theorem keeps_State_reportDigest {z : State} : ∀ s a1 a2 a3, Keeps z s → Keeps z (State.reportDigest s a1 a2 a3) := by
  intro s a1 a2 a3 h
  unfold State.reportDigest
  try dsimp only
  repeat' first | with_reducible intro _ | with_reducible assumption | with_reducible apply Keeps.ite | with_reducible apply KeepsR.ite | with_reducible apply keeps_State_onPart | with_reducible apply keeps_State_emit | with_reducible apply Keeps.foldl | with_reducible apply Keeps.next | with_reducible apply Keeps.fault | with_reducible apply Keeps.ite | with_reducible apply KeepsR.ite | split | with_reducible apply Keeps.built

theorem keeps_State_updateStaged {z : State} : ∀ s a1, Keeps z s → Keeps z (State.updateStaged s a1) := by
  intro s a1 h
  unfold State.updateStaged
  try dsimp only
  repeat' first | with_reducible intro _ | with_reducible assumption | with_reducible apply Keeps.ite | with_reducible apply KeepsR.ite | with_reducible apply keeps_State_onUpd | with_reducible apply keeps_State_setBuf | with_reducible apply keeps_State_reportDigest | with_reducible apply keeps_State_set | with_reducible apply keeps_State_hareEnter | with_reducible apply Keeps.foldl | with_reducible apply Keeps.next | with_reducible apply Keeps.fault | with_reducible apply Keeps.ite | with_reducible apply KeepsR.ite | split | with_reducible apply Keeps.built

theorem keeps_execUpdateStaged {z : State} : ∀ a0 s, Keeps z s → KeepsR z (execUpdateStaged a0 s) := by
  intro a0 s h
  unfold execUpdateStaged
  try dsimp only
  repeat' first | with_reducible intro _ | with_reducible assumption | with_reducible apply Keeps.ite | with_reducible apply KeepsR.ite | with_reducible apply keeps_onPid | with_reducible apply keeps_State_updateStaged | with_reducible apply Keeps.foldl | with_reducible apply Keeps.next | with_reducible apply Keeps.fault | with_reducible apply Keeps.ite | with_reducible apply KeepsR.ite | split | with_reducible apply Keeps.built

theorem keeps_execGatherTimeout {z : State} : ∀ a0 s, Keeps z s → KeepsR z (execGatherTimeout a0 s) := by
  intro a0 s h
  unfold execGatherTimeout
  try dsimp only
  repeat' first | with_reducible intro _ | with_reducible assumption | with_reducible apply Keeps.ite | with_reducible apply KeepsR.ite | with_reducible apply keeps_onPid | with_reducible apply keeps_State_updFails | with_reducible apply Keeps.foldl | with_reducible apply Keeps.next | with_reducible apply Keeps.fault | with_reducible apply Keeps.ite | with_reducible apply KeepsR.ite | split | with_reducible apply Keeps.built

theorem keeps_State_stepOpens {z : State} : ∀ s a1, Keeps z s → Keeps z (State.stepOpens s a1) := by
  intro s a1 h
  unfold State.stepOpens
  try dsimp only
  repeat' first | with_reducible intro _ | with_reducible assumption | with_reducible apply Keeps.ite | with_reducible apply KeepsR.ite | with_reducible apply keeps_State_onRed | with_reducible apply keeps_State_zeroResults | with_reducible apply keeps_State_set | with_reducible apply keeps_State_onUpd | with_reducible apply keeps_State_onChecks | with_reducible apply keeps_State_updFails | with_reducible apply keeps_State_openGather | with_reducible apply Keeps.foldl | with_reducible apply Keeps.next | with_reducible apply Keeps.fault | with_reducible apply Keeps.ite | with_reducible apply KeepsR.ite | split | with_reducible apply Keeps.built

theorem keeps_execStepOpenDone {z : State} : ∀ a0 s, Keeps z s → KeepsR z (execStepOpenDone a0 s) := by
  intro a0 s h
  unfold execStepOpenDone
  try dsimp only
  repeat' first | with_reducible intro _ | with_reducible assumption | with_reducible apply Keeps.ite | with_reducible apply KeepsR.ite | with_reducible apply keeps_onPid | with_reducible apply keeps_State_stepOpens | with_reducible apply Keeps.foldl | with_reducible apply Keeps.next | with_reducible apply Keeps.fault | with_reducible apply Keeps.ite | with_reducible apply KeepsR.ite | split | with_reducible apply Keeps.built

theorem keeps_State_takeHead {z : State} : ∀ s a1 a2 a3, Keeps z s → Keeps z (State.takeHead s a1 a2 a3) := by
  intro s a1 a2 a3 h
  unfold State.takeHead
  try dsimp only
  repeat' first | with_reducible intro _ | with_reducible assumption | with_reducible apply Keeps.ite | with_reducible apply KeepsR.ite | with_reducible apply keeps_State_complete | with_reducible apply keeps_State_cqReserve | with_reducible apply keeps_State_startTask | with_reducible apply keeps_State_wakeUp | with_reducible apply Keeps.foldl | with_reducible apply Keeps.next | with_reducible apply Keeps.fault | with_reducible apply Keeps.ite | with_reducible apply KeepsR.ite | split | with_reducible apply Keeps.built

theorem keeps_State_dispatch {z : State} : ∀ s a1 a2, Keeps z s → Keeps z (State.dispatch s a1 a2) := by
  intro s a1 a2 h
  unfold State.dispatch
  try dsimp only
  repeat' first | with_reducible intro _ | with_reducible assumption | with_reducible apply Keeps.ite | with_reducible apply KeepsR.ite | with_reducible apply keeps_State_takeHead | with_reducible apply keeps_State_onSched | with_reducible apply keeps_State_setB | with_reducible apply Keeps.foldl | with_reducible apply Keeps.next | with_reducible apply Keeps.fault | with_reducible apply Keeps.ite | with_reducible apply KeepsR.ite | split | with_reducible apply Keeps.built

theorem keeps_execTaskStart {z : State} : ∀ a0 a1 s, Keeps z s → KeepsR z (execTaskStart a0 a1 s) := by
  intro a0 a1 s h
  unfold execTaskStart
  try dsimp only
  repeat' first | with_reducible intro _ | with_reducible assumption | with_reducible apply Keeps.ite | with_reducible apply KeepsR.ite | with_reducible apply keeps_onPid | with_reducible apply keeps_State_dispatch | with_reducible apply Keeps.foldl | with_reducible apply Keeps.next | with_reducible apply Keeps.fault | with_reducible apply Keeps.ite | with_reducible apply KeepsR.ite | split | with_reducible apply Keeps.built

theorem keeps_State_requestPreempt {z : State} : ∀ s a1 a2, Keeps z s → Keeps z (State.requestPreempt s a1 a2) := by
  intro s a1 a2 h
  unfold State.requestPreempt
  try dsimp only
  repeat' first | with_reducible intro _ | with_reducible assumption | with_reducible apply Keeps.ite | with_reducible apply KeepsR.ite | with_reducible apply keeps_State_onCore | with_reducible apply Keeps.foldl | with_reducible apply Keeps.next | with_reducible apply Keeps.fault | with_reducible apply Keeps.ite | with_reducible apply KeepsR.ite | split | with_reducible apply Keeps.built

theorem keeps_execPreemptRequest {z : State} : ∀ a0 a1 s, Keeps z s → KeepsR z (execPreemptRequest a0 a1 s) := by
  intro a0 a1 s h
  unfold execPreemptRequest
  try dsimp only
  repeat' first | with_reducible intro _ | with_reducible assumption | with_reducible apply Keeps.ite | with_reducible apply KeepsR.ite | with_reducible apply keeps_onPid | with_reducible apply keeps_State_requestPreempt | with_reducible apply Keeps.foldl | with_reducible apply Keeps.next | with_reducible apply Keeps.fault | with_reducible apply Keeps.ite | with_reducible apply KeepsR.ite | split | with_reducible apply Keeps.built

theorem keeps_State_cheapSave {z : State} : ∀ s a1 a2, Keeps z s → Keeps z (State.cheapSave s a1 a2) := by
  intro s a1 a2 h
  unfold State.cheapSave
  try dsimp only
  repeat' first | with_reducible intro _ | with_reducible assumption | with_reducible apply Keeps.ite | with_reducible apply KeepsR.ite | with_reducible apply keeps_State_saveTask | with_reducible apply Keeps.foldl | with_reducible apply Keeps.next | with_reducible apply Keeps.fault | with_reducible apply Keeps.ite | with_reducible apply KeepsR.ite | split | with_reducible apply Keeps.built

theorem keeps_execCheapPointSave {z : State} : ∀ a0 a1 s, Keeps z s → KeepsR z (execCheapPointSave a0 a1 s) := by
  intro a0 a1 s h
  unfold execCheapPointSave
  try dsimp only
  repeat' first | with_reducible intro _ | with_reducible assumption | with_reducible apply Keeps.ite | with_reducible apply KeepsR.ite | with_reducible apply keeps_onCoreId | with_reducible apply keeps_State_cheapSave | with_reducible apply Keeps.foldl | with_reducible apply Keeps.next | with_reducible apply Keeps.fault | with_reducible apply Keeps.ite | with_reducible apply KeepsR.ite | split | with_reducible apply Keeps.built

theorem keeps_execPreemptGraceExpiry {z : State} : ∀ a0 s, Keeps z s → KeepsR z (execPreemptGraceExpiry a0 s) := by
  intro a0 s h
  unfold execPreemptGraceExpiry
  try dsimp only
  repeat' first | with_reducible intro _ | with_reducible assumption | with_reducible apply Keeps.ite | with_reducible apply KeepsR.ite | with_reducible apply keeps_onCoreId | with_reducible apply keeps_State_onCore | with_reducible apply Keeps.foldl | with_reducible apply Keeps.next | with_reducible apply Keeps.fault | with_reducible apply Keeps.ite | with_reducible apply KeepsR.ite | split | with_reducible apply Keeps.built

theorem keeps_State_fullSave {z : State} : ∀ s a1, Keeps z s → Keeps z (State.fullSave s a1) := by
  intro s a1 h
  unfold State.fullSave
  try dsimp only
  repeat' first | with_reducible intro _ | with_reducible assumption | with_reducible apply Keeps.ite | with_reducible apply KeepsR.ite | with_reducible apply keeps_State_saveTask | with_reducible apply Keeps.foldl | with_reducible apply Keeps.next | with_reducible apply Keeps.fault | with_reducible apply Keeps.ite | with_reducible apply KeepsR.ite | split | with_reducible apply Keeps.built

theorem keeps_execFullSave {z : State} : ∀ a0 s, Keeps z s → KeepsR z (execFullSave a0 s) := by
  intro a0 s h
  unfold execFullSave
  try dsimp only
  repeat' first | with_reducible intro _ | with_reducible assumption | with_reducible apply Keeps.ite | with_reducible apply KeepsR.ite | with_reducible apply keeps_onCoreId | with_reducible apply keeps_State_fullSave | with_reducible apply Keeps.foldl | with_reducible apply Keeps.next | with_reducible apply Keeps.fault | with_reducible apply Keeps.ite | with_reducible apply KeepsR.ite | split | with_reducible apply Keeps.built

theorem keeps_State_withdraw {z : State} : ∀ s a1, Keeps z s → Keeps z (State.withdraw s a1) := by
  intro s a1 h
  unfold State.withdraw
  try dsimp only
  repeat' first | with_reducible intro _ | with_reducible assumption | with_reducible apply Keeps.ite | with_reducible apply KeepsR.ite | with_reducible apply keeps_State_raise | with_reducible apply keeps_State_bump | with_reducible apply keeps_State_setCore | with_reducible apply Keeps.foldl | with_reducible apply Keeps.next | with_reducible apply Keeps.fault | with_reducible apply Keeps.ite | with_reducible apply KeepsR.ite | split | with_reducible apply Keeps.built

theorem keeps_execPreemptWithdraw {z : State} : ∀ a0 s, Keeps z s → KeepsR z (execPreemptWithdraw a0 s) := by
  intro a0 s h
  unfold execPreemptWithdraw
  try dsimp only
  repeat' first | with_reducible intro _ | with_reducible assumption | with_reducible apply Keeps.ite | with_reducible apply KeepsR.ite | with_reducible apply keeps_onCoreId | with_reducible apply keeps_State_withdraw | with_reducible apply Keeps.foldl | with_reducible apply Keeps.next | with_reducible apply Keeps.fault | with_reducible apply Keeps.ite | with_reducible apply KeepsR.ite | split | with_reducible apply Keeps.built

theorem keeps_State_resume {z : State} : ∀ s a1, Keeps z s → Keeps z (State.resume s a1) := by
  intro s a1 h
  unfold State.resume
  try dsimp only
  repeat' first | with_reducible intro _ | with_reducible assumption | with_reducible apply Keeps.ite | with_reducible apply KeepsR.ite | with_reducible apply keeps_State_resumeTask | with_reducible apply Keeps.foldl | with_reducible apply Keeps.next | with_reducible apply Keeps.fault | with_reducible apply Keeps.ite | with_reducible apply KeepsR.ite | split | with_reducible apply Keeps.built

theorem keeps_execContextResume {z : State} : ∀ a0 s, Keeps z s → KeepsR z (execContextResume a0 s) := by
  intro a0 s h
  unfold execContextResume
  try dsimp only
  repeat' first | with_reducible intro _ | with_reducible assumption | with_reducible apply Keeps.ite | with_reducible apply KeepsR.ite | with_reducible apply keeps_onCoreId | with_reducible apply keeps_State_resume | with_reducible apply Keeps.foldl | with_reducible apply Keeps.next | with_reducible apply Keeps.fault | with_reducible apply Keeps.ite | with_reducible apply KeepsR.ite | split | with_reducible apply Keeps.built

theorem keeps_State_askAll {z : State} : ∀ s a1, Keeps z s → Keeps z (State.askAll s a1) := by
  intro s a1 h
  unfold State.askAll
  try dsimp only
  repeat' first | with_reducible intro _ | with_reducible assumption | with_reducible apply Keeps.ite | with_reducible apply KeepsR.ite | with_reducible apply keeps_State_onCore | with_reducible apply Keeps.foldl | with_reducible apply Keeps.next | with_reducible apply Keeps.fault | with_reducible apply Keeps.ite | with_reducible apply KeepsR.ite | split | with_reducible apply Keeps.built

theorem keeps_State_suspend {z : State} : ∀ s a1, Keeps z s → Keeps z (State.suspend s a1) := by
  intro s a1 h
  unfold State.suspend
  try dsimp only
  repeat' first | with_reducible intro _ | with_reducible assumption | with_reducible apply Keeps.ite | with_reducible apply KeepsR.ite | with_reducible apply keeps_State_askAll | with_reducible apply keeps_State_setSchedState | with_reducible apply keeps_State_regFault | with_reducible apply Keeps.foldl | with_reducible apply Keeps.next | with_reducible apply Keeps.fault | with_reducible apply Keeps.ite | with_reducible apply KeepsR.ite | split | with_reducible apply Keeps.built

theorem keeps_execSuspend {z : State} : ∀ a0 a1 s, Keeps z s → KeepsR z (execSuspend a0 a1 s) := by
  intro a0 a1 s h
  unfold execSuspend
  try dsimp only
  repeat' first | with_reducible intro _ | with_reducible assumption | with_reducible apply Keeps.ite | with_reducible apply KeepsR.ite | with_reducible apply keeps_onPid | with_reducible apply keeps_State_guard | with_reducible apply keeps_State_suspend | with_reducible apply Keeps.foldl | with_reducible apply Keeps.next | with_reducible apply Keeps.fault | with_reducible apply Keeps.ite | with_reducible apply KeepsR.ite | split | with_reducible apply Keeps.built

theorem keeps_State_markRetired {z : State} : ∀ s a1, Keeps z s → Keeps z (State.markRetired s a1) := by
  intro s a1 h
  unfold State.markRetired
  try dsimp only
  repeat' first | with_reducible intro _ | with_reducible assumption | with_reducible apply Keeps.ite | with_reducible apply KeepsR.ite | with_reducible apply keeps_State_set | with_reducible apply Keeps.foldl | with_reducible apply Keeps.next | with_reducible apply Keeps.fault | with_reducible apply Keeps.ite | with_reducible apply KeepsR.ite | split | with_reducible apply Keeps.built

theorem keeps_State_mapSpare {z : State} : ∀ s a1 a2, Keeps z s → Keeps z (State.mapSpare s a1 a2) := by
  intro s a1 a2 h
  unfold State.mapSpare
  try dsimp only
  repeat' first | with_reducible intro _ | with_reducible assumption | with_reducible apply Keeps.ite | with_reducible apply KeepsR.ite | with_reducible apply keeps_State_onSched | with_reducible apply keeps_State_settEvacuate | with_reducible apply keeps_State_set | with_reducible apply keeps_State_setCore | with_reducible apply keeps_State_onCore | with_reducible apply Keeps.foldl | with_reducible apply Keeps.next | with_reducible apply Keeps.fault | with_reducible apply Keeps.ite | with_reducible apply KeepsR.ite | split | with_reducible apply Keeps.built

theorem keeps_State_replaceRetired {z : State} : ∀ s a1, Keeps z s → Keeps z (State.replaceRetired s a1) := by
  intro s a1 h
  unfold State.replaceRetired
  try dsimp only
  repeat' first | with_reducible intro _ | with_reducible assumption | with_reducible apply Keeps.ite | with_reducible apply KeepsR.ite | with_reducible apply keeps_State_onSched | with_reducible apply keeps_State_raise | with_reducible apply keeps_State_setSchedState | with_reducible apply keeps_State_mapSpare | with_reducible apply keeps_State_set | with_reducible apply keeps_State_loadImage | with_reducible apply Keeps.foldl | with_reducible apply Keeps.next | with_reducible apply Keeps.fault | with_reducible apply Keeps.ite | with_reducible apply KeepsR.ite | split | with_reducible apply Keeps.built

theorem keeps_State_retireCore {z : State} : ∀ s a1, Keeps z s → Keeps z (State.retireCore s a1) := by
  intro s a1 h
  unfold State.retireCore
  try dsimp only
  repeat' first | with_reducible intro _ | with_reducible assumption | with_reducible apply Keeps.ite | with_reducible apply KeepsR.ite | with_reducible apply keeps_State_markRetired | with_reducible apply keeps_State_set | with_reducible apply keeps_State_onSched | with_reducible apply keeps_State_askAll | with_reducible apply keeps_State_setSchedState | with_reducible apply keeps_State_replaceRetired | with_reducible apply Keeps.foldl | with_reducible apply Keeps.next | with_reducible apply Keeps.fault | with_reducible apply Keeps.ite | with_reducible apply KeepsR.ite | split | with_reducible apply Keeps.built

theorem keeps_execCoreRetire {z : State} : ∀ a0 s, Keeps z s → KeepsR z (execCoreRetire a0 s) := by
  intro a0 s h
  unfold execCoreRetire
  try dsimp only
  repeat' first | with_reducible intro _ | with_reducible assumption | with_reducible apply Keeps.ite | with_reducible apply KeepsR.ite | with_reducible apply keeps_onCoreId | with_reducible apply keeps_State_retireCore | with_reducible apply Keeps.foldl | with_reducible apply Keeps.next | with_reducible apply Keeps.fault | with_reducible apply Keeps.ite | with_reducible apply KeepsR.ite | split | with_reducible apply Keeps.built

theorem keeps_State_imageDone {z : State} : ∀ s a1, Keeps z s → Keeps z (State.imageDone s a1) := by
  intro s a1 h
  unfold State.imageDone
  try dsimp only
  repeat' first | with_reducible intro _ | with_reducible assumption | with_reducible apply Keeps.ite | with_reducible apply KeepsR.ite | with_reducible apply keeps_State_set | with_reducible apply keeps_State_setSchedState | with_reducible apply keeps_State_writeImage | with_reducible apply keeps_State_replaceRetired | with_reducible apply Keeps.foldl | with_reducible apply Keeps.next | with_reducible apply Keeps.fault | with_reducible apply Keeps.ite | with_reducible apply KeepsR.ite | split | with_reducible apply Keeps.built

theorem keeps_execSuspendImageDone {z : State} : ∀ a0 s, Keeps z s → KeepsR z (execSuspendImageDone a0 s) := by
  intro a0 s h
  unfold execSuspendImageDone
  try dsimp only
  repeat' first | with_reducible intro _ | with_reducible assumption | with_reducible apply Keeps.ite | with_reducible apply KeepsR.ite | with_reducible apply keeps_onPid | with_reducible apply keeps_State_imageDone | with_reducible apply Keeps.foldl | with_reducible apply Keeps.next | with_reducible apply Keeps.fault | with_reducible apply Keeps.ite | with_reducible apply KeepsR.ite | split | with_reducible apply Keeps.built

theorem keeps_State_preemptSlow {z : State} : ∀ s a1, Keeps z s → Keeps z (State.preemptSlow s a1) := by
  intro s a1 h
  unfold State.preemptSlow
  try dsimp only
  repeat' first | with_reducible intro _ | with_reducible assumption | with_reducible apply Keeps.ite | with_reducible apply KeepsR.ite | with_reducible apply keeps_State_raise | with_reducible apply keeps_State_setCore | with_reducible apply Keeps.foldl | with_reducible apply Keeps.next | with_reducible apply Keeps.fault | with_reducible apply Keeps.ite | with_reducible apply KeepsR.ite | split | with_reducible apply Keeps.built

theorem keeps_execPreemptSlow {z : State} : ∀ a0 s, Keeps z s → KeepsR z (execPreemptSlow a0 s) := by
  intro a0 s h
  unfold execPreemptSlow
  try dsimp only
  repeat' first | with_reducible intro _ | with_reducible assumption | with_reducible apply Keeps.ite | with_reducible apply KeepsR.ite | with_reducible apply keeps_onCoreId | with_reducible apply keeps_State_preemptSlow | with_reducible apply Keeps.foldl | with_reducible apply Keeps.next | with_reducible apply Keeps.fault | with_reducible apply Keeps.ite | with_reducible apply KeepsR.ite | split | with_reducible apply Keeps.built

theorem keeps_State_restoreCtx {z : State} : ∀ s a1, Keeps z s → Keeps z (State.restoreCtx s a1) := by
  intro s a1 h
  unfold State.restoreCtx
  try dsimp only
  repeat' first | with_reducible intro _ | with_reducible assumption | with_reducible apply Keeps.ite | with_reducible apply KeepsR.ite | with_reducible apply keeps_State_regFault | with_reducible apply keeps_State_set | with_reducible apply keeps_State_settEvacuate | with_reducible apply keeps_State_setSchedState | with_reducible apply keeps_State_loadImage | with_reducible apply Keeps.foldl | with_reducible apply Keeps.next | with_reducible apply Keeps.fault | with_reducible apply Keeps.ite | with_reducible apply KeepsR.ite | split | with_reducible apply Keeps.built

theorem keeps_execRestore {z : State} : ∀ a0 a1 s, Keeps z s → KeepsR z (execRestore a0 a1 s) := by
  intro a0 a1 s h
  unfold execRestore
  try dsimp only
  repeat' first | with_reducible intro _ | with_reducible assumption | with_reducible apply Keeps.ite | with_reducible apply KeepsR.ite | with_reducible apply keeps_onPid | with_reducible apply keeps_State_guard | with_reducible apply keeps_State_restoreCtx | with_reducible apply Keeps.foldl | with_reducible apply Keeps.next | with_reducible apply Keeps.fault | with_reducible apply Keeps.ite | with_reducible apply KeepsR.ite | split | with_reducible apply Keeps.built

theorem keeps_State_semInit {z : State} : ∀ s a1 a2, Keeps z s → Keeps z (State.semInit s a1 a2) := by
  intro s a1 a2 h
  unfold State.semInit
  try dsimp only
  repeat' first | with_reducible intro _ | with_reducible assumption | with_reducible apply Keeps.ite | with_reducible apply KeepsR.ite | with_reducible apply keeps_State_regFault | with_reducible apply keeps_State_setB | with_reducible apply Keeps.foldl | with_reducible apply Keeps.next | with_reducible apply Keeps.fault | with_reducible apply Keeps.ite | with_reducible apply KeepsR.ite | split | with_reducible apply Keeps.built

theorem keeps_execSemInitWrite {z : State} : ∀ a0 a1 a2 s, Keeps z s → KeepsR z (execSemInitWrite a0 a1 a2 s) := by
  intro a0 a1 a2 s h
  unfold execSemInitWrite
  try dsimp only
  repeat' first | with_reducible intro _ | with_reducible assumption | with_reducible apply Keeps.ite | with_reducible apply KeepsR.ite | with_reducible apply keeps_onPid | with_reducible apply keeps_State_guard | with_reducible apply keeps_State_semInit | with_reducible apply Keeps.foldl | with_reducible apply Keeps.next | with_reducible apply Keeps.fault | with_reducible apply Keeps.ite | with_reducible apply KeepsR.ite | split | with_reducible apply Keeps.built

theorem keeps_State_suspect {z : State} : ∀ s a1 a2 a3, Keeps z s → Keeps z (State.suspect s a1 a2 a3) := by
  intro s a1 a2 a3 h
  unfold State.suspect
  try dsimp only
  repeat' first | with_reducible intro _ | with_reducible assumption | with_reducible apply Keeps.ite | with_reducible apply KeepsR.ite | with_reducible apply keeps_State_raise | with_reducible apply keeps_State_set | with_reducible apply keeps_State_retireCore | with_reducible apply Keeps.foldl | with_reducible apply Keeps.next | with_reducible apply Keeps.fault | with_reducible apply Keeps.ite | with_reducible apply KeepsR.ite | split | with_reducible apply Keeps.built

theorem keeps_State_mismatch {z : State} : ∀ s a1 a2 a3 a4, Keeps z s → Keeps z (State.mismatch s a1 a2 a3 a4) := by
  intro s a1 a2 a3 a4 h
  unfold State.mismatch
  try dsimp only
  repeat' first | with_reducible intro _ | with_reducible assumption | with_reducible apply Keeps.ite | with_reducible apply KeepsR.ite | with_reducible apply keeps_State_raise | with_reducible apply keeps_State_faultRecord | with_reducible apply keeps_State_bump | with_reducible apply keeps_State_stepFails | with_reducible apply keeps_State_onChecks | with_reducible apply keeps_State_suspect | with_reducible apply Keeps.foldl | with_reducible apply Keeps.next | with_reducible apply Keeps.fault | with_reducible apply Keeps.ite | with_reducible apply KeepsR.ite | split | with_reducible apply Keeps.built

theorem keeps_State_verdict {z : State} : ∀ s a1 a2 a3 a4, Keeps z s → Keeps z (State.verdict s a1 a2 a3 a4) := by
  intro s a1 a2 a3 a4 h
  unfold State.verdict
  try dsimp only
  repeat' first | with_reducible intro _ | with_reducible assumption | with_reducible apply Keeps.ite | with_reducible apply KeepsR.ite | with_reducible apply keeps_State_onCore | with_reducible apply keeps_State_bump | with_reducible apply keeps_State_mismatch | with_reducible apply Keeps.foldl | with_reducible apply Keeps.next | with_reducible apply Keeps.fault | with_reducible apply Keeps.ite | with_reducible apply KeepsR.ite | split | with_reducible apply Keeps.built

theorem keeps_execOwlVerdict {z : State} : ∀ a0 a1 a2 s, Keeps z s → KeepsR z (execOwlVerdict a0 a1 a2 s) := by
  intro a0 a1 a2 s h
  unfold execOwlVerdict
  try dsimp only
  repeat' first | with_reducible intro _ | with_reducible assumption | with_reducible apply Keeps.ite | with_reducible apply KeepsR.ite | with_reducible apply keeps_onCoreId | with_reducible apply keeps_State_verdict | with_reducible apply Keeps.foldl | with_reducible apply Keeps.next | with_reducible apply Keeps.fault | with_reducible apply Keeps.ite | with_reducible apply KeepsR.ite | split | with_reducible apply Keeps.built

theorem keeps_execOwlLate {z : State} : ∀ a0 a1 s, Keeps z s → KeepsR z (execOwlLate a0 a1 s) := by
  intro a0 a1 s h
  unfold execOwlLate
  try dsimp only
  repeat' first | with_reducible intro _ | with_reducible assumption | with_reducible apply Keeps.ite | with_reducible apply KeepsR.ite | with_reducible apply keeps_onCoreId | with_reducible apply keeps_State_verdict | with_reducible apply Keeps.foldl | with_reducible apply Keeps.next | with_reducible apply Keeps.fault | with_reducible apply Keeps.ite | with_reducible apply KeepsR.ite | split | with_reducible apply Keeps.built

theorem keeps_State_digestFormed {z : State} : ∀ s a1 a2, Keeps z s → Keeps z (State.digestFormed s a1 a2) := by
  intro s a1 a2 h
  unfold State.digestFormed
  try dsimp only
  repeat' first | with_reducible intro _ | with_reducible assumption | with_reducible apply Keeps.ite | with_reducible apply KeepsR.ite | with_reducible apply keeps_State_bump | with_reducible apply keeps_State_set | with_reducible apply keeps_State_onChecks | with_reducible apply keeps_State_stepFails | with_reducible apply keeps_State_raise | with_reducible apply keeps_State_faultRecord | with_reducible apply Keeps.foldl | with_reducible apply Keeps.next | with_reducible apply Keeps.fault | with_reducible apply Keeps.ite | with_reducible apply KeepsR.ite | split | with_reducible apply Keeps.built

theorem keeps_execDigestResult {z : State} : ∀ a0 a1 s, Keeps z s → KeepsR z (execDigestResult a0 a1 s) := by
  intro a0 a1 s h
  unfold execDigestResult
  try dsimp only
  repeat' first | with_reducible intro _ | with_reducible assumption | with_reducible apply Keeps.ite | with_reducible apply KeepsR.ite | with_reducible apply keeps_onPid | with_reducible apply keeps_State_digestFormed | with_reducible apply keeps_State_hareTaken | with_reducible apply Keeps.foldl | with_reducible apply Keeps.next | with_reducible apply Keeps.fault | with_reducible apply Keeps.ite | with_reducible apply KeepsR.ite | split | with_reducible apply Keeps.built

theorem keeps_State_faultRingWrite {z : State} : ∀ s a1 a2 a3 a4 a5, Keeps z s → Keeps z (State.faultRingWrite s a1 a2 a3 a4 a5) := by
  intro s a1 a2 a3 a4 a5 h
  unfold State.faultRingWrite
  try dsimp only
  repeat' first | with_reducible intro _ | with_reducible assumption | with_reducible apply Keeps.ite | with_reducible apply KeepsR.ite | with_reducible apply keeps_State_writeReg | with_reducible apply keeps_State_set | with_reducible apply Keeps.foldl | with_reducible apply Keeps.next | with_reducible apply Keeps.fault | with_reducible apply Keeps.ite | with_reducible apply KeepsR.ite | split | with_reducible apply Keeps.built

theorem keeps_execFaultRingRestart {z : State} : ∀ a0 a1 a2 a3 s, Keeps z s → KeepsR z (execFaultRingRestart a0 a1 a2 a3 s) := by
  intro a0 a1 a2 a3 s h
  unfold execFaultRingRestart
  try dsimp only
  repeat' first | with_reducible intro _ | with_reducible assumption | with_reducible apply Keeps.ite | with_reducible apply KeepsR.ite | with_reducible apply keeps_onPid | with_reducible apply keeps_State_guard | with_reducible apply keeps_State_faultRingWrite | with_reducible apply Keeps.foldl | with_reducible apply Keeps.next | with_reducible apply Keeps.fault | with_reducible apply Keeps.ite | with_reducible apply KeepsR.ite | split | with_reducible apply Keeps.built

theorem keeps_State_expandSeed {z : State} : ∀ s a1 a2, Keeps z s → Keeps z (State.expandSeed s a1 a2) := by
  intro s a1 a2 h
  unfold State.expandSeed
  try dsimp only
  repeat' first | with_reducible intro _ | with_reducible assumption | with_reducible apply Keeps.ite | with_reducible apply KeepsR.ite | with_reducible apply keeps_State_set | with_reducible apply Keeps.foldl | with_reducible apply Keeps.next | with_reducible apply Keeps.fault | with_reducible apply Keeps.ite | with_reducible apply KeepsR.ite | split | with_reducible apply Keeps.built

theorem keeps_State_seedWrite {z : State} : ∀ s a1 a2 a3 a4 a5, Keeps z s → Keeps z (State.seedWrite s a1 a2 a3 a4 a5) := by
  intro s a1 a2 a3 a4 a5 h
  unfold State.seedWrite
  try dsimp only
  repeat' first | with_reducible intro _ | with_reducible assumption | with_reducible apply Keeps.ite | with_reducible apply KeepsR.ite | with_reducible apply keeps_State_regFault | with_reducible apply keeps_State_expandSeed | with_reducible apply keeps_State_writeReg | with_reducible apply Keeps.foldl | with_reducible apply Keeps.next | with_reducible apply Keeps.fault | with_reducible apply Keeps.ite | with_reducible apply KeepsR.ite | split | with_reducible apply Keeps.built

theorem keeps_execRngSeedWrite {z : State} : ∀ a0 a1 a2 a3 s, Keeps z s → KeepsR z (execRngSeedWrite a0 a1 a2 a3 s) := by
  intro a0 a1 a2 a3 s h
  unfold execRngSeedWrite
  try dsimp only
  repeat' first | with_reducible intro _ | with_reducible assumption | with_reducible apply Keeps.ite | with_reducible apply KeepsR.ite | with_reducible apply keeps_onPid | with_reducible apply keeps_State_guard | with_reducible apply keeps_State_seedWrite | with_reducible apply Keeps.foldl | with_reducible apply Keeps.next | with_reducible apply Keeps.fault | with_reducible apply Keeps.ite | with_reducible apply KeepsR.ite | split | with_reducible apply Keeps.built

theorem keeps_State_seedReady {z : State} : ∀ s a1 a2, Keeps z s → Keeps z (State.seedReady s a1 a2) := by
  intro s a1 a2 h
  unfold State.seedReady
  try dsimp only
  repeat' first | with_reducible intro _ | with_reducible assumption | with_reducible apply Keeps.ite | with_reducible apply KeepsR.ite | with_reducible apply keeps_State_set | with_reducible apply Keeps.foldl | with_reducible apply Keeps.next | with_reducible apply Keeps.fault | with_reducible apply Keeps.ite | with_reducible apply KeepsR.ite | split | with_reducible apply Keeps.built

theorem keeps_execSeedExpansionDone {z : State} : ∀ a0 a1 s, Keeps z s → KeepsR z (execSeedExpansionDone a0 a1 s) := by
  intro a0 a1 s h
  unfold execSeedExpansionDone
  try dsimp only
  repeat' first | with_reducible intro _ | with_reducible assumption | with_reducible apply Keeps.ite | with_reducible apply KeepsR.ite | with_reducible apply keeps_onPid | with_reducible apply keeps_State_seedReady | with_reducible apply Keeps.foldl | with_reducible apply Keeps.next | with_reducible apply Keeps.fault | with_reducible apply Keeps.ite | with_reducible apply KeepsR.ite | split | with_reducible apply Keeps.built

theorem keeps_State_onKv {z : State} : ∀ s a1 a2 a3, Keeps z s → Keeps z (State.onKv s a1 a2 a3) := by
  intro s a1 a2 a3 h
  unfold State.onKv
  try dsimp only
  repeat' first | with_reducible intro _ | with_reducible assumption | with_reducible apply Keeps.ite | with_reducible apply KeepsR.ite | with_reducible apply keeps_State_onGen | with_reducible apply Keeps.foldl | with_reducible apply Keeps.next | with_reducible apply Keeps.fault | with_reducible apply Keeps.ite | with_reducible apply KeepsR.ite | split | with_reducible apply Keeps.built

theorem keeps_State_setPage {z : State} : ∀ s a1 a2 a3 a4 a5, Keeps z s → Keeps z (State.setPage s a1 a2 a3 a4 a5) := by
  intro s a1 a2 a3 a4 a5 h
  unfold State.setPage
  try dsimp only
  repeat' first | with_reducible intro _ | with_reducible assumption | with_reducible apply Keeps.ite | with_reducible apply KeepsR.ite | with_reducible apply keeps_State_onGen | with_reducible apply keeps_State_writeN | with_reducible apply Keeps.foldl | with_reducible apply Keeps.next | with_reducible apply Keeps.fault | with_reducible apply Keeps.ite | with_reducible apply KeepsR.ite | split | with_reducible apply Keeps.built

theorem keeps_State_eachStripe {z : State} : ∀ s p f, Keeps z s → (∀ t i, Keeps z t → Keeps z (f t i)) →
    Keeps z (State.eachStripe s p f) := by
  intro s p f h g
  exact Keeps.foldl f g _ s h

theorem keeps_State_copyFrame {z : State} : ∀ s a1 a2 a3 a4, Keeps z s → Keeps z (State.copyFrame s a1 a2 a3 a4) := by
  intro s a1 a2 a3 a4 h
  unfold State.copyFrame
  try dsimp only
  repeat' first | with_reducible intro _ | with_reducible assumption | with_reducible apply Keeps.ite | with_reducible apply KeepsR.ite | with_reducible apply keeps_State_eachStripe | with_reducible apply keeps_State_copyRange | with_reducible apply Keeps.foldl | with_reducible apply Keeps.next | with_reducible apply Keeps.fault | with_reducible apply Keeps.ite | with_reducible apply KeepsR.ite | split | with_reducible apply Keeps.built

theorem keeps_State_spillFrame {z : State} : ∀ s a1 a2 a3 a4, Keeps z s → Keeps z (State.spillFrame s a1 a2 a3 a4) := by
  intro s a1 a2 a3 a4 h
  unfold State.spillFrame
  try dsimp only
  repeat' first | with_reducible intro _ | with_reducible assumption | with_reducible apply Keeps.ite | with_reducible apply KeepsR.ite | with_reducible apply keeps_State_eachStripe | with_reducible apply keeps_State_copyRange | with_reducible apply Keeps.foldl | with_reducible apply Keeps.next | with_reducible apply Keeps.fault | with_reducible apply Keeps.ite | with_reducible apply KeepsR.ite | split | with_reducible apply Keeps.built

theorem keeps_State_fillFrame {z : State} : ∀ s a1 a2 a3 a4, Keeps z s → Keeps z (State.fillFrame s a1 a2 a3 a4) := by
  intro s a1 a2 a3 a4 h
  unfold State.fillFrame
  try dsimp only
  repeat' first | with_reducible intro _ | with_reducible assumption | with_reducible apply Keeps.ite | with_reducible apply KeepsR.ite | with_reducible apply keeps_State_eachStripe | with_reducible apply keeps_State_copyRange | with_reducible apply Keeps.foldl | with_reducible apply Keeps.next | with_reducible apply Keeps.fault | with_reducible apply Keeps.ite | with_reducible apply KeepsR.ite | split | with_reducible apply Keeps.built

theorem keeps_State_frameFails {z : State} : ∀ s a1 a2 a3, Keeps z s → Keeps z (State.frameFails s a1 a2 a3) := by
  intro s a1 a2 a3 h
  unfold State.frameFails
  try dsimp only
  repeat' first | with_reducible intro _ | with_reducible assumption | with_reducible apply Keeps.ite | with_reducible apply KeepsR.ite | with_reducible apply keeps_State_onKv | with_reducible apply Keeps.foldl | with_reducible apply Keeps.next | with_reducible apply Keeps.fault | with_reducible apply Keeps.ite | with_reducible apply KeepsR.ite | split | with_reducible apply Keeps.built

theorem keeps_State_refFrame {z : State} : ∀ s a1 a2 a3, Keeps z s → Keeps z (State.refFrame s a1 a2 a3) := by
  intro s a1 a2 a3 h
  unfold State.refFrame
  try dsimp only
  repeat' first | with_reducible intro _ | with_reducible assumption | with_reducible apply Keeps.ite | with_reducible apply KeepsR.ite | with_reducible apply keeps_State_onKv | with_reducible apply Keeps.foldl | with_reducible apply Keeps.next | with_reducible apply Keeps.fault | with_reducible apply Keeps.ite | with_reducible apply KeepsR.ite | split | with_reducible apply Keeps.built

theorem keeps_State_poolFrame {z : State} : ∀ s a1 a2 a3, Keeps z s → Keeps z (State.poolFrame s a1 a2 a3) := by
  intro s a1 a2 a3 h
  unfold State.poolFrame
  try dsimp only
  repeat' first | with_reducible intro _ | with_reducible assumption | with_reducible apply Keeps.ite | with_reducible apply KeepsR.ite | with_reducible apply keeps_State_onKv | with_reducible apply keeps_State_eachStripe | with_reducible apply keeps_State_zeroRange | with_reducible apply keeps_State_bump | with_reducible apply Keeps.foldl | with_reducible apply Keeps.next | with_reducible apply Keeps.fault | with_reducible apply Keeps.ite | with_reducible apply KeepsR.ite | split | with_reducible apply Keeps.built

theorem keeps_State_unrefFrame {z : State} : ∀ s a1 a2 a3, Keeps z s → Keeps z (State.unrefFrame s a1 a2 a3) := by
  intro s a1 a2 a3 h
  unfold State.unrefFrame
  try dsimp only
  repeat' first | with_reducible intro _ | with_reducible assumption | with_reducible apply Keeps.ite | with_reducible apply KeepsR.ite | with_reducible apply keeps_State_poolFrame | with_reducible apply keeps_State_onKv | with_reducible apply Keeps.foldl | with_reducible apply Keeps.next | with_reducible apply Keeps.fault | with_reducible apply Keeps.ite | with_reducible apply KeepsR.ite | split | with_reducible apply Keeps.built

theorem keeps_State_loadVariant {z : State} : ∀ s a1 a2 a3 a4 a5, Keeps z s → Keeps z (State.loadVariant s a1 a2 a3 a4 a5) := by
  intro s a1 a2 a3 a4 a5 h
  unfold State.loadVariant
  try dsimp only
  repeat' first | with_reducible intro _ | with_reducible assumption | with_reducible apply Keeps.ite | with_reducible apply KeepsR.ite | with_reducible apply keeps_State_eachStripe | with_reducible apply keeps_State_copyRange | with_reducible apply Keeps.foldl | with_reducible apply Keeps.next | with_reducible apply Keeps.fault | with_reducible apply Keeps.ite | with_reducible apply KeepsR.ite | split | with_reducible apply Keeps.built

theorem keeps_State_kvApply {z : State} : ∀ s a1 a2, Keeps z s → Keeps z (State.kvApply s a1 a2) := by
  intro s a1 a2 h
  unfold State.kvApply
  try dsimp only
  repeat' first | with_reducible intro _ | with_reducible assumption | with_reducible apply Keeps.ite | with_reducible apply KeepsR.ite | with_reducible apply keeps_State_setPage | with_reducible apply keeps_State_refFrame | with_reducible apply keeps_State_bump | with_reducible apply keeps_State_unrefFrame | with_reducible apply keeps_State_copyFrame | with_reducible apply keeps_State_onKv | with_reducible apply keeps_State_spillFrame | with_reducible apply keeps_State_fillFrame | with_reducible apply keeps_State_loadVariant | with_reducible apply Keeps.foldl | with_reducible apply Keeps.next | with_reducible apply Keeps.fault | with_reducible apply Keeps.ite | with_reducible apply KeepsR.ite | split | with_reducible apply Keeps.built

theorem keeps_State_kvDo {z : State} : ∀ s a1 a2, Keeps z s → Keeps z (State.kvDo s a1 a2) := by
  intro s a1 a2 h
  unfold State.kvDo
  try dsimp only
  repeat' first | with_reducible intro _ | with_reducible assumption | with_reducible apply Keeps.ite | with_reducible apply KeepsR.ite | with_reducible apply keeps_State_onGen | with_reducible apply keeps_State_kvApply | with_reducible apply Keeps.foldl | with_reducible apply Keeps.next | with_reducible apply Keeps.fault | with_reducible apply Keeps.ite | with_reducible apply KeepsR.ite | split | with_reducible apply Keeps.built

theorem keeps_State_kvDoAll {z : State} : ∀ s a1 a2, Keeps z s → Keeps z (State.kvDoAll s a1 a2) := by
  intro s a1 a2 h
  unfold State.kvDoAll
  try dsimp only
  repeat' first | with_reducible intro _ | with_reducible assumption | with_reducible apply Keeps.ite | with_reducible apply KeepsR.ite | with_reducible apply keeps_State_kvDo | with_reducible apply Keeps.foldl | with_reducible apply Keeps.next | with_reducible apply Keeps.fault | with_reducible apply Keeps.ite | with_reducible apply KeepsR.ite | split | with_reducible apply Keeps.built

theorem keeps_State_onReq {z : State} : ∀ s a1 a2 a3, Keeps z s → Keeps z (State.onReq s a1 a2 a3) := by
  intro s a1 a2 a3 h
  unfold State.onReq
  try dsimp only
  repeat' first | with_reducible intro _ | with_reducible assumption | with_reducible apply Keeps.ite | with_reducible apply KeepsR.ite | with_reducible apply keeps_State_onGen | with_reducible apply Keeps.foldl | with_reducible apply Keeps.next | with_reducible apply Keeps.fault | with_reducible apply Keeps.ite | with_reducible apply KeepsR.ite | split | with_reducible apply Keeps.built

theorem keeps_State_dropReq {z : State} : ∀ s a1 a2, Keeps z s → Keeps z (State.dropReq s a1 a2) := by
  intro s a1 a2 h
  unfold State.dropReq
  try dsimp only
  repeat' first | with_reducible intro _ | with_reducible assumption | with_reducible apply Keeps.ite | with_reducible apply KeepsR.ite | with_reducible apply keeps_State_onGen | with_reducible apply Keeps.foldl | with_reducible apply Keeps.next | with_reducible apply Keeps.fault | with_reducible apply Keeps.ite | with_reducible apply KeepsR.ite | split | with_reducible apply Keeps.built

theorem keeps_State_streamPut {z : State} : ∀ s a1 a2 a3 a4 a5 a6 a7 a8, Keeps z s → Keeps z (State.streamPut s a1 a2 a3 a4 a5 a6 a7 a8) := by
  intro s a1 a2 a3 a4 a5 a6 a7 a8 h
  unfold State.streamPut
  try dsimp only
  repeat' first | with_reducible intro _ | with_reducible assumption | with_reducible apply Keeps.ite | with_reducible apply KeepsR.ite | with_reducible apply keeps_State_hostEntry | with_reducible apply Keeps.foldl | with_reducible apply Keeps.next | with_reducible apply Keeps.fault | with_reducible apply Keeps.ite | with_reducible apply KeepsR.ite | split | with_reducible apply Keeps.built

theorem keeps_State_releasePages {z : State} : ∀ s a1 a2, Keeps z s → Keeps z (State.releasePages s a1 a2) := by
  intro s a1 a2 h
  unfold State.releasePages
  try dsimp only
  repeat' first | with_reducible intro _ | with_reducible assumption | with_reducible apply Keeps.ite | with_reducible apply KeepsR.ite | with_reducible apply keeps_State_kvDo | with_reducible apply Keeps.foldl | with_reducible apply Keeps.next | with_reducible apply Keeps.fault | with_reducible apply Keeps.ite | with_reducible apply KeepsR.ite | split | with_reducible apply Keeps.built

theorem keeps_State_countEnd {z : State} : ∀ s a1 a2, Keeps z s → Keeps z (State.countEnd s a1 a2) := by
  intro s a1 a2 h
  unfold State.countEnd
  try dsimp only
  repeat' first | with_reducible intro _ | with_reducible assumption | with_reducible apply Keeps.ite | with_reducible apply KeepsR.ite | with_reducible apply keeps_State_bump | with_reducible apply Keeps.foldl | with_reducible apply Keeps.next | with_reducible apply Keeps.fault | with_reducible apply Keeps.ite | with_reducible apply KeepsR.ite | split | with_reducible apply Keeps.built

theorem keeps_State_onStep {z : State} : ∀ s a1 a2 a3, Keeps z s → Keeps z (State.onStep s a1 a2 a3) := by
  intro s a1 a2 a3 h
  unfold State.onStep
  try dsimp only
  repeat' first | with_reducible intro _ | with_reducible assumption | with_reducible apply Keeps.ite | with_reducible apply KeepsR.ite | with_reducible apply keeps_State_onGen | with_reducible apply Keeps.foldl | with_reducible apply Keeps.next | with_reducible apply Keeps.fault | with_reducible apply Keeps.ite | with_reducible apply KeepsR.ite | split | with_reducible apply Keeps.built

theorem keeps_State_addRecs {z : State} : ∀ s a1 a2 a3, Keeps z s → Keeps z (State.addRecs s a1 a2 a3) := by
  intro s a1 a2 a3 h
  unfold State.addRecs
  try dsimp only
  repeat' first | with_reducible intro _ | with_reducible assumption | with_reducible apply Keeps.ite | with_reducible apply KeepsR.ite | with_reducible apply keeps_State_onStep | with_reducible apply Keeps.foldl | with_reducible apply Keeps.next | with_reducible apply Keeps.fault | with_reducible apply Keeps.ite | with_reducible apply KeepsR.ite | split | with_reducible apply Keeps.built

theorem keeps_State_endReq {z : State} : ∀ s a1 a2 a3, Keeps z s → Keeps z (State.endReq s a1 a2 a3) := by
  intro s a1 a2 a3 h
  unfold State.endReq
  try dsimp only
  repeat' first | with_reducible intro _ | with_reducible assumption | with_reducible apply Keeps.ite | with_reducible apply KeepsR.ite | with_reducible apply keeps_State_countEnd | with_reducible apply keeps_State_streamPut | with_reducible apply keeps_State_dropReq | with_reducible apply keeps_State_onReq | with_reducible apply keeps_State_addRecs | with_reducible apply keeps_State_onGen | with_reducible apply keeps_State_releasePages | with_reducible apply Keeps.foldl | with_reducible apply Keeps.next | with_reducible apply Keeps.fault | with_reducible apply Keeps.ite | with_reducible apply KeepsR.ite | split | with_reducible apply Keeps.built

theorem keeps_State_streamLost {z : State} : ∀ s a1 a2, Keeps z s → Keeps z (State.streamLost s a1 a2) := by
  intro s a1 a2 h
  unfold State.streamLost
  try dsimp only
  repeat' first | with_reducible intro _ | with_reducible assumption | with_reducible apply Keeps.ite | with_reducible apply KeepsR.ite | with_reducible apply keeps_State_endReq | with_reducible apply keeps_State_raise | with_reducible apply keeps_State_onReq | with_reducible apply Keeps.foldl | with_reducible apply Keeps.next | with_reducible apply Keeps.fault | with_reducible apply Keeps.ite | with_reducible apply KeepsR.ite | split | with_reducible apply Keeps.built

theorem keeps_execStreamLost {z : State} : ∀ a0 a1 s, Keeps z s → KeepsR z (execStreamLost a0 a1 s) := by
  intro a0 a1 s h
  unfold execStreamLost
  try dsimp only
  repeat' first | with_reducible intro _ | with_reducible assumption | with_reducible apply Keeps.ite | with_reducible apply KeepsR.ite | with_reducible apply keeps_onPid | with_reducible apply keeps_State_streamLost | with_reducible apply Keeps.foldl | with_reducible apply Keeps.next | with_reducible apply Keeps.fault | with_reducible apply Keeps.ite | with_reducible apply KeepsR.ite | split | with_reducible apply Keeps.built

theorem keeps_State_takeRequest {z : State} : ∀ s a1 a2, Keeps z s → Keeps z (State.takeRequest s a1 a2).1 := by
  intro s a1 a2 h
  unfold State.takeRequest
  try dsimp only
  repeat' first | with_reducible intro _ | with_reducible assumption | with_reducible apply Keeps.ite | with_reducible apply KeepsR.ite | with_reducible apply keeps_State_onGen | with_reducible apply keeps_State_bump | with_reducible apply keeps_State_streamPut | with_reducible apply Keeps.foldl | with_reducible apply Keeps.next | with_reducible apply Keeps.fault | with_reducible apply Keeps.ite | with_reducible apply KeepsR.ite | split | with_reducible apply Keeps.built


theorem keeps_State_takeRequest_eq {z : State} : ∀ s a1 a2 x t, (State.takeRequest s a1 a2) = (x, t) → Keeps z s → Keeps z x := by
  intro s a1 a2 x t e h
  have := keeps_State_takeRequest s a1 a2 h
  rw [e] at this
  exact this

theorem keeps_State_takeCancel {z : State} : ∀ s a1 a2, Keeps z s → Keeps z (State.takeCancel s a1 a2).1 := by
  intro s a1 a2 h
  unfold State.takeCancel
  try dsimp only
  repeat' first | with_reducible intro _ | with_reducible assumption | with_reducible apply Keeps.ite | with_reducible apply KeepsR.ite | with_reducible apply keeps_State_endReq | with_reducible apply Keeps.foldl | with_reducible apply Keeps.next | with_reducible apply Keeps.fault | with_reducible apply Keeps.ite | with_reducible apply KeepsR.ite | split | with_reducible apply Keeps.built


theorem keeps_State_takeCancel_eq {z : State} : ∀ s a1 a2 x t, (State.takeCancel s a1 a2) = (x, t) → Keeps z s → Keeps z x := by
  intro s a1 a2 x t e h
  have := keeps_State_takeCancel s a1 a2 h
  rw [e] at this
  exact this

theorem keeps_State_takePrefixCreate {z : State} : ∀ s a1 a2 a3 a4 a5, Keeps z s → Keeps z (State.takePrefixCreate s a1 a2 a3 a4 a5).1 := by
  intro s a1 a2 a3 a4 a5 h
  unfold State.takePrefixCreate
  try dsimp only
  repeat' first | with_reducible intro _ | with_reducible assumption | with_reducible apply Keeps.ite | with_reducible apply KeepsR.ite | with_reducible apply keeps_State_kvDo | with_reducible apply Keeps.foldl | with_reducible apply Keeps.next | with_reducible apply Keeps.fault | with_reducible apply Keeps.ite | with_reducible apply KeepsR.ite | split | with_reducible apply Keeps.built


theorem keeps_State_takePrefixCreate_eq {z : State} : ∀ s a1 a2 a3 a4 a5 x t, (State.takePrefixCreate s a1 a2 a3 a4 a5) = (x, t) → Keeps z s → Keeps z x := by
  intro s a1 a2 a3 a4 a5 x t e h
  have := keeps_State_takePrefixCreate s a1 a2 a3 a4 a5 h
  rw [e] at this
  exact this

theorem keeps_State_takePrefixRelease {z : State} : ∀ s a1 a2 a3, Keeps z s → Keeps z (State.takePrefixRelease s a1 a2 a3).1 := by
  intro s a1 a2 a3 h
  unfold State.takePrefixRelease
  try dsimp only
  repeat' first | with_reducible intro _ | with_reducible assumption | with_reducible apply Keeps.ite | with_reducible apply KeepsR.ite | with_reducible apply keeps_State_kvDo | with_reducible apply Keeps.foldl | with_reducible apply Keeps.next | with_reducible apply Keeps.fault | with_reducible apply Keeps.ite | with_reducible apply KeepsR.ite | split | with_reducible apply Keeps.built


theorem keeps_State_takePrefixRelease_eq {z : State} : ∀ s a1 a2 a3 x t, (State.takePrefixRelease s a1 a2 a3) = (x, t) → Keeps z s → Keeps z x := by
  intro s a1 a2 a3 x t e h
  have := keeps_State_takePrefixRelease s a1 a2 a3 h
  rw [e] at this
  exact this

theorem keeps_State_takeCommand {z : State} : ∀ s p c o g run, Keeps z s → (∀ t, Keeps z t → Keeps z (run t).1) →
    Keeps z (State.takeCommand s p c o g run) := by
  intro s p c o g run h hr
  unfold State.takeCommand
  dsimp only
  repeat' first | with_reducible intro _ | with_reducible assumption | with_reducible apply keeps_State_complete | with_reducible apply keeps_State_raise | with_reducible apply keeps_State_set | with_reducible apply keeps_State_onSched | with_reducible apply keeps_State_cqReserve | with_reducible apply hr | with_reducible apply Keeps.ite | split

theorem keeps_execRequest {z : State} : ∀ a0 a1 a2 s, Keeps z s → KeepsR z (execRequest a0 a1 a2 s) := by
  intro a0 a1 a2 s h
  unfold execRequest
  try dsimp only
  repeat' first | with_reducible intro _ | with_reducible assumption | with_reducible apply Keeps.ite | with_reducible apply KeepsR.ite | with_reducible apply keeps_onPid | with_reducible apply keeps_State_takeCommand | with_reducible apply keeps_State_takeRequest | (with_reducible apply keeps_State_takeRequest_eq; with_reducible assumption) | with_reducible apply Keeps.foldl | with_reducible apply Keeps.next | with_reducible apply Keeps.fault | with_reducible apply Keeps.ite | with_reducible apply KeepsR.ite | split | with_reducible apply Keeps.built

theorem keeps_execCancel {z : State} : ∀ a0 a1 a2 s, Keeps z s → KeepsR z (execCancel a0 a1 a2 s) := by
  intro a0 a1 a2 s h
  unfold execCancel
  try dsimp only
  repeat' first | with_reducible intro _ | with_reducible assumption | with_reducible apply Keeps.ite | with_reducible apply KeepsR.ite | with_reducible apply keeps_onPid | with_reducible apply keeps_State_takeCommand | with_reducible apply keeps_State_takeCancel | (with_reducible apply keeps_State_takeCancel_eq; with_reducible assumption) | with_reducible apply Keeps.foldl | with_reducible apply Keeps.next | with_reducible apply Keeps.fault | with_reducible apply Keeps.ite | with_reducible apply KeepsR.ite | split | with_reducible apply Keeps.built

theorem keeps_execPrefixCreate {z : State} : ∀ a0 a1 a2 a3 a4 a5 s, Keeps z s → KeepsR z (execPrefixCreate a0 a1 a2 a3 a4 a5 s) := by
  intro a0 a1 a2 a3 a4 a5 s h
  unfold execPrefixCreate
  try dsimp only
  repeat' first | with_reducible intro _ | with_reducible assumption | with_reducible apply Keeps.ite | with_reducible apply KeepsR.ite | with_reducible apply keeps_onPid | with_reducible apply keeps_State_takeCommand | with_reducible apply keeps_State_takePrefixCreate | (with_reducible apply keeps_State_takePrefixCreate_eq; with_reducible assumption) | with_reducible apply Keeps.foldl | with_reducible apply Keeps.next | with_reducible apply Keeps.fault | with_reducible apply Keeps.ite | with_reducible apply KeepsR.ite | split | with_reducible apply Keeps.built

theorem keeps_execPrefixRelease {z : State} : ∀ a0 a1 a2 a3 s, Keeps z s → KeepsR z (execPrefixRelease a0 a1 a2 a3 s) := by
  intro a0 a1 a2 a3 s h
  unfold execPrefixRelease
  try dsimp only
  repeat' first | with_reducible intro _ | with_reducible assumption | with_reducible apply Keeps.ite | with_reducible apply KeepsR.ite | with_reducible apply keeps_onPid | with_reducible apply keeps_State_takeCommand | with_reducible apply keeps_State_takePrefixRelease | (with_reducible apply keeps_State_takePrefixRelease_eq; with_reducible assumption) | with_reducible apply Keeps.foldl | with_reducible apply Keeps.next | with_reducible apply Keeps.fault | with_reducible apply Keeps.ite | with_reducible apply KeepsR.ite | split | with_reducible apply Keeps.built

theorem keeps_execNop {z : State} : ∀ a0 a1 s, Keeps z s → KeepsR z (execNop a0 a1 s) := by
  intro a0 a1 s h
  unfold execNop
  try dsimp only
  repeat' first | with_reducible intro _ | with_reducible assumption | with_reducible apply Keeps.ite | with_reducible apply KeepsR.ite | with_reducible apply keeps_onPid | with_reducible apply keeps_State_takeCommand | with_reducible apply Keeps.foldl | with_reducible apply Keeps.next | with_reducible apply Keeps.fault | with_reducible apply Keeps.ite | with_reducible apply KeepsR.ite | split | with_reducible apply Keeps.built

theorem keeps_State_takePlan {z : State} : ∀ s a1 a2, Keeps z s → Keeps z (State.takePlan s a1 a2).1 := by
  intro s a1 a2 h
  unfold State.takePlan
  try dsimp only
  repeat' first | with_reducible intro _ | with_reducible assumption | with_reducible apply Keeps.ite | with_reducible apply KeepsR.ite | with_reducible apply keeps_State_onPart | with_reducible apply Keeps.foldl | with_reducible apply Keeps.next | with_reducible apply Keeps.fault | with_reducible apply Keeps.ite | with_reducible apply KeepsR.ite | split | with_reducible apply Keeps.built


theorem keeps_State_takePlan_eq {z : State} : ∀ s a1 a2 x t, (State.takePlan s a1 a2) = (x, t) → Keeps z s → Keeps z x := by
  intro s a1 a2 x t e h
  have := keeps_State_takePlan s a1 a2 h
  rw [e] at this
  exact this

theorem keeps_execPlan {z : State} : ∀ a0 a1 a2 s, Keeps z s → KeepsR z (execPlan a0 a1 a2 s) := by
  intro a0 a1 a2 s h
  unfold execPlan
  try dsimp only
  repeat' first | with_reducible intro _ | with_reducible assumption | with_reducible apply Keeps.ite | with_reducible apply KeepsR.ite | with_reducible apply keeps_onPid | with_reducible apply keeps_State_takeCommand | with_reducible apply keeps_State_takePlan | (with_reducible apply keeps_State_takePlan_eq; with_reducible assumption) | with_reducible apply Keeps.foldl | with_reducible apply Keeps.next | with_reducible apply Keeps.fault | with_reducible apply Keeps.ite | with_reducible apply KeepsR.ite | split | with_reducible apply Keeps.built

theorem keeps_State_dropEntry {z : State} : ∀ s a1 a2, Keeps z s → Keeps z (State.dropEntry s a1 a2) := by
  intro s a1 a2 h
  unfold State.dropEntry
  try dsimp only
  repeat' first | with_reducible intro _ | with_reducible assumption | with_reducible apply Keeps.ite | with_reducible apply KeepsR.ite | with_reducible apply keeps_State_wakeUp | with_reducible apply keeps_State_onPart | with_reducible apply Keeps.foldl | with_reducible apply Keeps.next | with_reducible apply Keeps.fault | with_reducible apply Keeps.ite | with_reducible apply KeepsR.ite | split | with_reducible apply Keeps.built

theorem keeps_State_entryFailed {z : State} : ∀ s a1 a2 a3, Keeps z s → Keeps z (State.entryFailed s a1 a2 a3) := by
  intro s a1 a2 a3 h
  unfold State.entryFailed
  try dsimp only
  repeat' first | with_reducible intro _ | with_reducible assumption | with_reducible apply Keeps.ite | with_reducible apply KeepsR.ite | with_reducible apply keeps_State_raise | with_reducible apply Keeps.foldl | with_reducible apply Keeps.next | with_reducible apply Keeps.fault | with_reducible apply Keeps.ite | with_reducible apply KeepsR.ite | split | with_reducible apply Keeps.built

theorem keeps_State_swapEntry {z : State} : ∀ s a1 a2, Keeps z s → Keeps z (State.swapEntry s a1 a2) := by
  intro s a1 a2 h
  unfold State.swapEntry
  try dsimp only
  repeat' first | with_reducible intro _ | with_reducible assumption | with_reducible apply Keeps.ite | with_reducible apply KeepsR.ite | with_reducible apply keeps_State_dropEntry | with_reducible apply keeps_State_addSwap | with_reducible apply keeps_State_entryFailed | with_reducible apply Keeps.foldl | with_reducible apply Keeps.next | with_reducible apply Keeps.fault | with_reducible apply Keeps.ite | with_reducible apply KeepsR.ite | split | with_reducible apply Keeps.built

theorem keeps_State_pauseForLearn {z : State} : ∀ s a1, Keeps z s → Keeps z (State.pauseForLearn s a1) := by
  intro s a1 h
  unfold State.pauseForLearn
  try dsimp only
  repeat' first | with_reducible intro _ | with_reducible assumption | with_reducible apply Keeps.ite | with_reducible apply KeepsR.ite | with_reducible apply keeps_State_onGen | with_reducible apply Keeps.foldl | with_reducible apply Keeps.next | with_reducible apply Keeps.fault | with_reducible apply Keeps.ite | with_reducible apply KeepsR.ite | split | with_reducible apply Keeps.built

theorem keeps_State_learnEntry {z : State} : ∀ s a1 a2, Keeps z s → Keeps z (State.learnEntry s a1 a2) := by
  intro s a1 a2 h
  unfold State.learnEntry
  try dsimp only
  repeat' first | with_reducible intro _ | with_reducible assumption | with_reducible apply Keeps.ite | with_reducible apply KeepsR.ite | with_reducible apply keeps_State_dropEntry | with_reducible apply keeps_State_pauseForLearn | with_reducible apply keeps_State_onSched | with_reducible apply Keeps.foldl | with_reducible apply Keeps.next | with_reducible apply Keeps.fault | with_reducible apply Keeps.ite | with_reducible apply KeepsR.ite | split | with_reducible apply Keeps.built

theorem keeps_execRoleLearn {z : State} : ∀ a0 s, Keeps z s → KeepsR z (execRoleLearn a0 s) := by
  intro a0 s h
  unfold execRoleLearn
  try dsimp only
  repeat' first | with_reducible intro _ | with_reducible assumption | with_reducible apply Keeps.ite | with_reducible apply KeepsR.ite | with_reducible apply keeps_onPid | with_reducible apply keeps_State_learnEntry | with_reducible apply Keeps.foldl | with_reducible apply Keeps.next | with_reducible apply Keeps.fault | with_reducible apply Keeps.ite | with_reducible apply KeepsR.ite | split | with_reducible apply Keeps.built

theorem keeps_State_takeDue {z : State} : ∀ s p n, Keeps z s → Keeps z (State.takeDue s p n) := by
  intro s p n
  induction n generalizing s with
  | zero =>
    intro h
    unfold State.takeDue
    repeat' first | with_reducible intro _ | with_reducible assumption | with_reducible apply keeps_State_swapEntry | with_reducible apply keeps_State_dropEntry | with_reducible apply keeps_State_learnEntry | with_reducible apply Keeps.foldl | with_reducible apply Keeps.next | with_reducible apply Keeps.fault | with_reducible apply Keeps.ite | with_reducible apply KeepsR.ite | split | with_reducible apply Keeps.built
  | succ n ih =>
    intro h
    unfold State.takeDue
    try dsimp only
    repeat' first | with_reducible intro _ | with_reducible assumption | with_reducible apply ih | with_reducible apply keeps_State_swapEntry | with_reducible apply keeps_State_dropEntry | with_reducible apply keeps_State_learnEntry | with_reducible apply Keeps.foldl | with_reducible apply Keeps.next | with_reducible apply Keeps.fault | with_reducible apply Keeps.ite | with_reducible apply KeepsR.ite | split | with_reducible apply Keeps.built

theorem keeps_State_setPairing {z : State} : ∀ s a1, Keeps z s → Keeps z (State.setPairing s a1) := by
  intro s a1 h
  unfold State.setPairing
  try dsimp only
  repeat' first | with_reducible intro _ | with_reducible assumption | with_reducible apply Keeps.ite | with_reducible apply KeepsR.ite | with_reducible apply keeps_State_set | with_reducible apply Keeps.foldl | with_reducible apply Keeps.next | with_reducible apply Keeps.fault | with_reducible apply Keeps.ite | with_reducible apply KeepsR.ite | split | with_reducible apply Keeps.built

theorem keeps_State_twinEvent {z : State} : ∀ s a1 a2 a3, Keeps z s → Keeps z (State.twinEvent s a1 a2 a3) := by
  intro s a1 a2 a3 h
  unfold State.twinEvent
  try dsimp only
  repeat' first | with_reducible intro _ | with_reducible assumption | with_reducible apply Keeps.ite | with_reducible apply KeepsR.ite | with_reducible apply keeps_State_raise | with_reducible apply Keeps.foldl | with_reducible apply Keeps.next | with_reducible apply Keeps.fault | with_reducible apply Keeps.ite | with_reducible apply KeepsR.ite | split | with_reducible apply Keeps.built

theorem keeps_State_beat {z : State} : ∀ s a1, Keeps z s → Keeps z (State.beat s a1) := by
  intro s a1 h
  unfold State.beat
  try dsimp only
  repeat' first | with_reducible intro _ | with_reducible assumption | with_reducible apply Keeps.ite | with_reducible apply KeepsR.ite | with_reducible apply keeps_State_emit | with_reducible apply keeps_State_onTwin | with_reducible apply Keeps.foldl | with_reducible apply Keeps.next | with_reducible apply Keeps.fault | with_reducible apply Keeps.ite | with_reducible apply KeepsR.ite | split | with_reducible apply Keeps.built

theorem keeps_State_liveness {z : State} : ∀ s a1, Keeps z s → Keeps z (State.liveness s a1) := by
  intro s a1 h
  unfold State.liveness
  try dsimp only
  repeat' first | with_reducible intro _ | with_reducible assumption | with_reducible apply Keeps.ite | with_reducible apply KeepsR.ite | with_reducible apply keeps_State_onTwin | with_reducible apply Keeps.foldl | with_reducible apply Keeps.next | with_reducible apply Keeps.fault | with_reducible apply Keeps.ite | with_reducible apply KeepsR.ite | split | with_reducible apply Keeps.built

theorem keeps_execHeartbeatSend {z : State} : ∀ a0 s, Keeps z s → KeepsR z (execHeartbeatSend a0 s) := by
  intro a0 s h
  unfold execHeartbeatSend
  try dsimp only
  repeat' first | with_reducible intro _ | with_reducible assumption | with_reducible apply Keeps.ite | with_reducible apply KeepsR.ite | with_reducible apply keeps_State_liveness | with_reducible apply keeps_State_beat | with_reducible apply Keeps.foldl | with_reducible apply Keeps.next | with_reducible apply Keeps.fault | with_reducible apply Keeps.ite | with_reducible apply KeepsR.ite | split | with_reducible apply Keeps.built

theorem keeps_execPair {z : State} : ∀ a0 s, Keeps z s → KeepsR z (execPair a0 s) := by
  intro a0 s h
  unfold execPair
  try dsimp only
  repeat' first | with_reducible intro _ | with_reducible assumption | with_reducible apply Keeps.ite | with_reducible apply KeepsR.ite | with_reducible apply keeps_State_guard | with_reducible apply keeps_State_setPairing | with_reducible apply Keeps.foldl | with_reducible apply Keeps.next | with_reducible apply Keeps.fault | with_reducible apply Keeps.ite | with_reducible apply KeepsR.ite | split | with_reducible apply Keeps.built

theorem keeps_State_ckptFails {z : State} : ∀ s a1 a2 a3, Keeps z s → Keeps z (State.ckptFails s a1 a2 a3) := by
  intro s a1 a2 a3 h
  unfold State.ckptFails
  try dsimp only
  repeat' first | with_reducible intro _ | with_reducible assumption | with_reducible apply Keeps.ite | with_reducible apply KeepsR.ite | with_reducible apply keeps_State_set | with_reducible apply keeps_State_onCkpt | with_reducible apply keeps_State_raise | with_reducible apply keeps_State_bump | with_reducible apply Keeps.foldl | with_reducible apply Keeps.next | with_reducible apply Keeps.fault | with_reducible apply Keeps.ite | with_reducible apply KeepsR.ite | split | with_reducible apply Keeps.built

theorem keeps_State_jobFails {z : State} : ∀ s a1 a2, Keeps z s → Keeps z (State.jobFails s a1 a2) := by
  intro s a1 a2 h
  unfold State.jobFails
  try dsimp only
  repeat' first | with_reducible intro _ | with_reducible assumption | with_reducible apply Keeps.ite | with_reducible apply KeepsR.ite | with_reducible apply keeps_State_ckptFails | with_reducible apply Keeps.foldl | with_reducible apply Keeps.next | with_reducible apply Keeps.fault | with_reducible apply Keeps.ite | with_reducible apply KeepsR.ite | split | with_reducible apply Keeps.built

theorem keeps_State_ckptTrigger {z : State} : ∀ s a1 a2, Keeps z s → Keeps z (State.ckptTrigger s a1 a2) := by
  intro s a1 a2 h
  unfold State.ckptTrigger
  try dsimp only
  repeat' first | with_reducible intro _ | with_reducible assumption | with_reducible apply Keeps.ite | with_reducible apply KeepsR.ite | with_reducible apply keeps_State_raise | with_reducible apply keeps_State_bump | with_reducible apply keeps_State_ckptFails | with_reducible apply keeps_State_emit | with_reducible apply keeps_State_set | with_reducible apply keeps_State_onCkpt | with_reducible apply Keeps.foldl | with_reducible apply Keeps.next | with_reducible apply Keeps.fault | with_reducible apply Keeps.ite | with_reducible apply KeepsR.ite | split | with_reducible apply Keeps.built

theorem keeps_State_ckptStart {z : State} : ∀ s a1, Keeps z s → Keeps z (State.ckptStart s a1) := by
  intro s a1 h
  unfold State.ckptStart
  try dsimp only
  repeat' first | with_reducible intro _ | with_reducible assumption | with_reducible apply Keeps.ite | with_reducible apply KeepsR.ite | with_reducible apply keeps_State_emit | with_reducible apply keeps_State_onCkpt | with_reducible apply Keeps.foldl | with_reducible apply Keeps.next | with_reducible apply Keeps.fault | with_reducible apply Keeps.ite | with_reducible apply KeepsR.ite | split | with_reducible apply Keeps.built

theorem keeps_State_commitTriggers {z : State} : ∀ s a1 a2, Keeps z s → Keeps z (State.commitTriggers s a1 a2) := by
  intro s a1 a2 h
  unfold State.commitTriggers
  try dsimp only
  repeat' first | with_reducible intro _ | with_reducible assumption | with_reducible apply Keeps.ite | with_reducible apply KeepsR.ite | with_reducible apply keeps_State_ckptTrigger | with_reducible apply Keeps.foldl | with_reducible apply Keeps.next | with_reducible apply Keeps.fault | with_reducible apply Keeps.ite | with_reducible apply KeepsR.ite | split | with_reducible apply Keeps.built

theorem keeps_State_clearedAck {z : State} : ∀ s a1 a2, Keeps z s → Keeps z (State.clearedAck s a1 a2) := by
  intro s a1 a2 h
  unfold State.clearedAck
  try dsimp only
  repeat' first | with_reducible intro _ | with_reducible assumption | with_reducible apply Keeps.ite | with_reducible apply KeepsR.ite | with_reducible apply keeps_State_jobFails | with_reducible apply keeps_State_emit | with_reducible apply keeps_State_bump | with_reducible apply keeps_State_onCkpt | with_reducible apply Keeps.foldl | with_reducible apply Keeps.next | with_reducible apply Keeps.fault | with_reducible apply Keeps.ite | with_reducible apply KeepsR.ite | split | with_reducible apply Keeps.built

theorem keeps_State_dataAck {z : State} : ∀ s a1, Keeps z s → Keeps z (State.dataAck s a1) := by
  intro s a1 h
  unfold State.dataAck
  try dsimp only
  repeat' first | with_reducible intro _ | with_reducible assumption | with_reducible apply Keeps.ite | with_reducible apply KeepsR.ite | with_reducible apply keeps_State_emit | with_reducible apply keeps_State_bump | with_reducible apply keeps_State_onCkpt | with_reducible apply keeps_State_jobFails | with_reducible apply Keeps.foldl | with_reducible apply Keeps.next | with_reducible apply Keeps.fault | with_reducible apply Keeps.ite | with_reducible apply KeepsR.ite | split | with_reducible apply Keeps.built

theorem keeps_State_manifestAck {z : State} : ∀ s a1 a2, Keeps z s → Keeps z (State.manifestAck s a1 a2) := by
  intro s a1 a2 h
  unfold State.manifestAck
  try dsimp only
  repeat' first | with_reducible intro _ | with_reducible assumption | with_reducible apply Keeps.ite | with_reducible apply KeepsR.ite | with_reducible apply keeps_State_jobFails | with_reducible apply keeps_State_bump | with_reducible apply keeps_State_set | with_reducible apply keeps_State_onCkpt | with_reducible apply keeps_State_raise | with_reducible apply Keeps.foldl | with_reducible apply Keeps.next | with_reducible apply Keeps.fault | with_reducible apply Keeps.ite | with_reducible apply KeepsR.ite | split | with_reducible apply Keeps.built

theorem keeps_State_storeClear {z : State} : ∀ s a1 a2 a3, Keeps z s → Keeps z (State.storeClear s a1 a2 a3) := by
  intro s a1 a2 a3 h
  unfold State.storeClear
  try dsimp only
  repeat' first | with_reducible intro _ | with_reducible assumption | with_reducible apply Keeps.ite | with_reducible apply KeepsR.ite | with_reducible apply keeps_State_emit | with_reducible apply keeps_State_onTwin | with_reducible apply keeps_State_zeroRange | with_reducible apply Keeps.foldl | with_reducible apply Keeps.next | with_reducible apply Keeps.fault | with_reducible apply Keeps.ite | with_reducible apply KeepsR.ite | split | with_reducible apply Keeps.built

theorem keeps_State_storeData {z : State} : ∀ s a1 a2 a3 a4, Keeps z s → Keeps z (State.storeData s a1 a2 a3 a4) := by
  intro s a1 a2 a3 a4 h
  unfold State.storeData
  try dsimp only
  repeat' first | with_reducible intro _ | with_reducible assumption | with_reducible apply Keeps.ite | with_reducible apply KeepsR.ite | with_reducible apply keeps_State_emit | with_reducible apply keeps_State_onTwin | with_reducible apply keeps_State_writeBytes | with_reducible apply Keeps.foldl | with_reducible apply Keeps.next | with_reducible apply Keeps.fault | with_reducible apply Keeps.ite | with_reducible apply KeepsR.ite | split | with_reducible apply Keeps.built

theorem keeps_State_storeManifest {z : State} : ∀ s a1 a2 a3, Keeps z s → Keeps z (State.storeManifest s a1 a2 a3) := by
  intro s a1 a2 a3 h
  unfold State.storeManifest
  try dsimp only
  repeat' first | with_reducible intro _ | with_reducible assumption | with_reducible apply Keeps.ite | with_reducible apply KeepsR.ite | with_reducible apply keeps_State_writeBytes | with_reducible apply keeps_State_emit | with_reducible apply keeps_State_onTwin | with_reducible apply Keeps.foldl | with_reducible apply Keeps.next | with_reducible apply Keeps.fault | with_reducible apply Keeps.ite | with_reducible apply KeepsR.ite | split | with_reducible apply Keeps.built

theorem keeps_State_storeScan {z : State} : ∀ s a1 a2 a3, Keeps z s → Keeps z (State.storeScan s a1 a2 a3) := by
  intro s a1 a2 a3 h
  unfold State.storeScan
  try dsimp only
  repeat' first | with_reducible intro _ | with_reducible assumption | with_reducible apply Keeps.ite | with_reducible apply KeepsR.ite | with_reducible apply keeps_State_emit | with_reducible apply Keeps.foldl | with_reducible apply Keeps.next | with_reducible apply Keeps.fault | with_reducible apply Keeps.ite | with_reducible apply KeepsR.ite | split | with_reducible apply Keeps.built

theorem keeps_State_storePull {z : State} : ∀ s a1 a2 a3, Keeps z s → Keeps z (State.storePull s a1 a2 a3) := by
  intro s a1 a2 a3 h
  unfold State.storePull
  try dsimp only
  repeat' first | with_reducible intro _ | with_reducible assumption | with_reducible apply Keeps.ite | with_reducible apply KeepsR.ite | with_reducible apply keeps_State_emit | with_reducible apply Keeps.foldl | with_reducible apply Keeps.next | with_reducible apply Keeps.fault | with_reducible apply Keeps.ite | with_reducible apply KeepsR.ite | split | with_reducible apply Keeps.built

theorem keeps_State_restoreEnds {z : State} : ∀ s a1 a2, Keeps z s → Keeps z (State.restoreEnds s a1 a2) := by
  intro s a1 a2 h
  unfold State.restoreEnds
  try dsimp only
  repeat' first | with_reducible intro _ | with_reducible assumption | with_reducible apply Keeps.ite | with_reducible apply KeepsR.ite | with_reducible apply keeps_State_set | with_reducible apply keeps_State_onCkpt | with_reducible apply Keeps.foldl | with_reducible apply Keeps.next | with_reducible apply Keeps.fault | with_reducible apply Keeps.ite | with_reducible apply KeepsR.ite | split | with_reducible apply Keeps.built

theorem keeps_State_scanned {z : State} : ∀ s a1 a2 a3, Keeps z s → Keeps z (State.scanned s a1 a2 a3) := by
  intro s a1 a2 a3 h
  unfold State.scanned
  try dsimp only
  repeat' first | with_reducible intro _ | with_reducible assumption | with_reducible apply Keeps.ite | with_reducible apply KeepsR.ite | with_reducible apply keeps_State_hareEnter | with_reducible apply keeps_State_set | with_reducible apply keeps_State_onCkpt | with_reducible apply Keeps.foldl | with_reducible apply Keeps.next | with_reducible apply Keeps.fault | with_reducible apply Keeps.ite | with_reducible apply KeepsR.ite | split | with_reducible apply Keeps.built

theorem keeps_State_scanNone {z : State} : ∀ s a1, Keeps z s → Keeps z (State.scanNone s a1) := by
  intro s a1 h
  unfold State.scanNone
  try dsimp only
  repeat' first | with_reducible intro _ | with_reducible assumption | with_reducible apply Keeps.ite | with_reducible apply KeepsR.ite | with_reducible apply keeps_State_scanned | with_reducible apply Keeps.foldl | with_reducible apply Keeps.next | with_reducible apply Keeps.fault | with_reducible apply Keeps.ite | with_reducible apply KeepsR.ite | split | with_reducible apply Keeps.built

theorem keeps_State_restoreStart {z : State} : ∀ s a1, Keeps z s → Keeps z (State.restoreStart s a1) := by
  intro s a1 h
  unfold State.restoreStart
  try dsimp only
  repeat' first | with_reducible intro _ | with_reducible assumption | with_reducible apply Keeps.ite | with_reducible apply KeepsR.ite | with_reducible apply keeps_State_regFault | with_reducible apply keeps_State_set | with_reducible apply keeps_State_emit | with_reducible apply keeps_State_scanNone | with_reducible apply Keeps.foldl | with_reducible apply Keeps.next | with_reducible apply Keeps.fault | with_reducible apply Keeps.ite | with_reducible apply KeepsR.ite | split | with_reducible apply Keeps.built

theorem keeps_execCkptRestore {z : State} : ∀ a0 a1 s, Keeps z s → KeepsR z (execCkptRestore a0 a1 s) := by
  intro a0 a1 s h
  unfold execCkptRestore
  try dsimp only
  repeat' first | with_reducible intro _ | with_reducible assumption | with_reducible apply Keeps.ite | with_reducible apply KeepsR.ite | with_reducible apply keeps_onPid | with_reducible apply keeps_State_guard | with_reducible apply keeps_State_restoreStart | with_reducible apply Keeps.foldl | with_reducible apply Keeps.next | with_reducible apply Keeps.fault | with_reducible apply Keeps.ite | with_reducible apply KeepsR.ite | split | with_reducible apply Keeps.built

theorem keeps_State_restoreAgreed {z : State} : ∀ s a1 a2, Keeps z s → Keeps z (State.restoreAgreed s a1 a2) := by
  intro s a1 a2 h
  unfold State.restoreAgreed
  try dsimp only
  repeat' first | with_reducible intro _ | with_reducible assumption | with_reducible apply Keeps.ite | with_reducible apply KeepsR.ite | with_reducible apply keeps_State_restoreEnds | with_reducible apply keeps_State_emit | with_reducible apply keeps_State_set | with_reducible apply keeps_State_onCkpt | with_reducible apply keeps_State_onWslot | with_reducible apply keeps_State_setBuf | with_reducible apply Keeps.foldl | with_reducible apply Keeps.next | with_reducible apply Keeps.fault | with_reducible apply Keeps.ite | with_reducible apply KeepsR.ite | split | with_reducible apply Keeps.built

theorem keeps_execRestoreAgreement {z : State} : ∀ a0 a1 s, Keeps z s → KeepsR z (execRestoreAgreement a0 a1 s) := by
  intro a0 a1 s h
  unfold execRestoreAgreement
  try dsimp only
  repeat' first | with_reducible intro _ | with_reducible assumption | with_reducible apply Keeps.ite | with_reducible apply KeepsR.ite | with_reducible apply keeps_onPid | with_reducible apply keeps_State_restoreAgreed | with_reducible apply keeps_State_hareTaken | with_reducible apply Keeps.foldl | with_reducible apply Keeps.next | with_reducible apply Keeps.fault | with_reducible apply Keeps.ite | with_reducible apply KeepsR.ite | split | with_reducible apply Keeps.built

theorem keeps_execRestoreAgreeTimeout {z : State} : ∀ a0 s, Keeps z s → KeepsR z (execRestoreAgreeTimeout a0 s) := by
  intro a0 s h
  unfold execRestoreAgreeTimeout
  try dsimp only
  repeat' first | with_reducible intro _ | with_reducible assumption | with_reducible apply Keeps.ite | with_reducible apply KeepsR.ite | with_reducible apply keeps_onPid | with_reducible apply keeps_State_restoreEnds | with_reducible apply keeps_State_hareTaken | with_reducible apply Keeps.foldl | with_reducible apply Keeps.next | with_reducible apply Keeps.fault | with_reducible apply Keeps.ite | with_reducible apply KeepsR.ite | split | with_reducible apply Keeps.built

theorem keeps_State_restoreSeeds {z : State} : ∀ s a1 a2, Keeps z s → Keeps z (State.restoreSeeds s a1 a2) := by
  intro s a1 a2 h
  unfold State.restoreSeeds
  try dsimp only
  repeat' first | with_reducible intro _ | with_reducible assumption | with_reducible apply Keeps.ite | with_reducible apply KeepsR.ite | with_reducible apply keeps_State_set | with_reducible apply Keeps.foldl | with_reducible apply Keeps.next | with_reducible apply Keeps.fault | with_reducible apply Keeps.ite | with_reducible apply KeepsR.ite | split | with_reducible apply Keeps.built

theorem keeps_State_restorePulled {z : State} : ∀ s a1 a2, Keeps z s → Keeps z (State.restorePulled s a1 a2) := by
  intro s a1 a2 h
  unfold State.restorePulled
  try dsimp only
  repeat' first | with_reducible intro _ | with_reducible assumption | with_reducible apply Keeps.ite | with_reducible apply KeepsR.ite | with_reducible apply keeps_State_restoreEnds | with_reducible apply keeps_State_restoreSeeds | with_reducible apply keeps_State_writeBytes | with_reducible apply keeps_State_set | with_reducible apply keeps_State_setBuf | with_reducible apply keeps_State_onCkpt | with_reducible apply keeps_State_onRed | with_reducible apply Keeps.foldl | with_reducible apply Keeps.next | with_reducible apply Keeps.fault | with_reducible apply Keeps.ite | with_reducible apply KeepsR.ite | split | with_reducible apply Keeps.built

theorem keeps_execRestorePullDone {z : State} : ∀ a0 a1 s, Keeps z s → KeepsR z (execRestorePullDone a0 a1 s) := by
  intro a0 a1 s h
  unfold execRestorePullDone
  try dsimp only
  repeat' first | with_reducible intro _ | with_reducible assumption | with_reducible apply Keeps.ite | with_reducible apply KeepsR.ite | with_reducible apply keeps_onPid | with_reducible apply keeps_State_restorePulled | with_reducible apply Keeps.foldl | with_reducible apply Keeps.next | with_reducible apply Keeps.fault | with_reducible apply Keeps.ite | with_reducible apply KeepsR.ite | split | with_reducible apply Keeps.built

theorem keeps_State_ckptMsg {z : State} : ∀ s a1, Keeps z s → Keeps z (State.ckptMsg s a1) := by
  intro s a1 h
  unfold State.ckptMsg
  try dsimp only
  repeat' first | with_reducible intro _ | with_reducible assumption | with_reducible apply Keeps.ite | with_reducible apply KeepsR.ite | with_reducible apply keeps_State_storeClear | with_reducible apply keeps_State_storeData | with_reducible apply keeps_State_storeScan | with_reducible apply keeps_State_storePull | with_reducible apply keeps_State_clearedAck | with_reducible apply keeps_State_dataAck | with_reducible apply keeps_State_scanned | with_reducible apply Keeps.foldl | with_reducible apply Keeps.next | with_reducible apply Keeps.fault | with_reducible apply Keeps.ite | with_reducible apply KeepsR.ite | split | with_reducible apply Keeps.built

theorem keeps_execCkptDataReceive {z : State} : ∀ a0 s, Keeps z s → KeepsR z (execCkptDataReceive a0 s) := by
  intro a0 s h
  unfold execCkptDataReceive
  try dsimp only
  repeat' first | with_reducible intro _ | with_reducible assumption | with_reducible apply Keeps.ite | with_reducible apply KeepsR.ite | with_reducible apply keeps_State_ckptMsg | with_reducible apply Keeps.foldl | with_reducible apply Keeps.next | with_reducible apply Keeps.fault | with_reducible apply Keeps.ite | with_reducible apply KeepsR.ite | split | with_reducible apply Keeps.built

theorem keeps_execCkptManifest {z : State} : ∀ a0 s, Keeps z s → KeepsR z (execCkptManifest a0 s) := by
  intro a0 s h
  unfold execCkptManifest
  try dsimp only
  repeat' first | with_reducible intro _ | with_reducible assumption | with_reducible apply Keeps.ite | with_reducible apply KeepsR.ite | with_reducible apply keeps_State_storeManifest | with_reducible apply keeps_State_manifestAck | with_reducible apply Keeps.foldl | with_reducible apply Keeps.next | with_reducible apply Keeps.fault | with_reducible apply Keeps.ite | with_reducible apply KeepsR.ite | split | with_reducible apply Keeps.built

theorem keeps_State_twinLost {z : State} : ∀ s, Keeps z s → Keeps z (State.twinLost s) := by
  intro s h
  unfold State.twinLost
  try dsimp only
  repeat' first | with_reducible intro _ | with_reducible assumption | with_reducible apply Keeps.ite | with_reducible apply KeepsR.ite | with_reducible apply keeps_State_twinEvent | with_reducible apply keeps_State_onTwin | with_reducible apply keeps_State_setPairing | with_reducible apply keeps_State_jobFails | with_reducible apply keeps_State_scanNone | with_reducible apply Keeps.foldl | with_reducible apply Keeps.next | with_reducible apply Keeps.fault | with_reducible apply Keeps.ite | with_reducible apply KeepsR.ite | split | with_reducible apply Keeps.built

theorem keeps_State_seen {z : State} : ∀ s a1, Keeps z s → Keeps z (State.seen s a1) := by
  intro s a1 h
  unfold State.seen
  try dsimp only
  repeat' first | with_reducible intro _ | with_reducible assumption | with_reducible apply Keeps.ite | with_reducible apply KeepsR.ite | with_reducible apply keeps_State_set | with_reducible apply Keeps.foldl | with_reducible apply Keeps.next | with_reducible apply Keeps.fault | with_reducible apply Keeps.ite | with_reducible apply KeepsR.ite | split | with_reducible apply Keeps.built

theorem keeps_State_holdOver {z : State} : ∀ s, Keeps z s → Keeps z (State.holdOver s) := by
  intro s h
  unfold State.holdOver
  try dsimp only
  repeat' first | with_reducible intro _ | with_reducible assumption | with_reducible apply Keeps.ite | with_reducible apply KeepsR.ite | with_reducible apply keeps_State_ckptStart | with_reducible apply keeps_State_onTwin | with_reducible apply Keeps.foldl | with_reducible apply Keeps.next | with_reducible apply Keeps.fault | with_reducible apply Keeps.ite | with_reducible apply KeepsR.ite | split | with_reducible apply Keeps.built

theorem keeps_State_paired {z : State} : ∀ s a1, Keeps z s → Keeps z (State.paired s a1) := by
  intro s a1 h
  unfold State.paired
  try dsimp only
  repeat' first | with_reducible intro _ | with_reducible assumption | with_reducible apply Keeps.ite | with_reducible apply KeepsR.ite | with_reducible apply keeps_State_twinEvent | with_reducible apply keeps_State_onTwin | with_reducible apply keeps_State_setPairing | with_reducible apply Keeps.foldl | with_reducible apply Keeps.next | with_reducible apply Keeps.fault | with_reducible apply Keeps.ite | with_reducible apply KeepsR.ite | split | with_reducible apply Keeps.built

theorem keeps_State_strangeBeat {z : State} : ∀ s, Keeps z s → Keeps z (State.strangeBeat s) := by
  intro s h
  unfold State.strangeBeat
  try dsimp only
  repeat' first | with_reducible intro _ | with_reducible assumption | with_reducible apply Keeps.ite | with_reducible apply KeepsR.ite | with_reducible apply keeps_State_bump | with_reducible apply Keeps.foldl | with_reducible apply Keeps.next | with_reducible apply Keeps.fault | with_reducible apply Keeps.ite | with_reducible apply KeepsR.ite | split | with_reducible apply Keeps.built

theorem keeps_State_heartbeat {z : State} : ∀ s a1, Keeps z s → Keeps z (State.heartbeat s a1) := by
  intro s a1 h
  unfold State.heartbeat
  try dsimp only
  repeat' first | with_reducible intro _ | with_reducible assumption | with_reducible apply Keeps.ite | with_reducible apply KeepsR.ite | with_reducible apply keeps_State_strangeBeat | with_reducible apply keeps_State_holdOver | with_reducible apply keeps_State_paired | with_reducible apply keeps_State_seen | with_reducible apply keeps_State_twinLost | with_reducible apply keeps_State_onTwin | with_reducible apply keeps_State_twinEvent | with_reducible apply keeps_State_setPairing | with_reducible apply keeps_State_set | with_reducible apply Keeps.foldl | with_reducible apply Keeps.next | with_reducible apply Keeps.fault | with_reducible apply Keeps.ite | with_reducible apply KeepsR.ite | split | with_reducible apply Keeps.built

theorem keeps_execHeartbeatReceive {z : State} : ∀ a0 a1 s, Keeps z s → KeepsR z (execHeartbeatReceive a0 a1 s) := by
  intro a0 a1 s h
  unfold execHeartbeatReceive
  try dsimp only
  repeat' first | with_reducible intro _ | with_reducible assumption | with_reducible apply Keeps.ite | with_reducible apply KeepsR.ite | with_reducible apply keeps_onPort | with_reducible apply keeps_State_heartbeat | with_reducible apply keeps_State_portLost | with_reducible apply Keeps.foldl | with_reducible apply Keeps.next | with_reducible apply Keeps.fault | with_reducible apply Keeps.ite | with_reducible apply KeepsR.ite | split | with_reducible apply Keeps.built

theorem keeps_execHeartbeatMiss {z : State} : ∀ s, Keeps z s → KeepsR z (execHeartbeatMiss s) := by
  intro s h
  unfold execHeartbeatMiss
  try dsimp only
  repeat' first | with_reducible intro _ | with_reducible assumption | with_reducible apply Keeps.ite | with_reducible apply KeepsR.ite | with_reducible apply keeps_State_twinLost | with_reducible apply keeps_State_bump | with_reducible apply Keeps.foldl | with_reducible apply Keeps.next | with_reducible apply Keeps.fault | with_reducible apply Keeps.ite | with_reducible apply KeepsR.ite | split | with_reducible apply Keeps.built

theorem keeps_execResetHoldExpiry {z : State} : ∀ s, Keeps z s → KeepsR z (execResetHoldExpiry s) := by
  intro s h
  unfold execResetHoldExpiry
  try dsimp only
  repeat' first | with_reducible intro _ | with_reducible assumption | with_reducible apply Keeps.ite | with_reducible apply KeepsR.ite | with_reducible apply keeps_State_twinLost | with_reducible apply Keeps.foldl | with_reducible apply Keeps.next | with_reducible apply Keeps.fault | with_reducible apply Keeps.ite | with_reducible apply KeepsR.ite | split | with_reducible apply Keeps.built

theorem keeps_State_detach {z : State} : ∀ s, Keeps z s → Keeps z (State.detach s) := by
  intro s h
  unfold State.detach
  try dsimp only
  repeat' first | with_reducible intro _ | with_reducible assumption | with_reducible apply Keeps.ite | with_reducible apply KeepsR.ite | with_reducible apply keeps_State_onTwin | with_reducible apply keeps_State_setPairing | with_reducible apply keeps_State_jobFails | with_reducible apply keeps_State_scanNone | with_reducible apply Keeps.foldl | with_reducible apply Keeps.next | with_reducible apply Keeps.fault | with_reducible apply Keeps.ite | with_reducible apply KeepsR.ite | split | with_reducible apply Keeps.built

theorem keeps_execDetach {z : State} : ∀ a0 s, Keeps z s → KeepsR z (execDetach a0 s) := by
  intro a0 s h
  unfold execDetach
  try dsimp only
  repeat' first | with_reducible intro _ | with_reducible assumption | with_reducible apply Keeps.ite | with_reducible apply KeepsR.ite | with_reducible apply keeps_State_guard | with_reducible apply keeps_State_detach | with_reducible apply Keeps.foldl | with_reducible apply Keeps.next | with_reducible apply Keeps.fault | with_reducible apply Keeps.ite | with_reducible apply KeepsR.ite | split | with_reducible apply Keeps.built

theorem keeps_State_ckptEntry {z : State} : ∀ s a1 a2, Keeps z s → Keeps z (State.ckptEntry s a1 a2) := by
  intro s a1 a2 h
  unfold State.ckptEntry
  try dsimp only
  repeat' first | with_reducible intro _ | with_reducible assumption | with_reducible apply Keeps.ite | with_reducible apply KeepsR.ite | with_reducible apply keeps_State_ckptTrigger | with_reducible apply keeps_State_dropEntry | with_reducible apply Keeps.foldl | with_reducible apply Keeps.next | with_reducible apply Keeps.fault | with_reducible apply Keeps.ite | with_reducible apply KeepsR.ite | split | with_reducible apply Keeps.built

theorem keeps_execCheckpoint {z : State} : ∀ a0 s, Keeps z s → KeepsR z (execCheckpoint a0 s) := by
  intro a0 s h
  unfold execCheckpoint
  try dsimp only
  repeat' first | with_reducible intro _ | with_reducible assumption | with_reducible apply Keeps.ite | with_reducible apply KeepsR.ite | with_reducible apply keeps_onPid | with_reducible apply keeps_State_ckptEntry | with_reducible apply Keeps.foldl | with_reducible apply Keeps.next | with_reducible apply Keeps.fault | with_reducible apply Keeps.ite | with_reducible apply KeepsR.ite | split | with_reducible apply Keeps.built

theorem keeps_State_edgesRead {z : State} : ∀ s a1 a2, Keeps z s → Keeps z (State.edgesRead s a1 a2) := by
  intro s a1 a2 h
  unfold State.edgesRead
  try dsimp only
  repeat' first | with_reducible intro _ | with_reducible assumption | with_reducible apply Keeps.ite | with_reducible apply KeepsR.ite | with_reducible apply keeps_State_regFault | with_reducible apply Keeps.foldl | with_reducible apply Keeps.next | with_reducible apply Keeps.fault | with_reducible apply Keeps.ite | with_reducible apply KeepsR.ite | split | with_reducible apply Keeps.built

theorem keeps_State_onChild {z : State} : ∀ s a1 a2 a3 a4, Keeps z s → Keeps z (State.onChild s a1 a2 a3 a4) := by
  intro s a1 a2 a3 a4 h
  unfold State.onChild
  try dsimp only
  repeat' first | with_reducible intro _ | with_reducible assumption | with_reducible apply Keeps.ite | with_reducible apply KeepsR.ite | with_reducible apply keeps_State_onWslot | with_reducible apply Keeps.foldl | with_reducible apply Keeps.next | with_reducible apply Keeps.fault | with_reducible apply Keeps.ite | with_reducible apply KeepsR.ite | split | with_reducible apply Keeps.built

theorem keeps_State_pumpChild {z : State} : ∀ s p n0 i port dev n, Keeps z s → Keeps z (State.pumpChild s p n0 i port dev n) := by
  intro s p n0 i port dev n
  induction n generalizing s with
  | zero =>
    intro h
    unfold State.pumpChild
    repeat' first | with_reducible intro _ | with_reducible assumption | with_reducible apply keeps_State_onChild | with_reducible apply keeps_State_sendBy | with_reducible apply keeps_State_bump | with_reducible apply Keeps.foldl | with_reducible apply Keeps.next | with_reducible apply Keeps.fault | with_reducible apply Keeps.ite | with_reducible apply KeepsR.ite | split | with_reducible apply Keeps.built
  | succ n ih =>
    intro h
    unfold State.pumpChild
    try dsimp only
    repeat' first | with_reducible intro _ | with_reducible assumption | with_reducible apply ih | with_reducible apply keeps_State_onChild | with_reducible apply keeps_State_sendBy | with_reducible apply keeps_State_bump | with_reducible apply Keeps.foldl | with_reducible apply Keeps.next | with_reducible apply Keeps.fault | with_reducible apply Keeps.ite | with_reducible apply KeepsR.ite | split | with_reducible apply Keeps.built

theorem keeps_State_pumpSlot {z : State} : ∀ s a1 a2, Keeps z s → Keeps z (State.pumpSlot s a1 a2) := by
  intro s a1 a2 h
  unfold State.pumpSlot
  try dsimp only
  repeat' first | with_reducible intro _ | with_reducible assumption | with_reducible apply Keeps.ite | with_reducible apply KeepsR.ite | with_reducible apply keeps_State_pumpChild | with_reducible apply keeps_State_edgesRead | with_reducible apply Keeps.foldl | with_reducible apply Keeps.next | with_reducible apply Keeps.fault | with_reducible apply Keeps.ite | with_reducible apply KeepsR.ite | split | with_reducible apply Keeps.built

theorem keeps_State_relayCredit {z : State} : ∀ s a1 a2 a3 a4, Keeps z s → Keeps z (State.relayCredit s a1 a2 a3 a4) := by
  intro s a1 a2 a3 a4 h
  unfold State.relayCredit
  try dsimp only
  repeat' first | with_reducible intro _ | with_reducible assumption | with_reducible apply Keeps.ite | with_reducible apply KeepsR.ite | with_reducible apply keeps_State_onChild | with_reducible apply keeps_State_pumpChild | with_reducible apply Keeps.foldl | with_reducible apply Keeps.next | with_reducible apply Keeps.fault | with_reducible apply Keeps.ite | with_reducible apply KeepsR.ite | split | with_reducible apply Keeps.built

theorem keeps_State_restartChildren {z : State} : ∀ s a1 a2 a3, Keeps z s → Keeps z (State.restartChildren s a1 a2 a3) := by
  intro s a1 a2 a3 h
  unfold State.restartChildren
  try dsimp only
  repeat' first | with_reducible intro _ | with_reducible assumption | with_reducible apply Keeps.ite | with_reducible apply KeepsR.ite | with_reducible apply keeps_State_onChild | with_reducible apply keeps_State_sendBy | with_reducible apply keeps_State_edgesRead | with_reducible apply Keeps.foldl | with_reducible apply Keeps.next | with_reducible apply Keeps.fault | with_reducible apply Keeps.ite | with_reducible apply KeepsR.ite | split | with_reducible apply Keeps.built

theorem keeps_State_grantRelay {z : State} : ∀ s a1 a2 a3 a4, Keeps z s → Keeps z (State.grantRelay s a1 a2 a3 a4) := by
  intro s a1 a2 a3 a4 h
  unfold State.grantRelay
  try dsimp only
  repeat' first | with_reducible intro _ | with_reducible assumption | with_reducible apply Keeps.ite | with_reducible apply KeepsR.ite | with_reducible apply keeps_State_send | with_reducible apply Keeps.foldl | with_reducible apply Keeps.next | with_reducible apply Keeps.fault | with_reducible apply Keeps.ite | with_reducible apply KeepsR.ite | split | with_reducible apply Keeps.built

theorem keeps_State_grantFirst {z : State} : ∀ s a1 a2 a3, Keeps z s → Keeps z (State.grantFirst s a1 a2 a3) := by
  intro s a1 a2 a3 h
  unfold State.grantFirst
  try dsimp only
  repeat' first | with_reducible intro _ | with_reducible assumption | with_reducible apply Keeps.ite | with_reducible apply KeepsR.ite | with_reducible apply keeps_State_edgesRead | with_reducible apply keeps_State_onWslot | with_reducible apply keeps_State_grantRelay | with_reducible apply Keeps.foldl | with_reducible apply Keeps.next | with_reducible apply Keeps.fault | with_reducible apply Keeps.ite | with_reducible apply KeepsR.ite | split | with_reducible apply Keeps.built

theorem keeps_State_startFill {z : State} : ∀ s a1 a2 a3 a4, Keeps z s → Keeps z (State.startFill s a1 a2 a3 a4) := by
  intro s a1 a2 a3 a4 h
  unfold State.startFill
  try dsimp only
  repeat' first | with_reducible intro _ | with_reducible assumption | with_reducible apply Keeps.ite | with_reducible apply KeepsR.ite | with_reducible apply keeps_State_grantFirst | with_reducible apply keeps_State_onWslot | with_reducible apply keeps_State_setBuf | with_reducible apply Keeps.foldl | with_reducible apply Keeps.next | with_reducible apply Keeps.fault | with_reducible apply Keeps.ite | with_reducible apply KeepsR.ite | split | with_reducible apply Keeps.built

theorem keeps_State_startPending {z : State} : ∀ s a1 a2, Keeps z s → Keeps z (State.startPending s a1 a2) := by
  intro s a1 a2 h
  unfold State.startPending
  try dsimp only
  repeat' first | with_reducible intro _ | with_reducible assumption | with_reducible apply Keeps.ite | with_reducible apply KeepsR.ite | with_reducible apply keeps_State_startFill | with_reducible apply keeps_State_setB | with_reducible apply keeps_State_onWslot | with_reducible apply Keeps.foldl | with_reducible apply Keeps.next | with_reducible apply Keeps.fault | with_reducible apply Keeps.ite | with_reducible apply KeepsR.ite | split | with_reducible apply Keeps.built

theorem keeps_State_bufferEmpty {z : State} : ∀ s a1 a2 a3, Keeps z s → Keeps z (State.bufferEmpty s a1 a2 a3) := by
  intro s a1 a2 a3 h
  unfold State.bufferEmpty
  try dsimp only
  repeat' first | with_reducible intro _ | with_reducible assumption | with_reducible apply Keeps.ite | with_reducible apply KeepsR.ite | with_reducible apply keeps_State_startPending | with_reducible apply keeps_State_setBuf | with_reducible apply keeps_State_openGather | with_reducible apply Keeps.foldl | with_reducible apply Keeps.next | with_reducible apply Keeps.fault | with_reducible apply Keeps.ite | with_reducible apply KeepsR.ite | split | with_reducible apply Keeps.built

theorem keeps_State_enterReady {z : State} : ∀ s a1 a2 a3, Keeps z s → Keeps z (State.enterReady s a1 a2 a3) := by
  intro s a1 a2 a3 h
  unfold State.enterReady
  try dsimp only
  repeat' first | with_reducible intro _ | with_reducible assumption | with_reducible apply Keeps.ite | with_reducible apply KeepsR.ite | with_reducible apply keeps_State_emit | with_reducible apply keeps_State_onWslot | with_reducible apply Keeps.foldl | with_reducible apply Keeps.next | with_reducible apply Keeps.fault | with_reducible apply Keeps.ite | with_reducible apply KeepsR.ite | split | with_reducible apply Keeps.built

theorem keeps_State_relayLost {z : State} : ∀ s a1 a2 a3, Keeps z s → Keeps z (State.relayLost s a1 a2 a3) := by
  intro s a1 a2 a3 h
  unfold State.relayLost
  try dsimp only
  repeat' first | with_reducible intro _ | with_reducible assumption | with_reducible apply Keeps.ite | with_reducible apply KeepsR.ite | with_reducible apply keeps_State_portLost | with_reducible apply Keeps.foldl | with_reducible apply Keeps.next | with_reducible apply Keeps.fault | with_reducible apply Keeps.ite | with_reducible apply KeepsR.ite | split | with_reducible apply Keeps.built

theorem keeps_State_failedFetch {z : State} : ∀ s a1 a2 a3 a4, Keeps z s → Keeps z (State.failedFetch s a1 a2 a3 a4) := by
  intro s a1 a2 a3 a4 h
  unfold State.failedFetch
  try dsimp only
  repeat' first | with_reducible intro _ | with_reducible assumption | with_reducible apply Keeps.ite | with_reducible apply KeepsR.ite | with_reducible apply keeps_State_bump | with_reducible apply keeps_State_raise | with_reducible apply keeps_State_onWslot | with_reducible apply keeps_State_bufferEmpty | with_reducible apply keeps_State_grantFirst | with_reducible apply keeps_State_restartChildren | with_reducible apply Keeps.foldl | with_reducible apply Keeps.next | with_reducible apply Keeps.fault | with_reducible apply Keeps.ite | with_reducible apply KeepsR.ite | split | with_reducible apply Keeps.built

theorem keeps_State_regrant {z : State} : ∀ s a1 a2 a3, Keeps z s → Keeps z (State.regrant s a1 a2 a3) := by
  intro s a1 a2 a3 h
  unfold State.regrant
  try dsimp only
  repeat' first | with_reducible intro _ | with_reducible assumption | with_reducible apply Keeps.ite | with_reducible apply KeepsR.ite | with_reducible apply keeps_State_grantRelay | with_reducible apply keeps_State_onWslot | with_reducible apply Keeps.foldl | with_reducible apply Keeps.next | with_reducible apply Keeps.fault | with_reducible apply Keeps.ite | with_reducible apply KeepsR.ite | split | with_reducible apply Keeps.built

theorem keeps_State_relayData {z : State} : ∀ s a1 a2 a3 a4, Keeps z s → Keeps z (State.relayData s a1 a2 a3 a4) := by
  intro s a1 a2 a3 a4 h
  unfold State.relayData
  try dsimp only
  repeat' first | with_reducible intro _ | with_reducible assumption | with_reducible apply Keeps.ite | with_reducible apply KeepsR.ite | with_reducible apply keeps_State_failedFetch | with_reducible apply keeps_State_relayLost | with_reducible apply keeps_State_writeBytes | with_reducible apply keeps_State_poisonRange | with_reducible apply keeps_State_onWslot | with_reducible apply keeps_State_bump | with_reducible apply keeps_State_pumpSlot | with_reducible apply keeps_State_regrant | with_reducible apply Keeps.foldl | with_reducible apply Keeps.next | with_reducible apply Keeps.fault | with_reducible apply Keeps.ite | with_reducible apply KeepsR.ite | split | with_reducible apply Keeps.built

theorem keeps_State_relayDigest {z : State} : ∀ s a1 a2 a3 a4, Keeps z s → Keeps z (State.relayDigest s a1 a2 a3 a4) := by
  intro s a1 a2 a3 a4 h
  unfold State.relayDigest
  try dsimp only
  repeat' first | with_reducible intro _ | with_reducible assumption | with_reducible apply Keeps.ite | with_reducible apply KeepsR.ite | with_reducible apply keeps_State_failedFetch | with_reducible apply keeps_State_relayLost | with_reducible apply keeps_State_regrant | with_reducible apply keeps_State_pumpSlot | with_reducible apply keeps_State_onWslot | with_reducible apply keeps_State_enterReady | with_reducible apply keeps_State_setBuf | with_reducible apply Keeps.foldl | with_reducible apply Keeps.next | with_reducible apply Keeps.fault | with_reducible apply Keeps.ite | with_reducible apply KeepsR.ite | split | with_reducible apply Keeps.built

theorem keeps_State_relayRestart {z : State} : ∀ s a1 a2 a3, Keeps z s → Keeps z (State.relayRestart s a1 a2 a3) := by
  intro s a1 a2 a3 h
  unfold State.relayRestart
  try dsimp only
  repeat' first | with_reducible intro _ | with_reducible assumption | with_reducible apply Keeps.ite | with_reducible apply KeepsR.ite | with_reducible apply keeps_State_restartChildren | with_reducible apply keeps_State_onWslot | with_reducible apply Keeps.foldl | with_reducible apply Keeps.next | with_reducible apply Keeps.fault | with_reducible apply Keeps.ite | with_reducible apply KeepsR.ite | split | with_reducible apply Keeps.built

theorem keeps_State_relayIn {z : State} : ∀ s a1 a2, Keeps z s → Keeps z (State.relayIn s a1 a2) := by
  intro s a1 a2 h
  unfold State.relayIn
  try dsimp only
  repeat' first | with_reducible intro _ | with_reducible assumption | with_reducible apply Keeps.ite | with_reducible apply KeepsR.ite | with_reducible apply keeps_State_packetViolation | with_reducible apply keeps_State_relayLost | with_reducible apply keeps_State_relayDigest | with_reducible apply keeps_State_relayRestart | with_reducible apply keeps_State_relayData | with_reducible apply keeps_State_portLost | with_reducible apply Keeps.foldl | with_reducible apply Keeps.next | with_reducible apply Keeps.fault | with_reducible apply Keeps.ite | with_reducible apply KeepsR.ite | split | with_reducible apply Keeps.built

theorem keeps_execRelayChunkPacket {z : State} : ∀ a0 a1 s, Keeps z s → KeepsR z (execRelayChunkPacket a0 a1 s) := by
  intro a0 a1 s h
  unfold execRelayChunkPacket
  try dsimp only
  repeat' first | with_reducible intro _ | with_reducible assumption | with_reducible apply Keeps.ite | with_reducible apply KeepsR.ite | with_reducible apply keeps_onPid | with_reducible apply keeps_State_relayIn | with_reducible apply Keeps.foldl | with_reducible apply Keeps.next | with_reducible apply Keeps.fault | with_reducible apply Keeps.ite | with_reducible apply KeepsR.ite | split | with_reducible apply Keeps.built

theorem keeps_execRelayDigestPacket {z : State} : ∀ a0 a1 s, Keeps z s → KeepsR z (execRelayDigestPacket a0 a1 s) := by
  intro a0 a1 s h
  unfold execRelayDigestPacket
  try dsimp only
  repeat' first | with_reducible intro _ | with_reducible assumption | with_reducible apply Keeps.ite | with_reducible apply KeepsR.ite | with_reducible apply keeps_onPid | with_reducible apply keeps_State_relayIn | with_reducible apply Keeps.foldl | with_reducible apply Keeps.next | with_reducible apply Keeps.fault | with_reducible apply Keeps.ite | with_reducible apply KeepsR.ite | split | with_reducible apply Keeps.built

theorem keeps_execRelayRestartPacket {z : State} : ∀ a0 a1 s, Keeps z s → KeepsR z (execRelayRestartPacket a0 a1 s) := by
  intro a0 a1 s h
  unfold execRelayRestartPacket
  try dsimp only
  repeat' first | with_reducible intro _ | with_reducible assumption | with_reducible apply Keeps.ite | with_reducible apply KeepsR.ite | with_reducible apply keeps_onPid | with_reducible apply keeps_State_relayIn | with_reducible apply Keeps.foldl | with_reducible apply Keeps.next | with_reducible apply Keeps.fault | with_reducible apply Keeps.ite | with_reducible apply KeepsR.ite | split | with_reducible apply Keeps.built

theorem keeps_execRelayStall {z : State} : ∀ a0 a1 s, Keeps z s → KeepsR z (execRelayStall a0 a1 s) := by
  intro a0 a1 s h
  unfold execRelayStall
  try dsimp only
  repeat' first | with_reducible intro _ | with_reducible assumption | with_reducible apply Keeps.ite | with_reducible apply KeepsR.ite | with_reducible apply keeps_onPid | with_reducible apply keeps_State_failedFetch | with_reducible apply Keeps.foldl | with_reducible apply Keeps.next | with_reducible apply Keeps.fault | with_reducible apply Keeps.ite | with_reducible apply KeepsR.ite | split | with_reducible apply Keeps.built

theorem keeps_State_recordTaken {z : State} : ∀ s a1 a2 a3, Keeps z s → Keeps z (State.recordTaken s a1 a2 a3) := by
  intro s a1 a2 a3 h
  unfold State.recordTaken
  try dsimp only
  repeat' first | with_reducible intro _ | with_reducible assumption | with_reducible apply Keeps.ite | with_reducible apply KeepsR.ite | with_reducible apply keeps_State_addSwap | with_reducible apply keeps_State_onWslot | with_reducible apply Keeps.foldl | with_reducible apply Keeps.next | with_reducible apply Keeps.fault | with_reducible apply Keeps.ite | with_reducible apply KeepsR.ite | split | with_reducible apply Keeps.built

theorem keeps_State_takeRecord {z : State} : ∀ s a1 a2 a3, Keeps z s → Keeps z (State.takeRecord s a1 a2 a3) := by
  intro s a1 a2 a3 h
  unfold State.takeRecord
  try dsimp only
  repeat' first | with_reducible intro _ | with_reducible assumption | with_reducible apply Keeps.ite | with_reducible apply KeepsR.ite | with_reducible apply keeps_State_raise | with_reducible apply keeps_State_recordTaken | with_reducible apply keeps_State_pumpSlot | with_reducible apply keeps_State_startFill | with_reducible apply keeps_State_dropSwap | with_reducible apply keeps_State_setB | with_reducible apply keeps_State_onWslot | with_reducible apply Keeps.foldl | with_reducible apply Keeps.next | with_reducible apply Keeps.fault | with_reducible apply Keeps.ite | with_reducible apply KeepsR.ite | split | with_reducible apply Keeps.built

theorem keeps_State_recordIn {z : State} : ∀ s a1 a2, Keeps z s → Keeps z (State.recordIn s a1 a2) := by
  intro s a1 a2 h
  unfold State.recordIn
  try dsimp only
  repeat' first | with_reducible intro _ | with_reducible assumption | with_reducible apply Keeps.ite | with_reducible apply KeepsR.ite | with_reducible apply keeps_State_takeRecord | with_reducible apply Keeps.foldl | with_reducible apply Keeps.next | with_reducible apply Keeps.fault | with_reducible apply Keeps.ite | with_reducible apply KeepsR.ite | split | with_reducible apply Keeps.built

theorem keeps_execPublicationRecord {z : State} : ∀ a0 a1 s, Keeps z s → KeepsR z (execPublicationRecord a0 a1 s) := by
  intro a0 a1 s h
  unfold execPublicationRecord
  try dsimp only
  repeat' first | with_reducible intro _ | with_reducible assumption | with_reducible apply Keeps.ite | with_reducible apply KeepsR.ite | with_reducible apply keeps_onPid | with_reducible apply keeps_State_recordIn | with_reducible apply Keeps.foldl | with_reducible apply Keeps.next | with_reducible apply Keeps.fault | with_reducible apply Keeps.ite | with_reducible apply KeepsR.ite | split | with_reducible apply Keeps.built

theorem keeps_State_readyFormed {z : State} : ∀ s a1 a2 a3 a4, Keeps z s → Keeps z (State.readyFormed s a1 a2 a3 a4) := by
  intro s a1 a2 a3 a4 h
  unfold State.readyFormed
  try dsimp only
  repeat' first | with_reducible intro _ | with_reducible assumption | with_reducible apply Keeps.ite | with_reducible apply KeepsR.ite | with_reducible apply keeps_State_onWslot | with_reducible apply Keeps.foldl | with_reducible apply Keeps.next | with_reducible apply Keeps.fault | with_reducible apply Keeps.ite | with_reducible apply KeepsR.ite | split | with_reducible apply Keeps.built

theorem keeps_execReadinessResult {z : State} : ∀ a0 a1 a2 a3 s, Keeps z s → KeepsR z (execReadinessResult a0 a1 a2 a3 s) := by
  intro a0 a1 a2 a3 s h
  unfold execReadinessResult
  try dsimp only
  repeat' first | with_reducible intro _ | with_reducible assumption | with_reducible apply Keeps.ite | with_reducible apply KeepsR.ite | with_reducible apply keeps_onPid | with_reducible apply keeps_State_readyFormed | with_reducible apply Keeps.foldl | with_reducible apply Keeps.next | with_reducible apply Keeps.fault | with_reducible apply Keeps.ite | with_reducible apply KeepsR.ite | split | with_reducible apply Keeps.built

theorem keeps_State_drained {z : State} : ∀ s a1 a2, Keeps z s → Keeps z (State.drained s a1 a2) := by
  intro s a1 a2 h
  unfold State.drained
  try dsimp only
  repeat' first | with_reducible intro _ | with_reducible assumption | with_reducible apply Keeps.ite | with_reducible apply KeepsR.ite | with_reducible apply keeps_State_bufferEmpty | with_reducible apply Keeps.foldl | with_reducible apply Keeps.next | with_reducible apply Keeps.fault | with_reducible apply Keeps.ite | with_reducible apply KeepsR.ite | split | with_reducible apply Keeps.built

theorem keeps_execBufferDrained {z : State} : ∀ a0 a1 s, Keeps z s → KeepsR z (execBufferDrained a0 a1 s) := by
  intro a0 a1 s h
  unfold execBufferDrained
  try dsimp only
  repeat' first | with_reducible intro _ | with_reducible assumption | with_reducible apply Keeps.ite | with_reducible apply KeepsR.ite | with_reducible apply keeps_onPid | with_reducible apply keeps_State_drained | with_reducible apply Keeps.foldl | with_reducible apply Keeps.next | with_reducible apply Keeps.fault | with_reducible apply Keeps.ite | with_reducible apply KeepsR.ite | split | with_reducible apply Keeps.built

theorem keeps_State_loadRefused {z : State} : ∀ s a1 a2, Keeps z s → Keeps z (State.loadRefused s a1 a2) := by
  intro s a1 a2 h
  unfold State.loadRefused
  try dsimp only
  repeat' first | with_reducible intro _ | with_reducible assumption | with_reducible apply Keeps.ite | with_reducible apply KeepsR.ite | with_reducible apply keeps_State_regFault | with_reducible apply Keeps.foldl | with_reducible apply Keeps.next | with_reducible apply Keeps.fault | with_reducible apply Keeps.ite | with_reducible apply KeepsR.ite | split | with_reducible apply Keeps.built

theorem keeps_State_loadBegin {z : State} : ∀ s a1 a2, Keeps z s → Keeps z (State.loadBegin s a1 a2) := by
  intro s a1 a2 h
  unfold State.loadBegin
  try dsimp only
  repeat' first | with_reducible intro _ | with_reducible assumption | with_reducible apply Keeps.ite | with_reducible apply KeepsR.ite | with_reducible apply keeps_State_loadRefused | with_reducible apply keeps_State_onWslot | with_reducible apply keeps_State_setBuf | with_reducible apply Keeps.foldl | with_reducible apply Keeps.next | with_reducible apply Keeps.fault | with_reducible apply Keeps.ite | with_reducible apply KeepsR.ite | split | with_reducible apply Keeps.built

theorem keeps_execLoadBegin {z : State} : ∀ a0 a1 a2 s, Keeps z s → KeepsR z (execLoadBegin a0 a1 a2 s) := by
  intro a0 a1 a2 s h
  unfold execLoadBegin
  try dsimp only
  repeat' first | with_reducible intro _ | with_reducible assumption | with_reducible apply Keeps.ite | with_reducible apply KeepsR.ite | with_reducible apply keeps_onPid | with_reducible apply keeps_State_guard | with_reducible apply keeps_State_loadBegin | with_reducible apply Keeps.foldl | with_reducible apply Keeps.next | with_reducible apply Keeps.fault | with_reducible apply Keeps.ite | with_reducible apply KeepsR.ite | split | with_reducible apply Keeps.built

theorem keeps_State_loadEnd {z : State} : ∀ s a1, Keeps z s → Keeps z (State.loadEnd s a1) := by
  intro s a1 h
  unfold State.loadEnd
  try dsimp only
  repeat' first | with_reducible intro _ | with_reducible assumption | with_reducible apply Keeps.ite | with_reducible apply KeepsR.ite | with_reducible apply keeps_State_loadRefused | with_reducible apply keeps_State_onWslot | with_reducible apply keeps_State_setBuf | with_reducible apply keeps_State_enterReady | with_reducible apply keeps_State_bufferEmpty | with_reducible apply keeps_State_raise | with_reducible apply Keeps.foldl | with_reducible apply Keeps.next | with_reducible apply Keeps.fault | with_reducible apply Keeps.ite | with_reducible apply KeepsR.ite | split | with_reducible apply Keeps.built

theorem keeps_execLoadEnd {z : State} : ∀ a0 a1 a2 s, Keeps z s → KeepsR z (execLoadEnd a0 a1 a2 s) := by
  intro a0 a1 a2 s h
  unfold execLoadEnd
  try dsimp only
  repeat' first | with_reducible intro _ | with_reducible assumption | with_reducible apply Keeps.ite | with_reducible apply KeepsR.ite | with_reducible apply keeps_onPid | with_reducible apply keeps_State_guard | with_reducible apply keeps_State_loadEnd | with_reducible apply Keeps.foldl | with_reducible apply Keeps.next | with_reducible apply Keeps.fault | with_reducible apply Keeps.ite | with_reducible apply KeepsR.ite | split | with_reducible apply Keeps.built

theorem keeps_State_unload {z : State} : ∀ s a1, Keeps z s → Keeps z (State.unload s a1) := by
  intro s a1 h
  unfold State.unload
  try dsimp only
  repeat' first | with_reducible intro _ | with_reducible assumption | with_reducible apply Keeps.ite | with_reducible apply KeepsR.ite | with_reducible apply keeps_State_loadRefused | with_reducible apply keeps_State_startPending | with_reducible apply keeps_State_onWslot | with_reducible apply keeps_State_setBuf | with_reducible apply Keeps.foldl | with_reducible apply Keeps.next | with_reducible apply Keeps.fault | with_reducible apply Keeps.ite | with_reducible apply KeepsR.ite | split | with_reducible apply Keeps.built

theorem keeps_execUnload {z : State} : ∀ a0 a1 a2 s, Keeps z s → KeepsR z (execUnload a0 a1 a2 s) := by
  intro a0 a1 a2 s h
  unfold execUnload
  try dsimp only
  repeat' first | with_reducible intro _ | with_reducible assumption | with_reducible apply Keeps.ite | with_reducible apply KeepsR.ite | with_reducible apply keeps_onPid | with_reducible apply keeps_State_guard | with_reducible apply keeps_State_unload | with_reducible apply Keeps.foldl | with_reducible apply Keeps.next | with_reducible apply Keeps.fault | with_reducible apply Keeps.ite | with_reducible apply KeepsR.ite | split | with_reducible apply Keeps.built

theorem keeps_State_hareMsg {z : State} : ∀ s a1, Keeps z s → Keeps z (State.hareMsg s a1) := by
  intro s a1 h
  unfold State.hareMsg
  try dsimp only
  repeat' first | with_reducible intro _ | with_reducible assumption | with_reducible apply Keeps.ite | with_reducible apply KeepsR.ite | with_reducible apply keeps_State_onPart | with_reducible apply keeps_State_onFab | with_reducible apply Keeps.foldl | with_reducible apply Keeps.next | with_reducible apply Keeps.fault | with_reducible apply Keeps.ite | with_reducible apply KeepsR.ite | split | with_reducible apply Keeps.built

theorem keeps_execHareMsgReceive {z : State} : ∀ a0 s, Keeps z s → KeepsR z (execHareMsgReceive a0 s) := by
  intro a0 s h
  unfold execHareMsgReceive
  try dsimp only
  repeat' first | with_reducible intro _ | with_reducible assumption | with_reducible apply Keeps.ite | with_reducible apply KeepsR.ite | with_reducible apply keeps_onPid | with_reducible apply keeps_State_hareMsg | with_reducible apply Keeps.foldl | with_reducible apply Keeps.next | with_reducible apply Keeps.fault | with_reducible apply Keeps.ite | with_reducible apply KeepsR.ite | split | with_reducible apply Keeps.built

theorem keeps_State_generatePhase {z : State} : ∀ s a1, Keeps z s → Keeps z (State.generatePhase s a1) := by
  intro s a1 h
  unfold State.generatePhase
  try dsimp only
  repeat' first | with_reducible intro _ | with_reducible assumption | with_reducible apply Keeps.ite | with_reducible apply KeepsR.ite | with_reducible apply keeps_State_onGen | with_reducible apply keeps_State_onSched | with_reducible apply Keeps.foldl | with_reducible apply Keeps.next | with_reducible apply Keeps.fault | with_reducible apply Keeps.ite | with_reducible apply KeepsR.ite | split | with_reducible apply Keeps.built

theorem keeps_State_takeLearnDue {z : State} : ∀ s p n, Keeps z s → Keeps z (State.takeLearnDue s p n) := by
  intro s p n
  induction n generalizing s with
  | zero =>
    intro h
    unfold State.takeLearnDue
    repeat' first | with_reducible intro _ | with_reducible assumption | with_reducible apply keeps_State_generatePhase | with_reducible apply keeps_State_dropEntry | with_reducible apply keeps_State_ckptEntry | with_reducible apply Keeps.foldl | with_reducible apply Keeps.next | with_reducible apply Keeps.fault | with_reducible apply Keeps.ite | with_reducible apply KeepsR.ite | split | with_reducible apply Keeps.built
  | succ n ih =>
    intro h
    unfold State.takeLearnDue
    try dsimp only
    repeat' first | with_reducible intro _ | with_reducible assumption | with_reducible apply ih | with_reducible apply keeps_State_generatePhase | with_reducible apply keeps_State_dropEntry | with_reducible apply keeps_State_ckptEntry | with_reducible apply Keeps.foldl | with_reducible apply Keeps.next | with_reducible apply Keeps.fault | with_reducible apply Keeps.ite | with_reducible apply KeepsR.ite | split | with_reducible apply Keeps.built

theorem keeps_execRoleGenerate {z : State} : ∀ a0 s, Keeps z s → KeepsR z (execRoleGenerate a0 s) := by
  intro a0 s h
  unfold execRoleGenerate
  try dsimp only
  repeat' first | with_reducible intro _ | with_reducible assumption | with_reducible apply Keeps.ite | with_reducible apply KeepsR.ite | with_reducible apply keeps_onPid | with_reducible apply keeps_State_dropEntry | with_reducible apply keeps_State_generatePhase | with_reducible apply Keeps.foldl | with_reducible apply Keeps.next | with_reducible apply Keeps.fault | with_reducible apply Keeps.ite | with_reducible apply KeepsR.ite | split | with_reducible apply Keeps.built

theorem keeps_State_stepEnds {z : State} : ∀ s a1 a2, Keeps z s → Keeps z (State.stepEnds s a1 a2) := by
  intro s a1 a2 h
  unfold State.stepEnds
  try dsimp only
  repeat' first | with_reducible intro _ | with_reducible assumption | with_reducible apply Keeps.ite | with_reducible apply KeepsR.ite | with_reducible apply keeps_State_emptySetts | with_reducible apply keeps_State_onPart | with_reducible apply keeps_State_set | with_reducible apply keeps_State_onRed | with_reducible apply Keeps.foldl | with_reducible apply Keeps.next | with_reducible apply Keeps.fault | with_reducible apply Keeps.ite | with_reducible apply KeepsR.ite | split | with_reducible apply Keeps.built

theorem keeps_State_commits {z : State} : ∀ s a1 a2 a3, Keeps z s → Keeps z (State.commits s a1 a2 a3) := by
  intro s a1 a2 a3 h
  unfold State.commits
  try dsimp only
  repeat' first | with_reducible intro _ | with_reducible assumption | with_reducible apply Keeps.ite | with_reducible apply KeepsR.ite | with_reducible apply keeps_State_emit | with_reducible apply keeps_State_stepEnds | with_reducible apply keeps_State_onWslot | with_reducible apply keeps_State_activate | with_reducible apply keeps_State_pumpSlot | with_reducible apply keeps_State_onCkpt | with_reducible apply keeps_State_takeLearnDue | with_reducible apply keeps_State_commitTriggers | with_reducible apply Keeps.foldl | with_reducible apply Keeps.next | with_reducible apply Keeps.fault | with_reducible apply Keeps.ite | with_reducible apply KeepsR.ite | split | with_reducible apply Keeps.built

theorem keeps_State_uncommitted {z : State} : ∀ s a1 a2, Keeps z s → Keeps z (State.uncommitted s a1 a2) := by
  intro s a1 a2 h
  unfold State.uncommitted
  try dsimp only
  repeat' first | with_reducible intro _ | with_reducible assumption | with_reducible apply Keeps.ite | with_reducible apply KeepsR.ite | with_reducible apply keeps_State_set | with_reducible apply keeps_State_raise | with_reducible apply keeps_State_onChecks | with_reducible apply keeps_State_onUpd | with_reducible apply keeps_State_setBuf | with_reducible apply keeps_State_stepEnds | with_reducible apply keeps_State_hareEnter | with_reducible apply keeps_State_onRed | with_reducible apply keeps_State_takeLearnDue | with_reducible apply Keeps.foldl | with_reducible apply Keeps.next | with_reducible apply Keeps.fault | with_reducible apply Keeps.ite | with_reducible apply KeepsR.ite | split | with_reducible apply Keeps.built

theorem keeps_State_learnerCommit {z : State} : ∀ s a1 a2, Keeps z s → Keeps z (State.learnerCommit s a1 a2) := by
  intro s a1 a2 h
  unfold State.learnerCommit
  try dsimp only
  repeat' first | with_reducible intro _ | with_reducible assumption | with_reducible apply Keeps.ite | with_reducible apply KeepsR.ite | with_reducible apply keeps_State_emit | with_reducible apply keeps_State_commits | with_reducible apply keeps_State_uncommitted | with_reducible apply Keeps.foldl | with_reducible apply Keeps.next | with_reducible apply Keeps.fault | with_reducible apply Keeps.ite | with_reducible apply KeepsR.ite | split | with_reducible apply Keeps.built

theorem keeps_execLearnerCommit {z : State} : ∀ a0 a1 s, Keeps z s → KeepsR z (execLearnerCommit a0 a1 s) := by
  intro a0 a1 s h
  unfold execLearnerCommit
  try dsimp only
  repeat' first | with_reducible intro _ | with_reducible assumption | with_reducible apply Keeps.ite | with_reducible apply KeepsR.ite | with_reducible apply keeps_onPid | with_reducible apply keeps_State_learnerCommit | with_reducible apply Keeps.foldl | with_reducible apply Keeps.next | with_reducible apply Keeps.fault | with_reducible apply Keeps.ite | with_reducible apply KeepsR.ite | split | with_reducible apply Keeps.built

theorem keeps_State_expWatch {z : State} : ∀ s a1, Keeps z s → Keeps z (State.expWatch s a1) := by
  intro s a1 h
  unfold State.expWatch
  try dsimp only
  repeat' first | with_reducible intro _ | with_reducible assumption | with_reducible apply Keeps.ite | with_reducible apply KeepsR.ite | with_reducible apply keeps_State_onGen | with_reducible apply keeps_State_raise | with_reducible apply Keeps.foldl | with_reducible apply Keeps.next | with_reducible apply Keeps.fault | with_reducible apply Keeps.ite | with_reducible apply KeepsR.ite | split | with_reducible apply Keeps.built

theorem keeps_State_expPublish {z : State} : ∀ s a1 a2, Keeps z s → Keeps z (State.expPublish s a1 a2) := by
  intro s a1 a2 h
  unfold State.expPublish
  try dsimp only
  repeat' first | with_reducible intro _ | with_reducible assumption | with_reducible apply Keeps.ite | with_reducible apply KeepsR.ite | with_reducible apply keeps_State_writeBytes | with_reducible apply keeps_State_expWatch | with_reducible apply keeps_State_writeN | with_reducible apply Keeps.foldl | with_reducible apply Keeps.next | with_reducible apply Keeps.fault | with_reducible apply Keeps.ite | with_reducible apply KeepsR.ite | split | with_reducible apply Keeps.built

theorem keeps_State_stepPublish {z : State} : ∀ s a1 a2 a3 a4 a5, Keeps z s → Keeps z (State.stepPublish s a1 a2 a3 a4 a5) := by
  intro s a1 a2 a3 a4 a5 h
  unfold State.stepPublish
  try dsimp only
  repeat' first | with_reducible intro _ | with_reducible assumption | with_reducible apply Keeps.ite | with_reducible apply KeepsR.ite | with_reducible apply keeps_State_hostSend | with_reducible apply keeps_State_onGen | with_reducible apply keeps_State_hostEntry | with_reducible apply Keeps.foldl | with_reducible apply Keeps.next | with_reducible apply Keeps.fault | with_reducible apply Keeps.ite | with_reducible apply KeepsR.ite | split | with_reducible apply Keeps.built

theorem keeps_State_stepRingLost {z : State} : ∀ s a1, Keeps z s → Keeps z (State.stepRingLost s a1) := by
  intro s a1 h
  unfold State.stepRingLost
  try dsimp only
  repeat' first | with_reducible intro _ | with_reducible assumption | with_reducible apply Keeps.ite | with_reducible apply KeepsR.ite | with_reducible apply keeps_State_raise | with_reducible apply keeps_State_onGen | with_reducible apply Keeps.foldl | with_reducible apply Keeps.next | with_reducible apply Keeps.fault | with_reducible apply Keeps.ite | with_reducible apply KeepsR.ite | split | with_reducible apply Keeps.built

theorem keeps_execStepRingLost {z : State} : ∀ a0 s, Keeps z s → KeepsR z (execStepRingLost a0 s) := by
  intro a0 s h
  unfold execStepRingLost
  try dsimp only
  repeat' first | with_reducible intro _ | with_reducible assumption | with_reducible apply Keeps.ite | with_reducible apply KeepsR.ite | with_reducible apply keeps_onPid | with_reducible apply keeps_State_stepRingLost | with_reducible apply Keeps.foldl | with_reducible apply Keeps.next | with_reducible apply Keeps.fault | with_reducible apply Keeps.ite | with_reducible apply KeepsR.ite | split | with_reducible apply Keeps.built

theorem keeps_State_stepRingWrite {z : State} : ∀ s a1 a2 a3 a4 a5, Keeps z s → Keeps z (State.stepRingWrite s a1 a2 a3 a4 a5) := by
  intro s a1 a2 a3 a4 a5 h
  unfold State.stepRingWrite
  try dsimp only
  repeat' first | with_reducible intro _ | with_reducible assumption | with_reducible apply Keeps.ite | with_reducible apply KeepsR.ite | with_reducible apply keeps_State_regFault | with_reducible apply keeps_State_onGen | with_reducible apply keeps_State_set | with_reducible apply keeps_State_writeReg | with_reducible apply Keeps.foldl | with_reducible apply Keeps.next | with_reducible apply Keeps.fault | with_reducible apply Keeps.ite | with_reducible apply KeepsR.ite | split | with_reducible apply Keeps.built

theorem keeps_execStepRingRestart {z : State} : ∀ a0 a1 a2 a3 s, Keeps z s → KeepsR z (execStepRingRestart a0 a1 a2 a3 s) := by
  intro a0 a1 a2 a3 s h
  unfold execStepRingRestart
  try dsimp only
  repeat' first | with_reducible intro _ | with_reducible assumption | with_reducible apply Keeps.ite | with_reducible apply KeepsR.ite | with_reducible apply keeps_onPid | with_reducible apply keeps_State_guard | with_reducible apply keeps_State_stepRingWrite | with_reducible apply Keeps.foldl | with_reducible apply Keeps.next | with_reducible apply Keeps.fault | with_reducible apply Keeps.ite | with_reducible apply KeepsR.ite | split | with_reducible apply Keeps.built

theorem keeps_State_dropVariant {z : State} : ∀ s a1 a2, Keeps z s → Keeps z (State.dropVariant s a1 a2) := by
  intro s a1 a2 h
  unfold State.dropVariant
  try dsimp only
  repeat' first | with_reducible intro _ | with_reducible assumption | with_reducible apply Keeps.ite | with_reducible apply KeepsR.ite | with_reducible apply keeps_State_kvDo | with_reducible apply Keeps.foldl | with_reducible apply Keeps.next | with_reducible apply Keeps.fault | with_reducible apply Keeps.ite | with_reducible apply KeepsR.ite | split | with_reducible apply Keeps.built

theorem keeps_State_leaveReq {z : State} : ∀ s a1 a2, Keeps z s → Keeps z (State.leaveReq s a1 a2) := by
  intro s a1 a2 h
  unfold State.leaveReq
  try dsimp only
  repeat' first | with_reducible intro _ | with_reducible assumption | with_reducible apply Keeps.ite | with_reducible apply KeepsR.ite | with_reducible apply keeps_State_onGen | with_reducible apply keeps_State_dropVariant | with_reducible apply keeps_State_dropReq | with_reducible apply keeps_State_releasePages | with_reducible apply Keeps.foldl | with_reducible apply Keeps.next | with_reducible apply Keeps.fault | with_reducible apply Keeps.ite | with_reducible apply KeepsR.ite | split | with_reducible apply Keeps.built

theorem keeps_State_leaveAll {z : State} : ∀ s a1, Keeps z s → Keeps z (State.leaveAll s a1) := by
  intro s a1 h
  unfold State.leaveAll
  try dsimp only
  repeat' first | with_reducible intro _ | with_reducible assumption | with_reducible apply Keeps.ite | with_reducible apply KeepsR.ite | with_reducible apply keeps_State_leaveReq | with_reducible apply Keeps.foldl | with_reducible apply Keeps.next | with_reducible apply Keeps.fault | with_reducible apply Keeps.ite | with_reducible apply KeepsR.ite | split | with_reducible apply Keeps.built

theorem keeps_State_allocTail {z : State} : ∀ s a1 a2, Keeps z s → Keeps z (State.allocTail s a1 a2) := by
  intro s a1 a2 h
  unfold State.allocTail
  try dsimp only
  repeat' first | with_reducible intro _ | with_reducible assumption | with_reducible apply Keeps.ite | with_reducible apply KeepsR.ite | with_reducible apply keeps_State_kvDoAll | with_reducible apply Keeps.foldl | with_reducible apply Keeps.next | with_reducible apply Keeps.fault | with_reducible apply Keeps.ite | with_reducible apply KeepsR.ite | split | with_reducible apply Keeps.built

theorem keeps_State_kvEvent {z : State} : ∀ s a1 a2 a3, Keeps z s → Keeps z (State.kvEvent s a1 a2 a3) := by
  intro s a1 a2 a3 h
  unfold State.kvEvent
  try dsimp only
  repeat' first | with_reducible intro _ | with_reducible assumption | with_reducible apply Keeps.ite | with_reducible apply KeepsR.ite | with_reducible apply keeps_State_raise | with_reducible apply Keeps.foldl | with_reducible apply Keeps.next | with_reducible apply Keeps.fault | with_reducible apply Keeps.ite | with_reducible apply KeepsR.ite | split | with_reducible apply Keeps.built

theorem keeps_State_pauseReq {z : State} : ∀ s a1 a2, Keeps z s → Keeps z (State.pauseReq s a1 a2) := by
  intro s a1 a2 h
  unfold State.pauseReq
  try dsimp only
  repeat' first | with_reducible intro _ | with_reducible assumption | with_reducible apply Keeps.ite | with_reducible apply KeepsR.ite | with_reducible apply keeps_State_bump | with_reducible apply keeps_State_onReq | with_reducible apply keeps_State_frameFails | with_reducible apply keeps_State_kvDoAll | with_reducible apply keeps_State_onGen | with_reducible apply keeps_State_endReq | with_reducible apply Keeps.foldl | with_reducible apply Keeps.next | with_reducible apply Keeps.fault | with_reducible apply Keeps.ite | with_reducible apply KeepsR.ite | split | with_reducible apply Keeps.built

theorem keeps_State_pressLoop {z : State} : ∀ s p g n, Keeps z s → Keeps z (State.pressLoop s p g n) := by
  intro s p g n
  induction n generalizing s with
  | zero =>
    intro h
    unfold State.pressLoop
    repeat' first | with_reducible intro _ | with_reducible assumption | with_reducible apply keeps_State_kvEvent | with_reducible apply keeps_State_endReq | with_reducible apply keeps_State_pauseReq | with_reducible apply Keeps.foldl | with_reducible apply Keeps.next | with_reducible apply Keeps.fault | with_reducible apply Keeps.ite | with_reducible apply KeepsR.ite | split | with_reducible apply Keeps.built
  | succ n ih =>
    intro h
    unfold State.pressLoop
    try dsimp only
    repeat' first | with_reducible intro _ | with_reducible assumption | with_reducible apply ih | with_reducible apply keeps_State_kvEvent | with_reducible apply keeps_State_endReq | with_reducible apply keeps_State_pauseReq | with_reducible apply Keeps.foldl | with_reducible apply Keeps.next | with_reducible apply Keeps.fault | with_reducible apply Keeps.ite | with_reducible apply KeepsR.ite | split | with_reducible apply Keeps.built

theorem keeps_State_reserve {z : State} : ∀ s a1 a2 a3, Keeps z s → Keeps z (State.reserve s a1 a2 a3) := by
  intro s a1 a2 a3 h
  unfold State.reserve
  try dsimp only
  repeat' first | with_reducible intro _ | with_reducible assumption | with_reducible apply Keeps.ite | with_reducible apply KeepsR.ite | with_reducible apply keeps_State_onKv | with_reducible apply Keeps.foldl | with_reducible apply Keeps.next | with_reducible apply Keeps.fault | with_reducible apply Keeps.ite | with_reducible apply KeepsR.ite | split | with_reducible apply Keeps.built

theorem keeps_State_resumeReq {z : State} : ∀ s a1 a2, Keeps z s → Keeps z (State.resumeReq s a1 a2) := by
  intro s a1 a2 h
  unfold State.resumeReq
  try dsimp only
  repeat' first | with_reducible intro _ | with_reducible assumption | with_reducible apply Keeps.ite | with_reducible apply KeepsR.ite | with_reducible apply keeps_State_kvDoAll | with_reducible apply keeps_State_bump | with_reducible apply keeps_State_onReq | with_reducible apply keeps_State_reserve | with_reducible apply Keeps.foldl | with_reducible apply Keeps.next | with_reducible apply Keeps.fault | with_reducible apply Keeps.ite | with_reducible apply KeepsR.ite | split | with_reducible apply Keeps.built

theorem keeps_State_resumeLoop {z : State} : ∀ s p g l, Keeps z s → Keeps z (State.resumeLoop s p g l) := by
  intro s p g l
  induction l generalizing s with
  | nil =>
    intro h
    unfold State.resumeLoop
    repeat' first | with_reducible intro _ | with_reducible assumption | with_reducible apply keeps_State_resumeReq | with_reducible apply Keeps.foldl | with_reducible apply Keeps.next | with_reducible apply Keeps.fault | with_reducible apply Keeps.ite | with_reducible apply KeepsR.ite | split | with_reducible apply Keeps.built
  | cons x l ih =>
    intro h
    unfold State.resumeLoop
    try dsimp only
    repeat' first | with_reducible intro _ | with_reducible assumption | with_reducible apply ih | with_reducible apply keeps_State_resumeReq | with_reducible apply Keeps.foldl | with_reducible apply Keeps.next | with_reducible apply Keeps.fault | with_reducible apply Keeps.ite | with_reducible apply KeepsR.ite | split | with_reducible apply Keeps.built

theorem keeps_State_admitVariant {z : State} : ∀ s a1 a2, Keeps z s → Keeps z (State.admitVariant s a1 a2) := by
  intro s a1 a2 h
  unfold State.admitVariant
  try dsimp only
  repeat' first | with_reducible intro _ | with_reducible assumption | with_reducible apply Keeps.ite | with_reducible apply KeepsR.ite | with_reducible apply keeps_State_kvDo | with_reducible apply Keeps.foldl | with_reducible apply Keeps.next | with_reducible apply Keeps.fault | with_reducible apply Keeps.ite | with_reducible apply KeepsR.ite | split | with_reducible apply Keeps.built

theorem keeps_State_admitOne {z : State} : ∀ s a1 a2, Keeps z s → Keeps z (State.admitOne s a1 a2) := by
  intro s a1 a2 h
  unfold State.admitOne
  try dsimp only
  repeat' first | with_reducible intro _ | with_reducible assumption | with_reducible apply Keeps.ite | with_reducible apply KeepsR.ite | with_reducible apply keeps_State_admitVariant | with_reducible apply keeps_State_kvDoAll | with_reducible apply keeps_State_onReq | with_reducible apply keeps_State_reserve | with_reducible apply Keeps.foldl | with_reducible apply Keeps.next | with_reducible apply Keeps.fault | with_reducible apply Keeps.ite | with_reducible apply KeepsR.ite | split | with_reducible apply Keeps.built

theorem keeps_State_admitLoop {z : State} : ∀ s p l, Keeps z s → Keeps z (State.admitLoop s p l) := by
  intro s p l
  induction l generalizing s with
  | nil =>
    intro h
    unfold State.admitLoop
    repeat' first | with_reducible intro _ | with_reducible assumption | with_reducible apply keeps_State_admitOne | with_reducible apply Keeps.foldl | with_reducible apply Keeps.next | with_reducible apply Keeps.fault | with_reducible apply Keeps.ite | with_reducible apply KeepsR.ite | split | with_reducible apply Keeps.built
  | cons x l ih =>
    intro h
    unfold State.admitLoop
    try dsimp only
    repeat' first | with_reducible intro _ | with_reducible assumption | with_reducible apply ih | with_reducible apply keeps_State_admitOne | with_reducible apply Keeps.foldl | with_reducible apply Keeps.next | with_reducible apply Keeps.fault | with_reducible apply Keeps.ite | with_reducible apply KeepsR.ite | split | with_reducible apply Keeps.built

theorem keeps_State_admitGroup {z : State} : ∀ s a1 a2, Keeps z s → Keeps z (State.admitGroup s a1 a2) := by
  intro s a1 a2 h
  unfold State.admitGroup
  try dsimp only
  repeat' first | with_reducible intro _ | with_reducible assumption | with_reducible apply Keeps.ite | with_reducible apply KeepsR.ite | with_reducible apply keeps_State_admitLoop | with_reducible apply Keeps.foldl | with_reducible apply Keeps.next | with_reducible apply Keeps.fault | with_reducible apply Keeps.ite | with_reducible apply KeepsR.ite | split | with_reducible apply Keeps.built

theorem keeps_State_pressGroup {z : State} : ∀ s a1 a2, Keeps z s → Keeps z (State.pressGroup s a1 a2) := by
  intro s a1 a2 h
  unfold State.pressGroup
  try dsimp only
  repeat' first | with_reducible intro _ | with_reducible assumption | with_reducible apply Keeps.ite | with_reducible apply KeepsR.ite | with_reducible apply keeps_State_onKv | with_reducible apply keeps_State_pressLoop | with_reducible apply keeps_State_allocTail | with_reducible apply keeps_State_resumeLoop | with_reducible apply keeps_State_admitGroup | with_reducible apply Keeps.foldl | with_reducible apply Keeps.next | with_reducible apply Keeps.fault | with_reducible apply Keeps.ite | with_reducible apply KeepsR.ite | split | with_reducible apply Keeps.built

theorem keeps_State_streamHold {z : State} : ∀ s a1 a2, Keeps z s → Keeps z (State.streamHold s a1 a2) := by
  intro s a1 a2 h
  unfold State.streamHold
  try dsimp only
  repeat' first | with_reducible intro _ | with_reducible assumption | with_reducible apply Keeps.ite | with_reducible apply KeepsR.ite | with_reducible apply keeps_State_bump | with_reducible apply keeps_State_raise | with_reducible apply keeps_State_onReq | with_reducible apply keeps_State_allocTail | with_reducible apply Keeps.foldl | with_reducible apply Keeps.next | with_reducible apply Keeps.fault | with_reducible apply Keeps.ite | with_reducible apply KeepsR.ite | split | with_reducible apply Keeps.built

theorem keeps_State_streamHolds {z : State} : ∀ s a1, Keeps z s → Keeps z (State.streamHolds s a1) := by
  intro s a1 h
  unfold State.streamHolds
  try dsimp only
  repeat' first | with_reducible intro _ | with_reducible assumption | with_reducible apply Keeps.ite | with_reducible apply KeepsR.ite | with_reducible apply keeps_State_streamHold | with_reducible apply Keeps.foldl | with_reducible apply Keeps.next | with_reducible apply Keeps.fault | with_reducible apply Keeps.ite | with_reducible apply KeepsR.ite | split | with_reducible apply Keeps.built

theorem keeps_State_beginWork {z : State} : ∀ s a1 a2 a3, Keeps z s → Keeps z (State.beginWork s a1 a2 a3) := by
  intro s a1 a2 a3 h
  unfold State.beginWork
  try dsimp only
  repeat' first | with_reducible intro _ | with_reducible assumption | with_reducible apply Keeps.ite | with_reducible apply KeepsR.ite | with_reducible apply keeps_State_startList | with_reducible apply keeps_State_onSched | with_reducible apply Keeps.foldl | with_reducible apply Keeps.next | with_reducible apply Keeps.fault | with_reducible apply Keeps.ite | with_reducible apply KeepsR.ite | split | with_reducible apply Keeps.built

theorem keeps_State_publishStep {z : State} : ∀ s a1 a2, Keeps z s → Keeps z (State.publishStep s a1 a2) := by
  intro s a1 a2 h
  unfold State.publishStep
  try dsimp only
  repeat' first | with_reducible intro _ | with_reducible assumption | with_reducible apply Keeps.ite | with_reducible apply KeepsR.ite | with_reducible apply keeps_State_stepPublish | with_reducible apply keeps_State_expPublish | with_reducible apply keeps_State_onGen | with_reducible apply Keeps.foldl | with_reducible apply Keeps.next | with_reducible apply Keeps.fault | with_reducible apply Keeps.ite | with_reducible apply KeepsR.ite | split | with_reducible apply Keeps.built

theorem keeps_State_abortStep {z : State} : ∀ s a1 a2, Keeps z s → Keeps z (State.abortStep s a1 a2) := by
  intro s a1 a2 h
  unfold State.abortStep
  try dsimp only
  repeat' first | with_reducible intro _ | with_reducible assumption | with_reducible apply Keeps.ite | with_reducible apply KeepsR.ite | with_reducible apply keeps_State_endReq | with_reducible apply keeps_State_onReq | with_reducible apply keeps_State_publishStep | with_reducible apply Keeps.foldl | with_reducible apply Keeps.next | with_reducible apply Keeps.fault | with_reducible apply Keeps.ite | with_reducible apply KeepsR.ite | split | with_reducible apply Keeps.built

theorem keeps_execStepAbort {z : State} : ∀ a0 a1 s, Keeps z s → KeepsR z (execStepAbort a0 a1 s) := by
  intro a0 a1 s h
  unfold execStepAbort
  try dsimp only
  repeat' first | with_reducible intro _ | with_reducible assumption | with_reducible apply Keeps.ite | with_reducible apply KeepsR.ite | with_reducible apply keeps_onPid | with_reducible apply keeps_State_abortStep | with_reducible apply Keeps.foldl | with_reducible apply Keeps.next | with_reducible apply Keeps.fault | with_reducible apply Keeps.ite | with_reducible apply KeepsR.ite | split | with_reducible apply Keeps.built

theorem keeps_State_abandonStep {z : State} : ∀ s a1, Keeps z s → Keeps z (State.abandonStep s a1) := by
  intro s a1 h
  unfold State.abandonStep
  try dsimp only
  repeat' first | with_reducible intro _ | with_reducible assumption | with_reducible apply Keeps.ite | with_reducible apply KeepsR.ite | with_reducible apply keeps_State_onSched | with_reducible apply keeps_State_stopStepLists | with_reducible apply keeps_State_endTask | with_reducible apply keeps_State_abortStep | with_reducible apply keeps_State_emit | with_reducible apply Keeps.foldl | with_reducible apply Keeps.next | with_reducible apply Keeps.fault | with_reducible apply Keeps.ite | with_reducible apply KeepsR.ite | split | with_reducible apply Keeps.built

theorem keeps_State_beginStep {z : State} : ∀ s a1 a2 a3, Keeps z s → Keeps z (State.beginStep s a1 a2 a3) := by
  intro s a1 a2 a3 h
  unfold State.beginStep
  try dsimp only
  repeat' first | with_reducible intro _ | with_reducible assumption | with_reducible apply Keeps.ite | with_reducible apply KeepsR.ite | with_reducible apply keeps_State_onGen | with_reducible apply keeps_State_beginWork | with_reducible apply keeps_State_stepBegins | with_reducible apply keeps_State_raise | with_reducible apply keeps_State_abandonStep | with_reducible apply Keeps.foldl | with_reducible apply Keeps.next | with_reducible apply Keeps.fault | with_reducible apply Keeps.ite | with_reducible apply KeepsR.ite | split | with_reducible apply Keeps.built

theorem keeps_State_quietSwaps {z : State} : ∀ s a1, Keeps z s → Keeps z (State.quietSwaps s a1) := by
  intro s a1 h
  unfold State.quietSwaps
  try dsimp only
  repeat' first | with_reducible intro _ | with_reducible assumption | with_reducible apply Keeps.ite | with_reducible apply KeepsR.ite | with_reducible apply keeps_State_quietSwap | with_reducible apply Keeps.foldl | with_reducible apply Keeps.next | with_reducible apply Keeps.fault | with_reducible apply Keeps.ite | with_reducible apply KeepsR.ite | split | with_reducible apply Keeps.built

theorem keeps_State_launchStep {z : State} : ∀ s a1 a2 a3, Keeps z s → Keeps z (State.launchStep s a1 a2 a3) := by
  intro s a1 a2 a3 h
  unfold State.launchStep
  try dsimp only
  repeat' first | with_reducible intro _ | with_reducible assumption | with_reducible apply Keeps.ite | with_reducible apply KeepsR.ite | with_reducible apply keeps_State_choosePennant | with_reducible apply keeps_State_quietSwaps | with_reducible apply keeps_State_onGen | with_reducible apply keeps_State_set | with_reducible apply keeps_State_beginStep | with_reducible apply keeps_State_emit | with_reducible apply keeps_State_wakeUp | (with_reducible apply keeps_State_choosePennant_eq; with_reducible assumption) | with_reducible apply Keeps.foldl | with_reducible apply Keeps.next | with_reducible apply Keeps.fault | with_reducible apply Keeps.ite | with_reducible apply KeepsR.ite | split | with_reducible apply Keeps.built

theorem keeps_State_ringSpace {z : State} : ∀ s a1 a2, Keeps z s → Keeps z (State.ringSpace s a1 a2).2 := by
  intro s a1 a2 h
  unfold State.ringSpace
  try dsimp only
  repeat' first | with_reducible intro _ | with_reducible assumption | with_reducible apply Keeps.ite | with_reducible apply KeepsR.ite | with_reducible apply keeps_State_raise | with_reducible apply keeps_State_onGen | with_reducible apply Keeps.foldl | with_reducible apply Keeps.next | with_reducible apply Keeps.fault | with_reducible apply Keeps.ite | with_reducible apply KeepsR.ite | split | with_reducible apply Keeps.built


theorem keeps_State_ringSpace_eq {z : State} : ∀ s a1 a2 x t, (State.ringSpace s a1 a2) = (x, t) → Keeps z s → Keeps z t := by
  intro s a1 a2 x t e h
  have := keeps_State_ringSpace s a1 a2 h
  rw [e] at this
  exact this

theorem keeps_State_noStep {z : State} : ∀ s a1, Keeps z s → Keeps z (State.noStep s a1) := by
  intro s a1 h
  unfold State.noStep
  try dsimp only
  repeat' first | with_reducible intro _ | with_reducible assumption | with_reducible apply Keeps.ite | with_reducible apply KeepsR.ite | with_reducible apply keeps_State_quietSwaps | with_reducible apply keeps_State_onGen | with_reducible apply Keeps.foldl | with_reducible apply Keeps.next | with_reducible apply Keeps.fault | with_reducible apply Keeps.ite | with_reducible apply KeepsR.ite | split | with_reducible apply Keeps.built

theorem keeps_State_proceed {z : State} : ∀ s a1, Keeps z s → Keeps z (State.proceed s a1) := by
  intro s a1 h
  unfold State.proceed
  try dsimp only
  repeat' first | with_reducible intro _ | with_reducible assumption | with_reducible apply Keeps.ite | with_reducible apply KeepsR.ite | with_reducible apply keeps_State_noStep | with_reducible apply keeps_State_onGen | with_reducible apply keeps_State_bump | with_reducible apply keeps_State_ringSpace | with_reducible apply keeps_State_launchStep | (with_reducible apply keeps_State_ringSpace_eq; with_reducible assumption) | with_reducible apply Keeps.foldl | with_reducible apply Keeps.next | with_reducible apply Keeps.fault | with_reducible apply Keeps.ite | with_reducible apply KeepsR.ite | split | with_reducible apply Keeps.built

theorem keeps_State_boundary {z : State} : ∀ s a1, Keeps z s → Keeps z (State.boundary s a1) := by
  intro s a1 h
  unfold State.boundary
  try dsimp only
  repeat' first | with_reducible intro _ | with_reducible assumption | with_reducible apply Keeps.ite | with_reducible apply KeepsR.ite | with_reducible apply keeps_State_takeDue | with_reducible apply keeps_State_leaveAll | with_reducible apply keeps_State_onGen | with_reducible apply keeps_State_streamHolds | with_reducible apply keeps_State_pressGroup | with_reducible apply keeps_State_proceed | with_reducible apply Keeps.foldl | with_reducible apply Keeps.next | with_reducible apply Keeps.fault | with_reducible apply Keeps.ite | with_reducible apply KeepsR.ite | split | with_reducible apply Keeps.built

theorem keeps_State_launchCommand {z : State} : ∀ s a1, Keeps z s → Keeps z (State.launchCommand s a1) := by
  intro s a1 h
  unfold State.launchCommand
  try dsimp only
  repeat' first | with_reducible intro _ | with_reducible assumption | with_reducible apply Keeps.ite | with_reducible apply KeepsR.ite | with_reducible apply keeps_State_boundary | with_reducible apply keeps_State_proceed | with_reducible apply Keeps.foldl | with_reducible apply Keeps.next | with_reducible apply Keeps.fault | with_reducible apply Keeps.ite | with_reducible apply KeepsR.ite | split | with_reducible apply Keeps.built

theorem keeps_execDecodeStepLaunch {z : State} : ∀ a0 s, Keeps z s → KeepsR z (execDecodeStepLaunch a0 s) := by
  intro a0 s h
  unfold execDecodeStepLaunch
  try dsimp only
  repeat' first | with_reducible intro _ | with_reducible assumption | with_reducible apply Keeps.ite | with_reducible apply KeepsR.ite | with_reducible apply keeps_onPid | with_reducible apply keeps_State_launchCommand | with_reducible apply Keeps.foldl | with_reducible apply Keeps.next | with_reducible apply Keeps.fault | with_reducible apply Keeps.ite | with_reducible apply KeepsR.ite | split | with_reducible apply Keeps.built

theorem keeps_State_fillExpires {z : State} : ∀ s a1, Keeps z s → Keeps z (State.fillExpires s a1) := by
  intro s a1 h
  unfold State.fillExpires
  try dsimp only
  repeat' first | with_reducible intro _ | with_reducible assumption | with_reducible apply Keeps.ite | with_reducible apply KeepsR.ite | with_reducible apply keeps_State_proceed | with_reducible apply keeps_State_onGen | with_reducible apply keeps_State_bump | with_reducible apply Keeps.foldl | with_reducible apply Keeps.next | with_reducible apply Keeps.fault | with_reducible apply Keeps.ite | with_reducible apply KeepsR.ite | split | with_reducible apply Keeps.built

theorem keeps_execFillHoldExpiry {z : State} : ∀ a0 s, Keeps z s → KeepsR z (execFillHoldExpiry a0 s) := by
  intro a0 s h
  unfold execFillHoldExpiry
  try dsimp only
  repeat' first | with_reducible intro _ | with_reducible assumption | with_reducible apply Keeps.ite | with_reducible apply KeepsR.ite | with_reducible apply keeps_onPid | with_reducible apply keeps_State_fillExpires | with_reducible apply Keeps.foldl | with_reducible apply Keeps.next | with_reducible apply Keeps.fault | with_reducible apply Keeps.ite | with_reducible apply KeepsR.ite | split | with_reducible apply Keeps.built

theorem keeps_State_joinInHold {z : State} : ∀ s a1, Keeps z s → Keeps z (State.joinInHold s a1) := by
  intro s a1 h
  unfold State.joinInHold
  try dsimp only
  repeat' first | with_reducible intro _ | with_reducible assumption | with_reducible apply Keeps.ite | with_reducible apply KeepsR.ite | with_reducible apply keeps_State_proceed | with_reducible apply keeps_State_admitGroup | with_reducible apply Keeps.foldl | with_reducible apply Keeps.next | with_reducible apply Keeps.fault | with_reducible apply Keeps.ite | with_reducible apply KeepsR.ite | split | with_reducible apply Keeps.built

theorem keeps_execJoinDuringHold {z : State} : ∀ a0 s, Keeps z s → KeepsR z (execJoinDuringHold a0 s) := by
  intro a0 s h
  unfold execJoinDuringHold
  try dsimp only
  repeat' first | with_reducible intro _ | with_reducible assumption | with_reducible apply Keeps.ite | with_reducible apply KeepsR.ite | with_reducible apply keeps_onPid | with_reducible apply keeps_State_joinInHold | with_reducible apply Keeps.foldl | with_reducible apply Keeps.next | with_reducible apply Keeps.fault | with_reducible apply Keeps.ite | with_reducible apply KeepsR.ite | split | with_reducible apply Keeps.built

theorem keeps_State_spillsRead {z : State} : ∀ s a1, Keeps z s → Keeps z (State.spillsRead s a1) := by
  intro s a1 h
  unfold State.spillsRead
  try dsimp only
  repeat' first | with_reducible intro _ | with_reducible assumption | with_reducible apply Keeps.ite | with_reducible apply KeepsR.ite | with_reducible apply keeps_State_onGen | with_reducible apply keeps_State_bump | with_reducible apply keeps_State_proceed | with_reducible apply Keeps.foldl | with_reducible apply Keeps.next | with_reducible apply Keeps.fault | with_reducible apply Keeps.ite | with_reducible apply KeepsR.ite | split | with_reducible apply Keeps.built

theorem keeps_execSpillReadDone {z : State} : ∀ a0 s, Keeps z s → KeepsR z (execSpillReadDone a0 s) := by
  intro a0 s h
  unfold execSpillReadDone
  try dsimp only
  repeat' first | with_reducible intro _ | with_reducible assumption | with_reducible apply Keeps.ite | with_reducible apply KeepsR.ite | with_reducible apply keeps_onPid | with_reducible apply keeps_State_spillsRead | with_reducible apply Keeps.foldl | with_reducible apply Keeps.next | with_reducible apply Keeps.fault | with_reducible apply Keeps.ite | with_reducible apply KeepsR.ite | split | with_reducible apply Keeps.built

theorem keeps_State_pagesLanded {z : State} : ∀ s a1 a2 a3, Keeps z s → Keeps z (State.pagesLanded s a1 a2 a3) := by
  intro s a1 a2 a3 h
  unfold State.pagesLanded
  try dsimp only
  repeat' first | with_reducible intro _ | with_reducible assumption | with_reducible apply Keeps.ite | with_reducible apply KeepsR.ite | with_reducible apply keeps_State_onReq | with_reducible apply keeps_State_endReq | with_reducible apply Keeps.foldl | with_reducible apply Keeps.next | with_reducible apply Keeps.fault | with_reducible apply Keeps.ite | with_reducible apply KeepsR.ite | split | with_reducible apply Keeps.built

theorem keeps_execResumePagesLanded {z : State} : ∀ a0 a1 a2 s, Keeps z s → KeepsR z (execResumePagesLanded a0 a1 a2 s) := by
  intro a0 a1 a2 s h
  unfold execResumePagesLanded
  try dsimp only
  repeat' first | with_reducible intro _ | with_reducible assumption | with_reducible apply Keeps.ite | with_reducible apply KeepsR.ite | with_reducible apply keeps_onPid | with_reducible apply keeps_State_pagesLanded | with_reducible apply Keeps.foldl | with_reducible apply Keeps.next | with_reducible apply Keeps.fault | with_reducible apply Keeps.ite | with_reducible apply KeepsR.ite | split | with_reducible apply Keeps.built

theorem keeps_State_swapCommand {z : State} : ∀ s a1, Keeps z s → Keeps z (State.swapCommand s a1) := by
  intro s a1 h
  unfold State.swapCommand
  try dsimp only
  repeat' first | with_reducible intro _ | with_reducible assumption | with_reducible apply Keeps.ite | with_reducible apply KeepsR.ite | with_reducible apply keeps_State_swapEntry | with_reducible apply keeps_State_quietSwaps | with_reducible apply Keeps.foldl | with_reducible apply Keeps.next | with_reducible apply Keeps.fault | with_reducible apply Keeps.ite | with_reducible apply KeepsR.ite | split | with_reducible apply Keeps.built

theorem keeps_execSwap {z : State} : ∀ a0 s, Keeps z s → KeepsR z (execSwap a0 s) := by
  intro a0 s h
  unfold execSwap
  try dsimp only
  repeat' first | with_reducible intro _ | with_reducible assumption | with_reducible apply Keeps.ite | with_reducible apply KeepsR.ite | with_reducible apply keeps_onPid | with_reducible apply keeps_State_swapCommand | with_reducible apply Keeps.foldl | with_reducible apply Keeps.next | with_reducible apply Keeps.fault | with_reducible apply Keeps.ite | with_reducible apply KeepsR.ite | split | with_reducible apply Keeps.built

theorem keeps_State_launchMessage {z : State} : ∀ s a1 a2, Keeps z s → Keeps z (State.launchMessage s a1 a2) := by
  intro s a1 a2 h
  unfold State.launchMessage
  try dsimp only
  repeat' first | with_reducible intro _ | with_reducible assumption | with_reducible apply Keeps.ite | with_reducible apply KeepsR.ite | with_reducible apply keeps_State_raise | with_reducible apply keeps_State_beginStep | with_reducible apply keeps_State_wakeUp | with_reducible apply keeps_State_kvApply | with_reducible apply Keeps.foldl | with_reducible apply Keeps.next | with_reducible apply Keeps.fault | with_reducible apply Keeps.ite | with_reducible apply KeepsR.ite | split | with_reducible apply Keeps.built

theorem keeps_execStepLaunchMessage {z : State} : ∀ a0 a1 s, Keeps z s → KeepsR z (execStepLaunchMessage a0 a1 s) := by
  intro a0 a1 s h
  unfold execStepLaunchMessage
  try dsimp only
  repeat' first | with_reducible intro _ | with_reducible assumption | with_reducible apply Keeps.ite | with_reducible apply KeepsR.ite | with_reducible apply keeps_onPid | with_reducible apply keeps_State_launchMessage | with_reducible apply Keeps.foldl | with_reducible apply Keeps.next | with_reducible apply Keeps.fault | with_reducible apply Keeps.ite | with_reducible apply KeepsR.ite | split | with_reducible apply Keeps.built

theorem keeps_State_deliver {z : State} : ∀ s a1 a2 a3 a4 a5, Keeps z s → Keeps z (State.deliver s a1 a2 a3 a4 a5) := by
  intro s a1 a2 a3 a4 a5 h
  unfold State.deliver
  try dsimp only
  repeat' first | with_reducible intro _ | with_reducible assumption | with_reducible apply Keeps.ite | with_reducible apply KeepsR.ite | with_reducible apply keeps_State_addRecs | with_reducible apply keeps_State_streamPut | with_reducible apply keeps_State_onReq | with_reducible apply keeps_State_endReq | with_reducible apply Keeps.foldl | with_reducible apply Keeps.next | with_reducible apply Keeps.fault | with_reducible apply Keeps.ite | with_reducible apply KeepsR.ite | split | with_reducible apply Keeps.built

theorem keeps_State_commitRows {z : State} : ∀ s a1 a2 a3 a4 a5, Keeps z s → Keeps z (State.commitRows s a1 a2 a3 a4 a5) := by
  intro s a1 a2 a3 a4 a5 h
  unfold State.commitRows
  try dsimp only
  repeat' first | with_reducible intro _ | with_reducible assumption | with_reducible apply Keeps.ite | with_reducible apply KeepsR.ite | with_reducible apply keeps_State_onReq | with_reducible apply keeps_State_addRecs | with_reducible apply keeps_State_bump | with_reducible apply keeps_State_deliver | with_reducible apply Keeps.foldl | with_reducible apply Keeps.next | with_reducible apply Keeps.fault | with_reducible apply Keeps.ite | with_reducible apply KeepsR.ite | split | with_reducible apply Keeps.built

theorem keeps_State_commitSlot {z : State} : ∀ s a1 a2 a3 a4, Keeps z s → Keeps z (State.commitSlot s a1 a2 a3 a4) := by
  intro s a1 a2 a3 a4 h
  unfold State.commitSlot
  try dsimp only
  repeat' first | with_reducible intro _ | with_reducible assumption | with_reducible apply Keeps.ite | with_reducible apply KeepsR.ite | with_reducible apply keeps_State_onStep | with_reducible apply keeps_State_frameFails | with_reducible apply keeps_State_endReq | with_reducible apply keeps_State_commitRows | with_reducible apply keeps_State_onReq | with_reducible apply keeps_State_publishStep | with_reducible apply Keeps.foldl | with_reducible apply Keeps.next | with_reducible apply Keeps.fault | with_reducible apply Keeps.ite | with_reducible apply KeepsR.ite | split | with_reducible apply Keeps.built

theorem keeps_State_slotCommit {z : State} : ∀ s a1 a2 a3 a4, Keeps z s → Keeps z (State.slotCommit s a1 a2 a3 a4) := by
  intro s a1 a2 a3 a4 h
  unfold State.slotCommit
  try dsimp only
  repeat' first | with_reducible intro _ | with_reducible assumption | with_reducible apply Keeps.ite | with_reducible apply KeepsR.ite | with_reducible apply keeps_State_commitSlot | with_reducible apply Keeps.foldl | with_reducible apply Keeps.next | with_reducible apply Keeps.fault | with_reducible apply Keeps.ite | with_reducible apply KeepsR.ite | split | with_reducible apply Keeps.built

theorem keeps_execSlotCommit {z : State} : ∀ a0 a1 a2 a3 s, Keeps z s → KeepsR z (execSlotCommit a0 a1 a2 a3 s) := by
  intro a0 a1 a2 a3 s h
  unfold execSlotCommit
  try dsimp only
  repeat' first | with_reducible intro _ | with_reducible assumption | with_reducible apply Keeps.ite | with_reducible apply KeepsR.ite | with_reducible apply keeps_onPid | with_reducible apply keeps_State_slotCommit | with_reducible apply Keeps.foldl | with_reducible apply Keeps.next | with_reducible apply Keeps.fault | with_reducible apply Keeps.ite | with_reducible apply KeepsR.ite | split | with_reducible apply Keeps.built

theorem keeps_State_ringHeaderWrite {z : State} : ∀ s p off n v t, State.ringHeaderWrite s p off n v = some t → Keeps z s → Keeps z t := by
  intro s p off n v t e h
  unfold State.ringHeaderWrite at e
  dsimp only at e
  split at e
  · cases e
  · split at e
    · injection e with e
      subst e
      exact keeps_State_expWatch _ _ (keeps_State_writeN _ _ _ _ h)
    · split at e
      · split at e
        · injection e with e
          subst e
          exact h
        · injection e with e
          subst e
          exact keeps_State_expWatch _ _ (keeps_State_writeN _ _ _ _ h)
      · cases e

theorem keeps_State_ringWoken {z : State} : ∀ s a1, Keeps z s → Keeps z (State.ringWoken s a1) := by
  intro s a1 h
  unfold State.ringWoken
  try dsimp only
  repeat' first | with_reducible intro _ | with_reducible assumption | with_reducible apply Keeps.ite | with_reducible apply KeepsR.ite | with_reducible apply keeps_State_proceed | with_reducible apply Keeps.foldl | with_reducible apply Keeps.next | with_reducible apply Keeps.fault | with_reducible apply Keeps.ite | with_reducible apply KeepsR.ite | split | with_reducible apply Keeps.built

theorem keeps_execExpHeaderWrite {z : State} : ∀ a0 a1 a2 s, Keeps z s → KeepsR z (execExpHeaderWrite a0 a1 a2 s) := by
  intro a0 a1 a2 s h
  unfold execExpHeaderWrite
  try dsimp only
  repeat' first | with_reducible intro _ | with_reducible assumption | with_reducible apply Keeps.ite | with_reducible apply KeepsR.ite | with_reducible apply keeps_onPid | (with_reducible apply keeps_State_ringHeaderWrite; with_reducible assumption) | with_reducible apply keeps_State_ringWoken | with_reducible apply Keeps.foldl | with_reducible apply Keeps.next | with_reducible apply Keeps.fault | with_reducible apply Keeps.ite | with_reducible apply KeepsR.ite | split | with_reducible apply Keeps.built

theorem keeps_State_onColl {z : State} : ∀ s a1 a2 a3, Keeps z s → Keeps z (State.onColl s a1 a2 a3) := by
  intro s a1 a2 a3 h
  unfold State.onColl
  try dsimp only
  repeat' first | with_reducible intro _ | with_reducible assumption | with_reducible apply Keeps.ite | with_reducible apply KeepsR.ite | with_reducible apply keeps_State_onBulk | with_reducible apply Keeps.foldl | with_reducible apply Keeps.next | with_reducible apply Keeps.fault | with_reducible apply Keeps.ite | with_reducible apply KeepsR.ite | split | with_reducible apply Keeps.built

theorem keeps_State_collsLeave {z : State} : ∀ s a1, Keeps z s → Keeps z (State.collsLeave s a1) := by
  intro s a1 h
  unfold State.collsLeave
  try dsimp only
  repeat' first | with_reducible intro _ | with_reducible assumption | with_reducible apply Keeps.ite | with_reducible apply KeepsR.ite | with_reducible apply keeps_State_onBulk | with_reducible apply Keeps.foldl | with_reducible apply Keeps.next | with_reducible apply Keeps.fault | with_reducible apply Keeps.ite | with_reducible apply KeepsR.ite | split | with_reducible apply Keeps.built

theorem keeps_State_grantColl {z : State} : ∀ s a1 a2 a3 a4 a5, Keeps z s → Keeps z (State.grantColl s a1 a2 a3 a4 a5) := by
  intro s a1 a2 a3 a4 a5 h
  unfold State.grantColl
  try dsimp only
  repeat' first | with_reducible intro _ | with_reducible assumption | with_reducible apply Keeps.ite | with_reducible apply KeepsR.ite | with_reducible apply keeps_State_send | with_reducible apply keeps_State_onBulk | with_reducible apply Keeps.foldl | with_reducible apply Keeps.next | with_reducible apply Keeps.fault | with_reducible apply Keeps.ite | with_reducible apply KeepsR.ite | split | with_reducible apply Keeps.built

theorem keeps_State_creditUsed {z : State} : ∀ s a1 a2 a3, Keeps z s → Keeps z (State.creditUsed s a1 a2 a3) := by
  intro s a1 a2 a3 h
  unfold State.creditUsed
  try dsimp only
  repeat' first | with_reducible intro _ | with_reducible assumption | with_reducible apply Keeps.ite | with_reducible apply KeepsR.ite | with_reducible apply keeps_State_onBulk | with_reducible apply Keeps.foldl | with_reducible apply Keeps.next | with_reducible apply Keeps.fault | with_reducible apply Keeps.ite | with_reducible apply KeepsR.ite | split | with_reducible apply Keeps.built

theorem keeps_State_regrantPooled {z : State} : ∀ s a1 a2 a3 a4, Keeps z s → Keeps z (State.regrantPooled s a1 a2 a3 a4) := by
  intro s a1 a2 a3 a4 h
  unfold State.regrantPooled
  try dsimp only
  repeat' first | with_reducible intro _ | with_reducible assumption | with_reducible apply Keeps.ite | with_reducible apply KeepsR.ite | with_reducible apply keeps_State_grantColl | with_reducible apply keeps_State_onBulk | with_reducible apply Keeps.foldl | with_reducible apply Keeps.next | with_reducible apply Keeps.fault | with_reducible apply Keeps.ite | with_reducible apply KeepsR.ite | split | with_reducible apply Keeps.built

theorem keeps_State_payOwed {z : State} : ∀ s p g x n, Keeps z s → Keeps z (State.payOwed s p g x n) := by
  intro s p g x n
  induction n generalizing s with
  | zero =>
    intro h
    unfold State.payOwed
    repeat' first | with_reducible intro _ | with_reducible assumption | with_reducible apply keeps_State_onBulk | with_reducible apply keeps_State_grantColl | with_reducible apply Keeps.foldl | with_reducible apply Keeps.next | with_reducible apply Keeps.fault | with_reducible apply Keeps.ite | with_reducible apply KeepsR.ite | split | with_reducible apply Keeps.built
  | succ n ih =>
    intro h
    unfold State.payOwed
    try dsimp only
    repeat' first | with_reducible intro _ | with_reducible assumption | with_reducible apply ih | with_reducible apply keeps_State_onBulk | with_reducible apply keeps_State_grantColl | with_reducible apply Keeps.foldl | with_reducible apply Keeps.next | with_reducible apply Keeps.fault | with_reducible apply Keeps.ite | with_reducible apply KeepsR.ite | split | with_reducible apply Keeps.built

theorem keeps_State_pumpMember {z : State} : ∀ s p g x m n, Keeps z s → Keeps z (State.pumpMember s p g x m n) := by
  intro s p g x m n
  induction n generalizing s with
  | zero =>
    intro h
    unfold State.pumpMember
    repeat' first | with_reducible intro _ | with_reducible assumption | with_reducible apply keeps_State_onBulk | with_reducible apply keeps_State_onColl | with_reducible apply keeps_State_send | with_reducible apply Keeps.foldl | with_reducible apply Keeps.next | with_reducible apply Keeps.fault | with_reducible apply Keeps.ite | with_reducible apply KeepsR.ite | split | with_reducible apply Keeps.built
  | succ n ih =>
    intro h
    unfold State.pumpMember
    try dsimp only
    repeat' first | with_reducible intro _ | with_reducible assumption | with_reducible apply ih | with_reducible apply keeps_State_onBulk | with_reducible apply keeps_State_onColl | with_reducible apply keeps_State_send | with_reducible apply Keeps.foldl | with_reducible apply Keeps.next | with_reducible apply Keeps.fault | with_reducible apply Keeps.ite | with_reducible apply KeepsR.ite | split | with_reducible apply Keeps.built

theorem keeps_State_pumpGroup {z : State} : ∀ s a1 a2 a3, Keeps z s → Keeps z (State.pumpGroup s a1 a2 a3) := by
  intro s a1 a2 a3 h
  unfold State.pumpGroup
  try dsimp only
  repeat' first | with_reducible intro _ | with_reducible assumption | with_reducible apply Keeps.ite | with_reducible apply KeepsR.ite | with_reducible apply keeps_State_collsLeave | with_reducible apply keeps_State_pumpMember | with_reducible apply Keeps.foldl | with_reducible apply Keeps.next | with_reducible apply Keeps.fault | with_reducible apply Keeps.ite | with_reducible apply KeepsR.ite | split | with_reducible apply Keeps.built

theorem keeps_State_writeProgress {z : State} : ∀ s a1 a2 a3 a4, Keeps z s → Keeps z (State.writeProgress s a1 a2 a3 a4) := by
  intro s a1 a2 a3 a4 h
  unfold State.writeProgress
  try dsimp only
  repeat' first | with_reducible intro _ | with_reducible assumption | with_reducible apply Keeps.ite | with_reducible apply KeepsR.ite | with_reducible apply keeps_State_writeN | with_reducible apply Keeps.foldl | with_reducible apply Keeps.next | with_reducible apply Keeps.fault | with_reducible apply Keeps.ite | with_reducible apply KeepsR.ite | split | with_reducible apply Keeps.built

theorem keeps_State_landColl {z : State} : ∀ s a1 a2, Keeps z s → Keeps z (State.landColl s a1 a2) := by
  intro s a1 a2 h
  unfold State.landColl
  try dsimp only
  repeat' first | with_reducible intro _ | with_reducible assumption | with_reducible apply Keeps.ite | with_reducible apply KeepsR.ite | with_reducible apply keeps_State_landOn | with_reducible apply Keeps.foldl | with_reducible apply Keeps.next | with_reducible apply Keeps.fault | with_reducible apply Keeps.ite | with_reducible apply KeepsR.ite | split | with_reducible apply Keeps.built

theorem keeps_State_collEvent {z : State} : ∀ s a1 a2 a3, Keeps z s → Keeps z (State.collEvent s a1 a2 a3) := by
  intro s a1 a2 a3 h
  unfold State.collEvent
  try dsimp only
  repeat' first | with_reducible intro _ | with_reducible assumption | with_reducible apply Keeps.ite | with_reducible apply KeepsR.ite | with_reducible apply keeps_State_raise | with_reducible apply keeps_State_bump | with_reducible apply Keeps.foldl | with_reducible apply Keeps.next | with_reducible apply Keeps.fault | with_reducible apply Keeps.ite | with_reducible apply KeepsR.ite | split | with_reducible apply Keeps.built

theorem keeps_State_collFails {z : State} : ∀ s a1 a2 a3 a4, Keeps z s → Keeps z (State.collFails s a1 a2 a3 a4) := by
  intro s a1 a2 a3 a4 h
  unfold State.collFails
  try dsimp only
  repeat' first | with_reducible intro _ | with_reducible assumption | with_reducible apply Keeps.ite | with_reducible apply KeepsR.ite | with_reducible apply keeps_State_writeProgress | with_reducible apply keeps_State_onBulk | with_reducible apply keeps_State_onColl | with_reducible apply keeps_State_collsLeave | with_reducible apply keeps_State_collEvent | with_reducible apply keeps_State_landColl | with_reducible apply keeps_State_abandonStep | with_reducible apply keeps_State_stepFails | with_reducible apply Keeps.foldl | with_reducible apply Keeps.next | with_reducible apply Keeps.fault | with_reducible apply Keeps.ite | with_reducible apply KeepsR.ite | split | with_reducible apply Keeps.built

theorem keeps_State_collProgress {z : State} : ∀ s a1 a2 a3, Keeps z s → Keeps z (State.collProgress s a1 a2 a3) := by
  intro s a1 a2 a3 h
  unfold State.collProgress
  try dsimp only
  repeat' first | with_reducible intro _ | with_reducible assumption | with_reducible apply Keeps.ite | with_reducible apply KeepsR.ite | with_reducible apply keeps_State_collsLeave | with_reducible apply keeps_State_onColl | with_reducible apply keeps_State_bump | with_reducible apply keeps_State_landColl | with_reducible apply keeps_State_writeProgress | with_reducible apply Keeps.foldl | with_reducible apply Keeps.next | with_reducible apply Keeps.fault | with_reducible apply Keeps.ite | with_reducible apply KeepsR.ite | split | with_reducible apply Keeps.built

theorem keeps_execCollectiveChunkDone {z : State} : ∀ a0 a1 s, Keeps z s → KeepsR z (execCollectiveChunkDone a0 a1 s) := by
  intro a0 a1 s h
  unfold execCollectiveChunkDone
  try dsimp only
  repeat' first | with_reducible intro _ | with_reducible assumption | with_reducible apply Keeps.ite | with_reducible apply KeepsR.ite | with_reducible apply keeps_onPid | with_reducible apply keeps_State_collProgress | with_reducible apply Keeps.foldl | with_reducible apply Keeps.next | with_reducible apply Keeps.fault | with_reducible apply Keeps.ite | with_reducible apply KeepsR.ite | split | with_reducible apply Keeps.built

theorem keeps_execCollectiveDeadline {z : State} : ∀ a0 a1 s, Keeps z s → KeepsR z (execCollectiveDeadline a0 a1 s) := by
  intro a0 a1 s h
  unfold execCollectiveDeadline
  try dsimp only
  repeat' first | with_reducible intro _ | with_reducible assumption | with_reducible apply Keeps.ite | with_reducible apply KeepsR.ite | with_reducible apply keeps_onPid | with_reducible apply keeps_State_collFails | with_reducible apply Keeps.foldl | with_reducible apply Keeps.next | with_reducible apply Keeps.fault | with_reducible apply Keeps.ite | with_reducible apply KeepsR.ite | split | with_reducible apply Keeps.built

theorem keeps_State_collPut {z : State} : ∀ s a1 a2 a3 a4 a5 a6 a7, Keeps z s → Keeps z (State.collPut s a1 a2 a3 a4 a5 a6 a7) := by
  intro s a1 a2 a3 a4 a5 a6 a7 h
  unfold State.collPut
  try dsimp only
  repeat' first | with_reducible intro _ | with_reducible assumption | with_reducible apply Keeps.ite | with_reducible apply KeepsR.ite | with_reducible apply keeps_State_onColl | with_reducible apply keeps_State_writeBytes | with_reducible apply keeps_State_collFails | with_reducible apply Keeps.foldl | with_reducible apply Keeps.next | with_reducible apply Keeps.fault | with_reducible apply Keeps.ite | with_reducible apply KeepsR.ite | split | with_reducible apply Keeps.built

theorem keeps_State_collReduce {z : State} : ∀ s a1 a2 a3 a4 a5, Keeps z s → Keeps z (State.collReduce s a1 a2 a3 a4 a5) := by
  intro s a1 a2 a3 a4 a5 h
  unfold State.collReduce
  try dsimp only
  repeat' first | with_reducible intro _ | with_reducible assumption | with_reducible apply Keeps.ite | with_reducible apply KeepsR.ite | with_reducible apply keeps_State_onColl | with_reducible apply keeps_State_collPut | with_reducible apply Keeps.foldl | with_reducible apply Keeps.next | with_reducible apply Keeps.fault | with_reducible apply Keeps.ite | with_reducible apply KeepsR.ite | split | with_reducible apply Keeps.built

theorem keeps_State_collPart {z : State} : ∀ s a1 a2 a3 a4, Keeps z s → Keeps z (State.collPart s a1 a2 a3 a4) := by
  intro s a1 a2 a3 a4 h
  unfold State.collPart
  try dsimp only
  repeat' first | with_reducible intro _ | with_reducible assumption | with_reducible apply Keeps.ite | with_reducible apply KeepsR.ite | with_reducible apply keeps_State_onColl | with_reducible apply keeps_State_collReduce | with_reducible apply Keeps.foldl | with_reducible apply Keeps.next | with_reducible apply Keeps.fault | with_reducible apply Keeps.ite | with_reducible apply KeepsR.ite | split | with_reducible apply Keeps.built

theorem keeps_State_collLand {z : State} : ∀ s a1 a2 a3 a4 a5, Keeps z s → Keeps z (State.collLand s a1 a2 a3 a4 a5) := by
  intro s a1 a2 a3 a4 a5 h
  unfold State.collLand
  try dsimp only
  repeat' first | with_reducible intro _ | with_reducible assumption | with_reducible apply Keeps.ite | with_reducible apply KeepsR.ite | with_reducible apply keeps_State_collFails | with_reducible apply keeps_State_collPart | with_reducible apply keeps_State_collPut | with_reducible apply Keeps.foldl | with_reducible apply Keeps.next | with_reducible apply Keeps.fault | with_reducible apply Keeps.ite | with_reducible apply KeepsR.ite | split | with_reducible apply Keeps.built

theorem keeps_State_collData {z : State} : ∀ s a1 a2, Keeps z s → Keeps z (State.collData s a1 a2) := by
  intro s a1 a2 h
  unfold State.collData
  try dsimp only
  repeat' first | with_reducible intro _ | with_reducible assumption | with_reducible apply Keeps.ite | with_reducible apply KeepsR.ite | with_reducible apply keeps_State_creditUsed | with_reducible apply keeps_State_pumpGroup | with_reducible apply keeps_State_grantColl | with_reducible apply keeps_State_collLand | with_reducible apply keeps_State_regrantPooled | with_reducible apply keeps_State_bump | with_reducible apply keeps_State_onBulk | with_reducible apply Keeps.foldl | with_reducible apply Keeps.next | with_reducible apply Keeps.fault | with_reducible apply Keeps.ite | with_reducible apply KeepsR.ite | split | with_reducible apply Keeps.built

theorem keeps_execCollDataReceive {z : State} : ∀ a0 a1 s, Keeps z s → KeepsR z (execCollDataReceive a0 a1 s) := by
  intro a0 a1 s h
  unfold execCollDataReceive
  try dsimp only
  repeat' first | with_reducible intro _ | with_reducible assumption | with_reducible apply Keeps.ite | with_reducible apply KeepsR.ite | with_reducible apply keeps_onPid | with_reducible apply keeps_State_packetViolation | with_reducible apply keeps_State_ackPacket | with_reducible apply keeps_State_collData | with_reducible apply Keeps.foldl | with_reducible apply Keeps.next | with_reducible apply Keeps.fault | with_reducible apply Keeps.ite | with_reducible apply KeepsR.ite | split | with_reducible apply Keeps.built

theorem keeps_State_whileRunning {z : State} : ∀ s p g f, Keeps z s → (∀ c, Keeps z (f c)) → Keeps z (State.whileRunning s p g f) := by
  intro s p g f h hf
  unfold State.whileRunning
  repeat' first | with_reducible intro _ | with_reducible assumption | with_reducible apply hf | split

theorem keeps_State_collRun {z : State} : ∀ s a1 a2 a3 a4 a5, Keeps z s → Keeps z (State.collRun s a1 a2 a3 a4 a5) := by
  intro s a1 a2 a3 a4 a5 h
  unfold State.collRun
  try dsimp only
  repeat' first | with_reducible intro _ | with_reducible assumption | with_reducible apply Keeps.ite | with_reducible apply KeepsR.ite | (with_reducible apply keeps_State_armOn; with_reducible assumption) | with_reducible apply keeps_State_armOn_getD | with_reducible apply keeps_State_onBulk | with_reducible apply keeps_State_whileRunning | with_reducible apply keeps_State_collFails | with_reducible apply keeps_State_collPut | with_reducible apply keeps_State_collPart | with_reducible apply keeps_State_collLand | with_reducible apply keeps_State_pumpGroup | with_reducible apply keeps_State_payOwed | with_reducible apply Keeps.foldl | with_reducible apply Keeps.next | with_reducible apply Keeps.fault | with_reducible apply Keeps.ite | with_reducible apply KeepsR.ite | split | with_reducible apply Keeps.built

theorem keeps_State_collStart {z : State} : ∀ s a1 a2, Keeps z s → Keeps z (State.collStart s a1 a2) := by
  intro s a1 a2 h
  unfold State.collStart
  try dsimp only
  repeat' first | with_reducible intro _ | with_reducible assumption | with_reducible apply Keeps.ite | with_reducible apply KeepsR.ite | with_reducible apply keeps_State_collEvent | with_reducible apply keeps_State_collRun | with_reducible apply Keeps.foldl | with_reducible apply Keeps.next | with_reducible apply Keeps.fault | with_reducible apply Keeps.ite | with_reducible apply KeepsR.ite | split | with_reducible apply Keeps.built

theorem keeps_execCollGo {z : State} : ∀ a0 a1 a2 s, Keeps z s → KeepsR z (execCollGo a0 a1 a2 s) := by
  intro a0 a1 a2 s h
  unfold execCollGo
  try dsimp only
  repeat' first | with_reducible intro _ | with_reducible assumption | with_reducible apply Keeps.ite | with_reducible apply KeepsR.ite | with_reducible apply keeps_onPid | with_reducible apply keeps_State_guard | with_reducible apply keeps_State_collStart | with_reducible apply Keeps.foldl | with_reducible apply Keeps.next | with_reducible apply Keeps.fault | with_reducible apply Keeps.ite | with_reducible apply KeepsR.ite | split | with_reducible apply Keeps.built

theorem keeps_execLaunch {z : State} : ∀ a0 s, Keeps z s → KeepsR z (execLaunch a0 s) := by
  intro a0 s h
  unfold execLaunch
  try dsimp only
  repeat' first | with_reducible intro _ | with_reducible assumption | with_reducible apply Keeps.ite | with_reducible apply KeepsR.ite | with_reducible apply keeps_onPid | with_reducible apply keeps_State_collStart | with_reducible apply keeps_State_dropEntry | with_reducible apply Keeps.foldl | with_reducible apply Keeps.next | with_reducible apply Keeps.fault | with_reducible apply Keeps.ite | with_reducible apply KeepsR.ite | split | with_reducible apply Keeps.built

theorem keeps_State_loadGroups {z : State} : ∀ s a1, Keeps z s → Keeps z (State.loadGroups s a1) := by
  intro s a1 h
  unfold State.loadGroups
  try dsimp only
  repeat' first | with_reducible intro _ | with_reducible assumption | with_reducible apply Keeps.ite | with_reducible apply KeepsR.ite | with_reducible apply keeps_State_onBulk | with_reducible apply keeps_State_grantColl | with_reducible apply Keeps.foldl | with_reducible apply Keeps.next | with_reducible apply Keeps.fault | with_reducible apply Keeps.ite | with_reducible apply KeepsR.ite | split | with_reducible apply Keeps.built

theorem keeps_State_groupWrite {z : State} : ∀ s a1 a2 a3 a4, Keeps z s → Keeps z (State.groupWrite s a1 a2 a3 a4) := by
  intro s a1 a2 a3 a4 h
  unfold State.groupWrite
  try dsimp only
  repeat' first | with_reducible intro _ | with_reducible assumption | with_reducible apply Keeps.ite | with_reducible apply KeepsR.ite | with_reducible apply keeps_State_regFault | with_reducible apply keeps_State_writeReg | with_reducible apply keeps_State_loadGroups | with_reducible apply Keeps.foldl | with_reducible apply Keeps.next | with_reducible apply Keeps.fault | with_reducible apply Keeps.ite | with_reducible apply KeepsR.ite | split | with_reducible apply Keeps.built

theorem keeps_execGroupTableLoad {z : State} : ∀ a0 a1 a2 s, Keeps z s → KeepsR z (execGroupTableLoad a0 a1 a2 s) := by
  intro a0 a1 a2 s h
  unfold execGroupTableLoad
  try dsimp only
  repeat' first | with_reducible intro _ | with_reducible assumption | with_reducible apply Keeps.ite | with_reducible apply KeepsR.ite | with_reducible apply keeps_onPid | with_reducible apply keeps_State_guard | with_reducible apply keeps_State_groupWrite | with_reducible apply Keeps.foldl | with_reducible apply Keeps.next | with_reducible apply Keeps.fault | with_reducible apply Keeps.ite | with_reducible apply KeepsR.ite | split | with_reducible apply Keeps.built

theorem keeps_State_expEnds {z : State} : ∀ s a1 a2 a3, Keeps z s → Keeps z (State.expEnds s a1 a2 a3) := by
  intro s a1 a2 a3 h
  unfold State.expEnds
  try dsimp only
  repeat' first | with_reducible intro _ | with_reducible assumption | with_reducible apply Keeps.ite | with_reducible apply KeepsR.ite | with_reducible apply keeps_State_landOn | with_reducible apply keeps_State_writeN | with_reducible apply keeps_State_onBulk | with_reducible apply Keeps.foldl | with_reducible apply Keeps.next | with_reducible apply Keeps.fault | with_reducible apply Keeps.ite | with_reducible apply KeepsR.ite | split | with_reducible apply Keeps.built

theorem keeps_State_expAnswered {z : State} : ∀ s a1 a2 a3 a4 a5, Keeps z s → Keeps z (State.expAnswered s a1 a2 a3 a4 a5) := by
  intro s a1 a2 a3 a4 a5 h
  unfold State.expAnswered
  try dsimp only
  repeat' first | with_reducible intro _ | with_reducible assumption | with_reducible apply Keeps.ite | with_reducible apply KeepsR.ite | with_reducible apply keeps_State_expEnds | with_reducible apply keeps_State_onBulk | with_reducible apply Keeps.foldl | with_reducible apply Keeps.next | with_reducible apply Keeps.fault | with_reducible apply Keeps.ite | with_reducible apply KeepsR.ite | split | with_reducible apply Keeps.built

theorem keeps_State_expSend {z : State} : ∀ s p id o l, Keeps z s → Keeps z (State.expSend s p id o l) := by
  intro s p id o l
  induction l generalizing s o with
  | nil =>
    intro h
    exact keeps_State_onBulk _ _ _ h
  | cons x l ih =>
    intro h
    unfold State.expSend
    exact ih _ _ (keeps_State_send _ _ h)

theorem keeps_State_expRefused {z : State} : ∀ s a1 a2 a3, Keeps z s → Keeps z (State.expRefused s a1 a2 a3) := by
  intro s a1 a2 a3 h
  unfold State.expRefused
  try dsimp only
  repeat' first | with_reducible intro _ | with_reducible assumption | with_reducible apply Keeps.ite | with_reducible apply KeepsR.ite | with_reducible apply keeps_State_expEnds | with_reducible apply Keeps.foldl | with_reducible apply Keeps.next | with_reducible apply Keeps.fault | with_reducible apply Keeps.ite | with_reducible apply KeepsR.ite | split | with_reducible apply Keeps.built

theorem keeps_State_expRead {z : State} : ∀ s a1 a2 a3 a4 a5 a6, Keeps z s → Keeps z (State.expRead s a1 a2 a3 a4 a5 a6) := by
  intro s a1 a2 a3 a4 a5 a6 h
  unfold State.expRead
  try dsimp only
  repeat' first | with_reducible intro _ | with_reducible assumption | with_reducible apply Keeps.ite | with_reducible apply KeepsR.ite | with_reducible apply keeps_State_expRefused | with_reducible apply keeps_State_expSend | with_reducible apply Keeps.foldl | with_reducible apply Keeps.next | with_reducible apply Keeps.fault | with_reducible apply Keeps.ite | with_reducible apply KeepsR.ite | split | with_reducible apply Keeps.built

theorem keeps_State_expCredit {z : State} : ∀ s a1 a2 a3 a4, Keeps z s → Keeps z (State.expCredit s a1 a2 a3 a4) := by
  intro s a1 a2 a3 a4 h
  unfold State.expCredit
  try dsimp only
  repeat' first | with_reducible intro _ | with_reducible assumption | with_reducible apply Keeps.ite | with_reducible apply KeepsR.ite | with_reducible apply keeps_State_expSend | with_reducible apply Keeps.foldl | with_reducible apply Keeps.next | with_reducible apply Keeps.fault | with_reducible apply Keeps.ite | with_reducible apply KeepsR.ite | split | with_reducible apply Keeps.built

theorem keeps_State_expGo {z : State} : ∀ s a1 a2 a3, Keeps z s → Keeps z (State.expGo s a1 a2 a3) := by
  intro s a1 a2 a3 h
  unfold State.expGo
  try dsimp only
  repeat' first | with_reducible intro _ | with_reducible assumption | with_reducible apply Keeps.ite | with_reducible apply KeepsR.ite | with_reducible apply keeps_State_regFault | (with_reducible apply keeps_State_armOn; with_reducible assumption) | with_reducible apply keeps_State_armOn_getD | with_reducible apply keeps_State_expRefused | with_reducible apply keeps_State_expRead | with_reducible apply keeps_State_expCredit | with_reducible apply Keeps.foldl | with_reducible apply Keeps.next | with_reducible apply Keeps.fault | with_reducible apply Keeps.ite | with_reducible apply KeepsR.ite | split | with_reducible apply Keeps.built

theorem keeps_execExpGoRead {z : State} : ∀ a0 a1 s, Keeps z s → KeepsR z (execExpGoRead a0 a1 s) := by
  intro a0 a1 s h
  unfold execExpGoRead
  try dsimp only
  repeat' first | with_reducible intro _ | with_reducible assumption | with_reducible apply Keeps.ite | with_reducible apply KeepsR.ite | with_reducible apply keeps_onCoreId | with_reducible apply keeps_State_coreStore | with_reducible apply keeps_State_expGo | with_reducible apply Keeps.foldl | with_reducible apply Keeps.next | with_reducible apply Keeps.fault | with_reducible apply Keeps.ite | with_reducible apply KeepsR.ite | split | with_reducible apply Keeps.built

theorem keeps_execExpGoCredit {z : State} : ∀ a0 a1 s, Keeps z s → KeepsR z (execExpGoCredit a0 a1 s) := by
  intro a0 a1 s h
  unfold execExpGoCredit
  try dsimp only
  repeat' first | with_reducible intro _ | with_reducible assumption | with_reducible apply Keeps.ite | with_reducible apply KeepsR.ite | with_reducible apply keeps_onCoreId | with_reducible apply keeps_State_coreStore | with_reducible apply keeps_State_expGo | with_reducible apply Keeps.foldl | with_reducible apply Keeps.next | with_reducible apply Keeps.fault | with_reducible apply Keeps.ite | with_reducible apply KeepsR.ite | split | with_reducible apply Keeps.built

theorem keeps_State_refuse {z : State} : ∀ s a1 a2, Keeps z s → Keeps z (State.refuse s a1 a2) := by
  intro s a1 a2 h
  unfold State.refuse
  try dsimp only
  repeat' first | with_reducible intro _ | with_reducible assumption | with_reducible apply Keeps.ite | with_reducible apply KeepsR.ite | with_reducible apply keeps_State_send | with_reducible apply Keeps.foldl | with_reducible apply Keeps.next | with_reducible apply Keeps.fault | with_reducible apply Keeps.ite | with_reducible apply KeepsR.ite | split | with_reducible apply Keeps.built

theorem keeps_State_ringOf {z : State} : ∀ s k t, State.ringOf s k = .error t → Keeps z s → Keeps z t := by
  intro s k t e h
  unfold State.ringOf at e
  dsimp only at e
  split at e
  · injection e with e
    subst e
    exact keeps_State_refuse _ _ _ h
  · split at e
    · injection e with e
      subst e
      exact keeps_State_refuse _ _ _ (keeps_State_packetViolation _ _ _ h)
    · cases e

theorem keeps_State_expServe {z : State} : ∀ s a1, Keeps z s → Keeps z (State.expServe s a1) := by
  intro s a1 h
  unfold State.expServe
  try dsimp only
  repeat' first | with_reducible intro _ | with_reducible assumption | with_reducible apply Keeps.ite | with_reducible apply KeepsR.ite | (with_reducible apply keeps_State_ringOf; with_reducible assumption) | with_reducible apply keeps_State_refuse | with_reducible apply keeps_State_send | with_reducible apply Keeps.foldl | with_reducible apply Keeps.next | with_reducible apply Keeps.fault | with_reducible apply Keeps.ite | with_reducible apply KeepsR.ite | split | with_reducible apply Keeps.built

theorem keeps_execExpReadServe {z : State} : ∀ a0 s, Keeps z s → KeepsR z (execExpReadServe a0 s) := by
  intro a0 s h
  unfold execExpReadServe
  try dsimp only
  repeat' first | with_reducible intro _ | with_reducible assumption | with_reducible apply Keeps.ite | with_reducible apply KeepsR.ite | with_reducible apply keeps_State_expServe | with_reducible apply Keeps.foldl | with_reducible apply Keeps.next | with_reducible apply Keeps.fault | with_reducible apply Keeps.ite | with_reducible apply KeepsR.ite | split | with_reducible apply Keeps.built

theorem keeps_State_creditServe {z : State} : ∀ s a1, Keeps z s → Keeps z (State.creditServe s a1) := by
  intro s a1 h
  unfold State.creditServe
  try dsimp only
  repeat' first | with_reducible intro _ | with_reducible assumption | with_reducible apply Keeps.ite | with_reducible apply KeepsR.ite | (with_reducible apply keeps_State_ringOf; with_reducible assumption) | with_reducible apply keeps_State_refuse | (with_reducible apply keeps_State_ringHeaderWrite; with_reducible assumption) | with_reducible apply keeps_State_ringWoken | with_reducible apply keeps_State_send | with_reducible apply Keeps.foldl | with_reducible apply Keeps.next | with_reducible apply Keeps.fault | with_reducible apply Keeps.ite | with_reducible apply KeepsR.ite | split | with_reducible apply Keeps.built

theorem keeps_execExpCreditReceive {z : State} : ∀ a0 s, Keeps z s → KeepsR z (execExpCreditReceive a0 s) := by
  intro a0 s h
  unfold execExpCreditReceive
  try dsimp only
  repeat' first | with_reducible intro _ | with_reducible assumption | with_reducible apply Keeps.ite | with_reducible apply KeepsR.ite | with_reducible apply keeps_State_creditServe | with_reducible apply Keeps.foldl | with_reducible apply Keeps.next | with_reducible apply Keeps.fault | with_reducible apply Keeps.ite | with_reducible apply KeepsR.ite | split | with_reducible apply Keeps.built

theorem keeps_State_expResponse {z : State} : ∀ s a1 a2, Keeps z s → Keeps z (State.expResponse s a1 a2) := by
  intro s a1 a2 h
  unfold State.expResponse
  try dsimp only
  repeat' first | with_reducible intro _ | with_reducible assumption | with_reducible apply Keeps.ite | with_reducible apply KeepsR.ite | with_reducible apply keeps_State_writeBytes | with_reducible apply keeps_State_poisonRange | with_reducible apply keeps_State_expAnswered | with_reducible apply keeps_State_bump | with_reducible apply Keeps.foldl | with_reducible apply Keeps.next | with_reducible apply Keeps.fault | with_reducible apply Keeps.ite | with_reducible apply KeepsR.ite | split | with_reducible apply Keeps.built

theorem keeps_execExpResponse {z : State} : ∀ a0 a1 s, Keeps z s → KeepsR z (execExpResponse a0 a1 s) := by
  intro a0 a1 s h
  unfold execExpResponse
  try dsimp only
  repeat' first | with_reducible intro _ | with_reducible assumption | with_reducible apply Keeps.ite | with_reducible apply KeepsR.ite | with_reducible apply keeps_onPid | with_reducible apply keeps_State_expResponse | with_reducible apply Keeps.foldl | with_reducible apply Keeps.next | with_reducible apply Keeps.fault | with_reducible apply Keeps.ite | with_reducible apply KeepsR.ite | split | with_reducible apply Keeps.built

theorem keeps_execExpOpTimeout {z : State} : ∀ a0 a1 s, Keeps z s → KeepsR z (execExpOpTimeout a0 a1 s) := by
  intro a0 a1 s h
  unfold execExpOpTimeout
  try dsimp only
  repeat' first | with_reducible intro _ | with_reducible assumption | with_reducible apply Keeps.ite | with_reducible apply KeepsR.ite | with_reducible apply keeps_onPid | with_reducible apply keeps_State_expEnds | with_reducible apply Keeps.foldl | with_reducible apply Keeps.next | with_reducible apply Keeps.fault | with_reducible apply Keeps.ite | with_reducible apply KeepsR.ite | split | with_reducible apply Keeps.built

theorem keeps_execAckReceive {z : State} : ∀ a0 a1 s, Keeps z s → KeepsR z (execAckReceive a0 a1 s) := by
  intro a0 a1 s h
  unfold execAckReceive
  try dsimp only
  repeat' first | with_reducible intro _ | with_reducible assumption | with_reducible apply Keeps.ite | with_reducible apply KeepsR.ite | with_reducible apply keeps_onPid | with_reducible apply keeps_State_expResponse | with_reducible apply Keeps.foldl | with_reducible apply Keeps.next | with_reducible apply Keeps.fault | with_reducible apply Keeps.ite | with_reducible apply KeepsR.ite | split | with_reducible apply Keeps.built

theorem keeps_State_subcredit {z : State} : ∀ s a1 a2, Keeps z s → Keeps z (State.subcredit s a1 a2) := by
  intro s a1 a2 h
  unfold State.subcredit
  try dsimp only
  repeat' first | with_reducible intro _ | with_reducible assumption | with_reducible apply Keeps.ite | with_reducible apply KeepsR.ite | with_reducible apply keeps_State_pumpGroup | with_reducible apply keeps_State_onBulk | with_reducible apply keeps_State_onUpd | with_reducible apply keeps_State_pumpGather | with_reducible apply keeps_State_relayCredit | with_reducible apply Keeps.foldl | with_reducible apply Keeps.next | with_reducible apply Keeps.fault | with_reducible apply Keeps.ite | with_reducible apply KeepsR.ite | split | with_reducible apply Keeps.built

theorem keeps_execSubcreditReceive {z : State} : ∀ a0 a1 s, Keeps z s → KeepsR z (execSubcreditReceive a0 a1 s) := by
  intro a0 a1 s h
  unfold execSubcreditReceive
  try dsimp only
  repeat' first | with_reducible intro _ | with_reducible assumption | with_reducible apply Keeps.ite | with_reducible apply KeepsR.ite | with_reducible apply keeps_onPid | with_reducible apply keeps_State_subcredit | with_reducible apply keeps_State_packetViolation | with_reducible apply Keeps.foldl | with_reducible apply Keeps.next | with_reducible apply Keeps.fault | with_reducible apply Keeps.ite | with_reducible apply KeepsR.ite | split | with_reducible apply Keeps.built

end Sys2Proof.Machine
end

