-- ==== Sys2Proof/Laws/KeepsC.lean ====
section
/-! SUPPORT. The same of the host domain, rings, power, tests, resets, the window, issue, packets and RDMA. -/
/- One declaration after another: the package as one text then needs few threads at a time. -/
set_option Elab.async false
/- One chain of tactics serves every lemma here; a step of it that finds nothing to do is meant. -/
set_option linter.all false

namespace Sys2Proof.Machine

theorem keeps_State_atHport {z : State} : ∀ s p t, Keeps z s → Keeps z t → KeepsR z (State.atHport s p t) := by
  intro s p t h g
  exact keeps_onHport _ _ (Keeps.next (g.ite h))

theorem keeps_State_rxDrop {z : State} : ∀ s a1, Keeps z s → Keeps z (State.rxDrop s a1) := by
  intro s a1 h
  unfold State.rxDrop
  try dsimp only
  repeat' first | with_reducible intro _ | with_reducible assumption | with_reducible apply Keeps.ite | with_reducible apply KeepsR.ite | with_reducible apply keeps_State_bump | with_reducible apply Keeps.foldl | with_reducible apply Keeps.next | with_reducible apply Keeps.fault | with_reducible apply Keeps.ite | with_reducible apply KeepsR.ite | split | with_reducible apply Keeps.built

theorem keeps_State_rxBuffer {z : State} : ∀ s a1 a2 a3, Keeps z s → Keeps z (State.rxBuffer s a1 a2 a3) := by
  intro s a1 a2 a3 h
  unfold State.rxBuffer
  try dsimp only
  repeat' first | with_reducible intro _ | with_reducible assumption | with_reducible apply Keeps.ite | with_reducible apply KeepsR.ite | with_reducible apply keeps_State_emit | with_reducible apply keeps_State_onHost | with_reducible apply Keeps.foldl | with_reducible apply Keeps.next | with_reducible apply Keeps.fault | with_reducible apply Keeps.ite | with_reducible apply KeepsR.ite | split | with_reducible apply Keeps.built

theorem keeps_execHostFrameReceive {z : State} : ∀ a0 a1 s, Keeps z s → KeepsR z (execHostFrameReceive a0 a1 s) := by
  intro a0 a1 s h
  unfold execHostFrameReceive
  try dsimp only
  repeat' first | with_reducible intro _ | with_reducible assumption | with_reducible apply Keeps.ite | with_reducible apply KeepsR.ite | with_reducible apply keeps_State_atHport | with_reducible apply keeps_State_rxBuffer | with_reducible apply keeps_State_rxDrop | with_reducible apply Keeps.foldl | with_reducible apply Keeps.next | with_reducible apply Keeps.fault | with_reducible apply Keeps.ite | with_reducible apply KeepsR.ite | split | with_reducible apply Keeps.built

theorem keeps_execArpRequest {z : State} : ∀ a0 a1 a2 s, Keeps z s → KeepsR z (execArpRequest a0 a1 a2 s) := by
  intro a0 a1 a2 s h
  unfold execArpRequest
  try dsimp only
  repeat' first | with_reducible intro _ | with_reducible assumption | with_reducible apply Keeps.ite | with_reducible apply KeepsR.ite | with_reducible apply keeps_State_atHport | with_reducible apply keeps_State_emit | with_reducible apply keeps_State_rxDrop | with_reducible apply Keeps.foldl | with_reducible apply Keeps.next | with_reducible apply Keeps.fault | with_reducible apply Keeps.ite | with_reducible apply KeepsR.ite | split | with_reducible apply Keeps.built

theorem keeps_execNeighbourSolicitation {z : State} : ∀ a0 a1 a2 s, Keeps z s → KeepsR z (execNeighbourSolicitation a0 a1 a2 s) := by
  intro a0 a1 a2 s h
  unfold execNeighbourSolicitation
  try dsimp only
  repeat' first | with_reducible intro _ | with_reducible assumption | with_reducible apply Keeps.ite | with_reducible apply KeepsR.ite | with_reducible apply keeps_State_atHport | with_reducible apply keeps_State_emit | with_reducible apply keeps_State_rxDrop | with_reducible apply Keeps.foldl | with_reducible apply Keeps.next | with_reducible apply Keeps.fault | with_reducible apply Keeps.ite | with_reducible apply KeepsR.ite | split | with_reducible apply Keeps.built

theorem keeps_execEchoRequest {z : State} : ∀ a0 a1 a2 a3 a4 s, Keeps z s → KeepsR z (execEchoRequest a0 a1 a2 a3 a4 s) := by
  intro a0 a1 a2 a3 a4 s h
  unfold execEchoRequest
  try dsimp only
  repeat' first | with_reducible intro _ | with_reducible assumption | with_reducible apply Keeps.ite | with_reducible apply KeepsR.ite | with_reducible apply keeps_State_atHport | with_reducible apply keeps_State_emit | with_reducible apply keeps_State_rxDrop | with_reducible apply Keeps.foldl | with_reducible apply Keeps.next | with_reducible apply Keeps.fault | with_reducible apply Keeps.ite | with_reducible apply KeepsR.ite | split | with_reducible apply Keeps.built

theorem keeps_execLldpReceive {z : State} : ∀ a0 a1 s, Keeps z s → KeepsR z (execLldpReceive a0 a1 s) := by
  intro a0 a1 s h
  unfold execLldpReceive
  try dsimp only
  repeat' first | with_reducible intro _ | with_reducible assumption | with_reducible apply Keeps.ite | with_reducible apply KeepsR.ite | with_reducible apply keeps_State_atHport | with_reducible apply keeps_State_set | with_reducible apply Keeps.foldl | with_reducible apply Keeps.next | with_reducible apply Keeps.fault | with_reducible apply Keeps.ite | with_reducible apply KeepsR.ite | split | with_reducible apply Keeps.built

theorem keeps_execLldpTransmit {z : State} : ∀ a0 s, Keeps z s → KeepsR z (execLldpTransmit a0 s) := by
  intro a0 s h
  unfold execLldpTransmit
  try dsimp only
  repeat' first | with_reducible intro _ | with_reducible assumption | with_reducible apply Keeps.ite | with_reducible apply KeepsR.ite | with_reducible apply keeps_State_atHport | with_reducible apply keeps_State_emit | with_reducible apply Keeps.foldl | with_reducible apply Keeps.next | with_reducible apply Keeps.fault | with_reducible apply Keeps.ite | with_reducible apply KeepsR.ite | split | with_reducible apply Keeps.built

theorem keeps_State_pfcIn {z : State} : ∀ s a1 a2 a3, Keeps z s → Keeps z (State.pfcIn s a1 a2 a3) := by
  intro s a1 a2 a3 h
  unfold State.pfcIn
  try dsimp only
  repeat' first | with_reducible intro _ | with_reducible assumption | with_reducible apply Keeps.ite | with_reducible apply KeepsR.ite | with_reducible apply keeps_State_onHost | with_reducible apply Keeps.foldl | with_reducible apply Keeps.next | with_reducible apply Keeps.fault | with_reducible apply Keeps.ite | with_reducible apply KeepsR.ite | split | with_reducible apply Keeps.built

theorem keeps_execPfcFrame {z : State} : ∀ a0 a1 a2 s, Keeps z s → KeepsR z (execPfcFrame a0 a1 a2 s) := by
  intro a0 a1 a2 s h
  unfold execPfcFrame
  try dsimp only
  repeat' first | with_reducible intro _ | with_reducible assumption | with_reducible apply Keeps.ite | with_reducible apply KeepsR.ite | with_reducible apply keeps_State_atHport | with_reducible apply keeps_State_pfcIn | with_reducible apply Keeps.foldl | with_reducible apply Keeps.next | with_reducible apply Keeps.fault | with_reducible apply Keeps.ite | with_reducible apply KeepsR.ite | split | with_reducible apply Keeps.built

theorem keeps_execPtpMessage {z : State} : ∀ a0 a1 a2 a3 s, Keeps z s → KeepsR z (execPtpMessage a0 a1 a2 a3 s) := by
  intro a0 a1 a2 a3 s h
  unfold execPtpMessage
  try dsimp only
  repeat' first | with_reducible intro _ | with_reducible assumption | with_reducible apply Keeps.ite | with_reducible apply KeepsR.ite | with_reducible apply keeps_State_atHport | with_reducible apply keeps_State_set | with_reducible apply Keeps.foldl | with_reducible apply Keeps.next | with_reducible apply Keeps.fault | with_reducible apply Keeps.ite | with_reducible apply KeepsR.ite | split | with_reducible apply Keeps.built

theorem keeps_State_setQp {z : State} : ∀ s a1 a2, Keeps z s → Keeps z (State.setQp s a1 a2) := by
  intro s a1 a2 h
  unfold State.setQp
  try dsimp only
  repeat' first | with_reducible intro _ | with_reducible assumption | with_reducible apply Keeps.ite | with_reducible apply KeepsR.ite | with_reducible apply keeps_State_onHost | with_reducible apply Keeps.foldl | with_reducible apply Keeps.next | with_reducible apply Keeps.fault | with_reducible apply Keeps.ite | with_reducible apply KeepsR.ite | split | with_reducible apply Keeps.built

theorem keeps_State_acceptQp {z : State} : ∀ s a1 a2 a3 a4 a5, Keeps z s → Keeps z (State.acceptQp s a1 a2 a3 a4 a5) := by
  intro s a1 a2 a3 a4 a5 h
  unfold State.acceptQp
  try dsimp only
  repeat' first | with_reducible intro _ | with_reducible assumption | with_reducible apply Keeps.ite | with_reducible apply KeepsR.ite | with_reducible apply keeps_State_emit | with_reducible apply keeps_State_setQp | with_reducible apply Keeps.foldl | with_reducible apply Keeps.next | with_reducible apply Keeps.fault | with_reducible apply Keeps.ite | with_reducible apply KeepsR.ite | split | with_reducible apply Keeps.built

theorem keeps_State_cmReq {z : State} : ∀ s a1 a2, Keeps z s → Keeps z (State.cmReq s a1 a2) := by
  intro s a1 a2 h
  unfold State.cmReq
  try dsimp only
  repeat' first | with_reducible intro _ | with_reducible assumption | with_reducible apply Keeps.ite | with_reducible apply KeepsR.ite | with_reducible apply keeps_State_acceptQp | with_reducible apply keeps_State_emit | with_reducible apply Keeps.foldl | with_reducible apply Keeps.next | with_reducible apply Keeps.fault | with_reducible apply Keeps.ite | with_reducible apply KeepsR.ite | split | with_reducible apply Keeps.built

theorem keeps_execCmReq {z : State} : ∀ a0 a1 s, Keeps z s → KeepsR z (execCmReq a0 a1 s) := by
  intro a0 a1 s h
  unfold execCmReq
  try dsimp only
  repeat' first | with_reducible intro _ | with_reducible assumption | with_reducible apply Keeps.ite | with_reducible apply KeepsR.ite | with_reducible apply keeps_State_atHport | with_reducible apply keeps_State_cmReq | with_reducible apply Keeps.foldl | with_reducible apply Keeps.next | with_reducible apply Keeps.fault | with_reducible apply Keeps.ite | with_reducible apply KeepsR.ite | split | with_reducible apply Keeps.built

theorem keeps_execCmRtu {z : State} : ∀ a0 s, Keeps z s → KeepsR z (execCmRtu a0 s) := by
  intro a0 s h
  unfold execCmRtu
  try dsimp only
  repeat' first | with_reducible intro _ | with_reducible assumption | with_reducible apply Keeps.ite | with_reducible apply KeepsR.ite | with_reducible apply keeps_onQp | with_reducible apply keeps_State_setQp | with_reducible apply Keeps.foldl | with_reducible apply Keeps.next | with_reducible apply Keeps.fault | with_reducible apply Keeps.ite | with_reducible apply KeepsR.ite | split | with_reducible apply Keeps.built

theorem keeps_execCmDreq {z : State} : ∀ a0 s, Keeps z s → KeepsR z (execCmDreq a0 s) := by
  intro a0 s h
  unfold execCmDreq
  try dsimp only
  repeat' first | with_reducible intro _ | with_reducible assumption | with_reducible apply Keeps.ite | with_reducible apply KeepsR.ite | with_reducible apply keeps_onQp | with_reducible apply keeps_State_emit | with_reducible apply keeps_State_onHost | with_reducible apply Keeps.foldl | with_reducible apply Keeps.next | with_reducible apply Keeps.fault | with_reducible apply Keeps.ite | with_reducible apply KeepsR.ite | split | with_reducible apply Keeps.built

theorem keeps_State_ringsLost {z : State} : ∀ s a1 a2, Keeps z s → Keeps z (State.ringsLost s a1 a2) := by
  intro s a1 a2 h
  unfold State.ringsLost
  try dsimp only
  repeat' first | with_reducible intro _ | with_reducible assumption | with_reducible apply Keeps.ite | with_reducible apply KeepsR.ite | with_reducible apply keeps_State_raise | with_reducible apply keeps_State_set | with_reducible apply Keeps.foldl | with_reducible apply Keeps.next | with_reducible apply Keeps.fault | with_reducible apply Keeps.ite | with_reducible apply KeepsR.ite | split | with_reducible apply Keeps.built

theorem keeps_State_streamsLost {z : State} : ∀ s a1 a2, Keeps z s → Keeps z (State.streamsLost s a1 a2) := by
  intro s a1 a2 h
  unfold State.streamsLost
  try dsimp only
  repeat' first | with_reducible intro _ | with_reducible assumption | with_reducible apply Keeps.ite | with_reducible apply KeepsR.ite | with_reducible apply keeps_State_streamLost | with_reducible apply keeps_State_stepRingLost | with_reducible apply Keeps.foldl | with_reducible apply Keeps.next | with_reducible apply Keeps.fault | with_reducible apply Keeps.ite | with_reducible apply KeepsR.ite | split | with_reducible apply Keeps.built

theorem keeps_State_qpFails {z : State} : ∀ s a1, Keeps z s → Keeps z (State.qpFails s a1) := by
  intro s a1 h
  unfold State.qpFails
  try dsimp only
  repeat' first | with_reducible intro _ | with_reducible assumption | with_reducible apply Keeps.ite | with_reducible apply KeepsR.ite | with_reducible apply keeps_State_ringsLost | with_reducible apply keeps_State_setQp | with_reducible apply keeps_State_streamsLost | with_reducible apply Keeps.foldl | with_reducible apply Keeps.next | with_reducible apply Keeps.fault | with_reducible apply Keeps.ite | with_reducible apply KeepsR.ite | split | with_reducible apply Keeps.built

theorem keeps_State_qpsFail {z : State} : ∀ s a1, Keeps z s → Keeps z (State.qpsFail s a1) := by
  intro s a1 h
  unfold State.qpsFail
  try dsimp only
  repeat' first | with_reducible intro _ | with_reducible assumption | with_reducible apply Keeps.ite | with_reducible apply KeepsR.ite | with_reducible apply keeps_State_qpFails | with_reducible apply Keeps.foldl | with_reducible apply Keeps.next | with_reducible apply Keeps.fault | with_reducible apply Keeps.ite | with_reducible apply KeepsR.ite | split | with_reducible apply Keeps.built

theorem keeps_execQpError {z : State} : ∀ a0 s, Keeps z s → KeepsR z (execQpError a0 s) := by
  intro a0 s h
  unfold execQpError
  try dsimp only
  repeat' first | with_reducible intro _ | with_reducible assumption | with_reducible apply Keeps.ite | with_reducible apply KeepsR.ite | with_reducible apply keeps_onQp | with_reducible apply keeps_State_qpFails | with_reducible apply Keeps.foldl | with_reducible apply Keeps.next | with_reducible apply Keeps.fault | with_reducible apply Keeps.ite | with_reducible apply KeepsR.ite | split | with_reducible apply Keeps.built

theorem keeps_execRnrNak {z : State} : ∀ a0 s, Keeps z s → KeepsR z (execRnrNak a0 s) := by
  intro a0 s h
  unfold execRnrNak
  try dsimp only
  repeat' first | with_reducible intro _ | with_reducible assumption | with_reducible apply Keeps.ite | with_reducible apply KeepsR.ite | with_reducible apply keeps_onQp | with_reducible apply keeps_State_emit | with_reducible apply keeps_State_setQp | with_reducible apply keeps_State_qpFails | with_reducible apply Keeps.foldl | with_reducible apply Keeps.next | with_reducible apply Keeps.fault | with_reducible apply Keeps.ite | with_reducible apply KeepsR.ite | split | with_reducible apply Keeps.built

theorem keeps_execCnpReceive {z : State} : ∀ a0 s, Keeps z s → KeepsR z (execCnpReceive a0 s) := by
  intro a0 s h
  unfold execCnpReceive
  try dsimp only
  repeat' first | with_reducible intro _ | with_reducible assumption | with_reducible apply Keeps.ite | with_reducible apply KeepsR.ite | with_reducible apply keeps_onQp | with_reducible apply keeps_State_setQp | with_reducible apply Keeps.foldl | with_reducible apply Keeps.next | with_reducible apply Keeps.fault | with_reducible apply Keeps.ite | with_reducible apply KeepsR.ite | split | with_reducible apply Keeps.built

theorem keeps_execRateRecovery {z : State} : ∀ a0 s, Keeps z s → KeepsR z (execRateRecovery a0 s) := by
  intro a0 s h
  unfold execRateRecovery
  try dsimp only
  repeat' first | with_reducible intro _ | with_reducible assumption | with_reducible apply Keeps.ite | with_reducible apply KeepsR.ite | with_reducible apply keeps_onQp | with_reducible apply keeps_State_setQp | with_reducible apply Keeps.foldl | with_reducible apply Keeps.next | with_reducible apply Keeps.fault | with_reducible apply Keeps.ite | with_reducible apply KeepsR.ite | split | with_reducible apply Keeps.built

theorem keeps_State_cqWrite {z : State} : ∀ s a1 a2 a3 a4, Keeps z s → Keeps z (State.cqWrite s a1 a2 a3 a4) := by
  intro s a1 a2 a3 a4 h
  unfold State.cqWrite
  try dsimp only
  repeat' first | with_reducible intro _ | with_reducible assumption | with_reducible apply Keeps.ite | with_reducible apply KeepsR.ite | with_reducible apply keeps_State_writeReg | with_reducible apply keeps_State_set | with_reducible apply keeps_State_setTenant | with_reducible apply Keeps.foldl | with_reducible apply Keeps.next | with_reducible apply Keeps.fault | with_reducible apply Keeps.ite | with_reducible apply KeepsR.ite | split | with_reducible apply Keeps.built

theorem keeps_execCqRingRestart {z : State} : ∀ a0 a1 a2 s, Keeps z s → KeepsR z (execCqRingRestart a0 a1 a2 s) := by
  intro a0 a1 a2 s h
  unfold execCqRingRestart
  try dsimp only
  repeat' first | with_reducible intro _ | with_reducible assumption | with_reducible apply Keeps.ite | with_reducible apply KeepsR.ite | with_reducible apply keeps_onTid | with_reducible apply keeps_State_guard | with_reducible apply keeps_State_cqWrite | with_reducible apply Keeps.foldl | with_reducible apply Keeps.next | with_reducible apply Keeps.fault | with_reducible apply Keeps.ite | with_reducible apply KeepsR.ite | split | with_reducible apply Keeps.built

theorem keeps_State_eqWrite {z : State} : ∀ s a1 a2 a3 a4, Keeps z s → Keeps z (State.eqWrite s a1 a2 a3 a4) := by
  intro s a1 a2 a3 a4 h
  unfold State.eqWrite
  try dsimp only
  repeat' first | with_reducible intro _ | with_reducible assumption | with_reducible apply Keeps.ite | with_reducible apply KeepsR.ite | with_reducible apply keeps_State_writeReg | with_reducible apply keeps_State_set | with_reducible apply keeps_State_reportLost | with_reducible apply keeps_State_setTenant | with_reducible apply Keeps.foldl | with_reducible apply Keeps.next | with_reducible apply Keeps.fault | with_reducible apply Keeps.ite | with_reducible apply KeepsR.ite | split | with_reducible apply Keeps.built

theorem keeps_execEqRingRestart {z : State} : ∀ a0 a1 a2 s, Keeps z s → KeepsR z (execEqRingRestart a0 a1 a2 s) := by
  intro a0 a1 a2 s h
  unfold execEqRingRestart
  try dsimp only
  repeat' first | with_reducible intro _ | with_reducible assumption | with_reducible apply Keeps.ite | with_reducible apply KeepsR.ite | with_reducible apply keeps_onTid | with_reducible apply keeps_State_guard | with_reducible apply keeps_State_eqWrite | with_reducible apply Keeps.foldl | with_reducible apply Keeps.next | with_reducible apply Keeps.fault | with_reducible apply Keeps.ite | with_reducible apply KeepsR.ite | split | with_reducible apply Keeps.built

theorem keeps_execEventsLost {z : State} : ∀ a0 s, Keeps z s → KeepsR z (execEventsLost a0 s) := by
  intro a0 s h
  unfold execEventsLost
  try dsimp only
  repeat' first | with_reducible intro _ | with_reducible assumption | with_reducible apply Keeps.ite | with_reducible apply KeepsR.ite | with_reducible apply keeps_onTid | with_reducible apply keeps_State_reportLost | with_reducible apply Keeps.foldl | with_reducible apply Keeps.next | with_reducible apply Keeps.fault | with_reducible apply Keeps.ite | with_reducible apply KeepsR.ite | split | with_reducible apply Keeps.built

theorem keeps_State_runEntry {z : State} : ∀ s a1 a2, Keeps z s → Keeps z (State.runEntry s a1 a2).1 := by
  intro s a1 a2 h
  unfold State.runEntry
  try dsimp only
  repeat' first | with_reducible intro _ | with_reducible assumption | with_reducible apply Keeps.ite | with_reducible apply KeepsR.ite | with_reducible apply keeps_State_takeRequest | with_reducible apply keeps_State_takeCancel | with_reducible apply keeps_State_takePlan | with_reducible apply keeps_State_takePrefixCreate | with_reducible apply keeps_State_takePrefixRelease | (with_reducible apply keeps_State_takeRequest_eq; with_reducible assumption) | (with_reducible apply keeps_State_takeCancel_eq; with_reducible assumption) | (with_reducible apply keeps_State_takePlan_eq; with_reducible assumption) | (with_reducible apply keeps_State_takePrefixCreate_eq; with_reducible assumption) | (with_reducible apply keeps_State_takePrefixRelease_eq; with_reducible assumption) | with_reducible apply Keeps.foldl | with_reducible apply Keeps.next | with_reducible apply Keeps.fault | with_reducible apply Keeps.ite | with_reducible apply KeepsR.ite | split | with_reducible apply Keeps.built


theorem keeps_State_runEntry_eq {z : State} : ∀ s a1 a2 x t, (State.runEntry s a1 a2) = (x, t) → Keeps z s → Keeps z x := by
  intro s a1 a2 x t e h
  have := keeps_State_runEntry s a1 a2 h
  rw [e] at this
  exact this

theorem keeps_State_takeEntry {z : State} : ∀ s a1 a2, Keeps z s → Keeps z (State.takeEntry s a1 a2) := by
  intro s a1 a2 h
  unfold State.takeEntry
  try dsimp only
  repeat' first | with_reducible intro _ | with_reducible assumption | with_reducible apply Keeps.ite | with_reducible apply KeepsR.ite | with_reducible apply keeps_State_takeCommand | with_reducible apply keeps_State_runEntry | (with_reducible apply keeps_State_runEntry_eq; with_reducible assumption) | with_reducible apply Keeps.foldl | with_reducible apply Keeps.next | with_reducible apply Keeps.fault | with_reducible apply Keeps.ite | with_reducible apply KeepsR.ite | split | with_reducible apply Keeps.built

theorem keeps_State_takeRing {z : State} : ∀ s p n, Keeps z s → Keeps z (State.takeRing s p n) := by
  intro s p n
  induction n generalizing s with
  | zero =>
    intro h
    unfold State.takeRing
    repeat' first | with_reducible intro _ | with_reducible assumption | with_reducible apply keeps_State_takeEntry | with_reducible apply keeps_State_setB | with_reducible apply Keeps.foldl | with_reducible apply Keeps.next | with_reducible apply Keeps.fault | with_reducible apply Keeps.ite | with_reducible apply KeepsR.ite | split | with_reducible apply Keeps.built
  | succ n ih =>
    intro h
    unfold State.takeRing
    try dsimp only
    repeat' first | with_reducible intro _ | with_reducible assumption | with_reducible apply ih | with_reducible apply keeps_State_takeEntry | with_reducible apply keeps_State_setB | with_reducible apply Keeps.foldl | with_reducible apply Keeps.next | with_reducible apply Keeps.fault | with_reducible apply Keeps.ite | with_reducible apply KeepsR.ite | split | with_reducible apply Keeps.built

theorem keeps_State_takeAll {z : State} : ∀ s a1, Keeps z s → Keeps z (State.takeAll s a1) := by
  intro s a1 h
  unfold State.takeAll
  try dsimp only
  repeat' first | with_reducible intro _ | with_reducible assumption | with_reducible apply Keeps.ite | with_reducible apply KeepsR.ite | with_reducible apply keeps_State_takeRing | with_reducible apply Keeps.foldl | with_reducible apply Keeps.next | with_reducible apply Keeps.fault | with_reducible apply Keeps.ite | with_reducible apply KeepsR.ite | split | with_reducible apply Keeps.built

theorem keeps_State_retake {z : State} : ∀ s a1, Keeps z s → Keeps z (State.retake s a1) := by
  intro s a1 h
  unfold State.retake
  try dsimp only
  repeat' first | with_reducible intro _ | with_reducible assumption | with_reducible apply Keeps.ite | with_reducible apply KeepsR.ite | with_reducible apply keeps_State_takeAll | with_reducible apply Keeps.foldl | with_reducible apply Keeps.next | with_reducible apply Keeps.fault | with_reducible apply Keeps.ite | with_reducible apply KeepsR.ite | split | with_reducible apply Keeps.built

theorem keeps_State_stampsLand {z : State} : ∀ s a1 a2, Keeps z s → Keeps z (State.stampsLand s a1 a2) := by
  intro s a1 a2 h
  unfold State.stampsLand
  try dsimp only
  repeat' first | with_reducible intro _ | with_reducible assumption | with_reducible apply Keeps.ite | with_reducible apply KeepsR.ite | with_reducible apply keeps_State_takeAll | with_reducible apply Keeps.foldl | with_reducible apply Keeps.next | with_reducible apply Keeps.fault | with_reducible apply Keeps.ite | with_reducible apply KeepsR.ite | split | with_reducible apply Keeps.built

theorem keeps_State_parkWrite {z : State} : ∀ s a1 a2, Keeps z s → Keeps z (State.parkWrite s a1 a2) := by
  intro s a1 a2 h
  unfold State.parkWrite
  try dsimp only
  repeat' first | with_reducible intro _ | with_reducible assumption | with_reducible apply Keeps.ite | with_reducible apply KeepsR.ite | with_reducible apply keeps_State_set | with_reducible apply keeps_State_wakeUp | with_reducible apply keeps_State_regFault | with_reducible apply keeps_State_onCore | with_reducible apply Keeps.foldl | with_reducible apply Keeps.next | with_reducible apply Keeps.fault | with_reducible apply Keeps.ite | with_reducible apply KeepsR.ite | split | with_reducible apply Keeps.built

theorem keeps_execParkRequest {z : State} : ∀ a0 a1 s, Keeps z s → KeepsR z (execParkRequest a0 a1 s) := by
  intro a0 a1 s h
  unfold execParkRequest
  try dsimp only
  repeat' first | with_reducible intro _ | with_reducible assumption | with_reducible apply Keeps.ite | with_reducible apply KeepsR.ite | with_reducible apply keeps_onPid | with_reducible apply keeps_State_guard | with_reducible apply keeps_State_parkWrite | with_reducible apply Keeps.foldl | with_reducible apply Keeps.next | with_reducible apply Keeps.fault | with_reducible apply Keeps.ite | with_reducible apply KeepsR.ite | split | with_reducible apply Keeps.built

theorem keeps_execWakeRequest {z : State} : ∀ a0 a1 s, Keeps z s → KeepsR z (execWakeRequest a0 a1 s) := by
  intro a0 a1 s h
  unfold execWakeRequest
  try dsimp only
  repeat' first | with_reducible intro _ | with_reducible assumption | with_reducible apply Keeps.ite | with_reducible apply KeepsR.ite | with_reducible apply keeps_onPid | with_reducible apply keeps_State_guard | with_reducible apply keeps_State_parkWrite | with_reducible apply Keeps.foldl | with_reducible apply Keeps.next | with_reducible apply Keeps.fault | with_reducible apply Keeps.ite | with_reducible apply KeepsR.ite | split | with_reducible apply Keeps.built

theorem keeps_State_planWake {z : State} : ∀ s a1, Keeps z s → Keeps z (State.planWake s a1) := by
  intro s a1 h
  unfold State.planWake
  try dsimp only
  repeat' first | with_reducible intro _ | with_reducible assumption | with_reducible apply Keeps.ite | with_reducible apply KeepsR.ite | with_reducible apply keeps_State_wakeUp | with_reducible apply Keeps.foldl | with_reducible apply Keeps.next | with_reducible apply Keeps.fault | with_reducible apply Keeps.ite | with_reducible apply KeepsR.ite | split | with_reducible apply Keeps.built

theorem keeps_execParkPlanWake {z : State} : ∀ a0 s, Keeps z s → KeepsR z (execParkPlanWake a0 s) := by
  intro a0 s h
  unfold execParkPlanWake
  try dsimp only
  repeat' first | with_reducible intro _ | with_reducible assumption | with_reducible apply Keeps.ite | with_reducible apply KeepsR.ite | with_reducible apply keeps_onPid | with_reducible apply keeps_State_planWake | with_reducible apply Keeps.foldl | with_reducible apply Keeps.next | with_reducible apply Keeps.fault | with_reducible apply Keeps.ite | with_reducible apply KeepsR.ite | split | with_reducible apply Keeps.built

theorem keeps_State_goIdle {z : State} : ∀ s a1, Keeps z s → Keeps z (State.goIdle s a1) := by
  intro s a1 h
  unfold State.goIdle
  try dsimp only
  repeat' first | with_reducible intro _ | with_reducible assumption | with_reducible apply Keeps.ite | with_reducible apply KeepsR.ite | with_reducible apply keeps_State_set | with_reducible apply Keeps.foldl | with_reducible apply Keeps.next | with_reducible apply Keeps.fault | with_reducible apply Keeps.ite | with_reducible apply KeepsR.ite | split | with_reducible apply Keeps.built

theorem keeps_execIdleEntry {z : State} : ∀ a0 s, Keeps z s → KeepsR z (execIdleEntry a0 s) := by
  intro a0 s h
  unfold execIdleEntry
  try dsimp only
  repeat' first | with_reducible intro _ | with_reducible assumption | with_reducible apply Keeps.ite | with_reducible apply KeepsR.ite | with_reducible apply keeps_onPid | with_reducible apply keeps_State_goIdle | with_reducible apply Keeps.foldl | with_reducible apply Keeps.next | with_reducible apply Keeps.fault | with_reducible apply Keeps.ite | with_reducible apply KeepsR.ite | split | with_reducible apply Keeps.built

theorem keeps_State_enterDeep {z : State} : ∀ s, Keeps z s → Keeps z (State.enterDeep s) := by
  intro s h
  unfold State.enterDeep
  try dsimp only
  repeat' first | with_reducible intro _ | with_reducible assumption | with_reducible apply Keeps.ite | with_reducible apply KeepsR.ite | with_reducible apply keeps_State_regFault | with_reducible apply keeps_State_deviceStatus | with_reducible apply keeps_State_set | with_reducible apply keeps_State_portDown | with_reducible apply Keeps.foldl | with_reducible apply Keeps.next | with_reducible apply Keeps.fault | with_reducible apply Keeps.ite | with_reducible apply KeepsR.ite | split | with_reducible apply Keeps.built

theorem keeps_execEnterDeep {z : State} : ∀ a0 s, Keeps z s → KeepsR z (execEnterDeep a0 s) := by
  intro a0 s h
  unfold execEnterDeep
  try dsimp only
  repeat' first | with_reducible intro _ | with_reducible assumption | with_reducible apply Keeps.ite | with_reducible apply KeepsR.ite | with_reducible apply keeps_State_guard | with_reducible apply keeps_State_enterDeep | with_reducible apply Keeps.foldl | with_reducible apply Keeps.next | with_reducible apply Keeps.fault | with_reducible apply Keeps.ite | with_reducible apply KeepsR.ite | split | with_reducible apply Keeps.built

theorem keeps_State_zeroVolatile {z : State} : ∀ s, Keeps z s → Keeps z (State.zeroVolatile s) := by
  intro s h
  exact h.onMem rfl rfl rfl rfl (Mem.keep_wf (fun a _ => !(volatileAddr a)) s.mem)

theorem keeps_State_exitDeep {z : State} : ∀ s, Keeps z s → Keeps z (State.exitDeep s) := by
  intro s h
  unfold State.exitDeep
  try dsimp only
  repeat' first | with_reducible intro _ | with_reducible assumption | with_reducible apply Keeps.ite | with_reducible apply KeepsR.ite | with_reducible apply keeps_State_zeroVolatile | with_reducible apply keeps_State_deviceStatus | with_reducible apply keeps_State_set | with_reducible apply Keeps.foldl | with_reducible apply Keeps.next | with_reducible apply Keeps.fault | with_reducible apply Keeps.ite | with_reducible apply KeepsR.ite | split | with_reducible apply Keeps.built

theorem keeps_execExitDeep {z : State} : ∀ a0 s, Keeps z s → KeepsR z (execExitDeep a0 s) := by
  intro a0 s h
  unfold execExitDeep
  try dsimp only
  repeat' first | with_reducible intro _ | with_reducible assumption | with_reducible apply Keeps.ite | with_reducible apply KeepsR.ite | with_reducible apply keeps_State_guard | with_reducible apply keeps_State_exitDeep | with_reducible apply Keeps.foldl | with_reducible apply Keeps.next | with_reducible apply Keeps.fault | with_reducible apply Keeps.ite | with_reducible apply KeepsR.ite | split | with_reducible apply Keeps.built

theorem keeps_State_setVcore {z : State} : ∀ s a1, Keeps z s → Keeps z (State.setVcore s a1) := by
  intro s a1 h
  unfold State.setVcore
  try dsimp only
  repeat' first | with_reducible intro _ | with_reducible assumption | with_reducible apply Keeps.ite | with_reducible apply KeepsR.ite | with_reducible apply keeps_State_emit | with_reducible apply keeps_State_set | with_reducible apply Keeps.foldl | with_reducible apply Keeps.next | with_reducible apply Keeps.fault | with_reducible apply Keeps.ite | with_reducible apply KeepsR.ite | split | with_reducible apply Keeps.built

theorem keeps_State_setFreq {z : State} : ∀ s a1, Keeps z s → Keeps z (State.setFreq s a1) := by
  intro s a1 h
  unfold State.setFreq
  try dsimp only
  repeat' first | with_reducible intro _ | with_reducible assumption | with_reducible apply Keeps.ite | with_reducible apply KeepsR.ite | with_reducible apply keeps_State_bump | with_reducible apply keeps_State_set | with_reducible apply Keeps.foldl | with_reducible apply Keeps.next | with_reducible apply Keeps.fault | with_reducible apply Keeps.ite | with_reducible apply KeepsR.ite | split | with_reducible apply Keeps.built

theorem keeps_State_moveFreq {z : State} : ∀ s a1, Keeps z s → Keeps z (State.moveFreq s a1) := by
  intro s a1 h
  unfold State.moveFreq
  try dsimp only
  repeat' first | with_reducible intro _ | with_reducible assumption | with_reducible apply Keeps.ite | with_reducible apply KeepsR.ite | with_reducible apply keeps_State_setVcore | with_reducible apply keeps_State_setFreq | with_reducible apply Keeps.foldl | with_reducible apply Keeps.next | with_reducible apply Keeps.fault | with_reducible apply Keeps.ite | with_reducible apply KeepsR.ite | split | with_reducible apply Keeps.built

theorem keeps_State_telemetry {z : State} : ∀ s a1 a2, Keeps z s → Keeps z (State.telemetry s a1 a2) := by
  intro s a1 a2 h
  unfold State.telemetry
  try dsimp only
  repeat' first | with_reducible intro _ | with_reducible assumption | with_reducible apply Keeps.ite | with_reducible apply KeepsR.ite | with_reducible apply keeps_State_set | with_reducible apply Keeps.foldl | with_reducible apply Keeps.next | with_reducible apply Keeps.fault | with_reducible apply Keeps.ite | with_reducible apply KeepsR.ite | split | with_reducible apply Keeps.built

theorem keeps_State_governor {z : State} : ∀ s a1 a2 a3, Keeps z s → Keeps z (State.governor s a1 a2 a3) := by
  intro s a1 a2 a3 h
  unfold State.governor
  try dsimp only
  repeat' first | with_reducible intro _ | with_reducible assumption | with_reducible apply Keeps.ite | with_reducible apply KeepsR.ite | with_reducible apply keeps_State_telemetry | with_reducible apply keeps_State_moveFreq | with_reducible apply keeps_State_set | with_reducible apply Keeps.foldl | with_reducible apply Keeps.next | with_reducible apply Keeps.fault | with_reducible apply Keeps.ite | with_reducible apply KeepsR.ite | split | with_reducible apply Keeps.built

theorem keeps_execGovernorTick {z : State} : ∀ a0 a1 a2 s, Keeps z s → KeepsR z (execGovernorTick a0 a1 a2 s) := by
  intro a0 a1 a2 s h
  unfold execGovernorTick
  try dsimp only
  repeat' first | with_reducible intro _ | with_reducible assumption | with_reducible apply Keeps.ite | with_reducible apply KeepsR.ite | with_reducible apply keeps_State_governor | with_reducible apply Keeps.foldl | with_reducible apply Keeps.next | with_reducible apply Keeps.fault | with_reducible apply Keeps.ite | with_reducible apply KeepsR.ite | split | with_reducible apply Keeps.built

theorem keeps_State_vcoreSettled {z : State} : ∀ s a1 a2, Keeps z s → Keeps z (State.vcoreSettled s a1 a2) := by
  intro s a1 a2 h
  unfold State.vcoreSettled
  try dsimp only
  repeat' first | with_reducible intro _ | with_reducible assumption | with_reducible apply Keeps.ite | with_reducible apply KeepsR.ite | with_reducible apply keeps_State_setFreq | with_reducible apply Keeps.foldl | with_reducible apply Keeps.next | with_reducible apply Keeps.fault | with_reducible apply Keeps.ite | with_reducible apply KeepsR.ite | split | with_reducible apply Keeps.built

theorem keeps_execVcoreSettled {z : State} : ∀ a0 a1 s, Keeps z s → KeepsR z (execVcoreSettled a0 a1 s) := by
  intro a0 a1 s h
  unfold execVcoreSettled
  try dsimp only
  repeat' first | with_reducible intro _ | with_reducible assumption | with_reducible apply Keeps.ite | with_reducible apply KeepsR.ite | with_reducible apply keeps_State_vcoreSettled | with_reducible apply Keeps.foldl | with_reducible apply Keeps.next | with_reducible apply Keeps.fault | with_reducible apply Keeps.ite | with_reducible apply KeepsR.ite | split | with_reducible apply Keeps.built

theorem keeps_State_dieTemp {z : State} : ∀ s a1 a2, Keeps z s → Keeps z (State.dieTemp s a1 a2) := by
  intro s a1 a2 h
  unfold State.dieTemp
  try dsimp only
  repeat' first | with_reducible intro _ | with_reducible assumption | with_reducible apply Keeps.ite | with_reducible apply KeepsR.ite | with_reducible apply keeps_State_set | with_reducible apply Keeps.foldl | with_reducible apply Keeps.next | with_reducible apply Keeps.fault | with_reducible apply Keeps.ite | with_reducible apply KeepsR.ite | split | with_reducible apply Keeps.built

theorem keeps_State_thermalTrip {z : State} : ∀ s a1 a2, Keeps z s → Keeps z (State.thermalTrip s a1 a2) := by
  intro s a1 a2 h
  unfold State.thermalTrip
  try dsimp only
  repeat' first | with_reducible intro _ | with_reducible assumption | with_reducible apply Keeps.ite | with_reducible apply KeepsR.ite | with_reducible apply keeps_State_dieTemp | with_reducible apply keeps_State_setFreq | with_reducible apply keeps_State_raise | with_reducible apply keeps_State_bump | with_reducible apply keeps_State_set | with_reducible apply Keeps.foldl | with_reducible apply Keeps.next | with_reducible apply Keeps.fault | with_reducible apply Keeps.ite | with_reducible apply KeepsR.ite | split | with_reducible apply Keeps.built

theorem keeps_execThermalTrip {z : State} : ∀ a0 a1 s, Keeps z s → KeepsR z (execThermalTrip a0 a1 s) := by
  intro a0 a1 s h
  unfold execThermalTrip
  try dsimp only
  repeat' first | with_reducible intro _ | with_reducible assumption | with_reducible apply Keeps.ite | with_reducible apply KeepsR.ite | with_reducible apply keeps_State_thermalTrip | with_reducible apply Keeps.foldl | with_reducible apply Keeps.next | with_reducible apply Keeps.fault | with_reducible apply Keeps.ite | with_reducible apply KeepsR.ite | split | with_reducible apply Keeps.built

theorem keeps_State_tripRelease {z : State} : ∀ s, Keeps z s → Keeps z (State.tripRelease s) := by
  intro s h
  unfold State.tripRelease
  try dsimp only
  repeat' first | with_reducible intro _ | with_reducible assumption | with_reducible apply Keeps.ite | with_reducible apply KeepsR.ite | with_reducible apply keeps_State_set | with_reducible apply Keeps.foldl | with_reducible apply Keeps.next | with_reducible apply Keeps.fault | with_reducible apply Keeps.ite | with_reducible apply KeepsR.ite | split | with_reducible apply Keeps.built

theorem keeps_execThermalTripRelease {z : State} : ∀ s, Keeps z s → KeepsR z (execThermalTripRelease s) := by
  intro s h
  unfold execThermalTripRelease
  try dsimp only
  repeat' first | with_reducible intro _ | with_reducible assumption | with_reducible apply Keeps.ite | with_reducible apply KeepsR.ite | with_reducible apply keeps_State_tripRelease | with_reducible apply Keeps.foldl | with_reducible apply Keeps.next | with_reducible apply Keeps.fault | with_reducible apply Keeps.ite | with_reducible apply KeepsR.ite | split | with_reducible apply Keeps.built

theorem keeps_State_thermalShutdown {z : State} : ∀ s, Keeps z s → Keeps z (State.thermalShutdown s) := by
  intro s h
  unfold State.thermalShutdown
  try dsimp only
  repeat' first | with_reducible intro _ | with_reducible assumption | with_reducible apply Keeps.ite | with_reducible apply KeepsR.ite | with_reducible apply keeps_State_deviceStatus | with_reducible apply keeps_State_raise | with_reducible apply keeps_State_onBoot | with_reducible apply Keeps.foldl | with_reducible apply Keeps.next | with_reducible apply Keeps.fault | with_reducible apply Keeps.ite | with_reducible apply KeepsR.ite | split | with_reducible apply Keeps.built

theorem keeps_execThermalShutdown {z : State} : ∀ s, Keeps z s → KeepsR z (execThermalShutdown s) := by
  intro s h
  unfold execThermalShutdown
  try dsimp only
  repeat' first | with_reducible intro _ | with_reducible assumption | with_reducible apply Keeps.ite | with_reducible apply KeepsR.ite | with_reducible apply keeps_State_thermalShutdown | with_reducible apply Keeps.foldl | with_reducible apply Keeps.next | with_reducible apply Keeps.fault | with_reducible apply Keeps.ite | with_reducible apply KeepsR.ite | split | with_reducible apply Keeps.built

theorem keeps_State_coldReset {z : State} : ∀ s, Keeps z s → Keeps z (State.coldReset s) := by
  intro s h
  unfold State.coldReset
  exact h.trans (Keeps.mk rfl rfl (Nat.le_refl _) (fun _ => rfl) (fun _ x hx => by cases hx) (List.prefix_refl _))

theorem keeps_execColdReset {z : State} : ∀ s, Keeps z s → KeepsR z (execColdReset s) := by
  intro s h
  unfold execColdReset
  try dsimp only
  repeat' first | with_reducible intro _ | with_reducible assumption | with_reducible apply Keeps.ite | with_reducible apply KeepsR.ite | with_reducible apply keeps_State_coldReset | with_reducible apply Keeps.foldl | with_reducible apply Keeps.next | with_reducible apply Keeps.fault | with_reducible apply Keeps.ite | with_reducible apply KeepsR.ite | split | with_reducible apply Keeps.built

theorem keeps_execRailFault {z : State} : ∀ a0 s, Keeps z s → KeepsR z (execRailFault a0 s) := by
  intro a0 s h
  unfold execRailFault
  try dsimp only
  repeat' first | with_reducible intro _ | with_reducible assumption | with_reducible apply Keeps.ite | with_reducible apply KeepsR.ite | with_reducible apply keeps_State_coldReset | with_reducible apply Keeps.foldl | with_reducible apply Keeps.next | with_reducible apply Keeps.fault | with_reducible apply Keeps.ite | with_reducible apply KeepsR.ite | split | with_reducible apply Keeps.built

theorem keeps_State_pmbusPoll {z : State} : ∀ s a1 a2 a3 a4 a5 a6, Keeps z s → Keeps z (State.pmbusPoll s a1 a2 a3 a4 a5 a6) := by
  intro s a1 a2 a3 a4 a5 a6 h
  unfold State.pmbusPoll
  try dsimp only
  repeat' first | with_reducible intro _ | with_reducible assumption | with_reducible apply Keeps.ite | with_reducible apply KeepsR.ite | with_reducible apply keeps_State_setB | with_reducible apply Keeps.foldl | with_reducible apply Keeps.next | with_reducible apply Keeps.fault | with_reducible apply Keeps.ite | with_reducible apply KeepsR.ite | split | with_reducible apply Keeps.built

theorem keeps_execPmbusPoll {z : State} : ∀ a0 a1 a2 a3 a4 a5 s, Keeps z s → KeepsR z (execPmbusPoll a0 a1 a2 a3 a4 a5 s) := by
  intro a0 a1 a2 a3 a4 a5 s h
  unfold execPmbusPoll
  try dsimp only
  repeat' first | with_reducible intro _ | with_reducible assumption | with_reducible apply Keeps.ite | with_reducible apply KeepsR.ite | with_reducible apply keeps_State_pmbusPoll | with_reducible apply Keeps.foldl | with_reducible apply Keeps.next | with_reducible apply Keeps.fault | with_reducible apply Keeps.ite | with_reducible apply KeepsR.ite | split | with_reducible apply Keeps.built

theorem keeps_execPmbusAlert {z : State} : ∀ a0 a1 a2 s, Keeps z s → KeepsR z (execPmbusAlert a0 a1 a2 s) := by
  intro a0 a1 a2 s h
  unfold execPmbusAlert
  try dsimp only
  repeat' first | with_reducible intro _ | with_reducible assumption | with_reducible apply Keeps.ite | with_reducible apply KeepsR.ite | with_reducible apply keeps_State_setB | with_reducible apply Keeps.foldl | with_reducible apply Keeps.next | with_reducible apply Keeps.fault | with_reducible apply Keeps.ite | with_reducible apply KeepsR.ite | split | with_reducible apply Keeps.built

theorem keeps_State_hportDown {z : State} : ∀ s a1, Keeps z s → Keeps z (State.hportDown s a1) := by
  intro s a1 h
  unfold State.hportDown
  try dsimp only
  repeat' first | with_reducible intro _ | with_reducible assumption | with_reducible apply Keeps.ite | with_reducible apply KeepsR.ite | with_reducible apply keeps_State_qpsFail | with_reducible apply keeps_State_set | with_reducible apply Keeps.foldl | with_reducible apply Keeps.next | with_reducible apply Keeps.fault | with_reducible apply Keeps.ite | with_reducible apply KeepsR.ite | split | with_reducible apply Keeps.built

theorem keeps_State_loopClear {z : State} : ∀ s a1 a2, Keeps z s → Keeps z (State.loopClear s a1 a2) := by
  intro s a1 a2 h
  unfold State.loopClear
  try dsimp only
  repeat' first | with_reducible intro _ | with_reducible assumption | with_reducible apply Keeps.ite | with_reducible apply KeepsR.ite | with_reducible apply keeps_State_set | with_reducible apply Keeps.foldl | with_reducible apply Keeps.next | with_reducible apply Keeps.fault | with_reducible apply Keeps.ite | with_reducible apply KeepsR.ite | split | with_reducible apply Keeps.built

theorem keeps_State_retimingOver {z : State} : ∀ s a1, Keeps z s → Keeps z (State.retimingOver s a1) := by
  intro s a1 h
  unfold State.retimingOver
  try dsimp only
  repeat' first | with_reducible intro _ | with_reducible assumption | with_reducible apply Keeps.ite | with_reducible apply KeepsR.ite | with_reducible apply keeps_State_set | with_reducible apply Keeps.foldl | with_reducible apply Keeps.next | with_reducible apply Keeps.fault | with_reducible apply Keeps.ite | with_reducible apply KeepsR.ite | split | with_reducible apply Keeps.built

theorem keeps_State_loopBegin {z : State} : ∀ s a1 a2, Keeps z s → Keeps z (State.loopBegin s a1 a2) := by
  intro s a1 a2 h
  unfold State.loopBegin
  try dsimp only
  repeat' first | with_reducible intro _ | with_reducible assumption | with_reducible apply Keeps.ite | with_reducible apply KeepsR.ite | with_reducible apply keeps_State_hportDown | with_reducible apply keeps_State_portDown | with_reducible apply keeps_State_retimingOver | with_reducible apply keeps_State_set | with_reducible apply keeps_State_loopClear | with_reducible apply keeps_State_emit | with_reducible apply Keeps.foldl | with_reducible apply Keeps.next | with_reducible apply Keeps.fault | with_reducible apply Keeps.ite | with_reducible apply KeepsR.ite | split | with_reducible apply Keeps.built

theorem keeps_State_loopOver {z : State} : ∀ s a1 a2 a3, Keeps z s → Keeps z (State.loopOver s a1 a2 a3) := by
  intro s a1 a2 a3 h
  unfold State.loopOver
  try dsimp only
  repeat' first | with_reducible intro _ | with_reducible assumption | with_reducible apply Keeps.ite | with_reducible apply KeepsR.ite | with_reducible apply keeps_State_set | with_reducible apply keeps_State_emit | with_reducible apply Keeps.foldl | with_reducible apply Keeps.next | with_reducible apply Keeps.fault | with_reducible apply Keeps.ite | with_reducible apply KeepsR.ite | split | with_reducible apply Keeps.built

theorem keeps_State_loopWrite {z : State} : ∀ s a1 a2 a3 a4 a5 a6, Keeps z s → Keeps z (State.loopWrite s a1 a2 a3 a4 a5 a6) := by
  intro s a1 a2 a3 a4 a5 a6 h
  unfold State.loopWrite
  try dsimp only
  repeat' first | with_reducible intro _ | with_reducible assumption | with_reducible apply Keeps.ite | with_reducible apply KeepsR.ite | with_reducible apply keeps_State_writeReg | with_reducible apply keeps_State_loopOver | with_reducible apply keeps_State_regFault | with_reducible apply keeps_State_loopBegin | with_reducible apply Keeps.foldl | with_reducible apply Keeps.next | with_reducible apply Keeps.fault | with_reducible apply Keeps.ite | with_reducible apply KeepsR.ite | split | with_reducible apply Keeps.built

theorem keeps_onAnyPort {z : State} : ∀ b p r, KeepsR z r → KeepsR z (onAnyPort b p r) := by
  intro b p r h
  exact (keeps_onHport _ _ h).ite (keeps_onPort _ _ h)

theorem keeps_execLoopStart {z : State} : ∀ a0 a1 a2 a3 a4 s, Keeps z s → KeepsR z (execLoopStart a0 a1 a2 a3 a4 s) := by
  intro a0 a1 a2 a3 a4 s h
  unfold execLoopStart
  try dsimp only
  repeat' first | with_reducible intro _ | with_reducible assumption | with_reducible apply Keeps.ite | with_reducible apply KeepsR.ite | with_reducible apply keeps_onAnyPort | with_reducible apply keeps_State_guard | with_reducible apply keeps_State_loopWrite | with_reducible apply Keeps.foldl | with_reducible apply Keeps.next | with_reducible apply Keeps.fault | with_reducible apply Keeps.ite | with_reducible apply KeepsR.ite | split | with_reducible apply Keeps.built

theorem keeps_execLoopStop {z : State} : ∀ a0 a1 a2 a3 s, Keeps z s → KeepsR z (execLoopStop a0 a1 a2 a3 s) := by
  intro a0 a1 a2 a3 s h
  unfold execLoopStop
  try dsimp only
  repeat' first | with_reducible intro _ | with_reducible assumption | with_reducible apply Keeps.ite | with_reducible apply KeepsR.ite | with_reducible apply keeps_onAnyPort | with_reducible apply keeps_State_guard | with_reducible apply keeps_State_loopWrite | with_reducible apply Keeps.foldl | with_reducible apply Keeps.next | with_reducible apply Keeps.fault | with_reducible apply Keeps.ite | with_reducible apply KeepsR.ite | split | with_reducible apply Keeps.built

theorem keeps_State_loopEnds {z : State} : ∀ s a1 a2 a3, Keeps z s → Keeps z (State.loopEnds s a1 a2 a3) := by
  intro s a1 a2 a3 h
  unfold State.loopEnds
  try dsimp only
  repeat' first | with_reducible intro _ | with_reducible assumption | with_reducible apply Keeps.ite | with_reducible apply KeepsR.ite | with_reducible apply keeps_State_set | with_reducible apply keeps_State_emit | with_reducible apply Keeps.foldl | with_reducible apply Keeps.next | with_reducible apply Keeps.fault | with_reducible apply Keeps.ite | with_reducible apply KeepsR.ite | split | with_reducible apply Keeps.built

theorem keeps_State_loopCounted {z : State} : ∀ s a1 a2 a3, Keeps z s → Keeps z (State.loopCounted s a1 a2 a3) := by
  intro s a1 a2 a3 h
  unfold State.loopCounted
  try dsimp only
  repeat' first | with_reducible intro _ | with_reducible assumption | with_reducible apply Keeps.ite | with_reducible apply KeepsR.ite | with_reducible apply keeps_State_set | with_reducible apply Keeps.foldl | with_reducible apply Keeps.next | with_reducible apply Keeps.fault | with_reducible apply Keeps.ite | with_reducible apply KeepsR.ite | split | with_reducible apply Keeps.built

theorem keeps_State_loopDone {z : State} : ∀ s a1 a2 a3, Keeps z s → Keeps z (State.loopDone s a1 a2 a3) := by
  intro s a1 a2 a3 h
  unfold State.loopDone
  try dsimp only
  repeat' first | with_reducible intro _ | with_reducible assumption | with_reducible apply Keeps.ite | with_reducible apply KeepsR.ite | with_reducible apply keeps_State_loopEnds | with_reducible apply keeps_State_loopCounted | with_reducible apply Keeps.foldl | with_reducible apply Keeps.next | with_reducible apply Keeps.fault | with_reducible apply Keeps.ite | with_reducible apply KeepsR.ite | split | with_reducible apply Keeps.built

theorem keeps_execLoopEnd {z : State} : ∀ a0 a1 a2 s, Keeps z s → KeepsR z (execLoopEnd a0 a1 a2 s) := by
  intro a0 a1 a2 s h
  unfold execLoopEnd
  try dsimp only
  repeat' first | with_reducible intro _ | with_reducible assumption | with_reducible apply Keeps.ite | with_reducible apply KeepsR.ite | with_reducible apply keeps_onAnyPort | with_reducible apply keeps_State_loopDone | with_reducible apply Keeps.foldl | with_reducible apply Keeps.next | with_reducible apply Keeps.fault | with_reducible apply Keeps.ite | with_reducible apply KeepsR.ite | split | with_reducible apply Keeps.built

theorem keeps_State_farLoopIn {z : State} : ∀ s a1 a2, Keeps z s → Keeps z (State.farLoopIn s a1 a2) := by
  intro s a1 a2 h
  unfold State.farLoopIn
  try dsimp only
  repeat' first | with_reducible intro _ | with_reducible assumption | with_reducible apply Keeps.ite | with_reducible apply KeepsR.ite | with_reducible apply keeps_State_linkReset | with_reducible apply keeps_State_retimingOver | with_reducible apply keeps_State_set | with_reducible apply keeps_State_portDown | with_reducible apply keeps_State_emit | with_reducible apply Keeps.foldl | with_reducible apply Keeps.next | with_reducible apply Keeps.fault | with_reducible apply Keeps.ite | with_reducible apply KeepsR.ite | split | with_reducible apply Keeps.built

theorem keeps_execFarLoopRequest {z : State} : ∀ a0 a1 s, Keeps z s → KeepsR z (execFarLoopRequest a0 a1 s) := by
  intro a0 a1 s h
  unfold execFarLoopRequest
  try dsimp only
  repeat' first | with_reducible intro _ | with_reducible assumption | with_reducible apply Keeps.ite | with_reducible apply KeepsR.ite | with_reducible apply keeps_onPort | with_reducible apply keeps_State_farLoopIn | with_reducible apply Keeps.foldl | with_reducible apply Keeps.next | with_reducible apply Keeps.fault | with_reducible apply Keeps.ite | with_reducible apply KeepsR.ite | split | with_reducible apply Keeps.built

theorem keeps_execRetimingTimeout {z : State} : ∀ a0 s, Keeps z s → KeepsR z (execRetimingTimeout a0 s) := by
  intro a0 s h
  unfold execRetimingTimeout
  try dsimp only
  repeat' first | with_reducible intro _ | with_reducible assumption | with_reducible apply Keeps.ite | with_reducible apply KeepsR.ite | with_reducible apply keeps_onPort | with_reducible apply keeps_State_linkReset | with_reducible apply keeps_State_retimingOver | with_reducible apply Keeps.foldl | with_reducible apply Keeps.next | with_reducible apply Keeps.fault | with_reducible apply Keeps.ite | with_reducible apply KeepsR.ite | split | with_reducible apply Keeps.built

theorem keeps_execFarLoopNoAnswer {z : State} : ∀ a0 s, Keeps z s → KeepsR z (execFarLoopNoAnswer a0 s) := by
  intro a0 s h
  unfold execFarLoopNoAnswer
  try dsimp only
  repeat' first | with_reducible intro _ | with_reducible assumption | with_reducible apply Keeps.ite | with_reducible apply KeepsR.ite | with_reducible apply keeps_onPort | with_reducible apply keeps_State_loopEnds | with_reducible apply Keeps.foldl | with_reducible apply Keeps.next | with_reducible apply Keeps.fault | with_reducible apply Keeps.ite | with_reducible apply KeepsR.ite | split | with_reducible apply Keeps.built

theorem keeps_State_testBegins {z : State} : ∀ s a1, Keeps z s → Keeps z (State.testBegins s a1) := by
  intro s a1 h
  unfold State.testBegins
  try dsimp only
  repeat' first | with_reducible intro _ | with_reducible assumption | with_reducible apply Keeps.ite | with_reducible apply KeepsR.ite | with_reducible apply keeps_State_set | with_reducible apply Keeps.foldl | with_reducible apply Keeps.next | with_reducible apply Keeps.fault | with_reducible apply Keeps.ite | with_reducible apply KeepsR.ite | split | with_reducible apply Keeps.built

theorem keeps_State_t0Test {z : State} : ∀ s, Keeps z s → Keeps z (State.t0Test s) := by
  intro s h
  unfold State.t0Test
  try dsimp only
  repeat' first | with_reducible intro _ | with_reducible assumption | with_reducible apply Keeps.ite | with_reducible apply KeepsR.ite | with_reducible apply keeps_State_testBegins | with_reducible apply keeps_State_t0Results | with_reducible apply keeps_State_overwriteSlice | with_reducible apply Keeps.foldl | with_reducible apply Keeps.next | with_reducible apply Keeps.fault | with_reducible apply Keeps.ite | with_reducible apply KeepsR.ite | split | with_reducible apply Keeps.built

theorem keeps_execT0SelfTest {z : State} : ∀ a0 s, Keeps z s → KeepsR z (execT0SelfTest a0 s) := by
  intro a0 s h
  unfold execT0SelfTest
  try dsimp only
  repeat' first | with_reducible intro _ | with_reducible assumption | with_reducible apply Keeps.ite | with_reducible apply KeepsR.ite | with_reducible apply keeps_State_guard | with_reducible apply keeps_State_t0Test | with_reducible apply Keeps.foldl | with_reducible apply Keeps.next | with_reducible apply Keeps.fault | with_reducible apply Keeps.ite | with_reducible apply KeepsR.ite | split | with_reducible apply Keeps.built

theorem keeps_State_t1Test {z : State} : ∀ s a1, Keeps z s → Keeps z (State.t1Test s a1) := by
  intro s a1 h
  unfold State.t1Test
  try dsimp only
  repeat' first | with_reducible intro _ | with_reducible assumption | with_reducible apply Keeps.ite | with_reducible apply KeepsR.ite | with_reducible apply keeps_State_regFault | with_reducible apply keeps_State_testBegins | with_reducible apply keeps_State_set | with_reducible apply Keeps.foldl | with_reducible apply Keeps.next | with_reducible apply Keeps.fault | with_reducible apply Keeps.ite | with_reducible apply KeepsR.ite | split | with_reducible apply Keeps.built

theorem keeps_execT1ControllerLoop {z : State} : ∀ a0 s, Keeps z s → KeepsR z (execT1ControllerLoop a0 s) := by
  intro a0 s h
  unfold execT1ControllerLoop
  try dsimp only
  repeat' first | with_reducible intro _ | with_reducible assumption | with_reducible apply Keeps.ite | with_reducible apply KeepsR.ite | with_reducible apply keeps_State_guard | with_reducible apply keeps_State_t1Test | with_reducible apply Keeps.foldl | with_reducible apply Keeps.next | with_reducible apply Keeps.fault | with_reducible apply Keeps.ite | with_reducible apply KeepsR.ite | split | with_reducible apply Keeps.built

theorem keeps_execT1PhyLoop {z : State} : ∀ a0 s, Keeps z s → KeepsR z (execT1PhyLoop a0 s) := by
  intro a0 s h
  unfold execT1PhyLoop
  try dsimp only
  repeat' first | with_reducible intro _ | with_reducible assumption | with_reducible apply Keeps.ite | with_reducible apply KeepsR.ite | with_reducible apply keeps_State_guard | with_reducible apply keeps_State_t1Test | with_reducible apply Keeps.foldl | with_reducible apply Keeps.next | with_reducible apply Keeps.fault | with_reducible apply Keeps.ite | with_reducible apply KeepsR.ite | split | with_reducible apply Keeps.built

theorem keeps_State_testCmd {z : State} : ∀ s a1, Keeps z s → Keeps z (State.testCmd s a1) := by
  intro s a1 h
  unfold State.testCmd
  try dsimp only
  repeat' first | with_reducible intro _ | with_reducible assumption | with_reducible apply Keeps.ite | with_reducible apply KeepsR.ite | with_reducible apply keeps_State_t0Test | with_reducible apply keeps_State_t1Test | with_reducible apply Keeps.foldl | with_reducible apply Keeps.next | with_reducible apply Keeps.fault | with_reducible apply Keeps.ite | with_reducible apply KeepsR.ite | split | with_reducible apply Keeps.built

theorem keeps_State_testDone {z : State} : ∀ s a1 a2, Keeps z s → Keeps z (State.testDone s a1 a2) := by
  intro s a1 a2 h
  unfold State.testDone
  try dsimp only
  repeat' first | with_reducible intro _ | with_reducible assumption | with_reducible apply Keeps.ite | with_reducible apply KeepsR.ite | with_reducible apply keeps_State_set | with_reducible apply keeps_State_t0Results | with_reducible apply Keeps.foldl | with_reducible apply Keeps.next | with_reducible apply Keeps.fault | with_reducible apply Keeps.ite | with_reducible apply KeepsR.ite | split | with_reducible apply Keeps.built

theorem keeps_execDeviceTestDone {z : State} : ∀ a0 a1 s, Keeps z s → KeepsR z (execDeviceTestDone a0 a1 s) := by
  intro a0 a1 s h
  unfold execDeviceTestDone
  try dsimp only
  repeat' first | with_reducible intro _ | with_reducible assumption | with_reducible apply Keeps.ite | with_reducible apply KeepsR.ite | with_reducible apply keeps_State_testDone | with_reducible apply Keeps.foldl | with_reducible apply Keeps.next | with_reducible apply Keeps.fault | with_reducible apply Keeps.ite | with_reducible apply KeepsR.ite | split | with_reducible apply Keeps.built

theorem keeps_State_tapOp {z : State} : ∀ s a1 a2, Keeps z s → Keeps z (State.tapOp s a1 a2) := by
  intro s a1 a2 h
  unfold State.tapOp
  try dsimp only
  repeat' first | with_reducible intro _ | with_reducible assumption | with_reducible apply Keeps.ite | with_reducible apply KeepsR.ite | with_reducible apply Keeps.foldl | with_reducible apply Keeps.next | with_reducible apply Keeps.fault | with_reducible apply Keeps.ite | with_reducible apply KeepsR.ite | split | with_reducible apply Keeps.built

theorem keeps_execBypass {z : State} : ∀ s, Keeps z s → KeepsR z (execBypass s) := by
  intro s h
  unfold execBypass
  try dsimp only
  repeat' first | with_reducible intro _ | with_reducible assumption | with_reducible apply Keeps.ite | with_reducible apply KeepsR.ite | with_reducible apply keeps_State_tapOp | with_reducible apply Keeps.foldl | with_reducible apply Keeps.next | with_reducible apply Keeps.fault | with_reducible apply Keeps.ite | with_reducible apply KeepsR.ite | split | with_reducible apply Keeps.built

theorem keeps_execIdcode {z : State} : ∀ s, Keeps z s → KeepsR z (execIdcode s) := by
  intro s h
  unfold execIdcode
  try dsimp only
  repeat' first | with_reducible intro _ | with_reducible assumption | with_reducible apply Keeps.ite | with_reducible apply KeepsR.ite | with_reducible apply keeps_State_tapOp | with_reducible apply Keeps.foldl | with_reducible apply Keeps.next | with_reducible apply Keeps.fault | with_reducible apply Keeps.ite | with_reducible apply KeepsR.ite | split | with_reducible apply Keeps.built

theorem keeps_execSamplePreload {z : State} : ∀ a0 s, Keeps z s → KeepsR z (execSamplePreload a0 s) := by
  intro a0 s h
  unfold execSamplePreload
  try dsimp only
  repeat' first | with_reducible intro _ | with_reducible assumption | with_reducible apply Keeps.ite | with_reducible apply KeepsR.ite | with_reducible apply keeps_State_drawFree | (with_reducible apply keeps_State_drawFree_eq; with_reducible assumption) | with_reducible apply Keeps.foldl | with_reducible apply Keeps.next | with_reducible apply Keeps.fault | with_reducible apply Keeps.ite | with_reducible apply KeepsR.ite | split | with_reducible apply Keeps.built

theorem keeps_State_underReset {z : State} : ∀ s a1, Keeps z s → Keeps z (State.underReset s a1) := by
  intro s a1 h
  unfold State.underReset
  try dsimp only
  repeat' first | with_reducible intro _ | with_reducible assumption | with_reducible apply Keeps.ite | with_reducible apply KeepsR.ite | with_reducible apply keeps_State_tapOp | with_reducible apply Keeps.foldl | with_reducible apply Keeps.next | with_reducible apply Keeps.fault | with_reducible apply Keeps.ite | with_reducible apply KeepsR.ite | split | with_reducible apply Keeps.built

theorem keeps_execExtest {z : State} : ∀ s, Keeps z s → KeepsR z (execExtest s) := by
  intro s h
  unfold execExtest
  try dsimp only
  repeat' first | with_reducible intro _ | with_reducible assumption | with_reducible apply Keeps.ite | with_reducible apply KeepsR.ite | with_reducible apply keeps_State_drawFree | with_reducible apply keeps_State_tapOp | (with_reducible apply keeps_State_drawFree_eq; with_reducible assumption) | with_reducible apply Keeps.foldl | with_reducible apply Keeps.next | with_reducible apply Keeps.fault | with_reducible apply Keeps.ite | with_reducible apply KeepsR.ite | split | with_reducible apply Keeps.built

theorem keeps_execClamp {z : State} : ∀ s, Keeps z s → KeepsR z (execClamp s) := by
  intro s h
  unfold execClamp
  try dsimp only
  repeat' first | with_reducible intro _ | with_reducible assumption | with_reducible apply Keeps.ite | with_reducible apply KeepsR.ite | with_reducible apply keeps_State_underReset | with_reducible apply Keeps.foldl | with_reducible apply Keeps.next | with_reducible apply Keeps.fault | with_reducible apply Keeps.ite | with_reducible apply KeepsR.ite | split | with_reducible apply Keeps.built

theorem keeps_execHighz {z : State} : ∀ s, Keeps z s → KeepsR z (execHighz s) := by
  intro s h
  unfold execHighz
  try dsimp only
  repeat' first | with_reducible intro _ | with_reducible assumption | with_reducible apply Keeps.ite | with_reducible apply KeepsR.ite | with_reducible apply keeps_State_underReset | with_reducible apply Keeps.foldl | with_reducible apply Keeps.next | with_reducible apply Keeps.fault | with_reducible apply Keeps.ite | with_reducible apply KeepsR.ite | split | with_reducible apply Keeps.built

theorem mapVal_fits (f : Nat → Nat → Nat) (m : Map Nat) (hf : ∀ k v, v < 2 ^ 64 → f k v < 2 ^ 64)
    (h : ∀ x ∈ m, x.2 < 2 ^ 64) : ∀ x ∈ Map.mapVal f m, x.2 < 2 ^ 64 := by
  intro x hx
  obtain ⟨y, hy, rfl⟩ := List.mem_map.mp hx
  exact hf _ _ (h y hy)

theorem setField_fits (w hi lo v : Nat) (h : hi < 64) (hw : w < 2 ^ 64) : setField w hi lo v < 2 ^ 64 := by
  apply Nat.lt_pow_two_of_testBit
  intro i hi'
  rw [setField_testBit]
  have : w.testBit i = false := Nat.testBit_lt_two_pow (Nat.lt_of_lt_of_le hw (Nat.pow_le_pow_right (by decide) hi'))
  split
  · exact this
  · split
    · omega
    · exact this

theorem rows_fit (l : List RegRow) (h : l.all (fun r => decide (r.hi < 64)) = true) (r : RegRow) (hr : r ∈ l) : r.hi < 64 :=
  of_decide_eq_true (List.all_eq_true.mp h r hr)

theorem rows_hi (off : Nat) : ∀ r ∈ rowsAt off, r.hi < 64 := by
  intro r hr
  obtain ⟨hr, -⟩ := List.mem_filter.mp hr
  rcases List.mem_append.mp hr with hr | hr
  · exact rows_fit _ (by decide) r hr
  · unfold classRows at hr
    split at hr
    all_goals exact rows_fit _ (by decide) r hr

theorem warmValue_fits (off v : Nat) (hv : v < 2 ^ 64) : warmValue off v < 2 ^ 64 := by
  unfold warmValue
  have key : ∀ (l : List RegRow) (v : Nat), (∀ r ∈ l, r.hi < 64) → v < 2 ^ 64 →
      l.foldl (fun acc r => match r.warm with
        | none => acc
        | some w => setField acc r.hi r.lo w) v < 2 ^ 64 := by
    intro l
    induction l with
    | nil => intro v _ hv; exact hv
    | cons r l ih =>
      intro v hl hv
      refine ih _ (fun x hx => hl x (List.mem_cons_of_mem _ hx)) ?_
      dsimp only
      split
      · exact hv
      · exact setField_fits _ _ _ _ (hl r (List.mem_cons_self ..)) hv
  exact key _ v (rows_hi off) hv

theorem keeps_State_warmRegs {z : State} : ∀ s f, Keeps z s → Keeps z (State.warmRegs s f) := by
  intro s f h
  refine h.onRegs rfl rfl rfl rfl ?_
  unfold State.warmRegs
  dsimp only
  refine mapVal_fits _ s.regs (fun k v hv => ?_)
  split
  · exact warmValue_fits _ _ hv
  · exact hv

theorem keeps_State_unlock {z : State} : ∀ s f, Keeps z s → Keeps z (State.unlock s f) := by
  intro s f h
  refine h.onRegs rfl rfl rfl rfl ?_
  unfold State.unlock
  dsimp only
  refine mapVal_fits _ s.regs (fun k v hv => ?_)
  split
  · exact setField_fits _ _ _ _ (by decide) hv
  · exact hv

theorem keeps_State_cancelAll {z : State} : ∀ s a1 a2, Keeps z s → Keeps z (State.cancelAll s a1 a2) := by
  intro s a1 a2 h
  unfold State.cancelAll
  try dsimp only
  repeat' first | with_reducible intro _ | with_reducible assumption | with_reducible apply Keeps.ite | with_reducible apply KeepsR.ite | with_reducible apply keeps_State_onGen | with_reducible apply keeps_State_endReq | with_reducible apply Keeps.foldl | with_reducible apply Keeps.next | with_reducible apply Keeps.fault | with_reducible apply Keeps.ite | with_reducible apply KeepsR.ite | split | with_reducible apply Keeps.built

theorem keeps_State_dropTasks {z : State} : ∀ s a1 a2 a3, Keeps z s → Keeps z (State.dropTasks s a1 a2 a3) := by
  intro s a1 a2 a3 h
  unfold State.dropTasks
  try dsimp only
  repeat' first | with_reducible intro _ | with_reducible assumption | with_reducible apply Keeps.ite | with_reducible apply KeepsR.ite | with_reducible apply keeps_State_drainCore | with_reducible apply keeps_State_releaseSems | with_reducible apply keeps_State_setTenant | with_reducible apply keeps_State_onCore | with_reducible apply Keeps.foldl | with_reducible apply Keeps.next | with_reducible apply Keeps.fault | with_reducible apply Keeps.ite | with_reducible apply KeepsR.ite | split | with_reducible apply Keeps.built

theorem keeps_State_semsInit {z : State} : ∀ s a1, Keeps z s → Keeps z (State.semsInit s a1) := by
  intro s a1 h
  unfold State.semsInit
  try dsimp only
  repeat' first | with_reducible intro _ | with_reducible assumption | with_reducible apply Keeps.ite | with_reducible apply KeepsR.ite | with_reducible apply keeps_State_setB | with_reducible apply Keeps.foldl | with_reducible apply Keeps.next | with_reducible apply Keeps.fault | with_reducible apply Keeps.ite | with_reducible apply KeepsR.ite | split | with_reducible apply Keeps.built

theorem keeps_State_abandonEngines {z : State} : ∀ s a1, Keeps z s → Keeps z (State.abandonEngines s a1) := by
  intro s a1 h
  unfold State.abandonEngines
  try dsimp only
  repeat' first | with_reducible intro _ | with_reducible assumption | with_reducible apply Keeps.ite | with_reducible apply KeepsR.ite | with_reducible apply keeps_State_drawFree | with_reducible apply keeps_State_jobFails | with_reducible apply keeps_State_onPart | with_reducible apply keeps_State_onFab | (with_reducible apply keeps_State_drawFree_eq; with_reducible assumption) | with_reducible apply Keeps.foldl | with_reducible apply Keeps.next | with_reducible apply Keeps.fault | with_reducible apply Keeps.ite | with_reducible apply KeepsR.ite | split | with_reducible apply Keeps.built

theorem keeps_State_resetStart {z : State} : ∀ s a1 a2 a3, Keeps z s → Keeps z (State.resetStart s a1 a2 a3) := by
  intro s a1 a2 a3 h
  unfold State.resetStart
  try dsimp only
  repeat' first | with_reducible intro _ | with_reducible assumption | with_reducible apply Keeps.ite | with_reducible apply KeepsR.ite | with_reducible apply keeps_State_set | with_reducible apply keeps_State_wakeUp | with_reducible apply keeps_State_cancelAll | with_reducible apply keeps_State_onSched | with_reducible apply keeps_State_dropTasks | with_reducible apply keeps_State_semsInit | with_reducible apply keeps_State_abandonEngines | with_reducible apply keeps_State_onTiers | with_reducible apply Keeps.foldl | with_reducible apply Keeps.next | with_reducible apply Keeps.fault | with_reducible apply Keeps.ite | with_reducible apply KeepsR.ite | split | with_reducible apply Keeps.built

theorem keeps_State_dropFills {z : State} : ∀ s a1 a2, Keeps z s → Keeps z (State.dropFills s a1 a2) := by
  intro s a1 a2 h
  unfold State.dropFills
  try dsimp only
  repeat' first | with_reducible intro _ | with_reducible assumption | with_reducible apply Keeps.ite | with_reducible apply KeepsR.ite | with_reducible apply keeps_State_setB | with_reducible apply keeps_State_onWslot | with_reducible apply keeps_State_setBuf | with_reducible apply Keeps.foldl | with_reducible apply Keeps.next | with_reducible apply Keeps.fault | with_reducible apply Keeps.ite | with_reducible apply KeepsR.ite | split | with_reducible apply Keeps.built

theorem keeps_State_newKey {z : State} : ∀ s a1, Keeps z s → Keeps z (State.newKey s a1) := by
  intro s a1 h
  unfold State.newKey
  try dsimp only
  repeat' first | with_reducible intro _ | with_reducible assumption | with_reducible apply Keeps.ite | with_reducible apply KeepsR.ite | with_reducible apply keeps_State_drawFree | with_reducible apply keeps_State_setTenant | (with_reducible apply keeps_State_drawFree_eq; with_reducible assumption) | with_reducible apply Keeps.foldl | with_reducible apply Keeps.next | with_reducible apply Keeps.fault | with_reducible apply Keeps.ite | with_reducible apply KeepsR.ite | split | with_reducible apply Keeps.built

theorem keeps_State_tenantDone {z : State} : ∀ s a1 a2 a3, Keeps z s → Keeps z (State.tenantDone s a1 a2 a3) := by
  intro s a1 a2 a3 h
  unfold State.tenantDone
  try dsimp only
  repeat' first | with_reducible intro _ | with_reducible assumption | with_reducible apply Keeps.ite | with_reducible apply KeepsR.ite | with_reducible apply keeps_State_extendMeas | with_reducible apply keeps_State_newKey | with_reducible apply keeps_State_qpsFail | with_reducible apply keeps_State_warmRegs | with_reducible apply keeps_State_unlock | with_reducible apply keeps_State_setTenant | with_reducible apply Keeps.foldl | with_reducible apply Keeps.next | with_reducible apply Keeps.fault | with_reducible apply Keeps.ite | with_reducible apply KeepsR.ite | split | with_reducible apply Keeps.built

theorem keeps_State_destroyed {z : State} : ∀ s a1, Keeps z s → Keeps z (State.destroyed s a1) := by
  intro s a1 h
  unfold State.destroyed
  try dsimp only
  repeat' first | with_reducible intro _ | with_reducible assumption | with_reducible apply Keeps.ite | with_reducible apply KeepsR.ite | with_reducible apply keeps_State_onFab | with_reducible apply keeps_State_setPart | with_reducible apply keeps_State_set | with_reducible apply keeps_State_extendMeas | with_reducible apply Keeps.foldl | with_reducible apply Keeps.next | with_reducible apply Keeps.fault | with_reducible apply Keeps.ite | with_reducible apply KeepsR.ite | split | with_reducible apply Keeps.built

theorem keeps_State_warmContinue {z : State} : ∀ s, Keeps z s → Keeps z (State.warmContinue s) := by
  intro s h
  unfold State.warmContinue
  try dsimp only
  repeat' first | with_reducible intro _ | with_reducible assumption | with_reducible apply Keeps.ite | with_reducible apply KeepsR.ite | with_reducible apply keeps_State_portDown | with_reducible apply keeps_State_qpsFail | with_reducible apply keeps_State_noSource | with_reducible apply keeps_State_setTimeState | with_reducible apply keeps_State_set | with_reducible apply keeps_State_warmRegs | with_reducible apply keeps_State_onBoot | with_reducible apply keeps_State_extendMeas | with_reducible apply keeps_State_setMeas | with_reducible apply keeps_State_deviceStatus | with_reducible apply keeps_State_onFab | with_reducible apply keeps_State_beginVerify | with_reducible apply Keeps.foldl | with_reducible apply Keeps.next | with_reducible apply Keeps.fault | with_reducible apply Keeps.ite | with_reducible apply KeepsR.ite | split | with_reducible apply Keeps.built

theorem keeps_State_resetDone {z : State} : ∀ s a1, Keeps z s → Keeps z (State.resetDone s a1) := by
  intro s a1 h
  unfold State.resetDone
  try dsimp only
  repeat' first | with_reducible intro _ | with_reducible assumption | with_reducible apply Keeps.ite | with_reducible apply KeepsR.ite | with_reducible apply keeps_State_dropFills | with_reducible apply keeps_State_onPart | with_reducible apply keeps_State_emptySetts | with_reducible apply keeps_State_setB | with_reducible apply keeps_State_warmRegs | with_reducible apply keeps_State_onHost | with_reducible apply keeps_State_unlock | with_reducible apply keeps_State_set | with_reducible apply keeps_State_onSched | with_reducible apply keeps_State_raise | with_reducible apply keeps_State_setSchedState | with_reducible apply keeps_State_destroyed | with_reducible apply keeps_State_tenantDone | with_reducible apply keeps_State_warmContinue | with_reducible apply Keeps.foldl | with_reducible apply Keeps.next | with_reducible apply Keeps.fault | with_reducible apply Keeps.ite | with_reducible apply KeepsR.ite | split | with_reducible apply Keeps.built

theorem keeps_execPartitionResetDone {z : State} : ∀ a0 s, Keeps z s → KeepsR z (execPartitionResetDone a0 s) := by
  intro a0 s h
  unfold execPartitionResetDone
  try dsimp only
  repeat' first | with_reducible intro _ | with_reducible assumption | with_reducible apply Keeps.ite | with_reducible apply KeepsR.ite | with_reducible apply keeps_onPid | with_reducible apply keeps_State_resetDone | with_reducible apply Keeps.foldl | with_reducible apply Keeps.next | with_reducible apply Keeps.fault | with_reducible apply Keeps.ite | with_reducible apply KeepsR.ite | split | with_reducible apply Keeps.built

theorem keeps_State_warmReset {z : State} : ∀ s a1, Keeps z s → Keeps z (State.warmReset s a1) := by
  intro s a1 h
  unfold State.warmReset
  try dsimp only
  repeat' first | with_reducible intro _ | with_reducible assumption | with_reducible apply Keeps.ite | with_reducible apply KeepsR.ite | with_reducible apply keeps_State_setBootState | with_reducible apply keeps_State_onBoot | with_reducible apply keeps_State_exitDeep | with_reducible apply keeps_State_resetStart | with_reducible apply keeps_State_warmContinue | with_reducible apply Keeps.foldl | with_reducible apply Keeps.next | with_reducible apply Keeps.fault | with_reducible apply Keeps.ite | with_reducible apply KeepsR.ite | split | with_reducible apply Keeps.built

theorem keeps_execWarmReset {z : State} : ∀ a0 s, Keeps z s → KeepsR z (execWarmReset a0 s) := by
  intro a0 s h
  unfold execWarmReset
  try dsimp only
  repeat' first | with_reducible intro _ | with_reducible assumption | with_reducible apply Keeps.ite | with_reducible apply KeepsR.ite | with_reducible apply keeps_State_guard | with_reducible apply keeps_State_warmReset | with_reducible apply Keeps.foldl | with_reducible apply Keeps.next | with_reducible apply Keeps.fault | with_reducible apply Keeps.ite | with_reducible apply KeepsR.ite | split | with_reducible apply Keeps.built

theorem keeps_State_nakAccess {z : State} : ∀ s a1, Keeps z s → Keeps z (State.nakAccess s a1) := by
  intro s a1 h
  unfold State.nakAccess
  try dsimp only
  repeat' first | with_reducible intro _ | with_reducible assumption | with_reducible apply Keeps.ite | with_reducible apply KeepsR.ite | with_reducible apply keeps_State_qpFails | with_reducible apply keeps_State_emit | with_reducible apply Keeps.foldl | with_reducible apply Keeps.next | with_reducible apply Keeps.fault | with_reducible apply Keeps.ite | with_reducible apply KeepsR.ite | split | with_reducible apply Keeps.built

theorem keeps_State_goRefused {z : State} : ∀ s a1, Keeps z s → Keeps z (State.goRefused s a1) := by
  intro s a1 h
  unfold State.goRefused
  try dsimp only
  repeat' first | with_reducible intro _ | with_reducible assumption | with_reducible apply Keeps.ite | with_reducible apply KeepsR.ite | with_reducible apply keeps_State_nakAccess | with_reducible apply Keeps.foldl | with_reducible apply Keeps.next | with_reducible apply Keeps.fault | with_reducible apply Keeps.ite | with_reducible apply KeepsR.ite | split | with_reducible apply Keeps.built

theorem keeps_State_goFails {z : State} : ∀ s a1, Keeps z s → Keeps z (State.goFails s a1) := by
  intro s a1 h
  unfold State.goFails
  try dsimp only
  repeat' first | with_reducible intro _ | with_reducible assumption | with_reducible apply Keeps.ite | with_reducible apply KeepsR.ite | with_reducible apply keeps_State_bump | with_reducible apply keeps_State_set | with_reducible apply Keeps.foldl | with_reducible apply Keeps.next | with_reducible apply Keeps.fault | with_reducible apply Keeps.ite | with_reducible apply KeepsR.ite | split | with_reducible apply Keeps.built

theorem keeps_State_bootGo {z : State} : ∀ s a1 a2, Keeps z s → Keeps z (State.bootGo s a1 a2) := by
  intro s a1 a2 h
  unfold State.bootGo
  try dsimp only
  repeat' first | with_reducible intro _ | with_reducible assumption | with_reducible apply Keeps.ite | with_reducible apply KeepsR.ite | with_reducible apply keeps_State_set | with_reducible apply keeps_State_goFails | with_reducible apply keeps_State_beginVerify | with_reducible apply keeps_State_warmReset | with_reducible apply keeps_State_goRefused | with_reducible apply Keeps.foldl | with_reducible apply Keeps.next | with_reducible apply Keeps.fault | with_reducible apply Keeps.ite | with_reducible apply KeepsR.ite | split | with_reducible apply Keeps.built

theorem keeps_execBootGo {z : State} : ∀ a0 a1 s, Keeps z s → KeepsR z (execBootGo a0 a1 s) := by
  intro a0 a1 s h
  unfold execBootGo
  try dsimp only
  repeat' first | with_reducible intro _ | with_reducible assumption | with_reducible apply Keeps.ite | with_reducible apply KeepsR.ite | with_reducible apply keeps_State_atHport | with_reducible apply keeps_State_bootGo | with_reducible apply Keeps.foldl | with_reducible apply Keeps.next | with_reducible apply Keeps.fault | with_reducible apply Keeps.ite | with_reducible apply KeepsR.ite | split | with_reducible apply Keeps.built

theorem keeps_State_partCommand {z : State} : ∀ s r p b l m run, Keeps z s → Keeps z run → Keeps z (State.partCommand s r p b l m run) := by
  intro s r p b l m run h g
  unfold State.partCommand
  dsimp only
  repeat' first | with_reducible intro _ | with_reducible assumption | with_reducible apply keeps_State_regFault | with_reducible apply keeps_State_onSched | with_reducible apply Keeps.ite | split

theorem keeps_State_newExpRing {z : State} : ∀ s a1 a2, Keeps z s → Keeps z (State.newExpRing s a1 a2) := by
  intro s a1 a2 h
  unfold State.newExpRing
  try dsimp only
  repeat' first | with_reducible intro _ | with_reducible assumption | with_reducible apply Keeps.ite | with_reducible apply KeepsR.ite | with_reducible apply keeps_State_writeN | with_reducible apply keeps_State_writeBytes | with_reducible apply Keeps.foldl | with_reducible apply Keeps.next | with_reducible apply Keeps.fault | with_reducible apply Keeps.ite | with_reducible apply KeepsR.ite | split | with_reducible apply Keeps.built

theorem keeps_State_buildPart {z : State} : ∀ s a1 a2 a3 a4 a5, Keeps z s → Keeps z (State.buildPart s a1 a2 a3 a4 a5) := by
  intro s a1 a2 a3 a4 a5 h
  unfold State.buildPart
  try dsimp only
  repeat' first | with_reducible intro _ | with_reducible assumption | with_reducible apply Keeps.ite | with_reducible apply KeepsR.ite | with_reducible apply keeps_State_drawFree | with_reducible apply keeps_State_setPart | with_reducible apply keeps_State_set | with_reducible apply keeps_State_semsInit | with_reducible apply keeps_State_newExpRing | with_reducible apply keeps_State_newKey | with_reducible apply keeps_State_extendMeas | with_reducible apply keeps_State_setCore | (with_reducible apply keeps_State_drawFree_eq; with_reducible assumption) | with_reducible apply Keeps.foldl | with_reducible apply Keeps.next | with_reducible apply Keeps.fault | with_reducible apply Keeps.ite | with_reducible apply KeepsR.ite | split | with_reducible apply Keeps.built

theorem keeps_State_createPart {z : State} : ∀ s a1, Keeps z s → Keeps z (State.createPart s a1) := by
  intro s a1 h
  unfold State.createPart
  try dsimp only
  repeat' first | with_reducible intro _ | with_reducible assumption | with_reducible apply Keeps.ite | with_reducible apply KeepsR.ite | with_reducible apply keeps_State_set | with_reducible apply keeps_State_buildPart | with_reducible apply Keeps.foldl | with_reducible apply Keeps.next | with_reducible apply Keeps.fault | with_reducible apply Keeps.ite | with_reducible apply KeepsR.ite | split | with_reducible apply Keeps.built

theorem keeps_State_tenantReset {z : State} : ∀ s a1 a2, Keeps z s → Keeps z (State.tenantReset s a1 a2) := by
  intro s a1 a2 h
  unfold State.tenantReset
  try dsimp only
  repeat' first | with_reducible intro _ | with_reducible assumption | with_reducible apply Keeps.ite | with_reducible apply KeepsR.ite | with_reducible apply keeps_State_resetStart | with_reducible apply keeps_State_onSched | with_reducible apply Keeps.foldl | with_reducible apply Keeps.next | with_reducible apply Keeps.fault | with_reducible apply Keeps.ite | with_reducible apply KeepsR.ite | split | with_reducible apply Keeps.built

theorem keeps_State_keyRoll {z : State} : ∀ s a1, Keeps z s → Keeps z (State.keyRoll s a1) := by
  intro s a1 h
  unfold State.keyRoll
  try dsimp only
  repeat' first | with_reducible intro _ | with_reducible assumption | with_reducible apply Keeps.ite | with_reducible apply KeepsR.ite | with_reducible apply keeps_State_set | with_reducible apply keeps_State_extendMeas | with_reducible apply keeps_State_newKey | with_reducible apply Keeps.foldl | with_reducible apply Keeps.next | with_reducible apply Keeps.fault | with_reducible apply Keeps.ite | with_reducible apply KeepsR.ite | split | with_reducible apply Keeps.built

theorem keeps_State_partCmd {z : State} : ∀ s a1 a2 a3, Keeps z s → Keeps z (State.partCmd s a1 a2 a3) := by
  intro s a1 a2 a3 h
  unfold State.partCmd
  try dsimp only
  repeat' first | with_reducible intro _ | with_reducible assumption | with_reducible apply Keeps.ite | with_reducible apply KeepsR.ite | with_reducible apply keeps_State_partCommand | with_reducible apply keeps_State_createPart | with_reducible apply keeps_State_resetStart | with_reducible apply keeps_State_tenantReset | with_reducible apply keeps_State_keyRoll | with_reducible apply Keeps.foldl | with_reducible apply Keeps.next | with_reducible apply Keeps.fault | with_reducible apply Keeps.ite | with_reducible apply KeepsR.ite | split | with_reducible apply Keeps.built

theorem keeps_execCreate {z : State} : ∀ a0 a1 s, Keeps z s → KeepsR z (execCreate a0 a1 s) := by
  intro a0 a1 s h
  unfold execCreate
  try dsimp only
  repeat' first | with_reducible intro _ | with_reducible assumption | with_reducible apply Keeps.ite | with_reducible apply KeepsR.ite | with_reducible apply keeps_onPid | with_reducible apply keeps_State_partCmd | with_reducible apply Keeps.foldl | with_reducible apply Keeps.next | with_reducible apply Keeps.fault | with_reducible apply Keeps.ite | with_reducible apply KeepsR.ite | split | with_reducible apply Keeps.built

theorem keeps_execDestroy {z : State} : ∀ a0 a1 s, Keeps z s → KeepsR z (execDestroy a0 a1 s) := by
  intro a0 a1 s h
  unfold execDestroy
  try dsimp only
  repeat' first | with_reducible intro _ | with_reducible assumption | with_reducible apply Keeps.ite | with_reducible apply KeepsR.ite | with_reducible apply keeps_onPid | with_reducible apply keeps_State_partCmd | with_reducible apply Keeps.foldl | with_reducible apply Keeps.next | with_reducible apply Keeps.fault | with_reducible apply Keeps.ite | with_reducible apply KeepsR.ite | split | with_reducible apply Keeps.built

theorem keeps_execReset {z : State} : ∀ a0 a1 s, Keeps z s → KeepsR z (execReset a0 a1 s) := by
  intro a0 a1 s h
  unfold execReset
  try dsimp only
  repeat' first | with_reducible intro _ | with_reducible assumption | with_reducible apply Keeps.ite | with_reducible apply KeepsR.ite | with_reducible apply keeps_onPid | with_reducible apply keeps_State_partCmd | with_reducible apply Keeps.foldl | with_reducible apply Keeps.next | with_reducible apply Keeps.fault | with_reducible apply Keeps.ite | with_reducible apply KeepsR.ite | split | with_reducible apply Keeps.built

theorem keeps_execTenantReset {z : State} : ∀ a0 a1 s, Keeps z s → KeepsR z (execTenantReset a0 a1 s) := by
  intro a0 a1 s h
  unfold execTenantReset
  try dsimp only
  repeat' first | with_reducible intro _ | with_reducible assumption | with_reducible apply Keeps.ite | with_reducible apply KeepsR.ite | with_reducible apply keeps_onPid | with_reducible apply keeps_State_partCmd | with_reducible apply Keeps.foldl | with_reducible apply Keeps.next | with_reducible apply Keeps.fault | with_reducible apply Keeps.ite | with_reducible apply KeepsR.ite | split | with_reducible apply Keeps.built

theorem keeps_execKeyRoll {z : State} : ∀ a0 a1 s, Keeps z s → KeepsR z (execKeyRoll a0 a1 s) := by
  intro a0 a1 s h
  unfold execKeyRoll
  try dsimp only
  repeat' first | with_reducible intro _ | with_reducible assumption | with_reducible apply Keeps.ite | with_reducible apply KeepsR.ite | with_reducible apply keeps_onPid | with_reducible apply keeps_State_partCmd | with_reducible apply Keeps.foldl | with_reducible apply Keeps.next | with_reducible apply Keeps.fault | with_reducible apply Keeps.ite | with_reducible apply KeepsR.ite | split | with_reducible apply Keeps.built

theorem keeps_State_plain {z : State} : ∀ s a1 a2 a3 a4, Keeps z s → Keeps z (State.plain s a1 a2 a3 a4) := by
  intro s a1 a2 a3 a4 h
  unfold State.plain
  try dsimp only
  repeat' first | with_reducible intro _ | with_reducible assumption | with_reducible apply Keeps.ite | with_reducible apply KeepsR.ite | with_reducible apply keeps_State_writeReg | with_reducible apply Keeps.foldl | with_reducible apply Keeps.next | with_reducible apply Keeps.fault | with_reducible apply Keeps.ite | with_reducible apply KeepsR.ite | split | with_reducible apply Keeps.built

theorem keeps_State_heldWrite {z : State} : ∀ s a1 a2 a3 a4 a5 a6, Keeps z s → Keeps z (State.heldWrite s a1 a2 a3 a4 a5 a6) := by
  intro s a1 a2 a3 a4 a5 a6 h
  unfold State.heldWrite
  try dsimp only
  repeat' first | with_reducible intro _ | with_reducible assumption | with_reducible apply Keeps.ite | with_reducible apply KeepsR.ite | with_reducible apply keeps_State_plain | with_reducible apply keeps_State_regFault | with_reducible apply Keeps.foldl | with_reducible apply Keeps.next | with_reducible apply Keeps.fault | with_reducible apply Keeps.ite | with_reducible apply KeepsR.ite | split | with_reducible apply Keeps.built

theorem keeps_State_lockWrite {z : State} : ∀ s a1 a2 a3, Keeps z s → Keeps z (State.lockWrite s a1 a2 a3) := by
  intro s a1 a2 a3 h
  unfold State.lockWrite
  try dsimp only
  repeat' first | with_reducible intro _ | with_reducible assumption | with_reducible apply Keeps.ite | with_reducible apply KeepsR.ite | with_reducible apply keeps_State_regFault | with_reducible apply keeps_State_set | with_reducible apply Keeps.foldl | with_reducible apply Keeps.next | with_reducible apply Keeps.fault | with_reducible apply Keeps.ite | with_reducible apply KeepsR.ite | split | with_reducible apply Keeps.built

theorem keeps_State_faultClear {z : State} : ∀ s a1, Keeps z s → Keeps z (State.faultClear s a1) := by
  intro s a1 h
  unfold State.faultClear
  try dsimp only
  repeat' first | with_reducible intro _ | with_reducible assumption | with_reducible apply Keeps.ite | with_reducible apply KeepsR.ite | with_reducible apply keeps_State_set | with_reducible apply Keeps.foldl | with_reducible apply Keeps.next | with_reducible apply Keeps.fault | with_reducible apply Keeps.ite | with_reducible apply KeepsR.ite | split | with_reducible apply Keeps.built

theorem keeps_State_commonWrite {z : State} : ∀ s a1 a2 a3 a4, Keeps z s → Keeps z (State.commonWrite s a1 a2 a3 a4) := by
  intro s a1 a2 a3 a4 h
  unfold State.commonWrite
  try dsimp only
  repeat' first | with_reducible intro _ | with_reducible assumption | with_reducible apply Keeps.ite | with_reducible apply KeepsR.ite | with_reducible apply keeps_State_faultClear | with_reducible apply keeps_State_plain | with_reducible apply keeps_State_lockWrite | with_reducible apply Keeps.foldl | with_reducible apply Keeps.next | with_reducible apply Keeps.fault | with_reducible apply Keeps.ite | with_reducible apply KeepsR.ite | split | with_reducible apply Keeps.built

theorem keeps_State_deviceWrite {z : State} : ∀ s a1 a2 a3 a4 a5, Keeps z s → Keeps z (State.deviceWrite s a1 a2 a3 a4 a5) := by
  intro s a1 a2 a3 a4 a5 h
  unfold State.deviceWrite
  try dsimp only
  repeat' first | with_reducible intro _ | with_reducible assumption | with_reducible apply Keeps.ite | with_reducible apply KeepsR.ite | with_reducible apply keeps_State_warmReset | with_reducible apply keeps_State_commitRoutes | with_reducible apply keeps_State_testCmd | with_reducible apply keeps_State_routeData | with_reducible apply keeps_State_plain | with_reducible apply Keeps.foldl | with_reducible apply Keeps.next | with_reducible apply Keeps.fault | with_reducible apply Keeps.ite | with_reducible apply KeepsR.ite | split | with_reducible apply Keeps.built

theorem keeps_State_govWrite {z : State} : ∀ s a1 a2 a3 a4 a5, Keeps z s → Keeps z (State.govWrite s a1 a2 a3 a4 a5) := by
  intro s a1 a2 a3 a4 a5 h
  unfold State.govWrite
  try dsimp only
  repeat' first | with_reducible intro _ | with_reducible assumption | with_reducible apply Keeps.ite | with_reducible apply KeepsR.ite | with_reducible apply keeps_State_plain | with_reducible apply keeps_State_regFault | with_reducible apply keeps_State_enterDeep | with_reducible apply keeps_State_exitDeep | with_reducible apply Keeps.foldl | with_reducible apply Keeps.next | with_reducible apply Keeps.fault | with_reducible apply Keeps.ite | with_reducible apply KeepsR.ite | split | with_reducible apply Keeps.built

theorem keeps_State_timeWrite {z : State} : ∀ s a1 a2 a3 a4 a5, Keeps z s → Keeps z (State.timeWrite s a1 a2 a3 a4 a5) := by
  intro s a1 a2 a3 a4 a5 h
  unfold State.timeWrite
  try dsimp only
  repeat' first | with_reducible intro _ | with_reducible assumption | with_reducible apply Keeps.ite | with_reducible apply KeepsR.ite | with_reducible apply keeps_State_timeSelect | with_reducible apply keeps_State_plain | with_reducible apply keeps_State_forceStep | with_reducible apply Keeps.foldl | with_reducible apply Keeps.next | with_reducible apply Keeps.fault | with_reducible apply Keeps.ite | with_reducible apply KeepsR.ite | split | with_reducible apply Keeps.built

theorem keeps_State_bootWrite {z : State} : ∀ s a1 a2 a3 a4 a5, Keeps z s → Keeps z (State.bootWrite s a1 a2 a3 a4 a5) := by
  intro s a1 a2 a3 a4 a5 h
  unfold State.bootWrite
  try dsimp only
  repeat' first | with_reducible intro _ | with_reducible assumption | with_reducible apply Keeps.ite | with_reducible apply KeepsR.ite | with_reducible apply keeps_State_warmReset | with_reducible apply keeps_State_commitSvn | with_reducible apply keeps_State_plain | with_reducible apply Keeps.foldl | with_reducible apply Keeps.next | with_reducible apply Keeps.fault | with_reducible apply Keeps.ite | with_reducible apply KeepsR.ite | split | with_reducible apply Keeps.built

theorem keeps_State_twinWrite {z : State} : ∀ s a1 a2 a3 a4 a5, Keeps z s → Keeps z (State.twinWrite s a1 a2 a3 a4 a5) := by
  intro s a1 a2 a3 a4 a5 h
  unfold State.twinWrite
  try dsimp only
  repeat' first | with_reducible intro _ | with_reducible assumption | with_reducible apply Keeps.ite | with_reducible apply KeepsR.ite | with_reducible apply keeps_State_setPairing | with_reducible apply keeps_State_detach | with_reducible apply keeps_State_heldWrite | with_reducible apply Keeps.foldl | with_reducible apply Keeps.next | with_reducible apply Keeps.fault | with_reducible apply Keeps.ite | with_reducible apply KeepsR.ite | split | with_reducible apply Keeps.built

theorem keeps_State_portWrite {z : State} : ∀ s a1 a2 a3 a4 a5 a6, Keeps z s → Keeps z (State.portWrite s a1 a2 a3 a4 a5 a6) := by
  intro s a1 a2 a3 a4 a5 a6 h
  unfold State.portWrite
  try dsimp only
  repeat' first | with_reducible intro _ | with_reducible assumption | with_reducible apply Keeps.ite | with_reducible apply KeepsR.ite | with_reducible apply keeps_State_plain | with_reducible apply keeps_State_linkReset | with_reducible apply keeps_State_loopWrite | with_reducible apply Keeps.foldl | with_reducible apply Keeps.next | with_reducible apply Keeps.fault | with_reducible apply Keeps.ite | with_reducible apply KeepsR.ite | split | with_reducible apply Keeps.built

theorem keeps_State_hportWrite {z : State} : ∀ s a1 a2 a3 a4 a5 a6 a7, Keeps z s → Keeps z (State.hportWrite s a1 a2 a3 a4 a5 a6 a7) := by
  intro s a1 a2 a3 a4 a5 a6 a7 h
  unfold State.hportWrite
  try dsimp only
  repeat' first | with_reducible intro _ | with_reducible assumption | with_reducible apply Keeps.ite | with_reducible apply KeepsR.ite | with_reducible apply keeps_State_plain | with_reducible apply keeps_State_loopWrite | with_reducible apply Keeps.foldl | with_reducible apply Keeps.next | with_reducible apply Keeps.fault | with_reducible apply Keeps.ite | with_reducible apply KeepsR.ite | split | with_reducible apply Keeps.built

theorem keeps_State_hostWrite {z : State} : ∀ s a1 a2 a3 a4 a5 a6, Keeps z s → Keeps z (State.hostWrite s a1 a2 a3 a4 a5 a6) := by
  intro s a1 a2 a3 a4 a5 a6 h
  unfold State.hostWrite
  try dsimp only
  repeat' first | with_reducible intro _ | with_reducible assumption | with_reducible apply Keeps.ite | with_reducible apply KeepsR.ite | with_reducible apply keeps_State_retake | with_reducible apply keeps_State_cqWrite | with_reducible apply keeps_State_plain | with_reducible apply keeps_State_eqWrite | with_reducible apply keeps_State_reportLost | with_reducible apply keeps_State_regFault | with_reducible apply keeps_State_heldWrite | with_reducible apply Keeps.foldl | with_reducible apply Keeps.next | with_reducible apply Keeps.fault | with_reducible apply Keeps.ite | with_reducible apply KeepsR.ite | split | with_reducible apply Keeps.built

theorem keeps_State_attestWrite {z : State} : ∀ s a1 a2 a3 a4 a5 a6, Keeps z s → Keeps z (State.attestWrite s a1 a2 a3 a4 a5 a6) := by
  intro s a1 a2 a3 a4 a5 a6 h
  unfold State.attestWrite
  try dsimp only
  repeat' first | with_reducible intro _ | with_reducible assumption | with_reducible apply Keeps.ite | with_reducible apply KeepsR.ite | with_reducible apply keeps_State_quote | with_reducible apply keeps_State_regFault | with_reducible apply keeps_State_heldWrite | with_reducible apply Keeps.foldl | with_reducible apply Keeps.next | with_reducible apply Keeps.fault | with_reducible apply Keeps.ite | with_reducible apply KeepsR.ite | split | with_reducible apply Keeps.built

theorem keeps_State_partitionWrite {z : State} : ∀ s a1 a2 a3 a4 a5 a6, Keeps z s → Keeps z (State.partitionWrite s a1 a2 a3 a4 a5 a6) := by
  intro s a1 a2 a3 a4 a5 a6 h
  unfold State.partitionWrite
  try dsimp only
  repeat' first | with_reducible intro _ | with_reducible assumption | with_reducible apply Keeps.ite | with_reducible apply KeepsR.ite | with_reducible apply keeps_State_partCmd | with_reducible apply keeps_State_parkWrite | with_reducible apply keeps_State_plain | with_reducible apply keeps_State_heldWrite | with_reducible apply Keeps.foldl | with_reducible apply Keeps.next | with_reducible apply Keeps.fault | with_reducible apply Keeps.ite | with_reducible apply KeepsR.ite | split | with_reducible apply Keeps.built

theorem keeps_State_schedWrite {z : State} : ∀ s a1 a2 a3 a4 a5 a6, Keeps z s → Keeps z (State.schedWrite s a1 a2 a3 a4 a5 a6) := by
  intro s a1 a2 a3 a4 a5 a6 h
  unfold State.schedWrite
  try dsimp only
  repeat' first | with_reducible intro _ | with_reducible assumption | with_reducible apply Keeps.ite | with_reducible apply KeepsR.ite | with_reducible apply keeps_State_semInit | with_reducible apply keeps_State_suspend | with_reducible apply keeps_State_restoreCtx | with_reducible apply keeps_State_heldWrite | with_reducible apply Keeps.foldl | with_reducible apply Keeps.next | with_reducible apply Keeps.fault | with_reducible apply Keeps.ite | with_reducible apply KeepsR.ite | split | with_reducible apply Keeps.built

theorem keeps_State_floorWrite {z : State} : ∀ s a1 a2 a3 a4 a5 a6, Keeps z s → Keeps z (State.floorWrite s a1 a2 a3 a4 a5 a6) := by
  intro s a1 a2 a3 a4 a5 a6 h
  unfold State.floorWrite
  try dsimp only
  repeat' first | with_reducible intro _ | with_reducible assumption | with_reducible apply Keeps.ite | with_reducible apply KeepsR.ite | with_reducible apply keeps_State_plain | with_reducible apply keeps_State_regFault | with_reducible apply Keeps.foldl | with_reducible apply Keeps.next | with_reducible apply Keeps.fault | with_reducible apply Keeps.ite | with_reducible apply KeepsR.ite | split | with_reducible apply Keeps.built

theorem keeps_State_tierWrite {z : State} : ∀ s a1 a2 a3 a4 a5 a6, Keeps z s → Keeps z (State.tierWrite s a1 a2 a3 a4 a5 a6) := by
  intro s a1 a2 a3 a4 a5 a6 h
  unfold State.tierWrite
  try dsimp only
  repeat' first | with_reducible intro _ | with_reducible assumption | with_reducible apply Keeps.ite | with_reducible apply KeepsR.ite | with_reducible apply keeps_State_listGo | with_reducible apply keeps_State_floorWrite | with_reducible apply keeps_State_regionCtrl | with_reducible apply keeps_State_plain | with_reducible apply Keeps.foldl | with_reducible apply Keeps.next | with_reducible apply Keeps.fault | with_reducible apply Keeps.ite | with_reducible apply KeepsR.ite | split | with_reducible apply Keeps.built

theorem keeps_State_kvWrite {z : State} : ∀ s a1 a2 a3 a4 a5 a6, Keeps z s → Keeps z (State.kvWrite s a1 a2 a3 a4 a5 a6) := by
  intro s a1 a2 a3 a4 a5 a6 h
  unfold State.kvWrite
  try dsimp only
  repeat' first | with_reducible intro _ | with_reducible assumption | with_reducible apply Keeps.ite | with_reducible apply KeepsR.ite | with_reducible apply keeps_State_heldWrite | with_reducible apply Keeps.foldl | with_reducible apply Keeps.next | with_reducible apply Keeps.fault | with_reducible apply Keeps.ite | with_reducible apply KeepsR.ite | split | with_reducible apply Keeps.built

theorem keeps_State_reqWrite {z : State} : ∀ s a1 a2 a3 a4 a5 a6, Keeps z s → Keeps z (State.reqWrite s a1 a2 a3 a4 a5 a6) := by
  intro s a1 a2 a3 a4 a5 a6 h
  unfold State.reqWrite
  try dsimp only
  repeat' first | with_reducible intro _ | with_reducible assumption | with_reducible apply Keeps.ite | with_reducible apply KeepsR.ite | with_reducible apply keeps_State_stepRingWrite | with_reducible apply keeps_State_ringWoken | with_reducible apply keeps_State_plain | with_reducible apply keeps_State_heldWrite | with_reducible apply Keeps.foldl | with_reducible apply Keeps.next | with_reducible apply Keeps.fault | with_reducible apply Keeps.ite | with_reducible apply KeepsR.ite | split | with_reducible apply Keeps.built

theorem keeps_State_coreOnly {z : State} : ∀ s r p off mask code run, Keeps z s → (∀ l c, Keeps z (run l c)) →
    Keeps z (State.coreOnly s r p off mask code run) := by
  intro s r p off mask code run h g
  unfold State.coreOnly
  repeat' first | with_reducible intro _ | with_reducible assumption | with_reducible apply g | with_reducible apply keeps_State_regFault | with_reducible apply Keeps.ite | split

theorem keeps_State_settWrite {z : State} : ∀ s a1 a2 a3 a4 a5 a6, Keeps z s → Keeps z (State.settWrite s a1 a2 a3 a4 a5 a6) := by
  intro s a1 a2 a3 a4 a5 a6 h
  unfold State.settWrite
  try dsimp only
  repeat' first | with_reducible intro _ | with_reducible assumption | with_reducible apply Keeps.ite | with_reducible apply KeepsR.ite | with_reducible apply keeps_State_coreOnly | with_reducible apply keeps_State_settOp | with_reducible apply keeps_State_heldWrite | with_reducible apply Keeps.foldl | with_reducible apply Keeps.next | with_reducible apply Keeps.fault | with_reducible apply Keeps.ite | with_reducible apply KeepsR.ite | split | with_reducible apply Keeps.built

theorem keeps_State_redWrite {z : State} : ∀ s a1 a2 a3 a4 a5 a6, Keeps z s → Keeps z (State.redWrite s a1 a2 a3 a4 a5 a6) := by
  intro s a1 a2 a3 a4 a5 a6 h
  unfold State.redWrite
  try dsimp only
  repeat' first | with_reducible intro _ | with_reducible assumption | with_reducible apply Keeps.ite | with_reducible apply KeepsR.ite | with_reducible apply keeps_State_coreOnly | with_reducible apply keeps_State_redOpen | with_reducible apply keeps_State_redClose | with_reducible apply keeps_State_redStaged | with_reducible apply keeps_State_redNotify | with_reducible apply keeps_State_heldWrite | with_reducible apply Keeps.foldl | with_reducible apply Keeps.next | with_reducible apply Keeps.fault | with_reducible apply Keeps.ite | with_reducible apply KeepsR.ite | split | with_reducible apply Keeps.built

theorem keeps_State_fabWrite {z : State} : ∀ s a1 a2 a3 a4 a5 a6, Keeps z s → Keeps z (State.fabWrite s a1 a2 a3 a4 a5 a6) := by
  intro s a1 a2 a3 a4 a5 a6 h
  unfold State.fabWrite
  try dsimp only
  repeat' first | with_reducible intro _ | with_reducible assumption | with_reducible apply Keeps.ite | with_reducible apply KeepsR.ite | with_reducible apply keeps_State_floorWrite | with_reducible apply keeps_State_groupWrite | with_reducible apply keeps_State_collStart | with_reducible apply keeps_State_coreOnly | with_reducible apply keeps_State_hareGo | with_reducible apply keeps_State_expGo | with_reducible apply keeps_State_combineCommand | with_reducible apply keeps_State_plain | with_reducible apply Keeps.foldl | with_reducible apply Keeps.next | with_reducible apply Keeps.fault | with_reducible apply Keeps.ite | with_reducible apply KeepsR.ite | split | with_reducible apply Keeps.built

theorem keeps_State_loadWrite {z : State} : ∀ s a1 a2 a3 a4, Keeps z s → Keeps z (State.loadWrite s a1 a2 a3 a4) := by
  intro s a1 a2 a3 a4 h
  unfold State.loadWrite
  try dsimp only
  repeat' first | with_reducible intro _ | with_reducible assumption | with_reducible apply Keeps.ite | with_reducible apply KeepsR.ite | with_reducible apply keeps_State_setRegAt | with_reducible apply keeps_State_loadBegin | with_reducible apply keeps_State_loadEnd | with_reducible apply keeps_State_unload | with_reducible apply keeps_State_loadRefused | with_reducible apply Keeps.foldl | with_reducible apply Keeps.next | with_reducible apply Keeps.fault | with_reducible apply Keeps.ite | with_reducible apply KeepsR.ite | split | with_reducible apply Keeps.built

theorem keeps_State_pubWrite {z : State} : ∀ s a1 a2 a3 a4 a5 a6, Keeps z s → Keeps z (State.pubWrite s a1 a2 a3 a4 a5 a6) := by
  intro s a1 a2 a3 a4 a5 a6 h
  unfold State.pubWrite
  try dsimp only
  repeat' first | with_reducible intro _ | with_reducible assumption | with_reducible apply Keeps.ite | with_reducible apply KeepsR.ite | with_reducible apply keeps_State_loadWrite | with_reducible apply keeps_State_heldWrite | with_reducible apply Keeps.foldl | with_reducible apply Keeps.next | with_reducible apply Keeps.fault | with_reducible apply Keeps.ite | with_reducible apply KeepsR.ite | split | with_reducible apply Keeps.built

theorem keeps_State_ckptWrite {z : State} : ∀ s a1 a2 a3 a4 a5 a6, Keeps z s → Keeps z (State.ckptWrite s a1 a2 a3 a4 a5 a6) := by
  intro s a1 a2 a3 a4 a5 a6 h
  unfold State.ckptWrite
  try dsimp only
  repeat' first | with_reducible intro _ | with_reducible assumption | with_reducible apply Keeps.ite | with_reducible apply KeepsR.ite | with_reducible apply keeps_State_restoreStart | with_reducible apply keeps_State_heldWrite | with_reducible apply Keeps.foldl | with_reducible apply Keeps.next | with_reducible apply Keeps.fault | with_reducible apply Keeps.ite | with_reducible apply KeepsR.ite | split | with_reducible apply Keeps.built

theorem keeps_State_blockWrite {z : State} : ∀ s a1 a2 a3 a4 a5 a6 a7 a8, Keeps z s → Keeps z (State.blockWrite s a1 a2 a3 a4 a5 a6 a7 a8) := by
  intro s a1 a2 a3 a4 a5 a6 a7 a8 h
  unfold State.blockWrite
  try dsimp only
  repeat' first | with_reducible intro _ | with_reducible assumption | with_reducible apply Keeps.ite | with_reducible apply KeepsR.ite | with_reducible apply keeps_State_deviceWrite | with_reducible apply keeps_State_govWrite | with_reducible apply keeps_State_timeWrite | with_reducible apply keeps_State_bootWrite | with_reducible apply keeps_State_twinWrite | with_reducible apply keeps_State_portWrite | with_reducible apply keeps_State_hportWrite | with_reducible apply keeps_State_hostWrite | with_reducible apply keeps_State_attestWrite | with_reducible apply keeps_State_partitionWrite | with_reducible apply keeps_State_schedWrite | with_reducible apply keeps_State_seedWrite | with_reducible apply keeps_State_plain | with_reducible apply keeps_State_tierWrite | with_reducible apply keeps_State_kvWrite | with_reducible apply keeps_State_reqWrite | with_reducible apply keeps_State_settWrite | with_reducible apply keeps_State_redWrite | with_reducible apply keeps_State_fabWrite | with_reducible apply keeps_State_pubWrite | with_reducible apply keeps_State_faultRingWrite | with_reducible apply keeps_State_ckptWrite | with_reducible apply Keeps.foldl | with_reducible apply Keeps.next | with_reducible apply Keeps.fault | with_reducible apply Keeps.ite | with_reducible apply KeepsR.ite | split | with_reducible apply Keeps.built

theorem keeps_State_windowWrite {z : State} : ∀ s a1 a2 a3 a4 a5, Keeps z s → Keeps z (State.windowWrite s a1 a2 a3 a4 a5) := by
  intro s a1 a2 a3 a4 a5 h
  unfold State.windowWrite
  try dsimp only
  repeat' first | with_reducible intro _ | with_reducible assumption | with_reducible apply Keeps.ite | with_reducible apply KeepsR.ite | with_reducible apply keeps_State_commonWrite | with_reducible apply keeps_State_blockWrite | with_reducible apply Keeps.foldl | with_reducible apply Keeps.next | with_reducible apply Keeps.fault | with_reducible apply Keeps.ite | with_reducible apply KeepsR.ite | split | with_reducible apply Keeps.built

theorem keeps_execRegisterWrite {z : State} : ∀ a0 a1 a2 a3 s, Keeps z s → KeepsR z (execRegisterWrite a0 a1 a2 a3 s) := by
  intro a0 a1 a2 a3 s h
  unfold execRegisterWrite
  try dsimp only
  repeat' first | with_reducible intro _ | with_reducible assumption | with_reducible apply Keeps.ite | with_reducible apply KeepsR.ite | with_reducible apply keeps_State_guard | with_reducible apply keeps_State_windowWrite | with_reducible apply Keeps.foldl | with_reducible apply Keeps.next | with_reducible apply Keeps.fault | with_reducible apply Keeps.ite | with_reducible apply KeepsR.ite | split | with_reducible apply Keeps.built

theorem keeps_execLockSet {z : State} : ∀ a0 a1 s, Keeps z s → KeepsR z (execLockSet a0 a1 s) := by
  intro a0 a1 s h
  unfold execLockSet
  try dsimp only
  repeat' first | with_reducible intro _ | with_reducible assumption | with_reducible apply Keeps.ite | with_reducible apply KeepsR.ite | with_reducible apply keeps_State_guard | with_reducible apply keeps_State_lockWrite | with_reducible apply Keeps.foldl | with_reducible apply Keeps.next | with_reducible apply Keeps.fault | with_reducible apply Keeps.ite | with_reducible apply KeepsR.ite | split | with_reducible apply Keeps.built

theorem keeps_execFaultClear {z : State} : ∀ a0 a1 s, Keeps z s → KeepsR z (execFaultClear a0 a1 s) := by
  intro a0 a1 s h
  unfold execFaultClear
  try dsimp only
  repeat' first | with_reducible intro _ | with_reducible assumption | with_reducible apply Keeps.ite | with_reducible apply KeepsR.ite | with_reducible apply keeps_State_guard | with_reducible apply keeps_State_faultClear | with_reducible apply Keeps.foldl | with_reducible apply Keeps.next | with_reducible apply Keeps.fault | with_reducible apply Keeps.ite | with_reducible apply KeepsR.ite | split | with_reducible apply Keeps.built

theorem keeps_execEventStatusClear {z : State} : ∀ a0 a1 a2 a3 s, Keeps z s → KeepsR z (execEventStatusClear a0 a1 a2 a3 s) := by
  intro a0 a1 a2 a3 s h
  unfold execEventStatusClear
  try dsimp only
  repeat' first | with_reducible intro _ | with_reducible assumption | with_reducible apply Keeps.ite | with_reducible apply KeepsR.ite | with_reducible apply keeps_State_guard | with_reducible apply keeps_State_set | with_reducible apply Keeps.foldl | with_reducible apply Keeps.next | with_reducible apply Keeps.fault | with_reducible apply Keeps.ite | with_reducible apply KeepsR.ite | split | with_reducible apply Keeps.built

theorem keeps_State_scalarLoad {z : State} : ∀ s a1 a2 a3 a4 a5, Keeps z s → Keeps z (State.scalarLoad s a1 a2 a3 a4 a5) := by
  intro s a1 a2 a3 a4 a5 h
  unfold State.scalarLoad
  try dsimp only
  repeat' first | with_reducible intro _ | with_reducible assumption | with_reducible apply Keeps.ite | with_reducible apply KeepsR.ite | with_reducible apply keeps_State_onCore | with_reducible apply Keeps.foldl | with_reducible apply Keeps.next | with_reducible apply Keeps.fault | with_reducible apply Keeps.ite | with_reducible apply KeepsR.ite | split | with_reducible apply Keeps.built

theorem keeps_State_scalarStore {z : State} : ∀ s a1 a2 a3 a4 a5, Keeps z s → Keeps z (State.scalarStore s a1 a2 a3 a4 a5) := by
  intro s a1 a2 a3 a4 a5 h
  unfold State.scalarStore
  try dsimp only
  repeat' first | with_reducible intro _ | with_reducible assumption | with_reducible apply Keeps.ite | with_reducible apply KeepsR.ite | with_reducible apply keeps_State_windowWrite | with_reducible apply keeps_State_writeN | with_reducible apply Keeps.foldl | with_reducible apply Keeps.next | with_reducible apply Keeps.fault | with_reducible apply Keeps.ite | with_reducible apply KeepsR.ite | split | with_reducible apply Keeps.built

theorem keeps_scalarEffect {z : State} : ∀ s a1 a2 a3 a4, Keeps z s → Keeps z (scalarEffect s a1 a2 a3 a4) := by
  intro s a1 a2 a3 a4 h
  unfold scalarEffect
  try dsimp only
  repeat' first | with_reducible intro _ | with_reducible assumption | with_reducible apply Keeps.ite | with_reducible apply KeepsR.ite | with_reducible apply keeps_State_onCore | with_reducible apply keeps_State_scalarLoad | with_reducible apply keeps_State_scalarStore | with_reducible apply Keeps.foldl | with_reducible apply Keeps.next | with_reducible apply Keeps.fault | with_reducible apply Keeps.ite | with_reducible apply KeepsR.ite | split | with_reducible apply Keeps.built

theorem keeps_sfEffect {z : State} : ∀ s a1 a2 a3 a4, Keeps z s → Keeps z (sfEffect s a1 a2 a3 a4) := by
  intro s a1 a2 a3 a4 h
  unfold sfEffect
  try dsimp only
  repeat' first | with_reducible intro _ | with_reducible assumption | with_reducible apply Keeps.ite | with_reducible apply KeepsR.ite | with_reducible apply keeps_State_putLanes | with_reducible apply Keeps.foldl | with_reducible apply Keeps.next | with_reducible apply Keeps.fault | with_reducible apply Keeps.ite | with_reducible apply KeepsR.ite | split | with_reducible apply Keeps.built

theorem keeps_State_romError {z : State} : ∀ s a1 a2 a3 a4, Keeps z s → Keeps z (State.romError s a1 a2 a3 a4) := by
  intro s a1 a2 a3 a4 h
  unfold State.romError
  try dsimp only
  repeat' first | with_reducible intro _ | with_reducible assumption | with_reducible apply Keeps.ite | with_reducible apply KeepsR.ite | with_reducible apply keeps_State_raise | with_reducible apply keeps_State_onCore | with_reducible apply Keeps.foldl | with_reducible apply Keeps.next | with_reducible apply Keeps.fault | with_reducible apply Keeps.ite | with_reducible apply KeepsR.ite | split | with_reducible apply Keeps.built

theorem keeps_slotEffect {z : State} : ∀ a0 a1 a2 a3 s a5, Keeps z s → Keeps z (slotEffect a0 a1 a2 a3 s a5) := by
  intro a0 a1 a2 a3 s a5 h
  unfold slotEffect
  try dsimp only
  repeat' first | with_reducible intro _ | with_reducible assumption | with_reducible apply Keeps.ite | with_reducible apply KeepsR.ite | with_reducible apply keeps_scalarEffect | with_reducible apply keeps_matEffect | with_reducible apply keeps_vecEffect | with_reducible apply keeps_sfEffect | with_reducible apply keeps_State_romError | with_reducible apply keeps_mvEffect | with_reducible apply keeps_syEffect | with_reducible apply Keeps.foldl | with_reducible apply Keeps.next | with_reducible apply Keeps.fault | with_reducible apply Keeps.ite | with_reducible apply KeepsR.ite | split | with_reducible apply Keeps.built

theorem keeps_State_tierLate {z : State} : ∀ s a1 a2 a3, Keeps z s → Keeps z (State.tierLate s a1 a2 a3) := by
  intro s a1 a2 a3 h
  unfold State.tierLate
  try dsimp only
  repeat' first | with_reducible intro _ | with_reducible assumption | with_reducible apply Keeps.ite | with_reducible apply KeepsR.ite | with_reducible apply keeps_State_abandonStep | with_reducible apply keeps_State_endTask | with_reducible apply keeps_State_bump | with_reducible apply Keeps.foldl | with_reducible apply Keeps.next | with_reducible apply Keeps.fault | with_reducible apply Keeps.ite | with_reducible apply KeepsR.ite | split | with_reducible apply Keeps.built

theorem keeps_State_raiseExn {z : State} : ∀ s a1 a2 a3 a4 a5 a6, Keeps z s → Keeps z (State.raiseExn s a1 a2 a3 a4 a5 a6) := by
  intro s a1 a2 a3 a4 a5 a6 h
  unfold State.raiseExn
  try dsimp only
  repeat' first | with_reducible intro _ | with_reducible assumption | with_reducible apply Keeps.ite | with_reducible apply KeepsR.ite | with_reducible apply keeps_State_onCore | with_reducible apply keeps_State_drainCore | with_reducible apply keeps_State_exnRecord | with_reducible apply keeps_State_tierLate | with_reducible apply keeps_State_endTask | with_reducible apply Keeps.foldl | with_reducible apply Keeps.next | with_reducible apply Keeps.fault | with_reducible apply Keeps.ite | with_reducible apply KeepsR.ite | split | with_reducible apply Keeps.built

theorem keeps_State_raiseWhole {z : State} : ∀ s a1 a2 a3 a4, Keeps z s → Keeps z (State.raiseWhole s a1 a2 a3 a4) := by
  intro s a1 a2 a3 a4 h
  unfold State.raiseWhole
  try dsimp only
  repeat' first | with_reducible intro _ | with_reducible assumption | with_reducible apply Keeps.ite | with_reducible apply KeepsR.ite | with_reducible apply keeps_State_raiseExn | with_reducible apply Keeps.foldl | with_reducible apply Keeps.next | with_reducible apply Keeps.fault | with_reducible apply Keeps.ite | with_reducible apply KeepsR.ite | split | with_reducible apply Keeps.built

theorem keeps_State_perform {z : State} : ∀ s a1 a2 a3 a4 a5, Keeps z s → Keeps z (State.perform s a1 a2 a3 a4 a5) := by
  intro s a1 a2 a3 a4 a5 h
  unfold State.perform
  try dsimp only
  repeat' first | with_reducible intro _ | with_reducible assumption | with_reducible apply Keeps.ite | with_reducible apply KeepsR.ite | with_reducible apply keeps_slotEffect | with_reducible apply keeps_State_onCore | with_reducible apply keeps_State_endTask | with_reducible apply Keeps.foldl | with_reducible apply Keeps.next | with_reducible apply Keeps.fault | with_reducible apply Keeps.ite | with_reducible apply KeepsR.ite | split | with_reducible apply Keeps.built

theorem keeps_State_issue {z : State} : ∀ s a1 a2 a3 a4 a5, Keeps z s → Keeps z (State.issue s a1 a2 a3 a4 a5) := by
  intro s a1 a2 a3 a4 a5 h
  unfold State.issue
  try dsimp only
  repeat' first | with_reducible intro _ | with_reducible assumption | with_reducible apply Keeps.ite | with_reducible apply KeepsR.ite | with_reducible apply keeps_State_raiseExn | with_reducible apply keeps_State_onCore | with_reducible apply keeps_State_arrive | with_reducible apply keeps_State_perform | with_reducible apply Keeps.foldl | with_reducible apply Keeps.next | with_reducible apply Keeps.fault | with_reducible apply Keeps.ite | with_reducible apply KeepsR.ite | split | with_reducible apply Keeps.built

theorem keeps_State_decoded {z : State} : ∀ s a1 a2 a3 a4 a5 a6 a7, Keeps z s → Keeps z (State.decoded s a1 a2 a3 a4 a5 a6 a7) := by
  intro s a1 a2 a3 a4 a5 a6 a7 h
  unfold State.decoded
  try dsimp only
  repeat' first | with_reducible intro _ | with_reducible assumption | with_reducible apply Keeps.ite | with_reducible apply KeepsR.ite | with_reducible apply keeps_State_raiseExn | with_reducible apply keeps_State_raiseWhole | with_reducible apply keeps_State_issue | with_reducible apply Keeps.foldl | with_reducible apply Keeps.next | with_reducible apply Keeps.fault | with_reducible apply Keeps.ite | with_reducible apply KeepsR.ite | split | with_reducible apply Keeps.built

theorem keeps_State_ofTask {z : State} : ∀ s c f, Keeps z s → (∀ p, Keeps z (f p)) → Keeps z (State.ofTask s c f) := by
  intro s c f h g
  unfold State.ofTask
  dsimp only
  repeat' first | with_reducible intro _ | with_reducible assumption | with_reducible apply g | with_reducible apply Keeps.ite | split

theorem keeps_State_runOne {z : State} : ∀ s a1 a2 a3, Keeps z s → Keeps z (State.runOne s a1 a2 a3) := by
  intro s a1 a2 a3 h
  unfold State.runOne
  try dsimp only
  repeat' first | with_reducible intro _ | with_reducible assumption | with_reducible apply Keeps.ite | with_reducible apply KeepsR.ite | with_reducible apply keeps_State_ofTask | with_reducible apply keeps_State_decoded | with_reducible apply Keeps.foldl | with_reducible apply Keeps.next | with_reducible apply Keeps.fault | with_reducible apply Keeps.ite | with_reducible apply KeepsR.ite | split | with_reducible apply Keeps.built

theorem keeps_runOp {z : State} : ∀ a0 a1 s, Keeps z s → KeepsR z (runOp a0 a1 s) := by
  intro a0 a1 s h
  unfold runOp
  try dsimp only
  repeat' first | with_reducible intro _ | with_reducible assumption | with_reducible apply Keeps.ite | with_reducible apply KeepsR.ite | with_reducible apply keeps_onCoreId | with_reducible apply keeps_State_runOne | with_reducible apply Keeps.foldl | with_reducible apply Keeps.next | with_reducible apply Keeps.fault | with_reducible apply Keeps.ite | with_reducible apply KeepsR.ite | split | with_reducible apply Keeps.built

theorem keeps_runSf {z : State} : ∀ a0 a1 a2 a3 s, Keeps z s → KeepsR z (runSf a0 a1 a2 a3 s) := by
  intro a0 a1 a2 a3 s h
  unfold runSf
  try dsimp only
  repeat' first | with_reducible intro _ | with_reducible assumption | with_reducible apply Keeps.ite | with_reducible apply KeepsR.ite | with_reducible apply keeps_onCoreId | with_reducible apply keeps_State_runOne | with_reducible apply Keeps.foldl | with_reducible apply Keeps.next | with_reducible apply Keeps.fault | with_reducible apply Keeps.ite | with_reducible apply KeepsR.ite | split | with_reducible apply Keeps.built

theorem keeps_State_runDecoded {z : State} : ∀ s a1 a2 a3 a4, Keeps z s → Keeps z (State.runDecoded s a1 a2 a3 a4) := by
  intro s a1 a2 a3 a4 h
  unfold State.runDecoded
  try dsimp only
  repeat' first | with_reducible intro _ | with_reducible assumption | with_reducible apply Keeps.ite | with_reducible apply KeepsR.ite | with_reducible apply keeps_State_decoded | with_reducible apply Keeps.foldl | with_reducible apply Keeps.next | with_reducible apply Keeps.fault | with_reducible apply Keeps.ite | with_reducible apply KeepsR.ite | split | with_reducible apply Keeps.built

theorem keeps_State_runBundle {z : State} : ∀ s a1 a2 a3, Keeps z s → Keeps z (State.runBundle s a1 a2 a3) := by
  intro s a1 a2 a3 h
  unfold State.runBundle
  try dsimp only
  repeat' first | with_reducible intro _ | with_reducible assumption | with_reducible apply Keeps.ite | with_reducible apply KeepsR.ite | with_reducible apply keeps_State_ofTask | with_reducible apply keeps_State_onCore | with_reducible apply keeps_State_runDecoded | with_reducible apply Keeps.foldl | with_reducible apply Keeps.next | with_reducible apply Keeps.fault | with_reducible apply Keeps.ite | with_reducible apply KeepsR.ite | split | with_reducible apply Keeps.built

theorem keeps_execBundle {z : State} : ∀ a0 a1 a2 s, Keeps z s → KeepsR z (execBundle a0 a1 a2 s) := by
  intro a0 a1 a2 s h
  unfold execBundle
  try dsimp only
  repeat' first | with_reducible intro _ | with_reducible assumption | with_reducible apply Keeps.ite | with_reducible apply KeepsR.ite | with_reducible apply keeps_onCoreId | with_reducible apply keeps_State_runBundle | with_reducible apply Keeps.foldl | with_reducible apply Keeps.next | with_reducible apply Keeps.fault | with_reducible apply Keeps.ite | with_reducible apply KeepsR.ite | split | with_reducible apply Keeps.built

theorem keeps_State_moveLands {z : State} : ∀ s a1 a2 a3, Keeps z s → Keeps z (State.moveLands s a1 a2 a3) := by
  intro s a1 a2 a3 h
  unfold State.moveLands
  try dsimp only
  repeat' first | with_reducible intro _ | with_reducible assumption | with_reducible apply Keeps.ite | with_reducible apply KeepsR.ite | with_reducible apply keeps_State_finishMove | with_reducible apply keeps_State_poisonRange | with_reducible apply keeps_State_bump | with_reducible apply Keeps.foldl | with_reducible apply Keeps.next | with_reducible apply Keeps.fault | with_reducible apply Keeps.ite | with_reducible apply KeepsR.ite | split | with_reducible apply Keeps.built

theorem keeps_execMoveComplete {z : State} : ∀ a0 a1 a2 s, Keeps z s → KeepsR z (execMoveComplete a0 a1 a2 s) := by
  intro a0 a1 a2 s h
  unfold execMoveComplete
  try dsimp only
  repeat' first | with_reducible intro _ | with_reducible assumption | with_reducible apply Keeps.ite | with_reducible apply KeepsR.ite | with_reducible apply keeps_onCoreId | with_reducible apply keeps_State_moveLands | with_reducible apply Keeps.foldl | with_reducible apply Keeps.next | with_reducible apply Keeps.fault | with_reducible apply Keeps.ite | with_reducible apply KeepsR.ite | split | with_reducible apply Keeps.built

theorem keeps_State_receive {z : State} : ∀ s a1 a2, Keeps z s → Keeps z (State.receive s a1 a2) := by
  intro s a1 a2 h
  unfold State.receive
  try dsimp only
  repeat' first | with_reducible intro _ | with_reducible assumption | with_reducible apply Keeps.ite | with_reducible apply KeepsR.ite | with_reducible apply keeps_State_onCore | with_reducible apply keeps_State_onSched | with_reducible apply keeps_State_wakeUp | with_reducible apply Keeps.foldl | with_reducible apply Keeps.next | with_reducible apply Keeps.fault | with_reducible apply Keeps.ite | with_reducible apply KeepsR.ite | split | with_reducible apply Keeps.built

theorem keeps_execMessageReceive {z : State} : ∀ a0 a1 s, Keeps z s → KeepsR z (execMessageReceive a0 a1 s) := by
  intro a0 a1 s h
  unfold execMessageReceive
  try dsimp only
  repeat' first | with_reducible intro _ | with_reducible assumption | with_reducible apply Keeps.ite | with_reducible apply KeepsR.ite | with_reducible apply keeps_onPid | with_reducible apply keeps_State_receive | with_reducible apply Keeps.foldl | with_reducible apply Keeps.next | with_reducible apply Keeps.fault | with_reducible apply Keeps.ite | with_reducible apply KeepsR.ite | split | with_reducible apply Keeps.built

theorem keeps_State_freeRanges {z : State} : ∀ s a1 a2, Keeps z s → Keeps z (State.freeRanges s a1 a2) := by
  intro s a1 a2 h
  unfold State.freeRanges
  try dsimp only
  repeat' first | with_reducible intro _ | with_reducible assumption | with_reducible apply Keeps.ite | with_reducible apply KeepsR.ite | with_reducible apply keeps_State_freeBytes | with_reducible apply keeps_State_writeBytes | (with_reducible apply keeps_State_freeBytes_eq; with_reducible assumption) | with_reducible apply Keeps.foldl | with_reducible apply Keeps.next | with_reducible apply Keeps.fault | with_reducible apply Keeps.ite | with_reducible apply KeepsR.ite | split | with_reducible apply Keeps.built

theorem keeps_State_freeTile {z : State} : ∀ s a1 a2, Keeps z s → Keeps z (State.freeTile s a1 a2) := by
  intro s a1 a2 h
  unfold State.freeTile
  try dsimp only
  repeat' first | with_reducible intro _ | with_reducible assumption | with_reducible apply Keeps.ite | with_reducible apply KeepsR.ite | with_reducible apply keeps_State_onCore | with_reducible apply Keeps.foldl | with_reducible apply Keeps.next | with_reducible apply Keeps.fault | with_reducible apply Keeps.ite | with_reducible apply KeepsR.ite | split | with_reducible apply Keeps.built

theorem keeps_State_moveLate {z : State} : ∀ s a1 a2 a3 a4, Keeps z s → Keeps z (State.moveLate s a1 a2 a3 a4) := by
  intro s a1 a2 a3 a4 h
  unfold State.moveLate
  try dsimp only
  repeat' first | with_reducible intro _ | with_reducible assumption | with_reducible apply Keeps.ite | with_reducible apply KeepsR.ite | with_reducible apply keeps_State_freeTile | with_reducible apply keeps_State_freeRanges | with_reducible apply keeps_State_onCore | with_reducible apply Keeps.foldl | with_reducible apply Keeps.next | with_reducible apply Keeps.fault | with_reducible apply Keeps.ite | with_reducible apply KeepsR.ite | split | with_reducible apply Keeps.built

theorem keeps_State_tierWatchdog {z : State} : ∀ s a1, Keeps z s → Keeps z (State.tierWatchdog s a1) := by
  intro s a1 h
  unfold State.tierWatchdog
  try dsimp only
  repeat' first | with_reducible intro _ | with_reducible assumption | with_reducible apply Keeps.ite | with_reducible apply KeepsR.ite | with_reducible apply keeps_State_raiseExn | with_reducible apply keeps_State_moveLate | with_reducible apply keeps_State_raiseWhole | with_reducible apply Keeps.foldl | with_reducible apply Keeps.next | with_reducible apply Keeps.fault | with_reducible apply Keeps.ite | with_reducible apply KeepsR.ite | split | with_reducible apply Keeps.built

theorem keeps_execTierWatchdogExpiry {z : State} : ∀ a0 s, Keeps z s → KeepsR z (execTierWatchdogExpiry a0 s) := by
  intro a0 s h
  unfold execTierWatchdogExpiry
  try dsimp only
  repeat' first | with_reducible intro _ | with_reducible assumption | with_reducible apply Keeps.ite | with_reducible apply KeepsR.ite | with_reducible apply keeps_onCoreId | with_reducible apply keeps_State_tierWatchdog | with_reducible apply Keeps.foldl | with_reducible apply Keeps.next | with_reducible apply Keeps.fault | with_reducible apply Keeps.ite | with_reducible apply KeepsR.ite | split | with_reducible apply Keeps.built

theorem keeps_State_engineTakes {z : State} : ∀ s a1, Keeps z s → Keeps z (State.engineTakes s a1) := by
  intro s a1 h
  unfold State.engineTakes
  try dsimp only
  repeat' first | with_reducible intro _ | with_reducible assumption | with_reducible apply Keeps.ite | with_reducible apply KeepsR.ite | with_reducible apply keeps_State_hareTaken | with_reducible apply keeps_State_exponentFormed | with_reducible apply keeps_State_checksumFormed | with_reducible apply keeps_State_quiesced | with_reducible apply keeps_State_digestFormed | with_reducible apply keeps_State_restoreAgreed | with_reducible apply Keeps.foldl | with_reducible apply Keeps.next | with_reducible apply Keeps.fault | with_reducible apply Keeps.ite | with_reducible apply KeepsR.ite | split | with_reducible apply Keeps.built

theorem keeps_State_enginesTake {z : State} : ∀ s, Keeps z s → Keeps z (State.enginesTake s) := by
  intro s h
  unfold State.enginesTake
  try dsimp only
  repeat' first | with_reducible intro _ | with_reducible assumption | with_reducible apply Keeps.ite | with_reducible apply KeepsR.ite | with_reducible apply keeps_State_engineTakes | with_reducible apply Keeps.foldl | with_reducible apply Keeps.next | with_reducible apply Keeps.fault | with_reducible apply Keeps.ite | with_reducible apply KeepsR.ite | split | with_reducible apply Keeps.built

theorem keeps_execHareResult {z : State} : ∀ a0 s, Keeps z s → KeepsR z (execHareResult a0 s) := by
  intro a0 s h
  unfold execHareResult
  try dsimp only
  repeat' first | with_reducible intro _ | with_reducible assumption | with_reducible apply Keeps.ite | with_reducible apply KeepsR.ite | with_reducible apply keeps_State_enginesTake | with_reducible apply keeps_State_releaseHeld | with_reducible apply keeps_State_hareResultIn | with_reducible apply Keeps.foldl | with_reducible apply Keeps.next | with_reducible apply Keeps.fault | with_reducible apply Keeps.ite | with_reducible apply KeepsR.ite | split | with_reducible apply Keeps.built

theorem keeps_execHarePartReceive {z : State} : ∀ a0 a1 s, Keeps z s → KeepsR z (execHarePartReceive a0 a1 s) := by
  intro a0 a1 s h
  unfold execHarePartReceive
  try dsimp only
  repeat' first | with_reducible intro _ | with_reducible assumption | with_reducible apply Keeps.ite | with_reducible apply KeepsR.ite | with_reducible apply keeps_onPort | with_reducible apply keeps_State_enginesTake | with_reducible apply keeps_State_harePart | with_reducible apply Keeps.foldl | with_reducible apply Keeps.next | with_reducible apply Keeps.fault | with_reducible apply Keeps.ite | with_reducible apply KeepsR.ite | split | with_reducible apply Keeps.built

theorem keeps_State_deliverTo {z : State} : ∀ s port k f run, Keeps z s → (∀ p, Keeps z (run p)) → Keeps z (State.deliverTo s port k f run) := by
  intro s port k f run h g
  unfold State.deliverTo
  repeat' first | with_reducible intro _ | with_reducible assumption | with_reducible apply g | with_reducible apply keeps_State_portLost | split

theorem keeps_State_hareMsgPacket {z : State} : ∀ s a1 a2, Keeps z s → Keeps z (State.hareMsgPacket s a1 a2) := by
  intro s a1 a2 h
  unfold State.hareMsgPacket
  try dsimp only
  repeat' first | with_reducible intro _ | with_reducible assumption | with_reducible apply Keeps.ite | with_reducible apply KeepsR.ite | with_reducible apply keeps_State_heartbeat | with_reducible apply keeps_State_hareMsg | with_reducible apply Keeps.foldl | with_reducible apply Keeps.next | with_reducible apply Keeps.fault | with_reducible apply Keeps.ite | with_reducible apply KeepsR.ite | split | with_reducible apply Keeps.built

theorem keeps_State_deliverPacket {z : State} : ∀ s a1 a2, Keeps z s → Keeps z (State.deliverPacket s a1 a2) := by
  intro s a1 a2 h
  unfold State.deliverPacket
  try dsimp only
  repeat' first | with_reducible intro _ | with_reducible assumption | with_reducible apply Keeps.ite | with_reducible apply KeepsR.ite | with_reducible apply keeps_State_deliverTo | with_reducible apply keeps_State_subcredit | with_reducible apply keeps_State_packetViolation | with_reducible apply keeps_State_expResponse | with_reducible apply keeps_State_enginesTake | with_reducible apply keeps_State_harePart | with_reducible apply keeps_State_releaseHeld | with_reducible apply keeps_State_hareResultIn | with_reducible apply keeps_State_hareMsgPacket | with_reducible apply keeps_State_raccIn | with_reducible apply keeps_State_ackPacket | with_reducible apply keeps_State_collData | with_reducible apply keeps_State_gatherIn | with_reducible apply keeps_State_relayIn | with_reducible apply keeps_State_expServe | with_reducible apply keeps_State_creditServe | with_reducible apply keeps_State_onFab | with_reducible apply keeps_State_portLost | with_reducible apply Keeps.foldl | with_reducible apply Keeps.next | with_reducible apply Keeps.fault | with_reducible apply Keeps.ite | with_reducible apply KeepsR.ite | split | with_reducible apply Keeps.built

theorem keeps_State_forward {z : State} : ∀ s a1 a2, Keeps z s → Keeps z (State.forward s a1 a2) := by
  intro s a1 a2 h
  unfold State.forward
  try dsimp only
  repeat' first | with_reducible intro _ | with_reducible assumption | with_reducible apply Keeps.ite | with_reducible apply KeepsR.ite | with_reducible apply keeps_State_egress | with_reducible apply keeps_State_portLost | with_reducible apply Keeps.foldl | with_reducible apply Keeps.next | with_reducible apply Keeps.fault | with_reducible apply Keeps.ite | with_reducible apply KeepsR.ite | split | with_reducible apply Keeps.built

theorem keeps_State_packetIn {z : State} : ∀ s a1 a2, Keeps z s → Keeps z (State.packetIn s a1 a2) := by
  intro s a1 a2 h
  unfold State.packetIn
  try dsimp only
  repeat' first | with_reducible intro _ | with_reducible assumption | with_reducible apply Keeps.ite | with_reducible apply KeepsR.ite | with_reducible apply keeps_State_unitsIn | with_reducible apply keeps_State_portLost | with_reducible apply keeps_State_deliverPacket | with_reducible apply keeps_State_forward | with_reducible apply Keeps.foldl | with_reducible apply Keeps.next | with_reducible apply Keeps.fault | with_reducible apply Keeps.ite | with_reducible apply KeepsR.ite | split | with_reducible apply Keeps.built

theorem keeps_execPacketReceive {z : State} : ∀ a0 a1 s, Keeps z s → KeepsR z (execPacketReceive a0 a1 s) := by
  intro a0 a1 s h
  unfold execPacketReceive
  try dsimp only
  repeat' first | with_reducible intro _ | with_reducible assumption | with_reducible apply Keeps.ite | with_reducible apply KeepsR.ite | with_reducible apply keeps_onPort | with_reducible apply keeps_State_packetIn | with_reducible apply Keeps.foldl | with_reducible apply Keeps.next | with_reducible apply Keeps.fault | with_reducible apply Keeps.ite | with_reducible apply KeepsR.ite | split | with_reducible apply Keeps.built

theorem keeps_State_keyError {z : State} : ∀ s a1, Keeps z s → Keeps z (State.keyError s a1) := by
  intro s a1 h
  unfold State.keyError
  try dsimp only
  repeat' first | with_reducible intro _ | with_reducible assumption | with_reducible apply Keeps.ite | with_reducible apply KeepsR.ite | with_reducible apply keeps_State_bump | with_reducible apply Keeps.foldl | with_reducible apply Keeps.next | with_reducible apply Keeps.fault | with_reducible apply Keeps.ite | with_reducible apply KeepsR.ite | split | with_reducible apply Keeps.built

theorem keeps_State_failedCheck {z : State} : ∀ s a1 a2, Keeps z s → Keeps z (State.failedCheck s a1 a2) := by
  intro s a1 a2 h
  unfold State.failedCheck
  try dsimp only
  repeat' first | with_reducible intro _ | with_reducible assumption | with_reducible apply Keeps.ite | with_reducible apply KeepsR.ite | with_reducible apply keeps_State_nakAccess | with_reducible apply keeps_State_keyError | with_reducible apply Keeps.foldl | with_reducible apply Keeps.next | with_reducible apply Keeps.fault | with_reducible apply Keeps.ite | with_reducible apply KeepsR.ite | split | with_reducible apply Keeps.built

theorem keeps_State_nakInvalid {z : State} : ∀ s a1, Keeps z s → Keeps z (State.nakInvalid s a1) := by
  intro s a1 h
  unfold State.nakInvalid
  try dsimp only
  repeat' first | with_reducible intro _ | with_reducible assumption | with_reducible apply Keeps.ite | with_reducible apply KeepsR.ite | with_reducible apply keeps_State_emit | with_reducible apply Keeps.foldl | with_reducible apply Keeps.next | with_reducible apply Keeps.fault | with_reducible apply Keeps.ite | with_reducible apply KeepsR.ite | split | with_reducible apply Keeps.built

theorem keeps_State_markCe {z : State} : ∀ s a1 a2, Keeps z s → Keeps z (State.markCe s a1 a2) := by
  intro s a1 a2 h
  unfold State.markCe
  try dsimp only
  repeat' first | with_reducible intro _ | with_reducible assumption | with_reducible apply Keeps.ite | with_reducible apply KeepsR.ite | with_reducible apply keeps_State_emit | with_reducible apply keeps_State_setQp | with_reducible apply Keeps.foldl | with_reducible apply Keeps.next | with_reducible apply Keeps.fault | with_reducible apply Keeps.ite | with_reducible apply KeepsR.ite | split | with_reducible apply Keeps.built

theorem keeps_State_onConnected {z : State} : ∀ s q ce run, Keeps z s → (∀ t k, Keeps z t → Keeps z (run t k)) →
    Keeps z (State.onConnected s q ce run) := by
  intro s q ce run h g
  unfold State.onConnected
  repeat' first | with_reducible intro _ | with_reducible assumption | with_reducible apply g | with_reducible apply keeps_State_markCe | with_reducible apply Keeps.ite | split

theorem keeps_State_deliverBytes {z : State} : ∀ s a1 a2, Keeps z s → Keeps z (State.deliverBytes s a1 a2).2 := by
  intro s a1 a2 h
  unfold State.deliverBytes
  try dsimp only
  repeat' first | with_reducible intro _ | with_reducible assumption | with_reducible apply Keeps.ite | with_reducible apply KeepsR.ite | with_reducible apply keeps_State_freeBytes | (with_reducible apply keeps_State_freeBytes_eq; with_reducible assumption) | with_reducible apply Keeps.foldl | with_reducible apply Keeps.next | with_reducible apply Keeps.fault | with_reducible apply Keeps.ite | with_reducible apply KeepsR.ite | split | with_reducible apply Keeps.built


theorem keeps_State_deliverBytes_eq {z : State} : ∀ s a1 a2 x t, (State.deliverBytes s a1 a2) = (x, t) → Keeps z s → Keeps z t := by
  intro s a1 a2 x t e h
  have := keeps_State_deliverBytes s a1 a2 h
  rw [e] at this
  exact this

theorem keeps_State_respond {z : State} : ∀ s a1 a2, Keeps z s → Keeps z (State.respond s a1 a2) := by
  intro s a1 a2 h
  unfold State.respond
  try dsimp only
  repeat' first | with_reducible intro _ | with_reducible assumption | with_reducible apply Keeps.ite | with_reducible apply KeepsR.ite | with_reducible apply keeps_State_emit | with_reducible apply Keeps.foldl | with_reducible apply Keeps.next | with_reducible apply Keeps.fault | with_reducible apply Keeps.ite | with_reducible apply KeepsR.ite | split | with_reducible apply Keeps.built

theorem keeps_State_bootWriteIn {z : State} : ∀ s a1 a2 a3 a4, Keeps z s → Keeps z (State.bootWriteIn s a1 a2 a3 a4) := by
  intro s a1 a2 a3 a4 h
  unfold State.bootWriteIn
  try dsimp only
  repeat' first | with_reducible intro _ | with_reducible assumption | with_reducible apply Keeps.ite | with_reducible apply KeepsR.ite | with_reducible apply keeps_State_bootGo | with_reducible apply keeps_State_emit | with_reducible apply keeps_State_writeBytes | with_reducible apply keeps_State_nakAccess | with_reducible apply Keeps.foldl | with_reducible apply Keeps.next | with_reducible apply Keeps.fault | with_reducible apply Keeps.ite | with_reducible apply KeepsR.ite | split | with_reducible apply Keeps.built

theorem keeps_State_winWriteIn {z : State} : ∀ s a1 a2 a3 a4 a5 a6, Keeps z s → Keeps z (State.winWriteIn s a1 a2 a3 a4 a5 a6) := by
  intro s a1 a2 a3 a4 a5 a6 h
  unfold State.winWriteIn
  try dsimp only
  repeat' first | with_reducible intro _ | with_reducible assumption | with_reducible apply Keeps.ite | with_reducible apply KeepsR.ite | with_reducible apply keeps_State_failedCheck | with_reducible apply keeps_State_nakInvalid | with_reducible apply keeps_State_nakAccess | with_reducible apply keeps_State_windowWrite | with_reducible apply keeps_State_emit | with_reducible apply Keeps.foldl | with_reducible apply Keeps.next | with_reducible apply Keeps.fault | with_reducible apply Keeps.ite | with_reducible apply KeepsR.ite | split | with_reducible apply Keeps.built

theorem keeps_State_winReadIn {z : State} : ∀ s a1 a2 a3 a4 a5, Keeps z s → Keeps z (State.winReadIn s a1 a2 a3 a4 a5) := by
  intro s a1 a2 a3 a4 a5 h
  unfold State.winReadIn
  try dsimp only
  repeat' first | with_reducible intro _ | with_reducible assumption | with_reducible apply Keeps.ite | with_reducible apply KeepsR.ite | with_reducible apply keeps_State_failedCheck | with_reducible apply keeps_State_nakInvalid | with_reducible apply keeps_State_respond | with_reducible apply Keeps.foldl | with_reducible apply Keeps.next | with_reducible apply Keeps.fault | with_reducible apply Keeps.ite | with_reducible apply KeepsR.ite | split | with_reducible apply Keeps.built

theorem keeps_State_ringWriteIn {z : State} : ∀ s a1 a2 a3 a4 a5, Keeps z s → Keeps z (State.ringWriteIn s a1 a2 a3 a4 a5) := by
  intro s a1 a2 a3 a4 a5 h
  unfold State.ringWriteIn
  try dsimp only
  repeat' first | with_reducible intro _ | with_reducible assumption | with_reducible apply Keeps.ite | with_reducible apply KeepsR.ite | with_reducible apply keeps_State_failedCheck | (with_reducible apply keeps_State_ringHeaderWrite; with_reducible assumption) | with_reducible apply keeps_State_ringWoken | with_reducible apply keeps_State_emit | with_reducible apply Keeps.foldl | with_reducible apply Keeps.next | with_reducible apply Keeps.fault | with_reducible apply Keeps.ite | with_reducible apply KeepsR.ite | split | with_reducible apply Keeps.built

theorem keeps_State_memWriteIn {z : State} : ∀ s a1 a2 a3 a4 a5, Keeps z s → Keeps z (State.memWriteIn s a1 a2 a3 a4 a5) := by
  intro s a1 a2 a3 a4 a5 h
  unfold State.memWriteIn
  try dsimp only
  repeat' first | with_reducible intro _ | with_reducible assumption | with_reducible apply Keeps.ite | with_reducible apply KeepsR.ite | with_reducible apply keeps_State_failedCheck | with_reducible apply keeps_State_emit | with_reducible apply keeps_State_writeBytes | with_reducible apply keeps_State_stampsLand | with_reducible apply Keeps.foldl | with_reducible apply Keeps.next | with_reducible apply Keeps.fault | with_reducible apply Keeps.ite | with_reducible apply KeepsR.ite | split | with_reducible apply Keeps.built

theorem keeps_State_writeIn {z : State} : ∀ s a1 a2 a3 a4 a5, Keeps z s → Keeps z (State.writeIn s a1 a2 a3 a4 a5) := by
  intro s a1 a2 a3 a4 a5 h
  unfold State.writeIn
  try dsimp only
  repeat' first | with_reducible intro _ | with_reducible assumption | with_reducible apply Keeps.ite | with_reducible apply KeepsR.ite | with_reducible apply keeps_State_bootWriteIn | with_reducible apply keeps_State_nakInvalid | with_reducible apply keeps_State_failedCheck | with_reducible apply keeps_State_winWriteIn | with_reducible apply keeps_State_ringWriteIn | with_reducible apply keeps_State_memWriteIn | with_reducible apply Keeps.foldl | with_reducible apply Keeps.next | with_reducible apply Keeps.fault | with_reducible apply Keeps.ite | with_reducible apply KeepsR.ite | split | with_reducible apply Keeps.built

theorem keeps_execRdmaWrite {z : State} : ∀ a0 a1 a2 a3 a4 s, Keeps z s → KeepsR z (execRdmaWrite a0 a1 a2 a3 a4 s) := by
  intro a0 a1 a2 a3 a4 s h
  unfold execRdmaWrite
  try dsimp only
  repeat' first | with_reducible intro _ | with_reducible assumption | with_reducible apply Keeps.ite | with_reducible apply KeepsR.ite | with_reducible apply keeps_onQp | with_reducible apply keeps_State_onConnected | with_reducible apply keeps_State_writeIn | with_reducible apply Keeps.foldl | with_reducible apply Keeps.next | with_reducible apply Keeps.fault | with_reducible apply Keeps.ite | with_reducible apply KeepsR.ite | split | with_reducible apply Keeps.built

theorem keeps_State_bootReadIn {z : State} : ∀ s a1 a2 a3, Keeps z s → Keeps z (State.bootReadIn s a1 a2 a3) := by
  intro s a1 a2 a3 h
  unfold State.bootReadIn
  try dsimp only
  repeat' first | with_reducible intro _ | with_reducible assumption | with_reducible apply Keeps.ite | with_reducible apply KeepsR.ite | with_reducible apply keeps_State_respond | with_reducible apply keeps_State_nakAccess | with_reducible apply Keeps.foldl | with_reducible apply Keeps.next | with_reducible apply Keeps.fault | with_reducible apply Keeps.ite | with_reducible apply KeepsR.ite | split | with_reducible apply Keeps.built

theorem keeps_State_readIn {z : State} : ∀ s a1 a2 a3 a4 a5, Keeps z s → Keeps z (State.readIn s a1 a2 a3 a4 a5) := by
  intro s a1 a2 a3 a4 a5 h
  unfold State.readIn
  try dsimp only
  repeat' first | with_reducible intro _ | with_reducible assumption | with_reducible apply Keeps.ite | with_reducible apply KeepsR.ite | with_reducible apply keeps_State_bootReadIn | with_reducible apply keeps_State_nakInvalid | with_reducible apply keeps_State_failedCheck | with_reducible apply keeps_State_winReadIn | with_reducible apply keeps_State_deliverBytes | with_reducible apply keeps_State_respond | (with_reducible apply keeps_State_deliverBytes_eq; with_reducible assumption) | with_reducible apply Keeps.foldl | with_reducible apply Keeps.next | with_reducible apply Keeps.fault | with_reducible apply Keeps.ite | with_reducible apply KeepsR.ite | split | with_reducible apply Keeps.built

theorem keeps_execRdmaRead {z : State} : ∀ a0 a1 a2 a3 a4 s, Keeps z s → KeepsR z (execRdmaRead a0 a1 a2 a3 a4 s) := by
  intro a0 a1 a2 a3 a4 s h
  unfold execRdmaRead
  try dsimp only
  repeat' first | with_reducible intro _ | with_reducible assumption | with_reducible apply Keeps.ite | with_reducible apply KeepsR.ite | with_reducible apply keeps_onQp | with_reducible apply keeps_State_onConnected | with_reducible apply keeps_State_readIn | with_reducible apply Keeps.foldl | with_reducible apply Keeps.next | with_reducible apply Keeps.fault | with_reducible apply Keeps.ite | with_reducible apply KeepsR.ite | split | with_reducible apply Keeps.built

theorem keeps_State_sendLands {z : State} : ∀ s a1 a2, Keeps z s → Keeps z (State.sendLands s a1 a2) := by
  intro s a1 a2 h
  unfold State.sendLands
  try dsimp only
  repeat' first | with_reducible intro _ | with_reducible assumption | with_reducible apply Keeps.ite | with_reducible apply KeepsR.ite | with_reducible apply keeps_State_writeBytes | with_reducible apply keeps_State_takeAll | with_reducible apply keeps_State_onHost | with_reducible apply Keeps.foldl | with_reducible apply Keeps.next | with_reducible apply Keeps.fault | with_reducible apply Keeps.ite | with_reducible apply KeepsR.ite | split | with_reducible apply Keeps.built

theorem keeps_State_sendIn {z : State} : ∀ s a1 a2 a3, Keeps z s → Keeps z (State.sendIn s a1 a2 a3) := by
  intro s a1 a2 a3 h
  unfold State.sendIn
  try dsimp only
  repeat' first | with_reducible intro _ | with_reducible assumption | with_reducible apply Keeps.ite | with_reducible apply KeepsR.ite | with_reducible apply keeps_State_nakAccess | with_reducible apply keeps_State_nakInvalid | with_reducible apply keeps_State_bump | with_reducible apply keeps_State_emit | with_reducible apply keeps_State_sendLands | with_reducible apply Keeps.foldl | with_reducible apply Keeps.next | with_reducible apply Keeps.fault | with_reducible apply Keeps.ite | with_reducible apply KeepsR.ite | split | with_reducible apply Keeps.built

theorem keeps_execCommandRingSend {z : State} : ∀ a0 a1 a2 s, Keeps z s → KeepsR z (execCommandRingSend a0 a1 a2 s) := by
  intro a0 a1 a2 s h
  unfold execCommandRingSend
  try dsimp only
  repeat' first | with_reducible intro _ | with_reducible assumption | with_reducible apply Keeps.ite | with_reducible apply KeepsR.ite | with_reducible apply keeps_onQp | with_reducible apply keeps_State_onConnected | with_reducible apply keeps_State_sendIn | with_reducible apply Keeps.foldl | with_reducible apply Keeps.next | with_reducible apply Keeps.fault | with_reducible apply Keeps.ite | with_reducible apply KeepsR.ite | split | with_reducible apply Keeps.built

end Sys2Proof.Machine
end

