-- ==== Sys2Proof/Laws/KeepsD.lean ====
section
/-! SUPPORT. The same of the commands of a core, and of exec and step as a whole. -/
/- One declaration after another: the package as one text then needs few threads at a time. -/
set_option Elab.async false
/- One chain of tactics serves every lemma here; a step of it that finds nothing to do is meant. -/
set_option linter.all false

namespace Sys2Proof.Machine

theorem keeps_execMldw {z : State} : ∀ a0 a1 s, Keeps z s → KeepsR z (execMldw a0 a1 s) := by
  intro a0 a1 s h
  unfold execMldw
  try dsimp only
  repeat' first | with_reducible intro _ | with_reducible assumption | with_reducible apply Keeps.ite | with_reducible apply KeepsR.ite | with_reducible apply keeps_runOp | with_reducible apply Keeps.foldl | with_reducible apply Keeps.next | with_reducible apply Keeps.fault | with_reducible apply Keeps.ite | with_reducible apply KeepsR.ite | split | with_reducible apply Keeps.built

theorem keeps_execMpass {z : State} : ∀ a0 a1 s, Keeps z s → KeepsR z (execMpass a0 a1 s) := by
  intro a0 a1 s h
  unfold execMpass
  try dsimp only
  repeat' first | with_reducible intro _ | with_reducible assumption | with_reducible apply Keeps.ite | with_reducible apply KeepsR.ite | with_reducible apply keeps_runOp | with_reducible apply Keeps.foldl | with_reducible apply Keeps.next | with_reducible apply Keeps.fault | with_reducible apply Keeps.ite | with_reducible apply KeepsR.ite | split | with_reducible apply Keeps.built

theorem keeps_execMzero {z : State} : ∀ a0 a1 s, Keeps z s → KeepsR z (execMzero a0 a1 s) := by
  intro a0 a1 s h
  unfold execMzero
  try dsimp only
  repeat' first | with_reducible intro _ | with_reducible assumption | with_reducible apply Keeps.ite | with_reducible apply KeepsR.ite | with_reducible apply keeps_runOp | with_reducible apply Keeps.foldl | with_reducible apply Keeps.next | with_reducible apply Keeps.fault | with_reducible apply Keeps.ite | with_reducible apply KeepsR.ite | split | with_reducible apply Keeps.built

theorem keeps_execXferRows {z : State} : ∀ a0 a1 s, Keeps z s → KeepsR z (execXferRows a0 a1 s) := by
  intro a0 a1 s h
  unfold execXferRows
  try dsimp only
  repeat' first | with_reducible intro _ | with_reducible assumption | with_reducible apply Keeps.ite | with_reducible apply KeepsR.ite | with_reducible apply keeps_runOp | with_reducible apply Keeps.foldl | with_reducible apply Keeps.next | with_reducible apply Keeps.fault | with_reducible apply Keeps.ite | with_reducible apply KeepsR.ite | split | with_reducible apply Keeps.built

theorem keeps_execXferTranspose {z : State} : ∀ a0 a1 s, Keeps z s → KeepsR z (execXferTranspose a0 a1 s) := by
  intro a0 a1 s h
  unfold execXferTranspose
  try dsimp only
  repeat' first | with_reducible intro _ | with_reducible assumption | with_reducible apply Keeps.ite | with_reducible apply KeepsR.ite | with_reducible apply keeps_runOp | with_reducible apply Keeps.foldl | with_reducible apply Keeps.next | with_reducible apply Keeps.fault | with_reducible apply Keeps.ite | with_reducible apply KeepsR.ite | split | with_reducible apply Keeps.built

theorem keeps_execXferConvert {z : State} : ∀ a0 a1 s, Keeps z s → KeepsR z (execXferConvert a0 a1 s) := by
  intro a0 a1 s h
  unfold execXferConvert
  try dsimp only
  repeat' first | with_reducible intro _ | with_reducible assumption | with_reducible apply Keeps.ite | with_reducible apply KeepsR.ite | with_reducible apply keeps_runOp | with_reducible apply Keeps.foldl | with_reducible apply Keeps.next | with_reducible apply Keeps.fault | with_reducible apply Keeps.ite | with_reducible apply KeepsR.ite | split | with_reducible apply Keeps.built

theorem keeps_execXferConvertTranspose {z : State} : ∀ a0 a1 s, Keeps z s → KeepsR z (execXferConvertTranspose a0 a1 s) := by
  intro a0 a1 s h
  unfold execXferConvertTranspose
  try dsimp only
  repeat' first | with_reducible intro _ | with_reducible assumption | with_reducible apply Keeps.ite | with_reducible apply KeepsR.ite | with_reducible apply keeps_runOp | with_reducible apply Keeps.foldl | with_reducible apply Keeps.next | with_reducible apply Keeps.fault | with_reducible apply Keeps.ite | with_reducible apply KeepsR.ite | split | with_reducible apply Keeps.built

theorem keeps_execXferFill {z : State} : ∀ a0 a1 s, Keeps z s → KeepsR z (execXferFill a0 a1 s) := by
  intro a0 a1 s h
  unfold execXferFill
  try dsimp only
  repeat' first | with_reducible intro _ | with_reducible assumption | with_reducible apply Keeps.ite | with_reducible apply KeepsR.ite | with_reducible apply keeps_runOp | with_reducible apply Keeps.foldl | with_reducible apply Keeps.next | with_reducible apply Keeps.fault | with_reducible apply Keeps.ite | with_reducible apply KeepsR.ite | split | with_reducible apply Keeps.built

theorem keeps_execRacc {z : State} : ∀ a0 a1 s, Keeps z s → KeepsR z (execRacc a0 a1 s) := by
  intro a0 a1 s h
  unfold execRacc
  try dsimp only
  repeat' first | with_reducible intro _ | with_reducible assumption | with_reducible apply Keeps.ite | with_reducible apply KeepsR.ite | with_reducible apply keeps_runOp | with_reducible apply Keeps.foldl | with_reducible apply Keeps.next | with_reducible apply Keeps.fault | with_reducible apply Keeps.ite | with_reducible apply KeepsR.ite | split | with_reducible apply Keeps.built

theorem keeps_execAtomAdd32 {z : State} : ∀ a0 a1 s, Keeps z s → KeepsR z (execAtomAdd32 a0 a1 s) := by
  intro a0 a1 s h
  unfold execAtomAdd32
  try dsimp only
  repeat' first | with_reducible intro _ | with_reducible assumption | with_reducible apply Keeps.ite | with_reducible apply KeepsR.ite | with_reducible apply keeps_runOp | with_reducible apply Keeps.foldl | with_reducible apply Keeps.next | with_reducible apply Keeps.fault | with_reducible apply Keeps.ite | with_reducible apply KeepsR.ite | split | with_reducible apply Keeps.built

theorem keeps_execAtomAdd64 {z : State} : ∀ a0 a1 s, Keeps z s → KeepsR z (execAtomAdd64 a0 a1 s) := by
  intro a0 a1 s h
  unfold execAtomAdd64
  try dsimp only
  repeat' first | with_reducible intro _ | with_reducible assumption | with_reducible apply Keeps.ite | with_reducible apply KeepsR.ite | with_reducible apply keeps_runOp | with_reducible apply Keeps.foldl | with_reducible apply Keeps.next | with_reducible apply Keeps.fault | with_reducible apply Keeps.ite | with_reducible apply KeepsR.ite | split | with_reducible apply Keeps.built

theorem keeps_execAtomSwap32 {z : State} : ∀ a0 a1 s, Keeps z s → KeepsR z (execAtomSwap32 a0 a1 s) := by
  intro a0 a1 s h
  unfold execAtomSwap32
  try dsimp only
  repeat' first | with_reducible intro _ | with_reducible assumption | with_reducible apply Keeps.ite | with_reducible apply KeepsR.ite | with_reducible apply keeps_runOp | with_reducible apply Keeps.foldl | with_reducible apply Keeps.next | with_reducible apply Keeps.fault | with_reducible apply Keeps.ite | with_reducible apply KeepsR.ite | split | with_reducible apply Keeps.built

theorem keeps_execAtomSwap64 {z : State} : ∀ a0 a1 s, Keeps z s → KeepsR z (execAtomSwap64 a0 a1 s) := by
  intro a0 a1 s h
  unfold execAtomSwap64
  try dsimp only
  repeat' first | with_reducible intro _ | with_reducible assumption | with_reducible apply Keeps.ite | with_reducible apply KeepsR.ite | with_reducible apply keeps_runOp | with_reducible apply Keeps.foldl | with_reducible apply Keeps.next | with_reducible apply Keeps.fault | with_reducible apply Keeps.ite | with_reducible apply KeepsR.ite | split | with_reducible apply Keeps.built

theorem keeps_execAtomCas32 {z : State} : ∀ a0 a1 s, Keeps z s → KeepsR z (execAtomCas32 a0 a1 s) := by
  intro a0 a1 s h
  unfold execAtomCas32
  try dsimp only
  repeat' first | with_reducible intro _ | with_reducible assumption | with_reducible apply Keeps.ite | with_reducible apply KeepsR.ite | with_reducible apply keeps_runOp | with_reducible apply Keeps.foldl | with_reducible apply Keeps.next | with_reducible apply Keeps.fault | with_reducible apply Keeps.ite | with_reducible apply KeepsR.ite | split | with_reducible apply Keeps.built

theorem keeps_execAtomCas64 {z : State} : ∀ a0 a1 s, Keeps z s → KeepsR z (execAtomCas64 a0 a1 s) := by
  intro a0 a1 s h
  unfold execAtomCas64
  try dsimp only
  repeat' first | with_reducible intro _ | with_reducible assumption | with_reducible apply Keeps.ite | with_reducible apply KeepsR.ite | with_reducible apply keeps_runOp | with_reducible apply Keeps.foldl | with_reducible apply Keeps.next | with_reducible apply Keeps.fault | with_reducible apply Keeps.ite | with_reducible apply KeepsR.ite | split | with_reducible apply Keeps.built

theorem keeps_execAtomMaxs32 {z : State} : ∀ a0 a1 s, Keeps z s → KeepsR z (execAtomMaxs32 a0 a1 s) := by
  intro a0 a1 s h
  unfold execAtomMaxs32
  try dsimp only
  repeat' first | with_reducible intro _ | with_reducible assumption | with_reducible apply Keeps.ite | with_reducible apply KeepsR.ite | with_reducible apply keeps_runOp | with_reducible apply Keeps.foldl | with_reducible apply Keeps.next | with_reducible apply Keeps.fault | with_reducible apply Keeps.ite | with_reducible apply KeepsR.ite | split | with_reducible apply Keeps.built

theorem keeps_execAtomMins32 {z : State} : ∀ a0 a1 s, Keeps z s → KeepsR z (execAtomMins32 a0 a1 s) := by
  intro a0 a1 s h
  unfold execAtomMins32
  try dsimp only
  repeat' first | with_reducible intro _ | with_reducible assumption | with_reducible apply Keeps.ite | with_reducible apply KeepsR.ite | with_reducible apply keeps_runOp | with_reducible apply Keeps.foldl | with_reducible apply Keeps.next | with_reducible apply Keeps.fault | with_reducible apply Keeps.ite | with_reducible apply KeepsR.ite | split | with_reducible apply Keeps.built

theorem keeps_execAccst {z : State} : ∀ a0 a1 a2 s, Keeps z s → KeepsR z (execAccst a0 a1 a2 s) := by
  intro a0 a1 a2 s h
  unfold execAccst
  try dsimp only
  repeat' first | with_reducible intro _ | with_reducible assumption | with_reducible apply Keeps.ite | with_reducible apply KeepsR.ite | with_reducible apply keeps_runOp | with_reducible apply Keeps.foldl | with_reducible apply Keeps.next | with_reducible apply Keeps.fault | with_reducible apply Keeps.ite | with_reducible apply KeepsR.ite | split | with_reducible apply Keeps.built

theorem keeps_execAccld {z : State} : ∀ a0 a1 a2 s, Keeps z s → KeepsR z (execAccld a0 a1 a2 s) := by
  intro a0 a1 a2 s h
  unfold execAccld
  try dsimp only
  repeat' first | with_reducible intro _ | with_reducible assumption | with_reducible apply Keeps.ite | with_reducible apply KeepsR.ite | with_reducible apply keeps_runOp | with_reducible apply Keeps.foldl | with_reducible apply Keeps.next | with_reducible apply Keeps.fault | with_reducible apply Keeps.ite | with_reducible apply KeepsR.ite | split | with_reducible apply Keeps.built

theorem keeps_execAdd {z : State} : ∀ a0 a1 a2 a3 s, Keeps z s → KeepsR z (execAdd a0 a1 a2 a3 s) := by
  intro a0 a1 a2 a3 s h
  unfold execAdd
  try dsimp only
  repeat' first | with_reducible intro _ | with_reducible assumption | with_reducible apply Keeps.ite | with_reducible apply KeepsR.ite | with_reducible apply keeps_runOp | with_reducible apply Keeps.foldl | with_reducible apply Keeps.next | with_reducible apply Keeps.fault | with_reducible apply Keeps.ite | with_reducible apply KeepsR.ite | split | with_reducible apply Keeps.built

theorem keeps_execSub {z : State} : ∀ a0 a1 a2 a3 s, Keeps z s → KeepsR z (execSub a0 a1 a2 a3 s) := by
  intro a0 a1 a2 a3 s h
  unfold execSub
  try dsimp only
  repeat' first | with_reducible intro _ | with_reducible assumption | with_reducible apply Keeps.ite | with_reducible apply KeepsR.ite | with_reducible apply keeps_runOp | with_reducible apply Keeps.foldl | with_reducible apply Keeps.next | with_reducible apply Keeps.fault | with_reducible apply Keeps.ite | with_reducible apply KeepsR.ite | split | with_reducible apply Keeps.built

theorem keeps_execAnd {z : State} : ∀ a0 a1 a2 a3 s, Keeps z s → KeepsR z (execAnd a0 a1 a2 a3 s) := by
  intro a0 a1 a2 a3 s h
  unfold execAnd
  try dsimp only
  repeat' first | with_reducible intro _ | with_reducible assumption | with_reducible apply Keeps.ite | with_reducible apply KeepsR.ite | with_reducible apply keeps_runOp | with_reducible apply Keeps.foldl | with_reducible apply Keeps.next | with_reducible apply Keeps.fault | with_reducible apply Keeps.ite | with_reducible apply KeepsR.ite | split | with_reducible apply Keeps.built

theorem keeps_execOr {z : State} : ∀ a0 a1 a2 a3 s, Keeps z s → KeepsR z (execOr a0 a1 a2 a3 s) := by
  intro a0 a1 a2 a3 s h
  unfold execOr
  try dsimp only
  repeat' first | with_reducible intro _ | with_reducible assumption | with_reducible apply Keeps.ite | with_reducible apply KeepsR.ite | with_reducible apply keeps_runOp | with_reducible apply Keeps.foldl | with_reducible apply Keeps.next | with_reducible apply Keeps.fault | with_reducible apply Keeps.ite | with_reducible apply KeepsR.ite | split | with_reducible apply Keeps.built

theorem keeps_execXor {z : State} : ∀ a0 a1 a2 a3 s, Keeps z s → KeepsR z (execXor a0 a1 a2 a3 s) := by
  intro a0 a1 a2 a3 s h
  unfold execXor
  try dsimp only
  repeat' first | with_reducible intro _ | with_reducible assumption | with_reducible apply Keeps.ite | with_reducible apply KeepsR.ite | with_reducible apply keeps_runOp | with_reducible apply Keeps.foldl | with_reducible apply Keeps.next | with_reducible apply Keeps.fault | with_reducible apply Keeps.ite | with_reducible apply KeepsR.ite | split | with_reducible apply Keeps.built

theorem keeps_execSll {z : State} : ∀ a0 a1 a2 a3 s, Keeps z s → KeepsR z (execSll a0 a1 a2 a3 s) := by
  intro a0 a1 a2 a3 s h
  unfold execSll
  try dsimp only
  repeat' first | with_reducible intro _ | with_reducible assumption | with_reducible apply Keeps.ite | with_reducible apply KeepsR.ite | with_reducible apply keeps_runOp | with_reducible apply Keeps.foldl | with_reducible apply Keeps.next | with_reducible apply Keeps.fault | with_reducible apply Keeps.ite | with_reducible apply KeepsR.ite | split | with_reducible apply Keeps.built

theorem keeps_execSrl {z : State} : ∀ a0 a1 a2 a3 s, Keeps z s → KeepsR z (execSrl a0 a1 a2 a3 s) := by
  intro a0 a1 a2 a3 s h
  unfold execSrl
  try dsimp only
  repeat' first | with_reducible intro _ | with_reducible assumption | with_reducible apply Keeps.ite | with_reducible apply KeepsR.ite | with_reducible apply keeps_runOp | with_reducible apply Keeps.foldl | with_reducible apply Keeps.next | with_reducible apply Keeps.fault | with_reducible apply Keeps.ite | with_reducible apply KeepsR.ite | split | with_reducible apply Keeps.built

theorem keeps_execSra {z : State} : ∀ a0 a1 a2 a3 s, Keeps z s → KeepsR z (execSra a0 a1 a2 a3 s) := by
  intro a0 a1 a2 a3 s h
  unfold execSra
  try dsimp only
  repeat' first | with_reducible intro _ | with_reducible assumption | with_reducible apply Keeps.ite | with_reducible apply KeepsR.ite | with_reducible apply keeps_runOp | with_reducible apply Keeps.foldl | with_reducible apply Keeps.next | with_reducible apply Keeps.fault | with_reducible apply Keeps.ite | with_reducible apply KeepsR.ite | split | with_reducible apply Keeps.built

theorem keeps_execSlt {z : State} : ∀ a0 a1 a2 a3 s, Keeps z s → KeepsR z (execSlt a0 a1 a2 a3 s) := by
  intro a0 a1 a2 a3 s h
  unfold execSlt
  try dsimp only
  repeat' first | with_reducible intro _ | with_reducible assumption | with_reducible apply Keeps.ite | with_reducible apply KeepsR.ite | with_reducible apply keeps_runOp | with_reducible apply Keeps.foldl | with_reducible apply Keeps.next | with_reducible apply Keeps.fault | with_reducible apply Keeps.ite | with_reducible apply KeepsR.ite | split | with_reducible apply Keeps.built

theorem keeps_execSltu {z : State} : ∀ a0 a1 a2 a3 s, Keeps z s → KeepsR z (execSltu a0 a1 a2 a3 s) := by
  intro a0 a1 a2 a3 s h
  unfold execSltu
  try dsimp only
  repeat' first | with_reducible intro _ | with_reducible assumption | with_reducible apply Keeps.ite | with_reducible apply KeepsR.ite | with_reducible apply keeps_runOp | with_reducible apply Keeps.foldl | with_reducible apply Keeps.next | with_reducible apply Keeps.fault | with_reducible apply Keeps.ite | with_reducible apply KeepsR.ite | split | with_reducible apply Keeps.built

theorem keeps_execMin {z : State} : ∀ a0 a1 a2 a3 s, Keeps z s → KeepsR z (execMin a0 a1 a2 a3 s) := by
  intro a0 a1 a2 a3 s h
  unfold execMin
  try dsimp only
  repeat' first | with_reducible intro _ | with_reducible assumption | with_reducible apply Keeps.ite | with_reducible apply KeepsR.ite | with_reducible apply keeps_runOp | with_reducible apply Keeps.foldl | with_reducible apply Keeps.next | with_reducible apply Keeps.fault | with_reducible apply Keeps.ite | with_reducible apply KeepsR.ite | split | with_reducible apply Keeps.built

theorem keeps_execMax {z : State} : ∀ a0 a1 a2 a3 s, Keeps z s → KeepsR z (execMax a0 a1 a2 a3 s) := by
  intro a0 a1 a2 a3 s h
  unfold execMax
  try dsimp only
  repeat' first | with_reducible intro _ | with_reducible assumption | with_reducible apply Keeps.ite | with_reducible apply KeepsR.ite | with_reducible apply keeps_runOp | with_reducible apply Keeps.foldl | with_reducible apply Keeps.next | with_reducible apply Keeps.fault | with_reducible apply Keeps.ite | with_reducible apply KeepsR.ite | split | with_reducible apply Keeps.built

theorem keeps_execMinu {z : State} : ∀ a0 a1 a2 a3 s, Keeps z s → KeepsR z (execMinu a0 a1 a2 a3 s) := by
  intro a0 a1 a2 a3 s h
  unfold execMinu
  try dsimp only
  repeat' first | with_reducible intro _ | with_reducible assumption | with_reducible apply Keeps.ite | with_reducible apply KeepsR.ite | with_reducible apply keeps_runOp | with_reducible apply Keeps.foldl | with_reducible apply Keeps.next | with_reducible apply Keeps.fault | with_reducible apply Keeps.ite | with_reducible apply KeepsR.ite | split | with_reducible apply Keeps.built

theorem keeps_execMaxu {z : State} : ∀ a0 a1 a2 a3 s, Keeps z s → KeepsR z (execMaxu a0 a1 a2 a3 s) := by
  intro a0 a1 a2 a3 s h
  unfold execMaxu
  try dsimp only
  repeat' first | with_reducible intro _ | with_reducible assumption | with_reducible apply Keeps.ite | with_reducible apply KeepsR.ite | with_reducible apply keeps_runOp | with_reducible apply Keeps.foldl | with_reducible apply Keeps.next | with_reducible apply Keeps.fault | with_reducible apply Keeps.ite | with_reducible apply KeepsR.ite | split | with_reducible apply Keeps.built

theorem keeps_execClz {z : State} : ∀ a0 a1 a2 a3 s, Keeps z s → KeepsR z (execClz a0 a1 a2 a3 s) := by
  intro a0 a1 a2 a3 s h
  unfold execClz
  try dsimp only
  repeat' first | with_reducible intro _ | with_reducible assumption | with_reducible apply Keeps.ite | with_reducible apply KeepsR.ite | with_reducible apply keeps_runOp | with_reducible apply Keeps.foldl | with_reducible apply Keeps.next | with_reducible apply Keeps.fault | with_reducible apply Keeps.ite | with_reducible apply KeepsR.ite | split | with_reducible apply Keeps.built

theorem keeps_execPopc {z : State} : ∀ a0 a1 a2 a3 s, Keeps z s → KeepsR z (execPopc a0 a1 a2 a3 s) := by
  intro a0 a1 a2 a3 s h
  unfold execPopc
  try dsimp only
  repeat' first | with_reducible intro _ | with_reducible assumption | with_reducible apply Keeps.ite | with_reducible apply KeepsR.ite | with_reducible apply keeps_runOp | with_reducible apply Keeps.foldl | with_reducible apply Keeps.next | with_reducible apply Keeps.fault | with_reducible apply Keeps.ite | with_reducible apply KeepsR.ite | split | with_reducible apply Keeps.built

theorem keeps_execMul {z : State} : ∀ a0 a1 a2 a3 s, Keeps z s → KeepsR z (execMul a0 a1 a2 a3 s) := by
  intro a0 a1 a2 a3 s h
  unfold execMul
  try dsimp only
  repeat' first | with_reducible intro _ | with_reducible assumption | with_reducible apply Keeps.ite | with_reducible apply KeepsR.ite | with_reducible apply keeps_runOp | with_reducible apply Keeps.foldl | with_reducible apply Keeps.next | with_reducible apply Keeps.fault | with_reducible apply Keeps.ite | with_reducible apply KeepsR.ite | split | with_reducible apply Keeps.built

theorem keeps_execMulh {z : State} : ∀ a0 a1 a2 a3 s, Keeps z s → KeepsR z (execMulh a0 a1 a2 a3 s) := by
  intro a0 a1 a2 a3 s h
  unfold execMulh
  try dsimp only
  repeat' first | with_reducible intro _ | with_reducible assumption | with_reducible apply Keeps.ite | with_reducible apply KeepsR.ite | with_reducible apply keeps_runOp | with_reducible apply Keeps.foldl | with_reducible apply Keeps.next | with_reducible apply Keeps.fault | with_reducible apply Keeps.ite | with_reducible apply KeepsR.ite | split | with_reducible apply Keeps.built

theorem keeps_execMulhu {z : State} : ∀ a0 a1 a2 a3 s, Keeps z s → KeepsR z (execMulhu a0 a1 a2 a3 s) := by
  intro a0 a1 a2 a3 s h
  unfold execMulhu
  try dsimp only
  repeat' first | with_reducible intro _ | with_reducible assumption | with_reducible apply Keeps.ite | with_reducible apply KeepsR.ite | with_reducible apply keeps_runOp | with_reducible apply Keeps.foldl | with_reducible apply Keeps.next | with_reducible apply Keeps.fault | with_reducible apply Keeps.ite | with_reducible apply KeepsR.ite | split | with_reducible apply Keeps.built

theorem keeps_execDiv {z : State} : ∀ a0 a1 a2 a3 s, Keeps z s → KeepsR z (execDiv a0 a1 a2 a3 s) := by
  intro a0 a1 a2 a3 s h
  unfold execDiv
  try dsimp only
  repeat' first | with_reducible intro _ | with_reducible assumption | with_reducible apply Keeps.ite | with_reducible apply KeepsR.ite | with_reducible apply keeps_runOp | with_reducible apply Keeps.foldl | with_reducible apply Keeps.next | with_reducible apply Keeps.fault | with_reducible apply Keeps.ite | with_reducible apply KeepsR.ite | split | with_reducible apply Keeps.built

theorem keeps_execDivu {z : State} : ∀ a0 a1 a2 a3 s, Keeps z s → KeepsR z (execDivu a0 a1 a2 a3 s) := by
  intro a0 a1 a2 a3 s h
  unfold execDivu
  try dsimp only
  repeat' first | with_reducible intro _ | with_reducible assumption | with_reducible apply Keeps.ite | with_reducible apply KeepsR.ite | with_reducible apply keeps_runOp | with_reducible apply Keeps.foldl | with_reducible apply Keeps.next | with_reducible apply Keeps.fault | with_reducible apply Keeps.ite | with_reducible apply KeepsR.ite | split | with_reducible apply Keeps.built

theorem keeps_execRem {z : State} : ∀ a0 a1 a2 a3 s, Keeps z s → KeepsR z (execRem a0 a1 a2 a3 s) := by
  intro a0 a1 a2 a3 s h
  unfold execRem
  try dsimp only
  repeat' first | with_reducible intro _ | with_reducible assumption | with_reducible apply Keeps.ite | with_reducible apply KeepsR.ite | with_reducible apply keeps_runOp | with_reducible apply Keeps.foldl | with_reducible apply Keeps.next | with_reducible apply Keeps.fault | with_reducible apply Keeps.ite | with_reducible apply KeepsR.ite | split | with_reducible apply Keeps.built

theorem keeps_execRemu {z : State} : ∀ a0 a1 a2 a3 s, Keeps z s → KeepsR z (execRemu a0 a1 a2 a3 s) := by
  intro a0 a1 a2 a3 s h
  unfold execRemu
  try dsimp only
  repeat' first | with_reducible intro _ | with_reducible assumption | with_reducible apply Keeps.ite | with_reducible apply KeepsR.ite | with_reducible apply keeps_runOp | with_reducible apply Keeps.foldl | with_reducible apply Keeps.next | with_reducible apply Keeps.fault | with_reducible apply Keeps.ite | with_reducible apply KeepsR.ite | split | with_reducible apply Keeps.built

theorem keeps_execAddi {z : State} : ∀ a0 a1 a2 a3 s, Keeps z s → KeepsR z (execAddi a0 a1 a2 a3 s) := by
  intro a0 a1 a2 a3 s h
  unfold execAddi
  try dsimp only
  repeat' first | with_reducible intro _ | with_reducible assumption | with_reducible apply Keeps.ite | with_reducible apply KeepsR.ite | with_reducible apply keeps_runOp | with_reducible apply Keeps.foldl | with_reducible apply Keeps.next | with_reducible apply Keeps.fault | with_reducible apply Keeps.ite | with_reducible apply KeepsR.ite | split | with_reducible apply Keeps.built

theorem keeps_execAndi {z : State} : ∀ a0 a1 a2 a3 s, Keeps z s → KeepsR z (execAndi a0 a1 a2 a3 s) := by
  intro a0 a1 a2 a3 s h
  unfold execAndi
  try dsimp only
  repeat' first | with_reducible intro _ | with_reducible assumption | with_reducible apply Keeps.ite | with_reducible apply KeepsR.ite | with_reducible apply keeps_runOp | with_reducible apply Keeps.foldl | with_reducible apply Keeps.next | with_reducible apply Keeps.fault | with_reducible apply Keeps.ite | with_reducible apply KeepsR.ite | split | with_reducible apply Keeps.built

theorem keeps_execOri {z : State} : ∀ a0 a1 a2 a3 s, Keeps z s → KeepsR z (execOri a0 a1 a2 a3 s) := by
  intro a0 a1 a2 a3 s h
  unfold execOri
  try dsimp only
  repeat' first | with_reducible intro _ | with_reducible assumption | with_reducible apply Keeps.ite | with_reducible apply KeepsR.ite | with_reducible apply keeps_runOp | with_reducible apply Keeps.foldl | with_reducible apply Keeps.next | with_reducible apply Keeps.fault | with_reducible apply Keeps.ite | with_reducible apply KeepsR.ite | split | with_reducible apply Keeps.built

theorem keeps_execXori {z : State} : ∀ a0 a1 a2 a3 s, Keeps z s → KeepsR z (execXori a0 a1 a2 a3 s) := by
  intro a0 a1 a2 a3 s h
  unfold execXori
  try dsimp only
  repeat' first | with_reducible intro _ | with_reducible assumption | with_reducible apply Keeps.ite | with_reducible apply KeepsR.ite | with_reducible apply keeps_runOp | with_reducible apply Keeps.foldl | with_reducible apply Keeps.next | with_reducible apply Keeps.fault | with_reducible apply Keeps.ite | with_reducible apply KeepsR.ite | split | with_reducible apply Keeps.built

theorem keeps_execSlti {z : State} : ∀ a0 a1 a2 a3 s, Keeps z s → KeepsR z (execSlti a0 a1 a2 a3 s) := by
  intro a0 a1 a2 a3 s h
  unfold execSlti
  try dsimp only
  repeat' first | with_reducible intro _ | with_reducible assumption | with_reducible apply Keeps.ite | with_reducible apply KeepsR.ite | with_reducible apply keeps_runOp | with_reducible apply Keeps.foldl | with_reducible apply Keeps.next | with_reducible apply Keeps.fault | with_reducible apply Keeps.ite | with_reducible apply KeepsR.ite | split | with_reducible apply Keeps.built

theorem keeps_execSltiu {z : State} : ∀ a0 a1 a2 a3 s, Keeps z s → KeepsR z (execSltiu a0 a1 a2 a3 s) := by
  intro a0 a1 a2 a3 s h
  unfold execSltiu
  try dsimp only
  repeat' first | with_reducible intro _ | with_reducible assumption | with_reducible apply Keeps.ite | with_reducible apply KeepsR.ite | with_reducible apply keeps_runOp | with_reducible apply Keeps.foldl | with_reducible apply Keeps.next | with_reducible apply Keeps.fault | with_reducible apply Keeps.ite | with_reducible apply KeepsR.ite | split | with_reducible apply Keeps.built

theorem keeps_execShi {z : State} : ∀ a0 a1 a2 a3 s, Keeps z s → KeepsR z (execShi a0 a1 a2 a3 s) := by
  intro a0 a1 a2 a3 s h
  unfold execShi
  try dsimp only
  repeat' first | with_reducible intro _ | with_reducible assumption | with_reducible apply Keeps.ite | with_reducible apply KeepsR.ite | with_reducible apply keeps_runOp | with_reducible apply Keeps.foldl | with_reducible apply Keeps.next | with_reducible apply Keeps.fault | with_reducible apply Keeps.ite | with_reducible apply KeepsR.ite | split | with_reducible apply Keeps.built

theorem keeps_execLui {z : State} : ∀ a0 a1 a2 s, Keeps z s → KeepsR z (execLui a0 a1 a2 s) := by
  intro a0 a1 a2 s h
  unfold execLui
  try dsimp only
  repeat' first | with_reducible intro _ | with_reducible assumption | with_reducible apply Keeps.ite | with_reducible apply KeepsR.ite | with_reducible apply keeps_runOp | with_reducible apply Keeps.foldl | with_reducible apply Keeps.next | with_reducible apply Keeps.fault | with_reducible apply Keeps.ite | with_reducible apply KeepsR.ite | split | with_reducible apply Keeps.built

theorem keeps_execLdnW {z : State} : ∀ a0 a1 a2 a3 s, Keeps z s → KeepsR z (execLdnW a0 a1 a2 a3 s) := by
  intro a0 a1 a2 a3 s h
  unfold execLdnW
  try dsimp only
  repeat' first | with_reducible intro _ | with_reducible assumption | with_reducible apply Keeps.ite | with_reducible apply KeepsR.ite | with_reducible apply keeps_runOp | with_reducible apply Keeps.foldl | with_reducible apply Keeps.next | with_reducible apply Keeps.fault | with_reducible apply Keeps.ite | with_reducible apply KeepsR.ite | split | with_reducible apply Keeps.built

theorem keeps_execLdnH {z : State} : ∀ a0 a1 a2 a3 s, Keeps z s → KeepsR z (execLdnH a0 a1 a2 a3 s) := by
  intro a0 a1 a2 a3 s h
  unfold execLdnH
  try dsimp only
  repeat' first | with_reducible intro _ | with_reducible assumption | with_reducible apply Keeps.ite | with_reducible apply KeepsR.ite | with_reducible apply keeps_runOp | with_reducible apply Keeps.foldl | with_reducible apply Keeps.next | with_reducible apply Keeps.fault | with_reducible apply Keeps.ite | with_reducible apply KeepsR.ite | split | with_reducible apply Keeps.built

theorem keeps_execLdnHu {z : State} : ∀ a0 a1 a2 a3 s, Keeps z s → KeepsR z (execLdnHu a0 a1 a2 a3 s) := by
  intro a0 a1 a2 a3 s h
  unfold execLdnHu
  try dsimp only
  repeat' first | with_reducible intro _ | with_reducible assumption | with_reducible apply Keeps.ite | with_reducible apply KeepsR.ite | with_reducible apply keeps_runOp | with_reducible apply Keeps.foldl | with_reducible apply Keeps.next | with_reducible apply Keeps.fault | with_reducible apply Keeps.ite | with_reducible apply KeepsR.ite | split | with_reducible apply Keeps.built

theorem keeps_execLdnB {z : State} : ∀ a0 a1 a2 a3 s, Keeps z s → KeepsR z (execLdnB a0 a1 a2 a3 s) := by
  intro a0 a1 a2 a3 s h
  unfold execLdnB
  try dsimp only
  repeat' first | with_reducible intro _ | with_reducible assumption | with_reducible apply Keeps.ite | with_reducible apply KeepsR.ite | with_reducible apply keeps_runOp | with_reducible apply Keeps.foldl | with_reducible apply Keeps.next | with_reducible apply Keeps.fault | with_reducible apply Keeps.ite | with_reducible apply KeepsR.ite | split | with_reducible apply Keeps.built

theorem keeps_execLdnBu {z : State} : ∀ a0 a1 a2 a3 s, Keeps z s → KeepsR z (execLdnBu a0 a1 a2 a3 s) := by
  intro a0 a1 a2 a3 s h
  unfold execLdnBu
  try dsimp only
  repeat' first | with_reducible intro _ | with_reducible assumption | with_reducible apply Keeps.ite | with_reducible apply KeepsR.ite | with_reducible apply keeps_runOp | with_reducible apply Keeps.foldl | with_reducible apply Keeps.next | with_reducible apply Keeps.fault | with_reducible apply Keeps.ite | with_reducible apply KeepsR.ite | split | with_reducible apply Keeps.built

theorem keeps_execLdtW {z : State} : ∀ a0 a1 a2 a3 s, Keeps z s → KeepsR z (execLdtW a0 a1 a2 a3 s) := by
  intro a0 a1 a2 a3 s h
  unfold execLdtW
  try dsimp only
  repeat' first | with_reducible intro _ | with_reducible assumption | with_reducible apply Keeps.ite | with_reducible apply KeepsR.ite | with_reducible apply keeps_runOp | with_reducible apply Keeps.foldl | with_reducible apply Keeps.next | with_reducible apply Keeps.fault | with_reducible apply Keeps.ite | with_reducible apply KeepsR.ite | split | with_reducible apply Keeps.built

theorem keeps_execLdgW {z : State} : ∀ a0 a1 a2 a3 s, Keeps z s → KeepsR z (execLdgW a0 a1 a2 a3 s) := by
  intro a0 a1 a2 a3 s h
  unfold execLdgW
  try dsimp only
  repeat' first | with_reducible intro _ | with_reducible assumption | with_reducible apply Keeps.ite | with_reducible apply KeepsR.ite | with_reducible apply keeps_runOp | with_reducible apply Keeps.foldl | with_reducible apply Keeps.next | with_reducible apply Keeps.fault | with_reducible apply Keeps.ite | with_reducible apply KeepsR.ite | split | with_reducible apply Keeps.built

theorem keeps_execStnW {z : State} : ∀ a0 a1 a2 a3 s, Keeps z s → KeepsR z (execStnW a0 a1 a2 a3 s) := by
  intro a0 a1 a2 a3 s h
  unfold execStnW
  try dsimp only
  repeat' first | with_reducible intro _ | with_reducible assumption | with_reducible apply Keeps.ite | with_reducible apply KeepsR.ite | with_reducible apply keeps_runOp | with_reducible apply Keeps.foldl | with_reducible apply Keeps.next | with_reducible apply Keeps.fault | with_reducible apply Keeps.ite | with_reducible apply KeepsR.ite | split | with_reducible apply Keeps.built

theorem keeps_execStnH {z : State} : ∀ a0 a1 a2 a3 s, Keeps z s → KeepsR z (execStnH a0 a1 a2 a3 s) := by
  intro a0 a1 a2 a3 s h
  unfold execStnH
  try dsimp only
  repeat' first | with_reducible intro _ | with_reducible assumption | with_reducible apply Keeps.ite | with_reducible apply KeepsR.ite | with_reducible apply keeps_runOp | with_reducible apply Keeps.foldl | with_reducible apply Keeps.next | with_reducible apply Keeps.fault | with_reducible apply Keeps.ite | with_reducible apply KeepsR.ite | split | with_reducible apply Keeps.built

theorem keeps_execStnB {z : State} : ∀ a0 a1 a2 a3 s, Keeps z s → KeepsR z (execStnB a0 a1 a2 a3 s) := by
  intro a0 a1 a2 a3 s h
  unfold execStnB
  try dsimp only
  repeat' first | with_reducible intro _ | with_reducible assumption | with_reducible apply Keeps.ite | with_reducible apply KeepsR.ite | with_reducible apply keeps_runOp | with_reducible apply Keeps.foldl | with_reducible apply Keeps.next | with_reducible apply Keeps.fault | with_reducible apply Keeps.ite | with_reducible apply KeepsR.ite | split | with_reducible apply Keeps.built

theorem keeps_execSttW {z : State} : ∀ a0 a1 a2 a3 s, Keeps z s → KeepsR z (execSttW a0 a1 a2 a3 s) := by
  intro a0 a1 a2 a3 s h
  unfold execSttW
  try dsimp only
  repeat' first | with_reducible intro _ | with_reducible assumption | with_reducible apply Keeps.ite | with_reducible apply KeepsR.ite | with_reducible apply keeps_runOp | with_reducible apply Keeps.foldl | with_reducible apply Keeps.next | with_reducible apply Keeps.fault | with_reducible apply Keeps.ite | with_reducible apply KeepsR.ite | split | with_reducible apply Keeps.built

theorem keeps_execStgW {z : State} : ∀ a0 a1 a2 a3 s, Keeps z s → KeepsR z (execStgW a0 a1 a2 a3 s) := by
  intro a0 a1 a2 a3 s h
  unfold execStgW
  try dsimp only
  repeat' first | with_reducible intro _ | with_reducible assumption | with_reducible apply Keeps.ite | with_reducible apply KeepsR.ite | with_reducible apply keeps_runOp | with_reducible apply Keeps.foldl | with_reducible apply Keeps.next | with_reducible apply Keeps.fault | with_reducible apply Keeps.ite | with_reducible apply KeepsR.ite | split | with_reducible apply Keeps.built

theorem keeps_execBeq {z : State} : ∀ a0 a1 a2 a3 s, Keeps z s → KeepsR z (execBeq a0 a1 a2 a3 s) := by
  intro a0 a1 a2 a3 s h
  unfold execBeq
  try dsimp only
  repeat' first | with_reducible intro _ | with_reducible assumption | with_reducible apply Keeps.ite | with_reducible apply KeepsR.ite | with_reducible apply keeps_runOp | with_reducible apply Keeps.foldl | with_reducible apply Keeps.next | with_reducible apply Keeps.fault | with_reducible apply Keeps.ite | with_reducible apply KeepsR.ite | split | with_reducible apply Keeps.built

theorem keeps_execBne {z : State} : ∀ a0 a1 a2 a3 s, Keeps z s → KeepsR z (execBne a0 a1 a2 a3 s) := by
  intro a0 a1 a2 a3 s h
  unfold execBne
  try dsimp only
  repeat' first | with_reducible intro _ | with_reducible assumption | with_reducible apply Keeps.ite | with_reducible apply KeepsR.ite | with_reducible apply keeps_runOp | with_reducible apply Keeps.foldl | with_reducible apply Keeps.next | with_reducible apply Keeps.fault | with_reducible apply Keeps.ite | with_reducible apply KeepsR.ite | split | with_reducible apply Keeps.built

theorem keeps_execBlt {z : State} : ∀ a0 a1 a2 a3 s, Keeps z s → KeepsR z (execBlt a0 a1 a2 a3 s) := by
  intro a0 a1 a2 a3 s h
  unfold execBlt
  try dsimp only
  repeat' first | with_reducible intro _ | with_reducible assumption | with_reducible apply Keeps.ite | with_reducible apply KeepsR.ite | with_reducible apply keeps_runOp | with_reducible apply Keeps.foldl | with_reducible apply Keeps.next | with_reducible apply Keeps.fault | with_reducible apply Keeps.ite | with_reducible apply KeepsR.ite | split | with_reducible apply Keeps.built

theorem keeps_execBge {z : State} : ∀ a0 a1 a2 a3 s, Keeps z s → KeepsR z (execBge a0 a1 a2 a3 s) := by
  intro a0 a1 a2 a3 s h
  unfold execBge
  try dsimp only
  repeat' first | with_reducible intro _ | with_reducible assumption | with_reducible apply Keeps.ite | with_reducible apply KeepsR.ite | with_reducible apply keeps_runOp | with_reducible apply Keeps.foldl | with_reducible apply Keeps.next | with_reducible apply Keeps.fault | with_reducible apply Keeps.ite | with_reducible apply KeepsR.ite | split | with_reducible apply Keeps.built

theorem keeps_execBltu {z : State} : ∀ a0 a1 a2 a3 s, Keeps z s → KeepsR z (execBltu a0 a1 a2 a3 s) := by
  intro a0 a1 a2 a3 s h
  unfold execBltu
  try dsimp only
  repeat' first | with_reducible intro _ | with_reducible assumption | with_reducible apply Keeps.ite | with_reducible apply KeepsR.ite | with_reducible apply keeps_runOp | with_reducible apply Keeps.foldl | with_reducible apply Keeps.next | with_reducible apply Keeps.fault | with_reducible apply Keeps.ite | with_reducible apply KeepsR.ite | split | with_reducible apply Keeps.built

theorem keeps_execBgeu {z : State} : ∀ a0 a1 a2 a3 s, Keeps z s → KeepsR z (execBgeu a0 a1 a2 a3 s) := by
  intro a0 a1 a2 a3 s h
  unfold execBgeu
  try dsimp only
  repeat' first | with_reducible intro _ | with_reducible assumption | with_reducible apply Keeps.ite | with_reducible apply KeepsR.ite | with_reducible apply keeps_runOp | with_reducible apply Keeps.foldl | with_reducible apply Keeps.next | with_reducible apply Keeps.fault | with_reducible apply Keeps.ite | with_reducible apply KeepsR.ite | split | with_reducible apply Keeps.built

theorem keeps_execJ {z : State} : ∀ a0 a1 s, Keeps z s → KeepsR z (execJ a0 a1 s) := by
  intro a0 a1 s h
  unfold execJ
  try dsimp only
  repeat' first | with_reducible intro _ | with_reducible assumption | with_reducible apply Keeps.ite | with_reducible apply KeepsR.ite | with_reducible apply keeps_runOp | with_reducible apply Keeps.foldl | with_reducible apply Keeps.next | with_reducible apply Keeps.fault | with_reducible apply Keeps.ite | with_reducible apply KeepsR.ite | split | with_reducible apply Keeps.built

theorem keeps_execJal {z : State} : ∀ a0 a1 s, Keeps z s → KeepsR z (execJal a0 a1 s) := by
  intro a0 a1 s h
  unfold execJal
  try dsimp only
  repeat' first | with_reducible intro _ | with_reducible assumption | with_reducible apply Keeps.ite | with_reducible apply KeepsR.ite | with_reducible apply keeps_runOp | with_reducible apply Keeps.foldl | with_reducible apply Keeps.next | with_reducible apply Keeps.fault | with_reducible apply Keeps.ite | with_reducible apply KeepsR.ite | split | with_reducible apply Keeps.built

theorem keeps_execJalr {z : State} : ∀ a0 a1 a2 a3 s, Keeps z s → KeepsR z (execJalr a0 a1 a2 a3 s) := by
  intro a0 a1 a2 a3 s h
  unfold execJalr
  try dsimp only
  repeat' first | with_reducible intro _ | with_reducible assumption | with_reducible apply Keeps.ite | with_reducible apply KeepsR.ite | with_reducible apply keeps_runOp | with_reducible apply Keeps.foldl | with_reducible apply Keeps.next | with_reducible apply Keeps.fault | with_reducible apply Keeps.ite | with_reducible apply KeepsR.ite | split | with_reducible apply Keeps.built

theorem keeps_execWide {z : State} : ∀ a0 a1 s, Keeps z s → KeepsR z (execWide a0 a1 s) := by
  intro a0 a1 s h
  unfold execWide
  try dsimp only
  repeat' first | with_reducible intro _ | with_reducible assumption | with_reducible apply Keeps.ite | with_reducible apply KeepsR.ite | with_reducible apply keeps_runOp | with_reducible apply Keeps.foldl | with_reducible apply Keeps.next | with_reducible apply Keeps.fault | with_reducible apply Keeps.ite | with_reducible apply KeepsR.ite | split | with_reducible apply Keeps.built

theorem keeps_execMfs {z : State} : ∀ a0 a1 a2 s, Keeps z s → KeepsR z (execMfs a0 a1 a2 s) := by
  intro a0 a1 a2 s h
  unfold execMfs
  try dsimp only
  repeat' first | with_reducible intro _ | with_reducible assumption | with_reducible apply Keeps.ite | with_reducible apply KeepsR.ite | with_reducible apply keeps_runOp | with_reducible apply Keeps.foldl | with_reducible apply Keeps.next | with_reducible apply Keeps.fault | with_reducible apply Keeps.ite | with_reducible apply KeepsR.ite | split | with_reducible apply Keeps.built

theorem keeps_execMts {z : State} : ∀ a0 a1 a2 s, Keeps z s → KeepsR z (execMts a0 a1 a2 s) := by
  intro a0 a1 a2 s h
  unfold execMts
  try dsimp only
  repeat' first | with_reducible intro _ | with_reducible assumption | with_reducible apply Keeps.ite | with_reducible apply KeepsR.ite | with_reducible apply keeps_runOp | with_reducible apply Keeps.foldl | with_reducible apply Keeps.next | with_reducible apply Keeps.fault | with_reducible apply Keeps.ite | with_reducible apply KeepsR.ite | split | with_reducible apply Keeps.built

theorem keeps_execTrap {z : State} : ∀ a0 a1 s, Keeps z s → KeepsR z (execTrap a0 a1 s) := by
  intro a0 a1 s h
  unfold execTrap
  try dsimp only
  repeat' first | with_reducible intro _ | with_reducible assumption | with_reducible apply Keeps.ite | with_reducible apply KeepsR.ite | with_reducible apply keeps_runOp | with_reducible apply Keeps.foldl | with_reducible apply Keeps.next | with_reducible apply Keeps.fault | with_reducible apply Keeps.ite | with_reducible apply KeepsR.ite | split | with_reducible apply Keeps.built

theorem keeps_execEret {z : State} : ∀ a0 s, Keeps z s → KeepsR z (execEret a0 s) := by
  intro a0 s h
  unfold execEret
  try dsimp only
  repeat' first | with_reducible intro _ | with_reducible assumption | with_reducible apply Keeps.ite | with_reducible apply KeepsR.ite | with_reducible apply keeps_runOp | with_reducible apply Keeps.foldl | with_reducible apply Keeps.next | with_reducible apply Keeps.fault | with_reducible apply Keeps.ite | with_reducible apply KeepsR.ite | split | with_reducible apply Keeps.built

theorem keeps_execHalt {z : State} : ∀ a0 s, Keeps z s → KeepsR z (execHalt a0 s) := by
  intro a0 s h
  unfold execHalt
  try dsimp only
  repeat' first | with_reducible intro _ | with_reducible assumption | with_reducible apply Keeps.ite | with_reducible apply KeepsR.ite | with_reducible apply keeps_runOp | with_reducible apply Keeps.foldl | with_reducible apply Keeps.next | with_reducible apply Keeps.fault | with_reducible apply Keeps.ite | with_reducible apply KeepsR.ite | split | with_reducible apply Keeps.built

theorem keeps_execSfn {z : State} : ∀ a0 a1 a2 s, Keeps z s → KeepsR z (execSfn a0 a1 a2 s) := by
  intro a0 a1 a2 s h
  unfold execSfn
  try dsimp only
  repeat' first | with_reducible intro _ | with_reducible assumption | with_reducible apply Keeps.ite | with_reducible apply KeepsR.ite | with_reducible apply keeps_runSf | with_reducible apply Keeps.foldl | with_reducible apply Keeps.next | with_reducible apply Keeps.fault | with_reducible apply Keeps.ite | with_reducible apply KeepsR.ite | split | with_reducible apply Keeps.built

theorem keeps_execSfnb {z : State} : ∀ a0 a1 a2 s, Keeps z s → KeepsR z (execSfnb a0 a1 a2 s) := by
  intro a0 a1 a2 s h
  unfold execSfnb
  try dsimp only
  repeat' first | with_reducible intro _ | with_reducible assumption | with_reducible apply Keeps.ite | with_reducible apply KeepsR.ite | with_reducible apply keeps_runSf | with_reducible apply Keeps.foldl | with_reducible apply Keeps.next | with_reducible apply Keeps.fault | with_reducible apply Keeps.ite | with_reducible apply KeepsR.ite | split | with_reducible apply Keeps.built

theorem keeps_execSfnbs {z : State} : ∀ a0 a1 a2 s, Keeps z s → KeepsR z (execSfnbs a0 a1 a2 s) := by
  intro a0 a1 a2 s h
  unfold execSfnbs
  try dsimp only
  repeat' first | with_reducible intro _ | with_reducible assumption | with_reducible apply Keeps.ite | with_reducible apply KeepsR.ite | with_reducible apply keeps_runSf | with_reducible apply Keeps.foldl | with_reducible apply Keeps.next | with_reducible apply Keeps.fault | with_reducible apply Keeps.ite | with_reducible apply KeepsR.ite | split | with_reducible apply Keeps.built

theorem keeps_execSder {z : State} : ∀ a0 a1 a2 s, Keeps z s → KeepsR z (execSder a0 a1 a2 s) := by
  intro a0 a1 a2 s h
  unfold execSder
  try dsimp only
  repeat' first | with_reducible intro _ | with_reducible assumption | with_reducible apply Keeps.ite | with_reducible apply KeepsR.ite | with_reducible apply keeps_runSf | with_reducible apply Keeps.foldl | with_reducible apply Keeps.next | with_reducible apply Keeps.fault | with_reducible apply Keeps.ite | with_reducible apply KeepsR.ite | split | with_reducible apply Keeps.built

theorem keeps_execSnormTable {z : State} : ∀ a0 a1 s, Keeps z s → KeepsR z (execSnormTable a0 a1 s) := by
  intro a0 a1 s h
  unfold execSnormTable
  try dsimp only
  repeat' first | with_reducible intro _ | with_reducible assumption | with_reducible apply Keeps.ite | with_reducible apply KeepsR.ite | with_reducible apply keeps_runSf | with_reducible apply Keeps.foldl | with_reducible apply Keeps.next | with_reducible apply Keeps.fault | with_reducible apply Keeps.ite | with_reducible apply KeepsR.ite | split | with_reducible apply Keeps.built

theorem keeps_execSnormBoxMuller {z : State} : ∀ a0 a1 a2 s, Keeps z s → KeepsR z (execSnormBoxMuller a0 a1 a2 s) := by
  intro a0 a1 a2 s h
  unfold execSnormBoxMuller
  try dsimp only
  repeat' first | with_reducible intro _ | with_reducible assumption | with_reducible apply Keeps.ite | with_reducible apply KeepsR.ite | with_reducible apply keeps_runSf | with_reducible apply Keeps.foldl | with_reducible apply Keeps.next | with_reducible apply Keeps.fault | with_reducible apply Keeps.ite | with_reducible apply KeepsR.ite | split | with_reducible apply Keeps.built

theorem keeps_execMwait {z : State} : ∀ a0 a1 s, Keeps z s → KeepsR z (execMwait a0 a1 s) := by
  intro a0 a1 s h
  unfold execMwait
  try dsimp only
  repeat' first | with_reducible intro _ | with_reducible assumption | with_reducible apply Keeps.ite | with_reducible apply KeepsR.ite | with_reducible apply keeps_runOp | with_reducible apply Keeps.foldl | with_reducible apply Keeps.next | with_reducible apply Keeps.fault | with_reducible apply Keeps.ite | with_reducible apply KeepsR.ite | split | with_reducible apply Keeps.built

theorem keeps_execFenceLocal {z : State} : ∀ a0 a1 s, Keeps z s → KeepsR z (execFenceLocal a0 a1 s) := by
  intro a0 a1 s h
  unfold execFenceLocal
  try dsimp only
  repeat' first | with_reducible intro _ | with_reducible assumption | with_reducible apply Keeps.ite | with_reducible apply KeepsR.ite | with_reducible apply keeps_runOp | with_reducible apply Keeps.foldl | with_reducible apply Keeps.next | with_reducible apply Keeps.fault | with_reducible apply Keeps.ite | with_reducible apply KeepsR.ite | split | with_reducible apply Keeps.built

theorem keeps_execFenceGlobal {z : State} : ∀ a0 a1 s, Keeps z s → KeepsR z (execFenceGlobal a0 a1 s) := by
  intro a0 a1 s h
  unfold execFenceGlobal
  try dsimp only
  repeat' first | with_reducible intro _ | with_reducible assumption | with_reducible apply Keeps.ite | with_reducible apply KeepsR.ite | with_reducible apply keeps_runOp | with_reducible apply Keeps.foldl | with_reducible apply Keeps.next | with_reducible apply Keeps.fault | with_reducible apply Keeps.ite | with_reducible apply KeepsR.ite | split | with_reducible apply Keeps.built

theorem keeps_execSend {z : State} : ∀ a0 a1 s, Keeps z s → KeepsR z (execSend a0 a1 s) := by
  intro a0 a1 s h
  unfold execSend
  try dsimp only
  repeat' first | with_reducible intro _ | with_reducible assumption | with_reducible apply Keeps.ite | with_reducible apply KeepsR.ite | with_reducible apply keeps_runOp | with_reducible apply Keeps.foldl | with_reducible apply Keeps.next | with_reducible apply Keeps.fault | with_reducible apply Keeps.ite | with_reducible apply KeepsR.ite | split | with_reducible apply Keeps.built

theorem keeps_execRecv {z : State} : ∀ a0 a1 s, Keeps z s → KeepsR z (execRecv a0 a1 s) := by
  intro a0 a1 s h
  unfold execRecv
  try dsimp only
  repeat' first | with_reducible intro _ | with_reducible assumption | with_reducible apply Keeps.ite | with_reducible apply KeepsR.ite | with_reducible apply keeps_runOp | with_reducible apply Keeps.foldl | with_reducible apply Keeps.next | with_reducible apply Keeps.fault | with_reducible apply Keeps.ite | with_reducible apply KeepsR.ite | split | with_reducible apply Keeps.built

theorem keeps_execSemacq {z : State} : ∀ a0 a1 s, Keeps z s → KeepsR z (execSemacq a0 a1 s) := by
  intro a0 a1 s h
  unfold execSemacq
  try dsimp only
  repeat' first | with_reducible intro _ | with_reducible assumption | with_reducible apply Keeps.ite | with_reducible apply KeepsR.ite | with_reducible apply keeps_runOp | with_reducible apply Keeps.foldl | with_reducible apply Keeps.next | with_reducible apply Keeps.fault | with_reducible apply Keeps.ite | with_reducible apply KeepsR.ite | split | with_reducible apply Keeps.built

theorem keeps_execSemrel {z : State} : ∀ a0 a1 s, Keeps z s → KeepsR z (execSemrel a0 a1 s) := by
  intro a0 a1 s h
  unfold execSemrel
  try dsimp only
  repeat' first | with_reducible intro _ | with_reducible assumption | with_reducible apply Keeps.ite | with_reducible apply KeepsR.ite | with_reducible apply keeps_runOp | with_reducible apply Keeps.foldl | with_reducible apply Keeps.next | with_reducible apply Keeps.fault | with_reducible apply Keeps.ite | with_reducible apply KeepsR.ite | split | with_reducible apply Keeps.built

theorem keeps_execWaitarr {z : State} : ∀ a0 a1 s, Keeps z s → KeepsR z (execWaitarr a0 a1 s) := by
  intro a0 a1 s h
  unfold execWaitarr
  try dsimp only
  repeat' first | with_reducible intro _ | with_reducible assumption | with_reducible apply Keeps.ite | with_reducible apply KeepsR.ite | with_reducible apply keeps_runOp | with_reducible apply Keeps.foldl | with_reducible apply Keeps.next | with_reducible apply Keeps.fault | with_reducible apply Keeps.ite | with_reducible apply KeepsR.ite | split | with_reducible apply Keeps.built

theorem keeps_execWaitft {z : State} : ∀ a0 a1 s, Keeps z s → KeepsR z (execWaitft a0 a1 s) := by
  intro a0 a1 s h
  unfold execWaitft
  try dsimp only
  repeat' first | with_reducible intro _ | with_reducible assumption | with_reducible apply Keeps.ite | with_reducible apply KeepsR.ite | with_reducible apply keeps_runOp | with_reducible apply Keeps.foldl | with_reducible apply Keeps.next | with_reducible apply Keeps.fault | with_reducible apply Keeps.ite | with_reducible apply KeepsR.ite | split | with_reducible apply Keeps.built

theorem keeps_execBar {z : State} : ∀ a0 a1 s, Keeps z s → KeepsR z (execBar a0 a1 s) := by
  intro a0 a1 s h
  unfold execBar
  try dsimp only
  repeat' first | with_reducible intro _ | with_reducible assumption | with_reducible apply Keeps.ite | with_reducible apply KeepsR.ite | with_reducible apply keeps_runOp | with_reducible apply Keeps.foldl | with_reducible apply Keeps.next | with_reducible apply Keeps.fault | with_reducible apply Keeps.ite | with_reducible apply KeepsR.ite | split | with_reducible apply Keeps.built

theorem keeps_execVfadd {z : State} : ∀ a0 a1 s, Keeps z s → KeepsR z (execVfadd a0 a1 s) := by
  intro a0 a1 s h
  unfold execVfadd
  try dsimp only
  repeat' first | with_reducible intro _ | with_reducible assumption | with_reducible apply Keeps.ite | with_reducible apply KeepsR.ite | with_reducible apply keeps_runOp | with_reducible apply Keeps.foldl | with_reducible apply Keeps.next | with_reducible apply Keeps.fault | with_reducible apply Keeps.ite | with_reducible apply KeepsR.ite | split | with_reducible apply Keeps.built

theorem keeps_execVfsub {z : State} : ∀ a0 a1 s, Keeps z s → KeepsR z (execVfsub a0 a1 s) := by
  intro a0 a1 s h
  unfold execVfsub
  try dsimp only
  repeat' first | with_reducible intro _ | with_reducible assumption | with_reducible apply Keeps.ite | with_reducible apply KeepsR.ite | with_reducible apply keeps_runOp | with_reducible apply Keeps.foldl | with_reducible apply Keeps.next | with_reducible apply Keeps.fault | with_reducible apply Keeps.ite | with_reducible apply KeepsR.ite | split | with_reducible apply Keeps.built

theorem keeps_execVfmul {z : State} : ∀ a0 a1 s, Keeps z s → KeepsR z (execVfmul a0 a1 s) := by
  intro a0 a1 s h
  unfold execVfmul
  try dsimp only
  repeat' first | with_reducible intro _ | with_reducible assumption | with_reducible apply Keeps.ite | with_reducible apply KeepsR.ite | with_reducible apply keeps_runOp | with_reducible apply Keeps.foldl | with_reducible apply Keeps.next | with_reducible apply Keeps.fault | with_reducible apply Keeps.ite | with_reducible apply KeepsR.ite | split | with_reducible apply Keeps.built

theorem keeps_execVfma {z : State} : ∀ a0 a1 s, Keeps z s → KeepsR z (execVfma a0 a1 s) := by
  intro a0 a1 s h
  unfold execVfma
  try dsimp only
  repeat' first | with_reducible intro _ | with_reducible assumption | with_reducible apply Keeps.ite | with_reducible apply KeepsR.ite | with_reducible apply keeps_runOp | with_reducible apply Keeps.foldl | with_reducible apply Keeps.next | with_reducible apply Keeps.fault | with_reducible apply Keeps.ite | with_reducible apply KeepsR.ite | split | with_reducible apply Keeps.built

theorem keeps_execVfmin {z : State} : ∀ a0 a1 s, Keeps z s → KeepsR z (execVfmin a0 a1 s) := by
  intro a0 a1 s h
  unfold execVfmin
  try dsimp only
  repeat' first | with_reducible intro _ | with_reducible assumption | with_reducible apply Keeps.ite | with_reducible apply KeepsR.ite | with_reducible apply keeps_runOp | with_reducible apply Keeps.foldl | with_reducible apply Keeps.next | with_reducible apply Keeps.fault | with_reducible apply Keeps.ite | with_reducible apply KeepsR.ite | split | with_reducible apply Keeps.built

theorem keeps_execVfmax {z : State} : ∀ a0 a1 s, Keeps z s → KeepsR z (execVfmax a0 a1 s) := by
  intro a0 a1 s h
  unfold execVfmax
  try dsimp only
  repeat' first | with_reducible intro _ | with_reducible assumption | with_reducible apply Keeps.ite | with_reducible apply KeepsR.ite | with_reducible apply keeps_runOp | with_reducible apply Keeps.foldl | with_reducible apply Keeps.next | with_reducible apply Keeps.fault | with_reducible apply Keeps.ite | with_reducible apply KeepsR.ite | split | with_reducible apply Keeps.built

theorem keeps_execVfabs {z : State} : ∀ a0 a1 s, Keeps z s → KeepsR z (execVfabs a0 a1 s) := by
  intro a0 a1 s h
  unfold execVfabs
  try dsimp only
  repeat' first | with_reducible intro _ | with_reducible assumption | with_reducible apply Keeps.ite | with_reducible apply KeepsR.ite | with_reducible apply keeps_runOp | with_reducible apply Keeps.foldl | with_reducible apply Keeps.next | with_reducible apply Keeps.fault | with_reducible apply Keeps.ite | with_reducible apply KeepsR.ite | split | with_reducible apply Keeps.built

theorem keeps_execVfneg {z : State} : ∀ a0 a1 s, Keeps z s → KeepsR z (execVfneg a0 a1 s) := by
  intro a0 a1 s h
  unfold execVfneg
  try dsimp only
  repeat' first | with_reducible intro _ | with_reducible assumption | with_reducible apply Keeps.ite | with_reducible apply KeepsR.ite | with_reducible apply keeps_runOp | with_reducible apply Keeps.foldl | with_reducible apply Keeps.next | with_reducible apply Keeps.fault | with_reducible apply Keeps.ite | with_reducible apply KeepsR.ite | split | with_reducible apply Keeps.built

theorem keeps_execVfcmp {z : State} : ∀ a0 a1 s, Keeps z s → KeepsR z (execVfcmp a0 a1 s) := by
  intro a0 a1 s h
  unfold execVfcmp
  try dsimp only
  repeat' first | with_reducible intro _ | with_reducible assumption | with_reducible apply Keeps.ite | with_reducible apply KeepsR.ite | with_reducible apply keeps_runOp | with_reducible apply Keeps.foldl | with_reducible apply Keeps.next | with_reducible apply Keeps.fault | with_reducible apply Keeps.ite | with_reducible apply KeepsR.ite | split | with_reducible apply Keeps.built

theorem keeps_execVfscale {z : State} : ∀ a0 a1 s, Keeps z s → KeepsR z (execVfscale a0 a1 s) := by
  intro a0 a1 s h
  unfold execVfscale
  try dsimp only
  repeat' first | with_reducible intro _ | with_reducible assumption | with_reducible apply Keeps.ite | with_reducible apply KeepsR.ite | with_reducible apply keeps_runOp | with_reducible apply Keeps.foldl | with_reducible apply Keeps.next | with_reducible apply Keeps.fault | with_reducible apply Keeps.ite | with_reducible apply KeepsR.ite | split | with_reducible apply Keeps.built

theorem keeps_execViadd {z : State} : ∀ a0 a1 s, Keeps z s → KeepsR z (execViadd a0 a1 s) := by
  intro a0 a1 s h
  unfold execViadd
  try dsimp only
  repeat' first | with_reducible intro _ | with_reducible assumption | with_reducible apply Keeps.ite | with_reducible apply KeepsR.ite | with_reducible apply keeps_runOp | with_reducible apply Keeps.foldl | with_reducible apply Keeps.next | with_reducible apply Keeps.fault | with_reducible apply Keeps.ite | with_reducible apply KeepsR.ite | split | with_reducible apply Keeps.built

theorem keeps_execVisub {z : State} : ∀ a0 a1 s, Keeps z s → KeepsR z (execVisub a0 a1 s) := by
  intro a0 a1 s h
  unfold execVisub
  try dsimp only
  repeat' first | with_reducible intro _ | with_reducible assumption | with_reducible apply Keeps.ite | with_reducible apply KeepsR.ite | with_reducible apply keeps_runOp | with_reducible apply Keeps.foldl | with_reducible apply Keeps.next | with_reducible apply Keeps.fault | with_reducible apply Keeps.ite | with_reducible apply KeepsR.ite | split | with_reducible apply Keeps.built

theorem keeps_execVimul {z : State} : ∀ a0 a1 s, Keeps z s → KeepsR z (execVimul a0 a1 s) := by
  intro a0 a1 s h
  unfold execVimul
  try dsimp only
  repeat' first | with_reducible intro _ | with_reducible assumption | with_reducible apply Keeps.ite | with_reducible apply KeepsR.ite | with_reducible apply keeps_runOp | with_reducible apply Keeps.foldl | with_reducible apply Keeps.next | with_reducible apply Keeps.fault | with_reducible apply Keeps.ite | with_reducible apply KeepsR.ite | split | with_reducible apply Keeps.built

theorem keeps_execVand {z : State} : ∀ a0 a1 s, Keeps z s → KeepsR z (execVand a0 a1 s) := by
  intro a0 a1 s h
  unfold execVand
  try dsimp only
  repeat' first | with_reducible intro _ | with_reducible assumption | with_reducible apply Keeps.ite | with_reducible apply KeepsR.ite | with_reducible apply keeps_runOp | with_reducible apply Keeps.foldl | with_reducible apply Keeps.next | with_reducible apply Keeps.fault | with_reducible apply Keeps.ite | with_reducible apply KeepsR.ite | split | with_reducible apply Keeps.built

theorem keeps_execVor {z : State} : ∀ a0 a1 s, Keeps z s → KeepsR z (execVor a0 a1 s) := by
  intro a0 a1 s h
  unfold execVor
  try dsimp only
  repeat' first | with_reducible intro _ | with_reducible assumption | with_reducible apply Keeps.ite | with_reducible apply KeepsR.ite | with_reducible apply keeps_runOp | with_reducible apply Keeps.foldl | with_reducible apply Keeps.next | with_reducible apply Keeps.fault | with_reducible apply Keeps.ite | with_reducible apply KeepsR.ite | split | with_reducible apply Keeps.built

theorem keeps_execVxor {z : State} : ∀ a0 a1 s, Keeps z s → KeepsR z (execVxor a0 a1 s) := by
  intro a0 a1 s h
  unfold execVxor
  try dsimp only
  repeat' first | with_reducible intro _ | with_reducible assumption | with_reducible apply Keeps.ite | with_reducible apply KeepsR.ite | with_reducible apply keeps_runOp | with_reducible apply Keeps.foldl | with_reducible apply Keeps.next | with_reducible apply Keeps.fault | with_reducible apply Keeps.ite | with_reducible apply KeepsR.ite | split | with_reducible apply Keeps.built

theorem keeps_execVshl {z : State} : ∀ a0 a1 s, Keeps z s → KeepsR z (execVshl a0 a1 s) := by
  intro a0 a1 s h
  unfold execVshl
  try dsimp only
  repeat' first | with_reducible intro _ | with_reducible assumption | with_reducible apply Keeps.ite | with_reducible apply KeepsR.ite | with_reducible apply keeps_runOp | with_reducible apply Keeps.foldl | with_reducible apply Keeps.next | with_reducible apply Keeps.fault | with_reducible apply Keeps.ite | with_reducible apply KeepsR.ite | split | with_reducible apply Keeps.built

theorem keeps_execVshr {z : State} : ∀ a0 a1 s, Keeps z s → KeepsR z (execVshr a0 a1 s) := by
  intro a0 a1 s h
  unfold execVshr
  try dsimp only
  repeat' first | with_reducible intro _ | with_reducible assumption | with_reducible apply Keeps.ite | with_reducible apply KeepsR.ite | with_reducible apply keeps_runOp | with_reducible apply Keeps.foldl | with_reducible apply Keeps.next | with_reducible apply Keeps.fault | with_reducible apply Keeps.ite | with_reducible apply KeepsR.ite | split | with_reducible apply Keeps.built

theorem keeps_execVsra {z : State} : ∀ a0 a1 s, Keeps z s → KeepsR z (execVsra a0 a1 s) := by
  intro a0 a1 s h
  unfold execVsra
  try dsimp only
  repeat' first | with_reducible intro _ | with_reducible assumption | with_reducible apply Keeps.ite | with_reducible apply KeepsR.ite | with_reducible apply keeps_runOp | with_reducible apply Keeps.foldl | with_reducible apply Keeps.next | with_reducible apply Keeps.fault | with_reducible apply Keeps.ite | with_reducible apply KeepsR.ite | split | with_reducible apply Keeps.built

theorem keeps_execVimin {z : State} : ∀ a0 a1 s, Keeps z s → KeepsR z (execVimin a0 a1 s) := by
  intro a0 a1 s h
  unfold execVimin
  try dsimp only
  repeat' first | with_reducible intro _ | with_reducible assumption | with_reducible apply Keeps.ite | with_reducible apply KeepsR.ite | with_reducible apply keeps_runOp | with_reducible apply Keeps.foldl | with_reducible apply Keeps.next | with_reducible apply Keeps.fault | with_reducible apply Keeps.ite | with_reducible apply KeepsR.ite | split | with_reducible apply Keeps.built

theorem keeps_execVimax {z : State} : ∀ a0 a1 s, Keeps z s → KeepsR z (execVimax a0 a1 s) := by
  intro a0 a1 s h
  unfold execVimax
  try dsimp only
  repeat' first | with_reducible intro _ | with_reducible assumption | with_reducible apply Keeps.ite | with_reducible apply KeepsR.ite | with_reducible apply keeps_runOp | with_reducible apply Keeps.foldl | with_reducible apply Keeps.next | with_reducible apply Keeps.fault | with_reducible apply Keeps.ite | with_reducible apply KeepsR.ite | split | with_reducible apply Keeps.built

theorem keeps_execVicmp {z : State} : ∀ a0 a1 s, Keeps z s → KeepsR z (execVicmp a0 a1 s) := by
  intro a0 a1 s h
  unfold execVicmp
  try dsimp only
  repeat' first | with_reducible intro _ | with_reducible assumption | with_reducible apply Keeps.ite | with_reducible apply KeepsR.ite | with_reducible apply keeps_runOp | with_reducible apply Keeps.foldl | with_reducible apply Keeps.next | with_reducible apply Keeps.fault | with_reducible apply Keeps.ite | with_reducible apply KeepsR.ite | split | with_reducible apply Keeps.built

theorem keeps_execVsel {z : State} : ∀ a0 a1 s, Keeps z s → KeepsR z (execVsel a0 a1 s) := by
  intro a0 a1 s h
  unfold execVsel
  try dsimp only
  repeat' first | with_reducible intro _ | with_reducible assumption | with_reducible apply Keeps.ite | with_reducible apply KeepsR.ite | with_reducible apply keeps_runOp | with_reducible apply Keeps.foldl | with_reducible apply Keeps.next | with_reducible apply Keeps.fault | with_reducible apply Keeps.ite | with_reducible apply KeepsR.ite | split | with_reducible apply Keeps.built

theorem keeps_execVbcs {z : State} : ∀ a0 a1 s, Keeps z s → KeepsR z (execVbcs a0 a1 s) := by
  intro a0 a1 s h
  unfold execVbcs
  try dsimp only
  repeat' first | with_reducible intro _ | with_reducible assumption | with_reducible apply Keeps.ite | with_reducible apply KeepsR.ite | with_reducible apply keeps_runOp | with_reducible apply Keeps.foldl | with_reducible apply Keeps.next | with_reducible apply Keeps.fault | with_reducible apply Keeps.ite | with_reducible apply KeepsR.ite | split | with_reducible apply Keeps.built

theorem keeps_execVbci {z : State} : ∀ a0 a1 s, Keeps z s → KeepsR z (execVbci a0 a1 s) := by
  intro a0 a1 s h
  unfold execVbci
  try dsimp only
  repeat' first | with_reducible intro _ | with_reducible assumption | with_reducible apply Keeps.ite | with_reducible apply KeepsR.ite | with_reducible apply keeps_runOp | with_reducible apply Keeps.foldl | with_reducible apply Keeps.next | with_reducible apply Keeps.fault | with_reducible apply Keeps.ite | with_reducible apply KeepsR.ite | split | with_reducible apply Keeps.built

theorem keeps_execVperm {z : State} : ∀ a0 a1 s, Keeps z s → KeepsR z (execVperm a0 a1 s) := by
  intro a0 a1 s h
  unfold execVperm
  try dsimp only
  repeat' first | with_reducible intro _ | with_reducible assumption | with_reducible apply Keeps.ite | with_reducible apply KeepsR.ite | with_reducible apply keeps_runOp | with_reducible apply Keeps.foldl | with_reducible apply Keeps.next | with_reducible apply Keeps.fault | with_reducible apply Keeps.ite | with_reducible apply KeepsR.ite | split | with_reducible apply Keeps.built

theorem keeps_execVrot {z : State} : ∀ a0 a1 s, Keeps z s → KeepsR z (execVrot a0 a1 s) := by
  intro a0 a1 s h
  unfold execVrot
  try dsimp only
  repeat' first | with_reducible intro _ | with_reducible assumption | with_reducible apply Keeps.ite | with_reducible apply KeepsR.ite | with_reducible apply keeps_runOp | with_reducible apply Keeps.foldl | with_reducible apply Keeps.next | with_reducible apply Keeps.fault | with_reducible apply Keeps.ite | with_reducible apply KeepsR.ite | split | with_reducible apply Keeps.built

theorem keeps_execVext {z : State} : ∀ a0 a1 s, Keeps z s → KeepsR z (execVext a0 a1 s) := by
  intro a0 a1 s h
  unfold execVext
  try dsimp only
  repeat' first | with_reducible intro _ | with_reducible assumption | with_reducible apply Keeps.ite | with_reducible apply KeepsR.ite | with_reducible apply keeps_runOp | with_reducible apply Keeps.foldl | with_reducible apply Keeps.next | with_reducible apply Keeps.fault | with_reducible apply Keeps.ite | with_reducible apply KeepsR.ite | split | with_reducible apply Keeps.built

theorem keeps_execVins {z : State} : ∀ a0 a1 s, Keeps z s → KeepsR z (execVins a0 a1 s) := by
  intro a0 a1 s h
  unfold execVins
  try dsimp only
  repeat' first | with_reducible intro _ | with_reducible assumption | with_reducible apply Keeps.ite | with_reducible apply KeepsR.ite | with_reducible apply keeps_runOp | with_reducible apply Keeps.foldl | with_reducible apply Keeps.next | with_reducible apply Keeps.fault | with_reducible apply Keeps.ite | with_reducible apply KeepsR.ite | split | with_reducible apply Keeps.built

theorem keeps_execVrsum {z : State} : ∀ a0 a1 s, Keeps z s → KeepsR z (execVrsum a0 a1 s) := by
  intro a0 a1 s h
  unfold execVrsum
  try dsimp only
  repeat' first | with_reducible intro _ | with_reducible assumption | with_reducible apply Keeps.ite | with_reducible apply KeepsR.ite | with_reducible apply keeps_runOp | with_reducible apply Keeps.foldl | with_reducible apply Keeps.next | with_reducible apply Keeps.fault | with_reducible apply Keeps.ite | with_reducible apply KeepsR.ite | split | with_reducible apply Keeps.built

theorem keeps_execVrmax {z : State} : ∀ a0 a1 s, Keeps z s → KeepsR z (execVrmax a0 a1 s) := by
  intro a0 a1 s h
  unfold execVrmax
  try dsimp only
  repeat' first | with_reducible intro _ | with_reducible assumption | with_reducible apply Keeps.ite | with_reducible apply KeepsR.ite | with_reducible apply keeps_runOp | with_reducible apply Keeps.foldl | with_reducible apply Keeps.next | with_reducible apply Keeps.fault | with_reducible apply Keeps.ite | with_reducible apply KeepsR.ite | split | with_reducible apply Keeps.built

theorem keeps_execVrmin {z : State} : ∀ a0 a1 s, Keeps z s → KeepsR z (execVrmin a0 a1 s) := by
  intro a0 a1 s h
  unfold execVrmin
  try dsimp only
  repeat' first | with_reducible intro _ | with_reducible assumption | with_reducible apply Keeps.ite | with_reducible apply KeepsR.ite | with_reducible apply keeps_runOp | with_reducible apply Keeps.foldl | with_reducible apply Keeps.next | with_reducible apply Keeps.fault | with_reducible apply Keeps.ite | with_reducible apply KeepsR.ite | split | with_reducible apply Keeps.built

theorem keeps_execVrisum {z : State} : ∀ a0 a1 s, Keeps z s → KeepsR z (execVrisum a0 a1 s) := by
  intro a0 a1 s h
  unfold execVrisum
  try dsimp only
  repeat' first | with_reducible intro _ | with_reducible assumption | with_reducible apply Keeps.ite | with_reducible apply KeepsR.ite | with_reducible apply keeps_runOp | with_reducible apply Keeps.foldl | with_reducible apply Keeps.next | with_reducible apply Keeps.fault | with_reducible apply Keeps.ite | with_reducible apply KeepsR.ite | split | with_reducible apply Keeps.built

theorem keeps_execVexpmax {z : State} : ∀ a0 a1 s, Keeps z s → KeepsR z (execVexpmax a0 a1 s) := by
  intro a0 a1 s h
  unfold execVexpmax
  try dsimp only
  repeat' first | with_reducible intro _ | with_reducible assumption | with_reducible apply Keeps.ite | with_reducible apply KeepsR.ite | with_reducible apply keeps_runOp | with_reducible apply Keeps.foldl | with_reducible apply Keeps.next | with_reducible apply Keeps.fault | with_reducible apply Keeps.ite | with_reducible apply KeepsR.ite | split | with_reducible apply Keeps.built

theorem keeps_execVcvti {z : State} : ∀ a0 a1 s, Keeps z s → KeepsR z (execVcvti a0 a1 s) := by
  intro a0 a1 s h
  unfold execVcvti
  try dsimp only
  repeat' first | with_reducible intro _ | with_reducible assumption | with_reducible apply Keeps.ite | with_reducible apply KeepsR.ite | with_reducible apply keeps_runOp | with_reducible apply Keeps.foldl | with_reducible apply Keeps.next | with_reducible apply Keeps.fault | with_reducible apply Keeps.ite | with_reducible apply KeepsR.ite | split | with_reducible apply Keeps.built

theorem keeps_execVcvtf {z : State} : ∀ a0 a1 s, Keeps z s → KeepsR z (execVcvtf a0 a1 s) := by
  intro a0 a1 s h
  unfold execVcvtf
  try dsimp only
  repeat' first | with_reducible intro _ | with_reducible assumption | with_reducible apply Keeps.ite | with_reducible apply KeepsR.ite | with_reducible apply keeps_runOp | with_reducible apply Keeps.foldl | with_reducible apply Keeps.next | with_reducible apply Keeps.fault | with_reducible apply Keeps.ite | with_reducible apply KeepsR.ite | split | with_reducible apply Keeps.built

theorem keeps_execVrnd {z : State} : ∀ a0 a1 s, Keeps z s → KeepsR z (execVrnd a0 a1 s) := by
  intro a0 a1 s h
  unfold execVrnd
  try dsimp only
  repeat' first | with_reducible intro _ | with_reducible assumption | with_reducible apply Keeps.ite | with_reducible apply KeepsR.ite | with_reducible apply keeps_runOp | with_reducible apply Keeps.foldl | with_reducible apply Keeps.next | with_reducible apply Keeps.fault | with_reducible apply Keeps.ite | with_reducible apply KeepsR.ite | split | with_reducible apply Keeps.built

theorem keeps_execVfix {z : State} : ∀ a0 a1 s, Keeps z s → KeepsR z (execVfix a0 a1 s) := by
  intro a0 a1 s h
  unfold execVfix
  try dsimp only
  repeat' first | with_reducible intro _ | with_reducible assumption | with_reducible apply Keeps.ite | with_reducible apply KeepsR.ite | with_reducible apply keeps_runOp | with_reducible apply Keeps.foldl | with_reducible apply Keeps.next | with_reducible apply Keeps.fault | with_reducible apply Keeps.ite | with_reducible apply KeepsR.ite | split | with_reducible apply Keeps.built

theorem keeps_execVflt {z : State} : ∀ a0 a1 s, Keeps z s → KeepsR z (execVflt a0 a1 s) := by
  intro a0 a1 s h
  unfold execVflt
  try dsimp only
  repeat' first | with_reducible intro _ | with_reducible assumption | with_reducible apply Keeps.ite | with_reducible apply KeepsR.ite | with_reducible apply keeps_runOp | with_reducible apply Keeps.foldl | with_reducible apply Keeps.next | with_reducible apply Keeps.fault | with_reducible apply Keeps.ite | with_reducible apply KeepsR.ite | split | with_reducible apply Keeps.built

theorem keeps_execVadd64 {z : State} : ∀ a0 a1 s, Keeps z s → KeepsR z (execVadd64 a0 a1 s) := by
  intro a0 a1 s h
  unfold execVadd64
  try dsimp only
  repeat' first | with_reducible intro _ | with_reducible assumption | with_reducible apply Keeps.ite | with_reducible apply KeepsR.ite | with_reducible apply keeps_runOp | with_reducible apply Keeps.foldl | with_reducible apply Keeps.next | with_reducible apply Keeps.fault | with_reducible apply Keeps.ite | with_reducible apply KeepsR.ite | split | with_reducible apply Keeps.built

theorem keeps_execVrand {z : State} : ∀ a0 a1 s, Keeps z s → KeepsR z (execVrand a0 a1 s) := by
  intro a0 a1 s h
  unfold execVrand
  try dsimp only
  repeat' first | with_reducible intro _ | with_reducible assumption | with_reducible apply Keeps.ite | with_reducible apply KeepsR.ite | with_reducible apply keeps_runOp | with_reducible apply Keeps.foldl | with_reducible apply Keeps.next | with_reducible apply Keeps.fault | with_reducible apply Keeps.ite | with_reducible apply KeepsR.ite | split | with_reducible apply Keeps.built

theorem keeps_execVrda {z : State} : ∀ a0 a1 s, Keeps z s → KeepsR z (execVrda a0 a1 s) := by
  intro a0 a1 s h
  unfold execVrda
  try dsimp only
  repeat' first | with_reducible intro _ | with_reducible assumption | with_reducible apply Keeps.ite | with_reducible apply KeepsR.ite | with_reducible apply keeps_runOp | with_reducible apply Keeps.foldl | with_reducible apply Keeps.next | with_reducible apply Keeps.fault | with_reducible apply Keeps.ite | with_reducible apply KeepsR.ite | split | with_reducible apply Keeps.built

theorem keeps_execVwra {z : State} : ∀ a0 a1 s, Keeps z s → KeepsR z (execVwra a0 a1 s) := by
  intro a0 a1 s h
  unfold execVwra
  try dsimp only
  repeat' first | with_reducible intro _ | with_reducible assumption | with_reducible apply Keeps.ite | with_reducible apply KeepsR.ite | with_reducible apply keeps_runOp | with_reducible apply Keeps.foldl | with_reducible apply Keeps.next | with_reducible apply Keeps.fault | with_reducible apply Keeps.ite | with_reducible apply KeepsR.ite | split | with_reducible apply Keeps.built

theorem keeps_execVplog {z : State} : ∀ a0 a1 s, Keeps z s → KeepsR z (execVplog a0 a1 s) := by
  intro a0 a1 s h
  unfold execVplog
  try dsimp only
  repeat' first | with_reducible intro _ | with_reducible assumption | with_reducible apply Keeps.ite | with_reducible apply KeepsR.ite | with_reducible apply keeps_runOp | with_reducible apply Keeps.foldl | with_reducible apply Keeps.next | with_reducible apply Keeps.fault | with_reducible apply Keeps.ite | with_reducible apply KeepsR.ite | split | with_reducible apply Keeps.built

theorem keeps_execVpset {z : State} : ∀ a0 a1 s, Keeps z s → KeepsR z (execVpset a0 a1 s) := by
  intro a0 a1 s h
  unfold execVpset
  try dsimp only
  repeat' first | with_reducible intro _ | with_reducible assumption | with_reducible apply Keeps.ite | with_reducible apply KeepsR.ite | with_reducible apply keeps_runOp | with_reducible apply Keeps.foldl | with_reducible apply Keeps.next | with_reducible apply Keeps.fault | with_reducible apply Keeps.ite | with_reducible apply KeepsR.ite | split | with_reducible apply Keeps.built

theorem keeps_execVpget {z : State} : ∀ a0 a1 s, Keeps z s → KeepsR z (execVpget a0 a1 s) := by
  intro a0 a1 s h
  unfold execVpget
  try dsimp only
  repeat' first | with_reducible intro _ | with_reducible assumption | with_reducible apply Keeps.ite | with_reducible apply KeepsR.ite | with_reducible apply keeps_runOp | with_reducible apply Keeps.foldl | with_reducible apply Keeps.next | with_reducible apply Keeps.fault | with_reducible apply Keeps.ite | with_reducible apply KeepsR.ite | split | with_reducible apply Keeps.built

theorem keeps_execVld {z : State} : ∀ a0 a1 s, Keeps z s → KeepsR z (execVld a0 a1 s) := by
  intro a0 a1 s h
  unfold execVld
  try dsimp only
  repeat' first | with_reducible intro _ | with_reducible assumption | with_reducible apply Keeps.ite | with_reducible apply KeepsR.ite | with_reducible apply keeps_runOp | with_reducible apply Keeps.foldl | with_reducible apply Keeps.next | with_reducible apply Keeps.fault | with_reducible apply Keeps.ite | with_reducible apply KeepsR.ite | split | with_reducible apply Keeps.built

theorem keeps_execVst {z : State} : ∀ a0 a1 s, Keeps z s → KeepsR z (execVst a0 a1 s) := by
  intro a0 a1 s h
  unfold execVst
  try dsimp only
  repeat' first | with_reducible intro _ | with_reducible assumption | with_reducible apply Keeps.ite | with_reducible apply KeepsR.ite | with_reducible apply keeps_runOp | with_reducible apply Keeps.foldl | with_reducible apply Keeps.next | with_reducible apply Keeps.fault | with_reducible apply Keeps.ite | with_reducible apply KeepsR.ite | split | with_reducible apply Keeps.built

theorem keeps_execVlds {z : State} : ∀ a0 a1 s, Keeps z s → KeepsR z (execVlds a0 a1 s) := by
  intro a0 a1 s h
  unfold execVlds
  try dsimp only
  repeat' first | with_reducible intro _ | with_reducible assumption | with_reducible apply Keeps.ite | with_reducible apply KeepsR.ite | with_reducible apply keeps_runOp | with_reducible apply Keeps.foldl | with_reducible apply Keeps.next | with_reducible apply Keeps.fault | with_reducible apply Keeps.ite | with_reducible apply KeepsR.ite | split | with_reducible apply Keeps.built

theorem keeps_execVldx {z : State} : ∀ a0 a1 s, Keeps z s → KeepsR z (execVldx a0 a1 s) := by
  intro a0 a1 s h
  unfold execVldx
  try dsimp only
  repeat' first | with_reducible intro _ | with_reducible assumption | with_reducible apply Keeps.ite | with_reducible apply KeepsR.ite | with_reducible apply keeps_runOp | with_reducible apply Keeps.foldl | with_reducible apply Keeps.next | with_reducible apply Keeps.fault | with_reducible apply Keeps.ite | with_reducible apply KeepsR.ite | split | with_reducible apply Keeps.built

end Sys2Proof.Machine
end

