-- ==== Sys2Proof/Laws/PerInstr.lean ====
section
/-! SUPPORT. The family Shape, one lemma per command: a command is well formed exactly where the unit it names exists, and a row
of a core names that core. -/
/- One declaration after another: the package as one text then needs few threads at a time. -/
set_option Elab.async false

open Sys2Proof Sys2Proof.Machine

/-- What every command has by its syntax. -/
def Sys2Proof.Laws.Shape.Statement (i : Instr) : Prop :=
  (i.wf = true ↔ i.target.number < i.target.bound) ∧ ∀ c rom o, coreOp i = some (c, rom, o) → i.target = .core c

/-- The first half, of any command. -/
theorem Sys2Proof.Laws.wf_iff (i : Instr) : i.wf = true ↔ i.target.number < i.target.bound := decide_eq_true_iff

/-- A command that is no row of a core. -/
theorem Sys2Proof.Laws.shape_device {i : Instr} (h : coreOp i = none) : Laws.Shape.Statement i :=
  ⟨Laws.wf_iff i, fun _ _ _ e => nomatch h.symm.trans e⟩

/-- A command that is a row of a core. -/
theorem Sys2Proof.Laws.shape_core {i : Instr} {c : Nat} {rom : Bool} {o : SlotOp} (h : coreOp i = some (c, rom, o))
    (t : i.target = .core c) : Laws.Shape.Statement i :=
  ⟨Laws.wf_iff i, fun _ _ _ e => by cases h.symm.trans e; exact t⟩

theorem Sys2Proof.Laws.Shape.coldBoot (channels t1 : Nat) : Laws.Shape.Statement (.coldBoot channels t1) :=
  Laws.shape_device rfl
theorem Sys2Proof.Laws.Shape.bootGo (port len : Nat) : Laws.Shape.Statement (.bootGo port len) :=
  Laws.shape_device rfl
theorem Sys2Proof.Laws.Shape.imageVerified (sigOk : Bool) : Laws.Shape.Statement (.imageVerified sigOk) :=
  Laws.shape_device rfl
theorem Sys2Proof.Laws.Shape.bootKeysDerived (setup : FirmwareSetup) : Laws.Shape.Statement (.bootKeysDerived setup) :=
  Laws.shape_device rfl
theorem Sys2Proof.Laws.Shape.commitSvn (r : Requester) : Laws.Shape.Statement (.commitSvn r) :=
  Laws.shape_device rfl
theorem Sys2Proof.Laws.Shape.quote (r : Requester) (tenant : Nat) : Laws.Shape.Statement (.quote r tenant) :=
  Laws.shape_device rfl
theorem Sys2Proof.Laws.Shape.quoteDone (tenant : Nat) : Laws.Shape.Statement (.quoteDone tenant) :=
  Laws.shape_device rfl
theorem Sys2Proof.Laws.Shape.warmReset (r : Requester) : Laws.Shape.Statement (.warmReset r) :=
  Laws.shape_device rfl
theorem Sys2Proof.Laws.Shape.commitRoutes (r : Requester) : Laws.Shape.Statement (.commitRoutes r) :=
  Laws.shape_device rfl
theorem Sys2Proof.Laws.Shape.routeDataWrite (r : Requester) (v : DWord) : Laws.Shape.Statement (.routeDataWrite r v) :=
  Laws.shape_device rfl
theorem Sys2Proof.Laws.Shape.registerWrite (r : Requester) (off : Nat) (wide : Bool) (v : DWord) : Laws.Shape.Statement (.registerWrite r off wide v) :=
  Laws.shape_device rfl
theorem Sys2Proof.Laws.Shape.lockSet (r : Requester) (page : Nat) : Laws.Shape.Statement (.lockSet r page) :=
  Laws.shape_device rfl
theorem Sys2Proof.Laws.Shape.faultClear (r : Requester) (page : Nat) : Laws.Shape.Statement (.faultClear r page) :=
  Laws.shape_device rfl
theorem Sys2Proof.Laws.Shape.eventStatusClear (r : Requester) (page : Nat) (bits raisedNow : DWord) : Laws.Shape.Statement (.eventStatusClear r page bits raisedNow) :=
  Laws.shape_device rfl
theorem Sys2Proof.Laws.Shape.create (r : Requester) (pid : Nat) : Laws.Shape.Statement (.create r pid) :=
  Laws.shape_device rfl
theorem Sys2Proof.Laws.Shape.destroy (r : Requester) (pid : Nat) : Laws.Shape.Statement (.destroy r pid) :=
  Laws.shape_device rfl
theorem Sys2Proof.Laws.Shape.reset (r : Requester) (pid : Nat) : Laws.Shape.Statement (.reset r pid) :=
  Laws.shape_device rfl
theorem Sys2Proof.Laws.Shape.tenantReset (r : Requester) (pid : Nat) : Laws.Shape.Statement (.tenantReset r pid) :=
  Laws.shape_device rfl
theorem Sys2Proof.Laws.Shape.keyRoll (r : Requester) (pid : Nat) : Laws.Shape.Statement (.keyRoll r pid) :=
  Laws.shape_device rfl
theorem Sys2Proof.Laws.Shape.parkRequest (r : Requester) (pid : Nat) : Laws.Shape.Statement (.parkRequest r pid) :=
  Laws.shape_device rfl
theorem Sys2Proof.Laws.Shape.wakeRequest (r : Requester) (pid : Nat) : Laws.Shape.Statement (.wakeRequest r pid) :=
  Laws.shape_device rfl
theorem Sys2Proof.Laws.Shape.parkPlanWake (pid : Nat) : Laws.Shape.Statement (.parkPlanWake pid) :=
  Laws.shape_device rfl
theorem Sys2Proof.Laws.Shape.idleEntry (pid : Nat) : Laws.Shape.Statement (.idleEntry pid) :=
  Laws.shape_device rfl
theorem Sys2Proof.Laws.Shape.enterDeep (r : Requester) : Laws.Shape.Statement (.enterDeep r) :=
  Laws.shape_device rfl
theorem Sys2Proof.Laws.Shape.exitDeep (r : Requester) : Laws.Shape.Statement (.exitDeep r) :=
  Laws.shape_device rfl
theorem Sys2Proof.Laws.Shape.governorTick (j powerW : Nat) (temps : List Nat) : Laws.Shape.Statement (.governorTick j powerW temps) :=
  Laws.shape_device rfl
theorem Sys2Proof.Laws.Shape.vcoreSettled (readMv : Nat) (timedOut : Bool) : Laws.Shape.Statement (.vcoreSettled readMv timedOut) :=
  Laws.shape_device rfl
theorem Sys2Proof.Laws.Shape.thermalTrip (die temp : Nat) : Laws.Shape.Statement (.thermalTrip die temp) :=
  Laws.shape_device rfl
theorem Sys2Proof.Laws.Shape.thermalTripRelease : Laws.Shape.Statement (.thermalTripRelease) :=
  Laws.shape_device rfl
theorem Sys2Proof.Laws.Shape.thermalShutdown : Laws.Shape.Statement (.thermalShutdown) :=
  Laws.shape_device rfl
theorem Sys2Proof.Laws.Shape.railFault (rail : Nat) : Laws.Shape.Statement (.railFault rail) :=
  Laws.shape_device rfl
theorem Sys2Proof.Laws.Shape.pmbusPoll (rail mv ma stageC statusWord : Nat) (ok : Bool) : Laws.Shape.Statement (.pmbusPoll rail mv ma stageC statusWord ok) :=
  Laws.shape_device rfl
theorem Sys2Proof.Laws.Shape.pmbusAlert (segment rail statusWord : Nat) : Laws.Shape.Statement (.pmbusAlert segment rail statusWord) :=
  Laws.shape_device rfl
theorem Sys2Proof.Laws.Shape.timeWordSend : Laws.Shape.Statement (.timeWordSend) :=
  Laws.shape_device rfl
theorem Sys2Proof.Laws.Shape.timeWord (port : Nat) (w : TimeWordIn) : Laws.Shape.Statement (.timeWord port w) :=
  Laws.shape_device rfl
theorem Sys2Proof.Laws.Shape.holdoverExpiry : Laws.Shape.Statement (.holdoverExpiry) :=
  Laws.shape_device rfl
theorem Sys2Proof.Laws.Shape.forceStep (r : Requester) : Laws.Shape.Statement (.forceStep r) :=
  Laws.shape_device rfl
theorem Sys2Proof.Laws.Shape.roleGenerate (pid : Nat) : Laws.Shape.Statement (.roleGenerate pid) :=
  Laws.shape_device rfl
theorem Sys2Proof.Laws.Shape.roleLearn (pid : Nat) : Laws.Shape.Statement (.roleLearn pid) :=
  Laws.shape_device rfl
theorem Sys2Proof.Laws.Shape.swap (pid : Nat) : Laws.Shape.Statement (.swap pid) :=
  Laws.shape_device rfl
theorem Sys2Proof.Laws.Shape.checkpoint (pid : Nat) : Laws.Shape.Statement (.checkpoint pid) :=
  Laws.shape_device rfl
theorem Sys2Proof.Laws.Shape.launch (pid : Nat) : Laws.Shape.Statement (.launch pid) :=
  Laws.shape_device rfl
theorem Sys2Proof.Laws.Shape.plan (pid : Nat) (cmdId : DWord) (entry : List Byte) : Laws.Shape.Statement (.plan pid cmdId entry) :=
  Laws.shape_device rfl
theorem Sys2Proof.Laws.Shape.request (pid : Nat) (cmdId : DWord) (block : List Byte) : Laws.Shape.Statement (.request pid cmdId block) :=
  Laws.shape_device rfl
theorem Sys2Proof.Laws.Shape.cancel (pid : Nat) (cmdId reqId : DWord) : Laws.Shape.Statement (.cancel pid cmdId reqId) :=
  Laws.shape_device rfl
theorem Sys2Proof.Laws.Shape.prefixCreate (pid : Nat) (cmdId reqId : DWord) (n handle group : Nat) : Laws.Shape.Statement (.prefixCreate pid cmdId reqId n handle group) :=
  Laws.shape_device rfl
theorem Sys2Proof.Laws.Shape.prefixRelease (pid : Nat) (cmdId : DWord) (handle group : Nat) : Laws.Shape.Statement (.prefixRelease pid cmdId handle group) :=
  Laws.shape_device rfl
theorem Sys2Proof.Laws.Shape.nop (pid : Nat) (cmdId : DWord) : Laws.Shape.Statement (.nop pid cmdId) :=
  Laws.shape_device rfl
theorem Sys2Proof.Laws.Shape.decodeStepLaunch (pid : Nat) : Laws.Shape.Statement (.decodeStepLaunch pid) :=
  Laws.shape_device rfl
theorem Sys2Proof.Laws.Shape.fillHoldExpiry (pid : Nat) : Laws.Shape.Statement (.fillHoldExpiry pid) :=
  Laws.shape_device rfl
theorem Sys2Proof.Laws.Shape.joinDuringHold (pid : Nat) : Laws.Shape.Statement (.joinDuringHold pid) :=
  Laws.shape_device rfl
theorem Sys2Proof.Laws.Shape.stepLaunchMessage (pid : Nat) (msg : LaunchMsg) : Laws.Shape.Statement (.stepLaunchMessage pid msg) :=
  Laws.shape_device rfl
theorem Sys2Proof.Laws.Shape.slotCommit (pid : Nat) (seq slot : Nat) (res : SlotResult) : Laws.Shape.Statement (.slotCommit pid seq slot res) :=
  Laws.shape_device rfl
theorem Sys2Proof.Laws.Shape.stepAbort (pid : Nat) (seq : Nat) : Laws.Shape.Statement (.stepAbort pid seq) :=
  Laws.shape_device rfl
theorem Sys2Proof.Laws.Shape.streamLost (pid : Nat) (reqId : DWord) : Laws.Shape.Statement (.streamLost pid reqId) :=
  Laws.shape_device rfl
theorem Sys2Proof.Laws.Shape.stepRingLost (pid : Nat) : Laws.Shape.Statement (.stepRingLost pid) :=
  Laws.shape_device rfl
theorem Sys2Proof.Laws.Shape.stepRingRestart (r : Requester) (pid : Nat) (cfg : Bool) (v : DWord) : Laws.Shape.Statement (.stepRingRestart r pid cfg v) :=
  Laws.shape_device rfl
theorem Sys2Proof.Laws.Shape.spillReadDone (pid : Nat) : Laws.Shape.Statement (.spillReadDone pid) :=
  Laws.shape_device rfl
theorem Sys2Proof.Laws.Shape.resumePagesLanded (pid : Nat) (reqId : DWord) (ok : Bool) : Laws.Shape.Statement (.resumePagesLanded pid reqId ok) :=
  Laws.shape_device rfl
theorem Sys2Proof.Laws.Shape.expHeaderWrite (pid : Nat) (off : Nat) (v : DWord) : Laws.Shape.Statement (.expHeaderWrite pid off v) :=
  Laws.shape_device rfl
theorem Sys2Proof.Laws.Shape.learnerCommit (pid : Nat) (othersAnd : Bool) : Laws.Shape.Statement (.learnerCommit pid othersAnd) :=
  Laws.shape_device rfl
theorem Sys2Proof.Laws.Shape.publicationRecord (pid : Nat) (rec : List Byte) : Laws.Shape.Statement (.publicationRecord pid rec) :=
  Laws.shape_device rfl
theorem Sys2Proof.Laws.Shape.relayChunkPacket (pid : Nat) (pkt : Packet) : Laws.Shape.Statement (.relayChunkPacket pid pkt) :=
  Laws.shape_device rfl
theorem Sys2Proof.Laws.Shape.relayDigestPacket (pid : Nat) (pkt : Packet) : Laws.Shape.Statement (.relayDigestPacket pid pkt) :=
  Laws.shape_device rfl
theorem Sys2Proof.Laws.Shape.relayRestartPacket (pid : Nat) (pkt : Packet) : Laws.Shape.Statement (.relayRestartPacket pid pkt) :=
  Laws.shape_device rfl
theorem Sys2Proof.Laws.Shape.relayStall (pid : Nat) (slot : Nat) : Laws.Shape.Statement (.relayStall pid slot) :=
  Laws.shape_device rfl
theorem Sys2Proof.Laws.Shape.readinessResult (pid : Nat) (slot : Nat) (ready : Bool) (formed : DWord) : Laws.Shape.Statement (.readinessResult pid slot ready formed) :=
  Laws.shape_device rfl
theorem Sys2Proof.Laws.Shape.bufferDrained (pid : Nat) (slot : Nat) : Laws.Shape.Statement (.bufferDrained pid slot) :=
  Laws.shape_device rfl
theorem Sys2Proof.Laws.Shape.loadBegin (r : Requester) (pid : Nat) (pennant : Word) : Laws.Shape.Statement (.loadBegin r pid pennant) :=
  Laws.shape_device rfl
theorem Sys2Proof.Laws.Shape.loadEnd (r : Requester) (pid : Nat) (pennant : Word) : Laws.Shape.Statement (.loadEnd r pid pennant) :=
  Laws.shape_device rfl
theorem Sys2Proof.Laws.Shape.unload (r : Requester) (pid : Nat) (pennant : Word) : Laws.Shape.Statement (.unload r pid pennant) :=
  Laws.shape_device rfl
theorem Sys2Proof.Laws.Shape.listGo (r : Requester) (pid : Nat) : Laws.Shape.Statement (.listGo r pid) :=
  Laws.shape_device rfl
theorem Sys2Proof.Laws.Shape.stream (pid : Nat) (list : Nat) : Laws.Shape.Statement (.stream pid list) :=
  Laws.shape_device rfl
theorem Sys2Proof.Laws.Shape.streamLanded (pid : Nat) (list desc core : Nat) : Laws.Shape.Statement (.streamLanded pid list desc core) :=
  Laws.shape_device rfl
theorem Sys2Proof.Laws.Shape.moveRegion (pid : Nat) (list : Nat) : Laws.Shape.Statement (.moveRegion pid list) :=
  Laws.shape_device rfl
theorem Sys2Proof.Laws.Shape.moveRegionDone (pid : Nat) (region : Nat) : Laws.Shape.Statement (.moveRegionDone pid region) :=
  Laws.shape_device rfl
theorem Sys2Proof.Laws.Shape.gate (pid : Nat) (list : Nat) : Laws.Shape.Statement (.gate pid list) :=
  Laws.shape_device rfl
theorem Sys2Proof.Laws.Shape.endList (pid : Nat) (list : Nat) : Laws.Shape.Statement (.endList pid list) :=
  Laws.shape_device rfl
theorem Sys2Proof.Laws.Shape.migrationEpoch (pid : Nat) : Laws.Shape.Statement (.migrationEpoch pid) :=
  Laws.shape_device rfl
theorem Sys2Proof.Laws.Shape.migrationEvict (pid : Nat) : Laws.Shape.Statement (.migrationEvict pid) :=
  Laws.shape_device rfl
theorem Sys2Proof.Laws.Shape.migrationPromote (pid : Nat) : Laws.Shape.Statement (.migrationPromote pid) :=
  Laws.shape_device rfl
theorem Sys2Proof.Laws.Shape.regionHintWrite (r : Requester) (pid : Nat) (hint : Nat) : Laws.Shape.Statement (.regionHintWrite r pid hint) :=
  Laws.shape_device rfl
theorem Sys2Proof.Laws.Shape.regionDefine (r : Requester) (pid : Nat) (hint : Nat) : Laws.Shape.Statement (.regionDefine r pid hint) :=
  Laws.shape_device rfl
theorem Sys2Proof.Laws.Shape.regionDelete (r : Requester) (pid : Nat) : Laws.Shape.Statement (.regionDelete r pid) :=
  Laws.shape_device rfl
theorem Sys2Proof.Laws.Shape.tierWatchdogExpiry (core : Nat) : Laws.Shape.Statement (.tierWatchdogExpiry core) :=
  Laws.shape_device rfl
theorem Sys2Proof.Laws.Shape.t1UeRetry (addr : Nat) (failsAgain : Bool) : Laws.Shape.Statement (.t1UeRetry addr failsAgain) :=
  Laws.shape_device rfl
theorem Sys2Proof.Laws.Shape.rngSeedWrite (r : Requester) (pid : Nat) (slot : Nat) (seed : DWord) : Laws.Shape.Statement (.rngSeedWrite r pid slot seed) :=
  Laws.shape_device rfl
theorem Sys2Proof.Laws.Shape.seedExpansionDone (pid : Nat) (slot : Nat) : Laws.Shape.Statement (.seedExpansionDone pid slot) :=
  Laws.shape_device rfl
theorem Sys2Proof.Laws.Shape.reserve (core : Nat) (val : Word) : Laws.Shape.Statement (.reserve core val) :=
  Laws.shape_device rfl
theorem Sys2Proof.Laws.Shape.push (core : Nat) (val : Word) : Laws.Shape.Statement (.push core val) :=
  Laws.shape_device rfl
theorem Sys2Proof.Laws.Shape.fetch (core : Nat) (val : Word) : Laws.Shape.Statement (.fetch core val) :=
  Laws.shape_device rfl
theorem Sys2Proof.Laws.Shape.release (core : Nat) (val : Word) : Laws.Shape.Statement (.release core val) :=
  Laws.shape_device rfl
theorem Sys2Proof.Laws.Shape.clear (core : Nat) (val : Word) : Laws.Shape.Statement (.clear core val) :=
  Laws.shape_device rfl
theorem Sys2Proof.Laws.Shape.settPlacement (pid : Nat) (lcore : Nat) : Laws.Shape.Statement (.settPlacement pid lcore) :=
  Laws.shape_device rfl
theorem Sys2Proof.Laws.Shape.settLeadSpill (pid : Nat) (lcore : Nat) : Laws.Shape.Statement (.settLeadSpill pid lcore) :=
  Laws.shape_device rfl
theorem Sys2Proof.Laws.Shape.settFill (pid : Nat) (lcore : Nat) : Laws.Shape.Statement (.settFill pid lcore) :=
  Laws.shape_device rfl
theorem Sys2Proof.Laws.Shape.redOpen (core : Nat) (val : Word) : Laws.Shape.Statement (.redOpen core val) :=
  Laws.shape_device rfl
theorem Sys2Proof.Laws.Shape.stepOpenDone (pid : Nat) : Laws.Shape.Statement (.stepOpenDone pid) :=
  Laws.shape_device rfl
theorem Sys2Proof.Laws.Shape.redClose (core : Nat) (val : Word) : Laws.Shape.Statement (.redClose core val) :=
  Laws.shape_device rfl
theorem Sys2Proof.Laws.Shape.exponentAgreed (pid : Nat) (bucket : Nat) (othersMax : Int) : Laws.Shape.Statement (.exponentAgreed pid bucket othersMax) :=
  Laws.shape_device rfl
theorem Sys2Proof.Laws.Shape.redStaged (core : Nat) (val : Word) : Laws.Shape.Statement (.redStaged core val) :=
  Laws.shape_device rfl
theorem Sys2Proof.Laws.Shape.redNotify (core : Nat) (val : Word) : Laws.Shape.Statement (.redNotify core val) :=
  Laws.shape_device rfl
theorem Sys2Proof.Laws.Shape.raccArrival (pid : Nat) (pkt : Packet) : Laws.Shape.Statement (.raccArrival pid pkt) :=
  Laws.shape_device rfl
theorem Sys2Proof.Laws.Shape.raccAcknowledged (pid : Nat) (bucket halfRun : Nat) : Laws.Shape.Statement (.raccAcknowledged pid bucket halfRun) :=
  Laws.shape_device rfl
theorem Sys2Proof.Laws.Shape.checksumResult (pid : Nat) (bucket : Nat) (othersSum : DWord) : Laws.Shape.Statement (.checksumResult pid bucket othersSum) :=
  Laws.shape_device rfl
theorem Sys2Proof.Laws.Shape.bucketDeadline (pid : Nat) (bucket : Nat) : Laws.Shape.Statement (.bucketDeadline pid bucket) :=
  Laws.shape_device rfl
theorem Sys2Proof.Laws.Shape.agreeTimeout (pid : Nat) (bucket : Nat) : Laws.Shape.Statement (.agreeTimeout pid bucket) :=
  Laws.shape_device rfl
theorem Sys2Proof.Laws.Shape.quiescenceDone (pid : Nat) : Laws.Shape.Statement (.quiescenceDone pid) :=
  Laws.shape_device rfl
theorem Sys2Proof.Laws.Shape.normResult (pid : Nat) (othersLanes : List DWord) : Laws.Shape.Statement (.normResult pid othersLanes) :=
  Laws.shape_device rfl
theorem Sys2Proof.Laws.Shape.updateStart (pid : Nat) : Laws.Shape.Statement (.updateStart pid) :=
  Laws.shape_device rfl
theorem Sys2Proof.Laws.Shape.weightGather (pid : Nat) (pkt : Packet) : Laws.Shape.Statement (.weightGather pid pkt) :=
  Laws.shape_device rfl
theorem Sys2Proof.Laws.Shape.updateStaged (pid : Nat) : Laws.Shape.Statement (.updateStaged pid) :=
  Laws.shape_device rfl
theorem Sys2Proof.Laws.Shape.gatherTimeout (pid : Nat) : Laws.Shape.Statement (.gatherTimeout pid) :=
  Laws.shape_device rfl
theorem Sys2Proof.Laws.Shape.packetReceive (port : Nat) (pkt : Packet) : Laws.Shape.Statement (.packetReceive port pkt) :=
  Laws.shape_device rfl
theorem Sys2Proof.Laws.Shape.linkCrcError (port : Nat) : Laws.Shape.Statement (.linkCrcError port) :=
  Laws.shape_device rfl
theorem Sys2Proof.Laws.Shape.bridgeFlitError (bridge channel replays : Nat) : Laws.Shape.Statement (.bridgeFlitError bridge channel replays) :=
  Laws.shape_device rfl
theorem Sys2Proof.Laws.Shape.subcreditReceive (pid : Nat) (pkt : Packet) : Laws.Shape.Statement (.subcreditReceive pid pkt) :=
  Laws.shape_device rfl
theorem Sys2Proof.Laws.Shape.ackReceive (pid : Nat) (pkt : Packet) : Laws.Shape.Statement (.ackReceive pid pkt) :=
  Laws.shape_device rfl
theorem Sys2Proof.Laws.Shape.hareGo (core : Nat) (val : Word) : Laws.Shape.Statement (.hareGo core val) :=
  Laws.shape_device rfl
theorem Sys2Proof.Laws.Shape.harePartReceive (port : Nat) (pkt : Packet) : Laws.Shape.Statement (.harePartReceive port pkt) :=
  Laws.shape_device rfl
theorem Sys2Proof.Laws.Shape.hareResult (pkt : Packet) : Laws.Shape.Statement (.hareResult pkt) :=
  Laws.shape_device rfl
theorem Sys2Proof.Laws.Shape.hareMsgReceive (msg : HareMsg) : Laws.Shape.Statement (.hareMsgReceive msg) :=
  Laws.shape_device rfl
theorem Sys2Proof.Laws.Shape.combineLoad (r : Requester) (pid : Nat) (count : Nat) : Laws.Shape.Statement (.combineLoad r pid count) :=
  Laws.shape_device rfl
theorem Sys2Proof.Laws.Shape.combineRemove (r : Requester) (pid : Nat) (count : Nat) : Laws.Shape.Statement (.combineRemove r pid count) :=
  Laws.shape_device rfl
theorem Sys2Proof.Laws.Shape.groupTableLoad (r : Requester) (pid : Nat) (val : DWord) : Laws.Shape.Statement (.groupTableLoad r pid val) :=
  Laws.shape_device rfl
theorem Sys2Proof.Laws.Shape.collGo (r : Requester) (pid : Nat) (guidon : Word) : Laws.Shape.Statement (.collGo r pid guidon) :=
  Laws.shape_device rfl
theorem Sys2Proof.Laws.Shape.collDataReceive (pid : Nat) (pkt : Packet) : Laws.Shape.Statement (.collDataReceive pid pkt) :=
  Laws.shape_device rfl
theorem Sys2Proof.Laws.Shape.collectiveChunkDone (pid : Nat) (guidon : Word) : Laws.Shape.Statement (.collectiveChunkDone pid guidon) :=
  Laws.shape_device rfl
theorem Sys2Proof.Laws.Shape.collectiveDeadline (pid : Nat) (guidon : Word) : Laws.Shape.Statement (.collectiveDeadline pid guidon) :=
  Laws.shape_device rfl
theorem Sys2Proof.Laws.Shape.expGoRead (core : Nat) (val : Word) : Laws.Shape.Statement (.expGoRead core val) :=
  Laws.shape_device rfl
theorem Sys2Proof.Laws.Shape.expGoCredit (core : Nat) (val : Word) : Laws.Shape.Statement (.expGoCredit core val) :=
  Laws.shape_device rfl
theorem Sys2Proof.Laws.Shape.expReadServe (pkt : Packet) : Laws.Shape.Statement (.expReadServe pkt) :=
  Laws.shape_device rfl
theorem Sys2Proof.Laws.Shape.expCreditReceive (pkt : Packet) : Laws.Shape.Statement (.expCreditReceive pkt) :=
  Laws.shape_device rfl
theorem Sys2Proof.Laws.Shape.expResponse (pid : Nat) (pkt : Packet) : Laws.Shape.Statement (.expResponse pid pkt) :=
  Laws.shape_device rfl
theorem Sys2Proof.Laws.Shape.expOpTimeout (pid : Nat) (op : Nat) : Laws.Shape.Statement (.expOpTimeout pid op) :=
  Laws.shape_device rfl
theorem Sys2Proof.Laws.Shape.laneFailure (port lanes : Nat) : Laws.Shape.Statement (.laneFailure port lanes) :=
  Laws.shape_device rfl
theorem Sys2Proof.Laws.Shape.portTrainRetry (port lanes : Nat) : Laws.Shape.Statement (.portTrainRetry port lanes) :=
  Laws.shape_device rfl
theorem Sys2Proof.Laws.Shape.linkReset (port : Nat) : Laws.Shape.Statement (.linkReset port) :=
  Laws.shape_device rfl
theorem Sys2Proof.Laws.Shape.hostFrameReceive (port : Nat) (f : HostFrame) : Laws.Shape.Statement (.hostFrameReceive port f) :=
  Laws.shape_device rfl
theorem Sys2Proof.Laws.Shape.arpRequest (port : Nat) (target sender : Nat) : Laws.Shape.Statement (.arpRequest port target sender) :=
  Laws.shape_device rfl
theorem Sys2Proof.Laws.Shape.neighbourSolicitation (port : Nat) (target sender : Nat) : Laws.Shape.Statement (.neighbourSolicitation port target sender) :=
  Laws.shape_device rfl
theorem Sys2Proof.Laws.Shape.echoRequest (port : Nat) (v6 : Bool) (dst src : Nat) (data : List Byte) : Laws.Shape.Statement (.echoRequest port v6 dst src data) :=
  Laws.shape_device rfl
theorem Sys2Proof.Laws.Shape.lldpReceive (port : Nat) (chassis : List Byte) : Laws.Shape.Statement (.lldpReceive port chassis) :=
  Laws.shape_device rfl
theorem Sys2Proof.Laws.Shape.lldpTransmit (port : Nat) : Laws.Shape.Statement (.lldpTransmit port) :=
  Laws.shape_device rfl
theorem Sys2Proof.Laws.Shape.pfcFrame (port enable : Nat) (pause : List Nat) : Laws.Shape.Statement (.pfcFrame port enable pause) :=
  Laws.shape_device rfl
theorem Sys2Proof.Laws.Shape.ptpMessage (port : Nat) (sync : Bool) (fabricAt ptpTicks : DWord) : Laws.Shape.Statement (.ptpMessage port sync fabricAt ptpTicks) :=
  Laws.shape_device rfl
theorem Sys2Proof.Laws.Shape.cnpReceive (qp : Nat) : Laws.Shape.Statement (.cnpReceive qp) :=
  Laws.shape_device rfl
theorem Sys2Proof.Laws.Shape.rateRecovery (qp : Nat) : Laws.Shape.Statement (.rateRecovery qp) :=
  Laws.shape_device rfl
theorem Sys2Proof.Laws.Shape.cmReq (port : Nat) (priv : DWord) : Laws.Shape.Statement (.cmReq port priv) :=
  Laws.shape_device rfl
theorem Sys2Proof.Laws.Shape.cmRtu (qp : Nat) : Laws.Shape.Statement (.cmRtu qp) :=
  Laws.shape_device rfl
theorem Sys2Proof.Laws.Shape.cmDreq (qp : Nat) : Laws.Shape.Statement (.cmDreq qp) :=
  Laws.shape_device rfl
theorem Sys2Proof.Laws.Shape.rdmaWrite (qp : Nat) (addr : DWord) (rkey : Word) (data : List Byte) (ce : Bool) : Laws.Shape.Statement (.rdmaWrite qp addr rkey data ce) :=
  Laws.shape_device rfl
theorem Sys2Proof.Laws.Shape.rdmaRead (qp : Nat) (addr : DWord) (rkey : Word) (len : Nat) (ce : Bool) : Laws.Shape.Statement (.rdmaRead qp addr rkey len ce) :=
  Laws.shape_device rfl
theorem Sys2Proof.Laws.Shape.commandRingSend (qp : Nat) (data : List Byte) (ce : Bool) : Laws.Shape.Statement (.commandRingSend qp data ce) :=
  Laws.shape_device rfl
theorem Sys2Proof.Laws.Shape.rnrNak (qp : Nat) : Laws.Shape.Statement (.rnrNak qp) :=
  Laws.shape_device rfl
theorem Sys2Proof.Laws.Shape.qpError (qp : Nat) : Laws.Shape.Statement (.qpError qp) :=
  Laws.shape_device rfl
theorem Sys2Proof.Laws.Shape.cqRingRestart (r : Requester) (tenant : Nat) (v : DWord) : Laws.Shape.Statement (.cqRingRestart r tenant v) :=
  Laws.shape_device rfl
theorem Sys2Proof.Laws.Shape.eqRingRestart (r : Requester) (tenant : Nat) (v : DWord) : Laws.Shape.Statement (.eqRingRestart r tenant v) :=
  Laws.shape_device rfl
theorem Sys2Proof.Laws.Shape.eventsLost (tenant : Nat) : Laws.Shape.Statement (.eventsLost tenant) :=
  Laws.shape_device rfl
theorem Sys2Proof.Laws.Shape.taskStart (pid : Nat) (queue : Nat) : Laws.Shape.Statement (.taskStart pid queue) :=
  Laws.shape_device rfl
theorem Sys2Proof.Laws.Shape.preemptRequest (pid : Nat) (queue : Nat) : Laws.Shape.Statement (.preemptRequest pid queue) :=
  Laws.shape_device rfl
theorem Sys2Proof.Laws.Shape.cheapPointSave (core : Nat) (header : Word) : Laws.Shape.Statement (.cheapPointSave core header) :=
  Laws.shape_device rfl
theorem Sys2Proof.Laws.Shape.preemptGraceExpiry (core : Nat) : Laws.Shape.Statement (.preemptGraceExpiry core) :=
  Laws.shape_device rfl
theorem Sys2Proof.Laws.Shape.fullSave (core : Nat) : Laws.Shape.Statement (.fullSave core) :=
  Laws.shape_device rfl
theorem Sys2Proof.Laws.Shape.preemptWithdraw (core : Nat) : Laws.Shape.Statement (.preemptWithdraw core) :=
  Laws.shape_device rfl
theorem Sys2Proof.Laws.Shape.contextResume (core : Nat) : Laws.Shape.Statement (.contextResume core) :=
  Laws.shape_device rfl
theorem Sys2Proof.Laws.Shape.suspend (r : Requester) (pid : Nat) : Laws.Shape.Statement (.suspend r pid) :=
  Laws.shape_device rfl
theorem Sys2Proof.Laws.Shape.suspendImageDone (pid : Nat) : Laws.Shape.Statement (.suspendImageDone pid) :=
  Laws.shape_device rfl
theorem Sys2Proof.Laws.Shape.preemptSlow (core : Nat) : Laws.Shape.Statement (.preemptSlow core) :=
  Laws.shape_device rfl
theorem Sys2Proof.Laws.Shape.restore (r : Requester) (pid : Nat) : Laws.Shape.Statement (.restore r pid) :=
  Laws.shape_device rfl
theorem Sys2Proof.Laws.Shape.semInitWrite (r : Requester) (pid : Nat) (v : DWord) : Laws.Shape.Statement (.semInitWrite r pid v) :=
  Laws.shape_device rfl
theorem Sys2Proof.Laws.Shape.coreRetire (core : Nat) : Laws.Shape.Statement (.coreRetire core) :=
  Laws.shape_device rfl
theorem Sys2Proof.Laws.Shape.owlVerdict (core : Nat) (n : Word) (agree : Bool) : Laws.Shape.Statement (.owlVerdict core n agree) :=
  Laws.shape_device rfl
theorem Sys2Proof.Laws.Shape.owlLate (core : Nat) (n : Word) : Laws.Shape.Statement (.owlLate core n) :=
  Laws.shape_device rfl
theorem Sys2Proof.Laws.Shape.digestResult (pid : Nat) (othersLanes : List DWord) : Laws.Shape.Statement (.digestResult pid othersLanes) :=
  Laws.shape_device rfl
theorem Sys2Proof.Laws.Shape.faultRingRestart (r : Requester) (pid : Nat) (cfg : Bool) (v : DWord) : Laws.Shape.Statement (.faultRingRestart r pid cfg v) :=
  Laws.shape_device rfl
theorem Sys2Proof.Laws.Shape.pair (r : Requester) : Laws.Shape.Statement (.pair r) :=
  Laws.shape_device rfl
theorem Sys2Proof.Laws.Shape.detach (r : Requester) : Laws.Shape.Statement (.detach r) :=
  Laws.shape_device rfl
theorem Sys2Proof.Laws.Shape.heartbeatSend (fwCount : Word) : Laws.Shape.Statement (.heartbeatSend fwCount) :=
  Laws.shape_device rfl
theorem Sys2Proof.Laws.Shape.heartbeatReceive (port : Nat) (hb : Heartbeat) : Laws.Shape.Statement (.heartbeatReceive port hb) :=
  Laws.shape_device rfl
theorem Sys2Proof.Laws.Shape.heartbeatMiss : Laws.Shape.Statement (.heartbeatMiss) :=
  Laws.shape_device rfl
theorem Sys2Proof.Laws.Shape.resetHoldExpiry : Laws.Shape.Statement (.resetHoldExpiry) :=
  Laws.shape_device rfl
theorem Sys2Proof.Laws.Shape.ckptDataReceive (m : CkptMsg) : Laws.Shape.Statement (.ckptDataReceive m) :=
  Laws.shape_device rfl
theorem Sys2Proof.Laws.Shape.ckptManifest (m : CkptEnd) : Laws.Shape.Statement (.ckptManifest m) :=
  Laws.shape_device rfl
theorem Sys2Proof.Laws.Shape.ckptRestore (r : Requester) (pid : Nat) : Laws.Shape.Statement (.ckptRestore r pid) :=
  Laws.shape_device rfl
theorem Sys2Proof.Laws.Shape.restoreAgreement (pid : Nat) (othersLanes : List DWord) : Laws.Shape.Statement (.restoreAgreement pid othersLanes) :=
  Laws.shape_device rfl
theorem Sys2Proof.Laws.Shape.restoreAgreeTimeout (pid : Nat) : Laws.Shape.Statement (.restoreAgreeTimeout pid) :=
  Laws.shape_device rfl
theorem Sys2Proof.Laws.Shape.restorePullDone (pid : Nat) (data : List Byte) : Laws.Shape.Statement (.restorePullDone pid data) :=
  Laws.shape_device rfl
theorem Sys2Proof.Laws.Shape.t0SelfTest (r : Requester) : Laws.Shape.Statement (.t0SelfTest r) :=
  Laws.shape_device rfl
theorem Sys2Proof.Laws.Shape.t1ControllerLoop (r : Requester) : Laws.Shape.Statement (.t1ControllerLoop r) :=
  Laws.shape_device rfl
theorem Sys2Proof.Laws.Shape.t1PhyLoop (r : Requester) : Laws.Shape.Statement (.t1PhyLoop r) :=
  Laws.shape_device rfl
theorem Sys2Proof.Laws.Shape.deviceTestDone (t1Fail : Nat) (t0Failed : List Nat) : Laws.Shape.Statement (.deviceTestDone t1Fail t0Failed) :=
  Laws.shape_device rfl
theorem Sys2Proof.Laws.Shape.loopStart (r : Requester) (host : Bool) (port : Nat) (via : Option Nat) (v : DWord) : Laws.Shape.Statement (.loopStart r host port via v) :=
  Laws.shape_device rfl
theorem Sys2Proof.Laws.Shape.loopStop (r : Requester) (host : Bool) (port : Nat) (v : DWord) : Laws.Shape.Statement (.loopStop r host port v) :=
  Laws.shape_device rfl
theorem Sys2Proof.Laws.Shape.loopEnd (host : Bool) (port : Nat) (c : LoopCounts) : Laws.Shape.Statement (.loopEnd host port c) :=
  Laws.shape_device rfl
theorem Sys2Proof.Laws.Shape.farLoopRequest (port lanes : Nat) : Laws.Shape.Statement (.farLoopRequest port lanes) :=
  Laws.shape_device rfl
theorem Sys2Proof.Laws.Shape.retimingTimeout (port : Nat) : Laws.Shape.Statement (.retimingTimeout port) :=
  Laws.shape_device rfl
theorem Sys2Proof.Laws.Shape.farLoopNoAnswer (port : Nat) : Laws.Shape.Statement (.farLoopNoAnswer port) :=
  Laws.shape_device rfl
theorem Sys2Proof.Laws.Shape.bypass : Laws.Shape.Statement (.bypass) :=
  Laws.shape_device rfl
theorem Sys2Proof.Laws.Shape.idcode : Laws.Shape.Statement (.idcode) :=
  Laws.shape_device rfl
theorem Sys2Proof.Laws.Shape.samplePreload (preload : Nat) : Laws.Shape.Statement (.samplePreload preload) :=
  Laws.shape_device rfl
theorem Sys2Proof.Laws.Shape.extest : Laws.Shape.Statement (.extest) :=
  Laws.shape_device rfl
theorem Sys2Proof.Laws.Shape.clamp : Laws.Shape.Statement (.clamp) :=
  Laws.shape_device rfl
theorem Sys2Proof.Laws.Shape.highz : Laws.Shape.Statement (.highz) :=
  Laws.shape_device rfl
theorem Sys2Proof.Laws.Shape.bundle (core : Nat) (rom : Bool) (w : BitVec 512) : Laws.Shape.Statement (.bundle core rom w) :=
  Laws.shape_device rfl
theorem Sys2Proof.Laws.Shape.moveComplete (core : Nat) (idx : Nat) (ue : List Nat) : Laws.Shape.Statement (.moveComplete core idx ue) :=
  Laws.shape_device rfl
theorem Sys2Proof.Laws.Shape.messageReceive (pid : Nat) (idx : Nat) : Laws.Shape.Statement (.messageReceive pid idx) :=
  Laws.shape_device rfl
theorem Sys2Proof.Laws.Shape.add (core : Nat) (rd rs1 rs2 : BitVec 5) : Laws.Shape.Statement (.add core rd rs1 rs2) :=
  Laws.shape_core rfl rfl
theorem Sys2Proof.Laws.Shape.sub (core : Nat) (rd rs1 rs2 : BitVec 5) : Laws.Shape.Statement (.sub core rd rs1 rs2) :=
  Laws.shape_core rfl rfl
theorem Sys2Proof.Laws.Shape.and (core : Nat) (rd rs1 rs2 : BitVec 5) : Laws.Shape.Statement (.and core rd rs1 rs2) :=
  Laws.shape_core rfl rfl
theorem Sys2Proof.Laws.Shape.or (core : Nat) (rd rs1 rs2 : BitVec 5) : Laws.Shape.Statement (.or core rd rs1 rs2) :=
  Laws.shape_core rfl rfl
theorem Sys2Proof.Laws.Shape.xor (core : Nat) (rd rs1 rs2 : BitVec 5) : Laws.Shape.Statement (.xor core rd rs1 rs2) :=
  Laws.shape_core rfl rfl
theorem Sys2Proof.Laws.Shape.sll (core : Nat) (rd rs1 rs2 : BitVec 5) : Laws.Shape.Statement (.sll core rd rs1 rs2) :=
  Laws.shape_core rfl rfl
theorem Sys2Proof.Laws.Shape.srl (core : Nat) (rd rs1 rs2 : BitVec 5) : Laws.Shape.Statement (.srl core rd rs1 rs2) :=
  Laws.shape_core rfl rfl
theorem Sys2Proof.Laws.Shape.sra (core : Nat) (rd rs1 rs2 : BitVec 5) : Laws.Shape.Statement (.sra core rd rs1 rs2) :=
  Laws.shape_core rfl rfl
theorem Sys2Proof.Laws.Shape.slt (core : Nat) (rd rs1 rs2 : BitVec 5) : Laws.Shape.Statement (.slt core rd rs1 rs2) :=
  Laws.shape_core rfl rfl
theorem Sys2Proof.Laws.Shape.sltu (core : Nat) (rd rs1 rs2 : BitVec 5) : Laws.Shape.Statement (.sltu core rd rs1 rs2) :=
  Laws.shape_core rfl rfl
theorem Sys2Proof.Laws.Shape.min (core : Nat) (rd rs1 rs2 : BitVec 5) : Laws.Shape.Statement (.min core rd rs1 rs2) :=
  Laws.shape_core rfl rfl
theorem Sys2Proof.Laws.Shape.max (core : Nat) (rd rs1 rs2 : BitVec 5) : Laws.Shape.Statement (.max core rd rs1 rs2) :=
  Laws.shape_core rfl rfl
theorem Sys2Proof.Laws.Shape.minu (core : Nat) (rd rs1 rs2 : BitVec 5) : Laws.Shape.Statement (.minu core rd rs1 rs2) :=
  Laws.shape_core rfl rfl
theorem Sys2Proof.Laws.Shape.maxu (core : Nat) (rd rs1 rs2 : BitVec 5) : Laws.Shape.Statement (.maxu core rd rs1 rs2) :=
  Laws.shape_core rfl rfl
theorem Sys2Proof.Laws.Shape.clz (core : Nat) (rd rs1 rs2 : BitVec 5) : Laws.Shape.Statement (.clz core rd rs1 rs2) :=
  Laws.shape_core rfl rfl
theorem Sys2Proof.Laws.Shape.popc (core : Nat) (rd rs1 rs2 : BitVec 5) : Laws.Shape.Statement (.popc core rd rs1 rs2) :=
  Laws.shape_core rfl rfl
theorem Sys2Proof.Laws.Shape.mul (core : Nat) (rd rs1 rs2 : BitVec 5) : Laws.Shape.Statement (.mul core rd rs1 rs2) :=
  Laws.shape_core rfl rfl
theorem Sys2Proof.Laws.Shape.mulh (core : Nat) (rd rs1 rs2 : BitVec 5) : Laws.Shape.Statement (.mulh core rd rs1 rs2) :=
  Laws.shape_core rfl rfl
theorem Sys2Proof.Laws.Shape.mulhu (core : Nat) (rd rs1 rs2 : BitVec 5) : Laws.Shape.Statement (.mulhu core rd rs1 rs2) :=
  Laws.shape_core rfl rfl
theorem Sys2Proof.Laws.Shape.div (core : Nat) (rd rs1 rs2 : BitVec 5) : Laws.Shape.Statement (.div core rd rs1 rs2) :=
  Laws.shape_core rfl rfl
theorem Sys2Proof.Laws.Shape.divu (core : Nat) (rd rs1 rs2 : BitVec 5) : Laws.Shape.Statement (.divu core rd rs1 rs2) :=
  Laws.shape_core rfl rfl
theorem Sys2Proof.Laws.Shape.rem (core : Nat) (rd rs1 rs2 : BitVec 5) : Laws.Shape.Statement (.rem core rd rs1 rs2) :=
  Laws.shape_core rfl rfl
theorem Sys2Proof.Laws.Shape.remu (core : Nat) (rd rs1 rs2 : BitVec 5) : Laws.Shape.Statement (.remu core rd rs1 rs2) :=
  Laws.shape_core rfl rfl
theorem Sys2Proof.Laws.Shape.addi (core : Nat) (rd rs1 : BitVec 5) (imm : BitVec 16) : Laws.Shape.Statement (.addi core rd rs1 imm) :=
  Laws.shape_core rfl rfl
theorem Sys2Proof.Laws.Shape.andi (core : Nat) (rd rs1 : BitVec 5) (imm : BitVec 16) : Laws.Shape.Statement (.andi core rd rs1 imm) :=
  Laws.shape_core rfl rfl
theorem Sys2Proof.Laws.Shape.ori (core : Nat) (rd rs1 : BitVec 5) (imm : BitVec 16) : Laws.Shape.Statement (.ori core rd rs1 imm) :=
  Laws.shape_core rfl rfl
theorem Sys2Proof.Laws.Shape.xori (core : Nat) (rd rs1 : BitVec 5) (imm : BitVec 16) : Laws.Shape.Statement (.xori core rd rs1 imm) :=
  Laws.shape_core rfl rfl
theorem Sys2Proof.Laws.Shape.slti (core : Nat) (rd rs1 : BitVec 5) (imm : BitVec 16) : Laws.Shape.Statement (.slti core rd rs1 imm) :=
  Laws.shape_core rfl rfl
theorem Sys2Proof.Laws.Shape.sltiu (core : Nat) (rd rs1 : BitVec 5) (imm : BitVec 16) : Laws.Shape.Statement (.sltiu core rd rs1 imm) :=
  Laws.shape_core rfl rfl
theorem Sys2Proof.Laws.Shape.shi (core : Nat) (rd rs1 : BitVec 5) (imm : BitVec 16) : Laws.Shape.Statement (.shi core rd rs1 imm) :=
  Laws.shape_core rfl rfl
theorem Sys2Proof.Laws.Shape.lui (core : Nat) (rd : BitVec 5) (imm : BitVec 21) : Laws.Shape.Statement (.lui core rd imm) :=
  Laws.shape_core rfl rfl
theorem Sys2Proof.Laws.Shape.ldnW (core : Nat) (rd rs1 : BitVec 5) (imm : BitVec 16) : Laws.Shape.Statement (.ldnW core rd rs1 imm) :=
  Laws.shape_core rfl rfl
theorem Sys2Proof.Laws.Shape.ldnH (core : Nat) (rd rs1 : BitVec 5) (imm : BitVec 16) : Laws.Shape.Statement (.ldnH core rd rs1 imm) :=
  Laws.shape_core rfl rfl
theorem Sys2Proof.Laws.Shape.ldnHu (core : Nat) (rd rs1 : BitVec 5) (imm : BitVec 16) : Laws.Shape.Statement (.ldnHu core rd rs1 imm) :=
  Laws.shape_core rfl rfl
theorem Sys2Proof.Laws.Shape.ldnB (core : Nat) (rd rs1 : BitVec 5) (imm : BitVec 16) : Laws.Shape.Statement (.ldnB core rd rs1 imm) :=
  Laws.shape_core rfl rfl
theorem Sys2Proof.Laws.Shape.ldnBu (core : Nat) (rd rs1 : BitVec 5) (imm : BitVec 16) : Laws.Shape.Statement (.ldnBu core rd rs1 imm) :=
  Laws.shape_core rfl rfl
theorem Sys2Proof.Laws.Shape.ldtW (core : Nat) (rd rs1 : BitVec 5) (imm : BitVec 16) : Laws.Shape.Statement (.ldtW core rd rs1 imm) :=
  Laws.shape_core rfl rfl
theorem Sys2Proof.Laws.Shape.ldgW (core : Nat) (rd rs1 : BitVec 5) (imm : BitVec 16) : Laws.Shape.Statement (.ldgW core rd rs1 imm) :=
  Laws.shape_core rfl rfl
theorem Sys2Proof.Laws.Shape.stnW (core : Nat) (rs2 rs1 : BitVec 5) (imm : BitVec 16) : Laws.Shape.Statement (.stnW core rs2 rs1 imm) :=
  Laws.shape_core rfl rfl
theorem Sys2Proof.Laws.Shape.stnH (core : Nat) (rs2 rs1 : BitVec 5) (imm : BitVec 16) : Laws.Shape.Statement (.stnH core rs2 rs1 imm) :=
  Laws.shape_core rfl rfl
theorem Sys2Proof.Laws.Shape.stnB (core : Nat) (rs2 rs1 : BitVec 5) (imm : BitVec 16) : Laws.Shape.Statement (.stnB core rs2 rs1 imm) :=
  Laws.shape_core rfl rfl
theorem Sys2Proof.Laws.Shape.sttW (core : Nat) (rs2 rs1 : BitVec 5) (imm : BitVec 16) : Laws.Shape.Statement (.sttW core rs2 rs1 imm) :=
  Laws.shape_core rfl rfl
theorem Sys2Proof.Laws.Shape.stgW (core : Nat) (rs2 rs1 : BitVec 5) (imm : BitVec 16) : Laws.Shape.Statement (.stgW core rs2 rs1 imm) :=
  Laws.shape_core rfl rfl
theorem Sys2Proof.Laws.Shape.beq (core : Nat) (rs1 rs2 : BitVec 5) (off : BitVec 16) : Laws.Shape.Statement (.beq core rs1 rs2 off) :=
  Laws.shape_core rfl rfl
theorem Sys2Proof.Laws.Shape.bne (core : Nat) (rs1 rs2 : BitVec 5) (off : BitVec 16) : Laws.Shape.Statement (.bne core rs1 rs2 off) :=
  Laws.shape_core rfl rfl
theorem Sys2Proof.Laws.Shape.blt (core : Nat) (rs1 rs2 : BitVec 5) (off : BitVec 16) : Laws.Shape.Statement (.blt core rs1 rs2 off) :=
  Laws.shape_core rfl rfl
theorem Sys2Proof.Laws.Shape.bge (core : Nat) (rs1 rs2 : BitVec 5) (off : BitVec 16) : Laws.Shape.Statement (.bge core rs1 rs2 off) :=
  Laws.shape_core rfl rfl
theorem Sys2Proof.Laws.Shape.bltu (core : Nat) (rs1 rs2 : BitVec 5) (off : BitVec 16) : Laws.Shape.Statement (.bltu core rs1 rs2 off) :=
  Laws.shape_core rfl rfl
theorem Sys2Proof.Laws.Shape.bgeu (core : Nat) (rs1 rs2 : BitVec 5) (off : BitVec 16) : Laws.Shape.Statement (.bgeu core rs1 rs2 off) :=
  Laws.shape_core rfl rfl
theorem Sys2Proof.Laws.Shape.j (core : Nat) (off : BitVec 26) : Laws.Shape.Statement (.j core off) :=
  Laws.shape_core rfl rfl
theorem Sys2Proof.Laws.Shape.jal (core : Nat) (off : BitVec 26) : Laws.Shape.Statement (.jal core off) :=
  Laws.shape_core rfl rfl
theorem Sys2Proof.Laws.Shape.jalr (core : Nat) (rd rs1 : BitVec 5) (imm : BitVec 16) : Laws.Shape.Statement (.jalr core rd rs1 imm) :=
  Laws.shape_core rfl rfl
theorem Sys2Proof.Laws.Shape.wide (core : Nat) (off : BitVec 26) : Laws.Shape.Statement (.wide core off) :=
  Laws.shape_core rfl rfl
theorem Sys2Proof.Laws.Shape.mfs (core : Nat) (rd : BitVec 5) (spec : BitVec 12) : Laws.Shape.Statement (.mfs core rd spec) :=
  Laws.shape_core rfl rfl
theorem Sys2Proof.Laws.Shape.mts (core : Nat) (rs1 : BitVec 5) (spec : BitVec 12) : Laws.Shape.Statement (.mts core rs1 spec) :=
  Laws.shape_core rfl rfl
theorem Sys2Proof.Laws.Shape.trap (core : Nat) (n : BitVec 12) : Laws.Shape.Statement (.trap core n) :=
  Laws.shape_core rfl rfl
theorem Sys2Proof.Laws.Shape.eret (core : Nat) : Laws.Shape.Statement (.eret core) :=
  Laws.shape_core rfl rfl
theorem Sys2Proof.Laws.Shape.halt (core : Nat) : Laws.Shape.Statement (.halt core) :=
  Laws.shape_core rfl rfl
theorem Sys2Proof.Laws.Shape.mldw (core : Nat) (f : MFields) : Laws.Shape.Statement (.mldw core f) :=
  Laws.shape_core rfl rfl
theorem Sys2Proof.Laws.Shape.mpass (core : Nat) (f : MFields) : Laws.Shape.Statement (.mpass core f) :=
  Laws.shape_core rfl rfl
theorem Sys2Proof.Laws.Shape.mzero (core : Nat) (f : MFields) : Laws.Shape.Statement (.mzero core f) :=
  Laws.shape_core rfl rfl
theorem Sys2Proof.Laws.Shape.vfadd (core : Nat) (f : VFields) : Laws.Shape.Statement (.vfadd core f) :=
  Laws.shape_core rfl rfl
theorem Sys2Proof.Laws.Shape.vfsub (core : Nat) (f : VFields) : Laws.Shape.Statement (.vfsub core f) :=
  Laws.shape_core rfl rfl
theorem Sys2Proof.Laws.Shape.vfmul (core : Nat) (f : VFields) : Laws.Shape.Statement (.vfmul core f) :=
  Laws.shape_core rfl rfl
theorem Sys2Proof.Laws.Shape.vfma (core : Nat) (f : VFields) : Laws.Shape.Statement (.vfma core f) :=
  Laws.shape_core rfl rfl
theorem Sys2Proof.Laws.Shape.vfmin (core : Nat) (f : VFields) : Laws.Shape.Statement (.vfmin core f) :=
  Laws.shape_core rfl rfl
theorem Sys2Proof.Laws.Shape.vfmax (core : Nat) (f : VFields) : Laws.Shape.Statement (.vfmax core f) :=
  Laws.shape_core rfl rfl
theorem Sys2Proof.Laws.Shape.vfabs (core : Nat) (f : VFields) : Laws.Shape.Statement (.vfabs core f) :=
  Laws.shape_core rfl rfl
theorem Sys2Proof.Laws.Shape.vfneg (core : Nat) (f : VFields) : Laws.Shape.Statement (.vfneg core f) :=
  Laws.shape_core rfl rfl
theorem Sys2Proof.Laws.Shape.vfcmp (core : Nat) (f : VFields) : Laws.Shape.Statement (.vfcmp core f) :=
  Laws.shape_core rfl rfl
theorem Sys2Proof.Laws.Shape.vfscale (core : Nat) (f : VFields) : Laws.Shape.Statement (.vfscale core f) :=
  Laws.shape_core rfl rfl
theorem Sys2Proof.Laws.Shape.viadd (core : Nat) (f : VFields) : Laws.Shape.Statement (.viadd core f) :=
  Laws.shape_core rfl rfl
theorem Sys2Proof.Laws.Shape.visub (core : Nat) (f : VFields) : Laws.Shape.Statement (.visub core f) :=
  Laws.shape_core rfl rfl
theorem Sys2Proof.Laws.Shape.vimul (core : Nat) (f : VFields) : Laws.Shape.Statement (.vimul core f) :=
  Laws.shape_core rfl rfl
theorem Sys2Proof.Laws.Shape.vand (core : Nat) (f : VFields) : Laws.Shape.Statement (.vand core f) :=
  Laws.shape_core rfl rfl
theorem Sys2Proof.Laws.Shape.vor (core : Nat) (f : VFields) : Laws.Shape.Statement (.vor core f) :=
  Laws.shape_core rfl rfl
theorem Sys2Proof.Laws.Shape.vxor (core : Nat) (f : VFields) : Laws.Shape.Statement (.vxor core f) :=
  Laws.shape_core rfl rfl
theorem Sys2Proof.Laws.Shape.vshl (core : Nat) (f : VFields) : Laws.Shape.Statement (.vshl core f) :=
  Laws.shape_core rfl rfl
theorem Sys2Proof.Laws.Shape.vshr (core : Nat) (f : VFields) : Laws.Shape.Statement (.vshr core f) :=
  Laws.shape_core rfl rfl
theorem Sys2Proof.Laws.Shape.vsra (core : Nat) (f : VFields) : Laws.Shape.Statement (.vsra core f) :=
  Laws.shape_core rfl rfl
theorem Sys2Proof.Laws.Shape.vimin (core : Nat) (f : VFields) : Laws.Shape.Statement (.vimin core f) :=
  Laws.shape_core rfl rfl
theorem Sys2Proof.Laws.Shape.vimax (core : Nat) (f : VFields) : Laws.Shape.Statement (.vimax core f) :=
  Laws.shape_core rfl rfl
theorem Sys2Proof.Laws.Shape.vicmp (core : Nat) (f : VFields) : Laws.Shape.Statement (.vicmp core f) :=
  Laws.shape_core rfl rfl
theorem Sys2Proof.Laws.Shape.vsel (core : Nat) (f : VFields) : Laws.Shape.Statement (.vsel core f) :=
  Laws.shape_core rfl rfl
theorem Sys2Proof.Laws.Shape.vbcs (core : Nat) (f : VFields) : Laws.Shape.Statement (.vbcs core f) :=
  Laws.shape_core rfl rfl
theorem Sys2Proof.Laws.Shape.vbci (core : Nat) (f : VFields) : Laws.Shape.Statement (.vbci core f) :=
  Laws.shape_core rfl rfl
theorem Sys2Proof.Laws.Shape.vperm (core : Nat) (f : VFields) : Laws.Shape.Statement (.vperm core f) :=
  Laws.shape_core rfl rfl
theorem Sys2Proof.Laws.Shape.vrot (core : Nat) (f : VFields) : Laws.Shape.Statement (.vrot core f) :=
  Laws.shape_core rfl rfl
theorem Sys2Proof.Laws.Shape.vext (core : Nat) (f : VFields) : Laws.Shape.Statement (.vext core f) :=
  Laws.shape_core rfl rfl
theorem Sys2Proof.Laws.Shape.vins (core : Nat) (f : VFields) : Laws.Shape.Statement (.vins core f) :=
  Laws.shape_core rfl rfl
theorem Sys2Proof.Laws.Shape.vrsum (core : Nat) (f : VFields) : Laws.Shape.Statement (.vrsum core f) :=
  Laws.shape_core rfl rfl
theorem Sys2Proof.Laws.Shape.vrmax (core : Nat) (f : VFields) : Laws.Shape.Statement (.vrmax core f) :=
  Laws.shape_core rfl rfl
theorem Sys2Proof.Laws.Shape.vrmin (core : Nat) (f : VFields) : Laws.Shape.Statement (.vrmin core f) :=
  Laws.shape_core rfl rfl
theorem Sys2Proof.Laws.Shape.vrisum (core : Nat) (f : VFields) : Laws.Shape.Statement (.vrisum core f) :=
  Laws.shape_core rfl rfl
theorem Sys2Proof.Laws.Shape.vexpmax (core : Nat) (f : VFields) : Laws.Shape.Statement (.vexpmax core f) :=
  Laws.shape_core rfl rfl
theorem Sys2Proof.Laws.Shape.vcvti (core : Nat) (f : VFields) : Laws.Shape.Statement (.vcvti core f) :=
  Laws.shape_core rfl rfl
theorem Sys2Proof.Laws.Shape.vcvtf (core : Nat) (f : VFields) : Laws.Shape.Statement (.vcvtf core f) :=
  Laws.shape_core rfl rfl
theorem Sys2Proof.Laws.Shape.vrnd (core : Nat) (f : VFields) : Laws.Shape.Statement (.vrnd core f) :=
  Laws.shape_core rfl rfl
theorem Sys2Proof.Laws.Shape.vfix (core : Nat) (f : VFields) : Laws.Shape.Statement (.vfix core f) :=
  Laws.shape_core rfl rfl
theorem Sys2Proof.Laws.Shape.vflt (core : Nat) (f : VFields) : Laws.Shape.Statement (.vflt core f) :=
  Laws.shape_core rfl rfl
theorem Sys2Proof.Laws.Shape.vadd64 (core : Nat) (f : VFields) : Laws.Shape.Statement (.vadd64 core f) :=
  Laws.shape_core rfl rfl
theorem Sys2Proof.Laws.Shape.vrand (core : Nat) (f : VFields) : Laws.Shape.Statement (.vrand core f) :=
  Laws.shape_core rfl rfl
theorem Sys2Proof.Laws.Shape.vrda (core : Nat) (f : VFields) : Laws.Shape.Statement (.vrda core f) :=
  Laws.shape_core rfl rfl
theorem Sys2Proof.Laws.Shape.vwra (core : Nat) (f : VFields) : Laws.Shape.Statement (.vwra core f) :=
  Laws.shape_core rfl rfl
theorem Sys2Proof.Laws.Shape.vplog (core : Nat) (f : VFields) : Laws.Shape.Statement (.vplog core f) :=
  Laws.shape_core rfl rfl
theorem Sys2Proof.Laws.Shape.vpset (core : Nat) (f : VFields) : Laws.Shape.Statement (.vpset core f) :=
  Laws.shape_core rfl rfl
theorem Sys2Proof.Laws.Shape.vpget (core : Nat) (f : VFields) : Laws.Shape.Statement (.vpget core f) :=
  Laws.shape_core rfl rfl
theorem Sys2Proof.Laws.Shape.vld (core : Nat) (f : VFields) : Laws.Shape.Statement (.vld core f) :=
  Laws.shape_core rfl rfl
theorem Sys2Proof.Laws.Shape.vst (core : Nat) (f : VFields) : Laws.Shape.Statement (.vst core f) :=
  Laws.shape_core rfl rfl
theorem Sys2Proof.Laws.Shape.vlds (core : Nat) (f : VFields) : Laws.Shape.Statement (.vlds core f) :=
  Laws.shape_core rfl rfl
theorem Sys2Proof.Laws.Shape.vldx (core : Nat) (f : VFields) : Laws.Shape.Statement (.vldx core f) :=
  Laws.shape_core rfl rfl
theorem Sys2Proof.Laws.Shape.sfn (core : Nat) (rom : Bool) (f : SfFields) : Laws.Shape.Statement (.sfn core rom f) :=
  Laws.shape_core rfl rfl
theorem Sys2Proof.Laws.Shape.sfnb (core : Nat) (rom : Bool) (f : SfFields) : Laws.Shape.Statement (.sfnb core rom f) :=
  Laws.shape_core rfl rfl
theorem Sys2Proof.Laws.Shape.sfnbs (core : Nat) (rom : Bool) (f : SfFields) : Laws.Shape.Statement (.sfnbs core rom f) :=
  Laws.shape_core rfl rfl
theorem Sys2Proof.Laws.Shape.sder (core : Nat) (rom : Bool) (f : SfFields) : Laws.Shape.Statement (.sder core rom f) :=
  Laws.shape_core rfl rfl
theorem Sys2Proof.Laws.Shape.snormTable (core : Nat) (f : SfFields) : Laws.Shape.Statement (.snormTable core f) :=
  Laws.shape_core rfl rfl
theorem Sys2Proof.Laws.Shape.snormBoxMuller (core : Nat) (rom : Bool) (f : SfFields) : Laws.Shape.Statement (.snormBoxMuller core rom f) :=
  Laws.shape_core rfl rfl
theorem Sys2Proof.Laws.Shape.xferRows (core : Nat) (f : MvFields) : Laws.Shape.Statement (.xferRows core f) :=
  Laws.shape_core rfl rfl
theorem Sys2Proof.Laws.Shape.xferTranspose (core : Nat) (f : MvFields) : Laws.Shape.Statement (.xferTranspose core f) :=
  Laws.shape_core rfl rfl
theorem Sys2Proof.Laws.Shape.xferConvert (core : Nat) (f : MvFields) : Laws.Shape.Statement (.xferConvert core f) :=
  Laws.shape_core rfl rfl
theorem Sys2Proof.Laws.Shape.xferConvertTranspose (core : Nat) (f : MvFields) : Laws.Shape.Statement (.xferConvertTranspose core f) :=
  Laws.shape_core rfl rfl
theorem Sys2Proof.Laws.Shape.xferFill (core : Nat) (f : MvFields) : Laws.Shape.Statement (.xferFill core f) :=
  Laws.shape_core rfl rfl
theorem Sys2Proof.Laws.Shape.racc (core : Nat) (f : MvFields) : Laws.Shape.Statement (.racc core f) :=
  Laws.shape_core rfl rfl
theorem Sys2Proof.Laws.Shape.atomAdd32 (core : Nat) (f : MvFields) : Laws.Shape.Statement (.atomAdd32 core f) :=
  Laws.shape_core rfl rfl
theorem Sys2Proof.Laws.Shape.atomAdd64 (core : Nat) (f : MvFields) : Laws.Shape.Statement (.atomAdd64 core f) :=
  Laws.shape_core rfl rfl
theorem Sys2Proof.Laws.Shape.atomSwap32 (core : Nat) (f : MvFields) : Laws.Shape.Statement (.atomSwap32 core f) :=
  Laws.shape_core rfl rfl
theorem Sys2Proof.Laws.Shape.atomSwap64 (core : Nat) (f : MvFields) : Laws.Shape.Statement (.atomSwap64 core f) :=
  Laws.shape_core rfl rfl
theorem Sys2Proof.Laws.Shape.atomCas32 (core : Nat) (f : MvFields) : Laws.Shape.Statement (.atomCas32 core f) :=
  Laws.shape_core rfl rfl
theorem Sys2Proof.Laws.Shape.atomCas64 (core : Nat) (f : MvFields) : Laws.Shape.Statement (.atomCas64 core f) :=
  Laws.shape_core rfl rfl
theorem Sys2Proof.Laws.Shape.atomMaxs32 (core : Nat) (f : MvFields) : Laws.Shape.Statement (.atomMaxs32 core f) :=
  Laws.shape_core rfl rfl
theorem Sys2Proof.Laws.Shape.atomMins32 (core : Nat) (f : MvFields) : Laws.Shape.Statement (.atomMins32 core f) :=
  Laws.shape_core rfl rfl
theorem Sys2Proof.Laws.Shape.accst (core : Nat) (mode : BitVec 4) (f : MvFields) : Laws.Shape.Statement (.accst core mode f) :=
  Laws.shape_core rfl rfl
theorem Sys2Proof.Laws.Shape.accld (core : Nat) (mode : BitVec 4) (f : MvFields) : Laws.Shape.Statement (.accld core mode f) :=
  Laws.shape_core rfl rfl
theorem Sys2Proof.Laws.Shape.mwait (core : Nat) (f : SyFields) : Laws.Shape.Statement (.mwait core f) :=
  Laws.shape_core rfl rfl
theorem Sys2Proof.Laws.Shape.fenceLocal (core : Nat) (f : SyFields) : Laws.Shape.Statement (.fenceLocal core f) :=
  Laws.shape_core rfl rfl
theorem Sys2Proof.Laws.Shape.fenceGlobal (core : Nat) (f : SyFields) : Laws.Shape.Statement (.fenceGlobal core f) :=
  Laws.shape_core rfl rfl
theorem Sys2Proof.Laws.Shape.send (core : Nat) (f : SyFields) : Laws.Shape.Statement (.send core f) :=
  Laws.shape_core rfl rfl
theorem Sys2Proof.Laws.Shape.recv (core : Nat) (f : SyFields) : Laws.Shape.Statement (.recv core f) :=
  Laws.shape_core rfl rfl
theorem Sys2Proof.Laws.Shape.semacq (core : Nat) (f : SyFields) : Laws.Shape.Statement (.semacq core f) :=
  Laws.shape_core rfl rfl
theorem Sys2Proof.Laws.Shape.semrel (core : Nat) (f : SyFields) : Laws.Shape.Statement (.semrel core f) :=
  Laws.shape_core rfl rfl
theorem Sys2Proof.Laws.Shape.waitarr (core : Nat) (f : SyFields) : Laws.Shape.Statement (.waitarr core f) :=
  Laws.shape_core rfl rfl
theorem Sys2Proof.Laws.Shape.waitft (core : Nat) (f : SyFields) : Laws.Shape.Statement (.waitft core f) :=
  Laws.shape_core rfl rfl
theorem Sys2Proof.Laws.Shape.bar (core : Nat) (f : SyFields) : Laws.Shape.Statement (.bar core f) :=
  Laws.shape_core rfl rfl
theorem Sys2Proof.Laws.Shape.coldReset : Laws.Shape.Statement (.coldReset) :=
  Laws.shape_device rfl
theorem Sys2Proof.Laws.Shape.partitionResetDone (pid : Nat) : Laws.Shape.Statement (.partitionResetDone pid) :=
  Laws.shape_device rfl
theorem Sys2Proof.Laws.Shape.regionMigrationDone (pid : Nat) (region : Nat) : Laws.Shape.Statement (.regionMigrationDone pid region) :=
  Laws.shape_device rfl
theorem Sys2Proof.Laws.Shape.linkControlWord (port : Nat) (w : LinkCtl) : Laws.Shape.Statement (.linkControlWord port w) :=
  Laws.shape_device rfl
end

