-- ==== Sys2Proof/Laws/Scalar.lean ====
section
/-! SUPPORT. The scalar instructions once: which issue, and that an instruction which only writes a register leaves `wrote`. -/
/- One declaration after another: the package as one text then needs few threads at a time. -/
set_option Elab.async false

namespace Sys2Proof.Machine

theorem clean_nil (k : Core) : Clean k [] := by
  intro c h
  cases h

theorem clean_cons (k : Core) (a : Nat) (l : List Nat) : Clean k (a :: l) ↔ Clean k [a] ∧ Clean k l := by
  simp [Clean]

/-- Where an instruction names no exception of its own, poison decides. -/
theorem scalarCheck_plain (s : State) (p c : Nat) (k : Core) (o : ScalarOp) (h : scalarExn s p c k o = none) :
    scalarCheck s p c k o = k.poisonExn o.srcs := by
  unfold scalarCheck
  rw [h]
  cases k.poisonExn o.srcs <;> rfl

/-- The scalar instructions that write one register from registers and immediates. -/
def ScalarOp.result (k : Core) : ScalarOp → Option (BitVec 5 × Word)
  | .rr o d a b => some (d, o.eval (k.rs a) (k.rs b))
  | .ri o d a imm => some (d, o.eval (k.rs a) imm)
  | .shi d a imm => if field imm.toNat 15 14 = 3 then none else some (d, shiEval (k.rs a) imm)
  | .lui d imm => some (d, (imm.zeroExtend 32) <<< 11)
  | .load _ _ _ _ | .store _ _ _ _ | .branch _ _ _ _ | .j _ | .jal _ | .jalr _ _ _ | .wide _ | .mfs _ _ | .mts _ _ | .trap _
  | .eret | .halt => none

/-- An instruction that only writes a register issues when its sources are clean, and leaves that register written. -/
theorem exec_result (s : State) (p c : Nat) (rom : Bool) (o : ScalarOp) (i : Instr) (d : BitVec 5) (w : Word)
    (h : Runs s p c) (hi : coreOp i = some (c, rom, .scalar o)) (hr : o.result (s.core c) = some (d, w))
    (hc : Clean (s.core c) o.srcs) : exec i s = .next (wrote s c d w) := by
  cases o with
  | rr o d' a b =>
    cases hr
    rw [exec_coreOp s p c rom _ i hi (issues_plain s p c _ h hc rfl rfl (scalarCheck_plain _ _ _ _ _ rfl) rfl)]
    exact congrArg Host.Outcome.next (perform_wrote s p c _ (.rr o d a b) rom _ _ (fun e => by cases e) rfl rfl)
  | ri o d' a imm =>
    cases hr
    rw [exec_coreOp s p c rom _ i hi (issues_plain s p c _ h hc rfl rfl (scalarCheck_plain _ _ _ _ _ rfl) rfl)]
    exact congrArg Host.Outcome.next (perform_wrote s p c _ (.ri o d a imm) rom _ _ (fun e => by cases e) rfl rfl)
  | shi d' a imm =>
    simp only [ScalarOp.result] at hr
    split at hr
    · cases hr
    · rename_i hf
      cases hr
      rw [exec_coreOp s p c rom _ i hi (issues_plain s p c _ h hc (by simp [ScalarOp.illegal, hf]) rfl
        (scalarCheck_plain _ _ _ _ _ rfl) rfl)]
      exact congrArg Host.Outcome.next (perform_wrote s p c _ (.shi d a imm) rom _ _ (fun e => by cases e) rfl rfl)
  | lui d' imm =>
    cases hr
    rw [exec_coreOp s p c rom _ i hi (issues_plain s p c _ h hc rfl rfl (scalarCheck_plain _ _ _ _ _ rfl) rfl)]
    exact congrArg Host.Outcome.next (perform_wrote s p c _ (.lui d imm) rom _ _ (fun e => by cases e) rfl rfl)
  | load _ _ _ _ | store _ _ _ _ | branch _ _ _ _ | j _ | jal _ | jalr _ _ _ | wide _ | mfs _ _ | mts _ _ | trap _ | eret
  | halt => cases hr

/-- A scalar operation that passes its checks issues. -/
theorem issues_scalar (s : State) (p c : Nat) (o : ScalarOp) (h : Runs s p c) (hf : fetchExn (s.core c) o = none)
    (hl : slotIllegal (s.core c) (issueSlot (s.core c) (.scalar o)) (.scalar o) = false)
    (hc : Clean (s.core c) o.srcs) (hx : scalarExn s p c (s.core c) o = none) : Issues s p c (.scalar o) where
  runs := h
  fetch := hf
  legal := hl
  room := by simp [resourceStall, SlotOp.tiles]
  checks := by
    simp only [slotCheck]
    rw [scalarCheck_plain _ _ _ _ _ hx, poisonExn_clean _ _ hc]
  wait := by simp [waitOf]

/-- A load that passes its checks leaves `loaded` (R84, R93). -/
theorem exec_load (s : State) (p c : Nat) (o : LdOp) (i : Instr) (rd ra : BitVec 5) (imm : BitVec 16) (x a : Nat)
    (h : Runs s p c) (hi : coreOp i = some (c, false, .scalar (.load o rd ra imm)))
    (hc : Clean (s.core c) (baseRegs o.own ra)) (hill : (o.own.isNone && ra.getLsbD 0) = false)
    (ha : memAddr o.own (s.core c) ra imm = a) (hm : s.memExn p c o.own a o.size = none) (hw : viaWindow o.own a = false)
    (hx : s.accessPhys p c o.own a = x) :
    exec i s = .next (loaded s c rd (o.extend (s.readN x o.size)) (s.poisoned x o.size) a) := by
  have iss : Issues s p c (.scalar (.load o rd ra imm)) := by
    refine issues_scalar s p c _ h rfl ?_ hc ?_
    · simp only [slotIllegal, ScalarOp.illegal, ScalarOp.control, hill]
      simp
    · simp only [scalarExn, ha, hm]
  rw [exec_coreOp s p c false _ i hi iss, perform_one _ _ _ _ _ _ (by simp), nextFetch_plain _ _ _ (by rintro x ⟨⟩; rfl)]
  simp only [slotEffect, scalarEffect, State.scalarLoad, ha, hw, hx, Bool.false_eq_true, if_false, State.onCore_onCore, loaded]
  congr 1
  apply State.onCore_congr
  simp only [Special.after, Core.goto, Core.advance]
  split <;> simp [Core.mark]

/-- A store that passes its checks writes its bytes (R83). -/
theorem exec_store (s : State) (p c : Nat) (o : StOp) (i : Instr) (rb ra : BitVec 5) (imm : BitVec 16) (x a : Nat)
    (h : Runs s p c) (hi : coreOp i = some (c, false, .scalar (.store o rb ra imm)))
    (hc : Clean (s.core c) (codeS rb :: baseRegs o.own ra)) (hill : (o.own.isNone && ra.getLsbD 0) = false)
    (ha : memAddr o.own (s.core c) ra imm = a) (hm : s.memExn p c o.own a o.size = none) (hw : viaWindow o.own a = false)
    (hx : s.accessPhys p c o.own a = x) :
    exec i s = .next ((s.writeN x o.size ((s.core c).rs rb).toNat).onCore c Core.advance) := by
  have iss : Issues s p c (.scalar (.store o rb ra imm)) := by
    refine issues_scalar s p c _ h rfl ?_ hc ?_
    · simp only [slotIllegal, ScalarOp.illegal, ScalarOp.control, hill]
      simp
    · simp only [scalarExn, ha, hm]
  rw [exec_coreOp s p c false _ i hi iss, perform_one _ _ _ _ _ _ (by simp), nextFetch_plain _ _ _ (by rintro x ⟨⟩; rfl)]
  simp only [slotEffect, scalarEffect, State.scalarStore, ha, hw, hx, Bool.false_eq_true, if_false]
  congr 1
  apply State.onCore_congr
  show Core.goto (s.core c) _ _ = Core.advance (s.core c)
  simp [Special.after, Core.goto, Core.advance]

/-- An access inside its store and aligned has no exception (R83). -/
theorem ownExn_none (t0 : Bool) (a n : Nat) (h : a < if t0 then sliceBytes else 2 ^ 20) (ha : a % n = 0) :
    ownExn t0 a n = none := by
  have h1 : ownRange t0 a 1 = none := by
    unfold ownRange
    exact if_neg (by omega)
  have h2 : alignExn a n = none := by
    unfold alignExn
    exact if_neg (by omega)
  simp only [ownExn, h1, h2]
  rfl

/-- A global access outside the register pages that R60 lets pass. -/
theorem globalExn_none (s : State) (p c a n x : Nat) (h4 : spaceOf a ≠ 4) (hr : s.resolve (.part p) a n = .ok x)
    (ha : a % n = 0) : s.globalExn p c a n = none := by
  have h2 : alignExn a n = none := by
    unfold alignExn
    exact if_neg (by omega)
  simp only [State.globalExn, h4, if_false, hr, h2]
  rfl

theorem getLsb_zero {n : Nat} (r : BitVec n) : r.getLsbD 0 = decide (r.toNat % 2 = 1) := by
  rw [← BitVec.testBit_toNat, Nat.testBit_zero]

/-- The operation of a core command, run for a core that runs a task. -/
theorem exec_runOne (s : State) (c : Nat) (rom : Bool) (o : SlotOp) (i : Instr) (hi : coreOp i = some (c, rom, o))
    (hx : c < 1024) : exec i s = .next (s.runOne c rom o) := by
  have e : exec i s = onCoreId c (.next (s.runOne c rom o)) := by
    cases i <;> simp only [coreOp, Option.some.injEq, Prod.mk.injEq, reduceCtorEq] at hi <;> (obtain ⟨rfl, rfl, rfl⟩ := hi; rfl)
  rw [e, onCoreId, if_pos hx]

/-- An operation that is illegal beyond its encoding raises ILLEGAL_OP (R92). -/
theorem exec_illegal (s : State) (p c : Nat) (o : SlotOp) (i : Instr) (h : Runs s p c) (hi : coreOp i = some (c, false, o))
    (hf : fetchOf (s.core c) o = none) (hl : slotIllegal (s.core c) (issueSlot (s.core c) o) o = true) :
    exec i s = .next (s.raiseExn p c 0 (issueSlot (s.core c) o) ⟨0x01, 0⟩ false) := by
  obtain ⟨hx, hp, ht, hq⟩ := h
  have ht' : (s.core c).task.isNone = false := by simpa [Option.isNone_eq_false_iff] using ht
  rw [exec_runOne s c false o i hi hx]
  simp only [State.runOne, State.ofTask, hp, ht', hq, Bool.or_false, Bool.false_eq_true, if_false, State.decoded,
    List.findSome?_cons, List.findSome?_nil, hf, Option.map_none, hl, if_true]

/-- An operation that fails a check of R92 raises that exception. -/
theorem exec_raises (s : State) (p c : Nat) (o : SlotOp) (i : Instr) (e : Exn) (h : Runs s p c) (hi : coreOp i = some (c, false, o))
    (hf : fetchOf (s.core c) o = none) (hl : slotIllegal (s.core c) (issueSlot (s.core c) o) o = false)
    (hr : resourceStall (s.core c) [o] = false) (he : slotCheck s p c (s.core c) o = some e) :
    exec i s = .next (s.raiseExn p c o.trapNo (issueSlot (s.core c) o) e false) := by
  obtain ⟨hx, hp, ht, hq⟩ := h
  have ht' : (s.core c).task.isNone = false := by simpa [Option.isNone_eq_false_iff] using ht
  rw [exec_runOne s c false o i hi hx]
  simp only [State.runOne, State.ofTask, hp, ht', hq, Bool.or_false, Bool.false_eq_true, if_false, State.decoded,
    List.findSome?_cons, List.findSome?_nil, hf, Option.map_none, hl, List.map_cons, List.map_nil, conflict_one,
    Bool.false_and, State.issue, hr, he, Option.map_some]

/-- A control operation that passes its checks goes where it redirects to, else on, after its effect on the core. -/
theorem exec_redirect (s : State) (p c : Nat) (o : ScalarOp) (i : Instr) (t : BitVec 20 × Bool) (f : Core → Core) (h : Runs s p c)
    (hi : coreOp i = some (c, false, .scalar o)) (hf : fetchExn (s.core c) o = none)
    (hx : scalarExn s p c (s.core c) o = none) (hl : o.illegal (s.core c) = false) (hc : Clean (s.core c) o.srcs)
    (hcon : o.control = true) (hh : o ≠ .halt) (ht : (redirect (s.core c) o).getD ((s.core c).spec.after false) = t)
    (he : ∀ g, (scalarEffect s p c (s.core c) o).onCore c g = s.onCore c (fun k => g (f k))) :
    exec i s = .next (s.onCore c (fun k => (f k).goto t.1 t.2)) := by
  have iss : Issues s p c (.scalar o) := by
    refine issues_scalar s p c _ h hf ?_ hc hx
    simp only [slotIllegal, hl, issueSlot, SlotOp.slot, hcon]
    cases (s.core c).spec.bundleMode <;> rfl
  rw [exec_coreOp s p c false _ i hi iss, perform_one _ _ _ _ _ _ (by simpa using hh)]
  simp only [slotEffect, he]
  have e : nextFetch (s.core c) [(issueSlot (s.core c) (.scalar o), .scalar o)] false = t := by
    rw [← ht]
    simp only [nextFetch, List.findSome?_cons, List.findSome?_nil]
    cases redirect (s.core c) o <;> rfl
  rw [e]

/-- A jump by off units (R83, R85). -/
theorem Special.jump_eq (x : Special) (off : Int) :
    x.jump off = BitVec.ofInt 20 (x.pc.toNat + (if x.bundleMode then 64 else 4 : Nat) * off) := by
  simp [Special.jump, wrapPc, unitBytes]

/-- The return code pointer (R63). -/
theorem Special.ret_eq (x : Special) :
    x.ret = BitVec.ofNat 32 ((x.pc.toNat + (if x.bundleMode then 64 else 4 : Nat)) % 2 ^ 20 + if x.bundleMode then 1 else 0) := by
  unfold Special.ret codePtr unitBytes
  cases x.bundleMode <;> simp [ofBool]

/-- A code pointer to a scalar instruction (R62, R63, R85). -/
theorem ptr_scalar (w : Word) (h : w.toNat % 4 = 0) : ptrBad w = false ∧ ptrTarget w = (BitVec.ofNat 20 w.toNat, false) := by
  have h0 : w.getLsbD 0 = false := by
    rw [getLsb_zero]
    simp only [decide_eq_false_iff_not]
    omega
  have hw := w.isLt
  refine ⟨by simp only [ptrBad, h0, h]; rfl, ?_⟩
  simp only [ptrTarget, h0, alignPc, unitBytes]
  congr 1
  apply BitVec.eq_of_toNat_eq
  simp only [BitVec.toNat_ofNat, Bool.false_eq_true, if_false]
  omega

/-- A code pointer to a bundle. -/
theorem ptr_bundle (w : Word) (h : w.toNat % 64 = 1) : ptrBad w = false ∧ ptrTarget w = (BitVec.ofNat 20 (w.toNat - 1), true) := by
  have h0 : w.getLsbD 0 = true := by
    rw [getLsb_zero]
    simp only [decide_eq_true_eq]
    omega
  have hw := w.isLt
  have h1 : (w.toNat - 1) % 64 = 0 := by omega
  refine ⟨by simp only [ptrBad, h0, h1]; rfl, ?_⟩
  simp only [ptrTarget, h0, alignPc, unitBytes]
  congr 1
  apply BitVec.eq_of_toNat_eq
  simp only [BitVec.toNat_ofNat, if_true]
  omega

/-- A scalar operation whose own rule names an exception raises it. -/
theorem exec_scalar_raises (s : State) (p c : Nat) (o : ScalarOp) (i : Instr) (e : Exn) (h : Runs s p c) (hi : coreOp i = some (c, false, .scalar o))
    (hf : fetchExn (s.core c) o = none) (hl : o.illegal (s.core c) = false) (hc : Clean (s.core c) o.srcs) (hx : scalarExn s p c (s.core c) o = some e) :
    exec i s = .next (s.raiseExn p c (SlotOp.trapNo (.scalar o)) (if (s.core c).spec.bundleMode then (if o.control then 1 else 0) else 15) e false) := by
  have := exec_raises s p c _ i e h hi (show fetchOf _ (.scalar o) = none from hf) (by
    simp only [slotIllegal, hl, issueSlot, SlotOp.slot]
    cases o.control <;> cases (s.core c).spec.bundleMode <;> rfl) (by simp [resourceStall, SlotOp.tiles]) (by
    simp only [slotCheck]; unfold scalarCheck; rw [hx, poisonExn_clean _ _ hc]; rfl)
  rw [this]; rfl

/-- A scalar operation that changes its core by `f` and goes on. -/
theorem exec_onCore (s : State) (p c : Nat) (o : ScalarOp) (i : Instr) (f : Core → Core) (h : Runs s p c) (hi : coreOp i = some (c, false, .scalar o))
    (hf : fetchExn (s.core c) o = none) (hl : o.illegal (s.core c) = false) (hc : Clean (s.core c) o.srcs) (hx : scalarExn s p c (s.core c) o = none)
    (hcon : o.control = false) (hh : o ≠ .halt) (hr : redirect (s.core c) o = none)
    (he : scalarEffect s p c (s.core c) o = s.onCore c f) (hpc : (f (s.core c)).spec.pc = (s.core c).spec.pc) (hb : (f (s.core c)).spec.bundleMode = (s.core c).spec.bundleMode) :
    exec i s = .next (s.onCore c (fun k => (f k).advance)) := by
  have iss : Issues s p c (.scalar o) := by
    refine issues_scalar s p c _ h hf ?_ hc hx
    simp only [slotIllegal, hl, hcon]; simp
  rw [exec_coreOp s p c false _ i hi iss, perform_one _ _ _ _ _ _ (by simpa using hh), nextFetch_plain _ _ _ (by rintro x ⟨⟩; exact hr)]
  simp only [slotEffect, he, State.onCore_onCore]
  congr 1
  apply State.onCore_congr
  simp [Core.goto, Core.advance, Special.after, hpc, hb]

end Sys2Proof.Machine
end

