-- ==== Sys2Proof/Laws/Vector.lean ====
section
/-! SUPPORT. The vector instructions once: which issue, and what performing one leaves. -/
/- One declaration after another: the package as one text then needs few threads at a time. -/
set_option Elab.async false

namespace Sys2Proof.Machine

@[simp] theorem Core.setLanes_spec (k : Core) (en : DWord) (v : BitVec 6) (g : Fin 64 → Word) : (k.setLanes en v g).spec = k.spec := rfl
@[simp] theorem Core.setLanes_sync (k : Core) (en : DWord) (v : BitVec 6) (g : Fin 64 → Word) : (k.setLanes en v g).sync = k.sync := rfl
@[simp] theorem Core.orFlags_sync (k : Core) (f : Flags) : (k.orFlags f).sync = k.sync := rfl
@[simp] theorem Core.orFlags_pc (k : Core) (f : Flags) : (k.orFlags f).spec.pc = k.spec.pc := rfl
@[simp] theorem Core.orFlags_bundleMode (k : Core) (f : Flags) : (k.orFlags f).spec.bundleMode = k.spec.bundleMode := rfl
@[simp] theorem Core.setP_spec (k : Core) (r : BitVec 3) (w : DWord) : (k.setP r w).spec = k.spec := by
  unfold Core.setP; split <;> rfl
@[simp] theorem Core.setP_sync (k : Core) (r : BitVec 3) (w : DWord) : (k.setP r w).sync = k.sync := by
  unfold Core.setP; split <;> rfl
@[simp] theorem Core.setTile_spec (k : Core) (a : BitVec 3) (t : Tile) : (k.setTile a t).spec = k.spec := rfl

/-- An operation that is no scalar one and passes its checks leaves its effect, and fetch goes on. -/
theorem exec_slot (s : State) (p c : Nat) (rom : Bool) (o : SlotOp) (i : Instr) (hi : coreOp i = some (c, rom, o)) (h : Runs s p c)
    (ho : ∀ x, o ≠ .scalar x) (hl : slotIllegal (s.core c) (issueSlot (s.core c) o) o = false)
    (hr : resourceStall (s.core c) [o] = false) (hc : slotCheck s p c (s.core c) o = none)
    (hw : waitOf s p (s.core c) [o] = none) :
    exec i s = .next ((slotEffect rom p c (s.core c) s o).onCore c (fun k =>
      k.goto ((s.core c).spec.after false).1 ((s.core c).spec.after false).2)) := by
  have hf : fetchOf (s.core c) o = none := by
    cases o with
    | scalar x => exact absurd rfl (ho x)
    | _ => rfl
  rw [exec_coreOp s p c rom o i hi ⟨h, hf, hl, hr, hc, hw⟩, perform_one _ _ _ _ _ _ (ho _),
    nextFetch_plain _ _ _ (fun x e => absurd e (ho x))]

/-- A vector instruction that is legal, waits for no tile and passes its checks. -/
theorem exec_vec (s : State) (p c : Nat) (o : VOp) (f : VFields) (i : Instr) (hi : coreOp i = some (c, false, .vec o f))
    (h : Runs s p c) (hl : o.illegal f = false) (hr : resourceStall (s.core c) [.vec o f] = false)
    (hc : vecCheck (s.core c) o f = none) :
    exec i s = .next ((vecEffect s p c (s.core c) o f).onCore c (fun k =>
      k.goto ((s.core c).spec.after false).1 ((s.core c).spec.after false).2)) :=
  exec_slot s p c false _ i hi h (fun _ e => by cases e) hl hr hc (by simp [waitOf])

/-- One that changes its core by `g` alone, the PC and mode kept. -/
theorem exec_vec_core (s : State) (p c : Nat) (o : VOp) (f : VFields) (i : Instr) (g : Core → Core)
    (hi : coreOp i = some (c, false, .vec o f)) (h : Runs s p c) (hl : o.illegal f = false)
    (hr : resourceStall (s.core c) [.vec o f] = false) (hc : vecCheck (s.core c) o f = none)
    (he : vecEffect s p c (s.core c) o f = s.onCore c g) (hpc : (g (s.core c)).spec.pc = (s.core c).spec.pc)
    (hb : (g (s.core c)).spec.bundleMode = (s.core c).spec.bundleMode) :
    exec i s = .next (s.onCore c (fun k => (g k).advance)) := by
  rw [exec_vec s p c o f i hi h hl hr hc, he, State.onCore_onCore]
  congr 1
  apply State.onCore_congr
  simp [Core.goto, Core.advance, Special.after, hpc, hb]

/-- The same on a core that an earlier part of the effect left with its PC, mode and waits as they were. -/
theorem goto_advance (s d : State) (c : Nat) (g : Core → Core) (hpc : (g (d.core c)).spec.pc = (s.core c).spec.pc)
    (hb : (g (d.core c)).spec.bundleMode = (s.core c).spec.bundleMode) :
    (d.onCore c g).onCore c (fun k => k.goto ((s.core c).spec.after false).1 ((s.core c).spec.after false).2) =
      d.onCore c (fun k => (g k).advance) := by
  rw [State.onCore_onCore]
  apply State.onCore_congr
  simp [Core.goto, Core.advance, Special.after, hpc, hb]

/-- Vector instructions that name no tile wait for none. -/
theorem no_tile (k : Core) (o : VOp) (f : VFields) (h : ∀ x ∈ o.srcs f ++ o.dests f, x < 128) : resourceStall k [.vec o f] = false := by
  have h1 : ∀ x ∈ o.srcs f, 128 ≤ x → x ∉ k.pendingTiles := fun x hx hl => by
    have := h x (List.mem_append_left _ hx)
    omega
  have h2 : ∀ x ∈ o.dests f, 128 ≤ x → x ∉ k.pendingTiles := fun x hx hl => by
    have := h x (List.mem_append_right _ hx)
    omega
  simpa [resourceStall, SlotOp.tiles] using ⟨h1, h2⟩

theorem codeV_lt (v : BitVec 6) : codeV v < 128 := by
  have := v.isLt
  unfold codeV
  omega
theorem codeS_lt (r : BitVec 5) : codeS r < 128 := by
  have := r.isLt
  unfold codeS
  omega
theorem codeP_lt (r : BitVec 3) : codeP r < 128 := by
  have := r.isLt
  unfold codeP
  omega

/-- A vector instruction that is no memory operation only checks its sources. -/
theorem vecCheck_none (k : Core) (o : VOp) (f : VFields) (hc : Clean k (o.srcs f))
    (h : o ≠ .vld ∧ o ≠ .vst ∧ o ≠ .vlds ∧ o ≠ .vldx) : vecCheck k o f = none := by
  simp only [vecCheck, poisonExn_clean _ _ hc]
  cases o <;> first | rfl | simp at h

/-- One that writes enabled lanes leaves `lanesWrote`. -/
theorem exec_lanes (s : State) (p c : Nat) (o : VOp) (f : VFields) (i : Instr) (g : Fin 64 → Word × Flags) (h : Runs s p c)
    (hi : coreOp i = some (c, false, .vec o f)) (hl : o.illegal f = false) (hc : Clean (s.core c) (o.srcs f))
    (hs : ∀ x ∈ o.srcs f ++ o.dests f, x < 128) (hm : o ≠ .vld ∧ o ≠ .vst ∧ o ≠ .vlds ∧ o ≠ .vldx)
    (he : vecEffect s p c (s.core c) o f = s.putLanes c ((s.core c).enabled f.psel f.pinv) f.vd g) :
    exec i s = .next (lanesWrote s c ((s.core c).enabled f.psel f.pinv) f.vd g) :=
  exec_vec_core s p c o f i _ hi h hl (no_tile _ _ _ hs) (vecCheck_none _ _ _ hc hm) he rfl rfl

end Sys2Proof.Machine
end

