-- ==== Sys2Proof/Tests/Slice0.lean ====
section
/-! SUPPORT. The author's own tests: well-formedness, slot words written out from the spec, results of single commands, and, for
each statement, a concrete state that meets its hypotheses. -/
/- One declaration after another: the package as one text then needs few threads at a time. -/
set_option Elab.async false

open Sys2Proof Sys2Proof.Machine
namespace Sys2Proof.Tests

/-! ## Helpers -/

/-- Partition 1 of tenant 1, LIVE in a role. -/
def live (role : Nat) : State :=
  ((State.reset.set Reg.PARTITION.STATE.life 1 2).set Reg.PARTITION.CFG.tenant 1 1).set Reg.PARTITION.CFG.role 1 role

/-- It with core 5 as its logical core 0. -/
def owns (role : Nat) : State := (live role).onSched 1 (fun x => { x with cores := [5] })

/-- A task from queue 0. -/
def task : TaskRec := ⟨List.replicate 64 0, some 0, 0, false⟩

/-- Core 5 runs that task and is otherwise `k`. -/
def ran (k : Core) : State := { owns 0 with cores := [(5, { k with task := some task })] }

/-- The state that a command answers (that after reset where it answers none). -/
def after (r : Res) : State :=
  match r with
  | .next t => t
  | _ => State.reset

/-- Registers of a core set by number. -/
def regs (k : Core) (l : List (BitVec 5 × Word)) : Core := l.foldl (fun k x => k.setS x.1 x.2) k

/-- Core 5 with special registers set. -/
def spec (f : Special → Special) : Core := { Core.idle with spec := f Core.idle.spec }

theorem clean_of {k : Core} {l : List Nat} (h : l.all (fun c => (Map.find k.poison c).isNone) = true) : Clean k l := by
  intro c hc
  simpa using List.all_eq_true.mp h c hc

theorem runs_of {s : State} {p c : Nat} (h : (decide (c < 1024) && s.partOf c == some p && (s.core c).task.isSome &&
    !(s.core c).awaitsFullSave) = true) : Runs s p c := by
  simp only [Bool.and_eq_true, decide_eq_true_eq, beq_iff_eq, Bool.not_eq_true'] at h
  exact ⟨h.1.1.1, h.1.1.2, h.1.2, h.2⟩

theorem issues_of {s : State} {p c : Nat} {o : SlotOp} (r : Runs s p c) (h : (fetchOf (s.core c) o == none &&
    !(slotIllegal (s.core c) (issueSlot (s.core c) o) o) && !(resourceStall (s.core c) [o]) &&
    slotCheck s p c (s.core c) o == none && waitOf s p (s.core c) [o] == none) = true) : Issues s p c o := by
  simp only [Bool.and_eq_true, beq_iff_eq, Bool.not_eq_true'] at h
  exact ⟨r, h.1.1.1.1, h.1.1.1.2, h.1.1.2, h.1.2, h.2⟩

/-! ## Well-formed commands: an ill-formed term for each kind of unit -/

theorem test_wf_core : (Instr.wf (.add 1023 1 2 3), Instr.wf (.add 1024 1 2 3)) = (true, false) := by decide
theorem test_wf_part : (Instr.wf (.swap 1023), Instr.wf (.swap 1024)) = (true, false) := by decide
theorem test_wf_tenant : (Instr.wf (.quoteDone 1023), Instr.wf (.quoteDone 1024)) = (true, false) := by decide
theorem test_wf_port : (Instr.wf (.linkReset 37), Instr.wf (.linkReset 38)) = (true, false) := by decide
theorem test_wf_host_port : (Instr.wf (.bootGo 3 0), Instr.wf (.bootGo 4 0)) = (true, false) := by decide
theorem test_wf_qp : (Instr.wf (.cmRtu 4095), Instr.wf (.cmRtu 4096)) = (true, false) := by decide
theorem test_ill_formed_stops : exec (.swap 1024) State.reset = .fault .noSuchPartition := rfl
theorem test_no_word_spells_a_command : decodeTableWord 64 0xFFFF = none := rfl

/-! ## Instruction and slot words, written out from the tables of chapters 03 and 04 -/

/-- The worked example of chapter 04: 0000_10 001 1 0010 0 0 111111 01100 01101, the offset 0x00_0400, s14. -/
theorem test_word_mpass : decMatrix 0x08C8FD8D00040070_00000000 =
    some (some (.mat .mpass ⟨1, true, 2, false, 63, 12, 13, 0x400, 14⟩)) := by decide
/-- op 00 rd 00001 rs1 00010 rs2 00011 func 00000000001. -/
theorem test_word_sub : decScalar 0b000000_00001_00010_00011_00000000001 = some (.rr .sub 1 2 3) := by decide
/-- op 0x04: rd, rs1, imm. -/
theorem test_word_addi : decScalar 0b000100_00101_00110_1111111111111111 = some (.ri .addi 5 6 0xFFFF) := by decide
/-- op 0x22: rs1 and rs2 first, the offset last. -/
theorem test_word_blt : decScalar 0b100010_00111_01000_0000000000000011 = some (.branch .blt 7 8 3) := by decide
/-- op 0x30, the selector 1 in bits 15 to 12, special register 0x030. -/
theorem test_word_mts : decScalar 0b110000_00000_01001_0001_000000110000 = some (.mts 9 0x030) := by decide
/-- A listed op with an unlisted func. -/
theorem test_word_unlisted : decScalar 0b000010_00001_00010_00011_00000000100 = none := by decide
/-- VFADD v1, v2, v3 under p4 inverted: op 0000000 vd va vb vc psel pinv, the rest zero. -/
theorem test_word_vfadd : decVector 0b0000000_000001_000010_000011_000000_100_1_00000_0000_0000_0000000000000000 =
    some (.vec .vfadd ⟨1, 2, 3, 0, 4, true, 0, 0, 0, 0⟩) := by decide
/-- SFN: op 000000 vd 000001 va 000010 vb vc psel 000 pinv 0 fid 000000 tver 00000001. -/
theorem test_word_sfn : decSf 0b000000_000001_000010_000000_000000_000_0_000000_00000001 =
    some (.sf .sfn ⟨1, 2, 0, 0, 0, false, 0, 1⟩) := by decide
/-- XFER FILL: op 000001 mode 0100, group 3, rsrc s2, rdst s4, rshp s6, formats 0, s8, afv with flag 5. -/
theorem test_word_fill : decMove (0b000001_0100_000_0_011_00010_00100_00110 * 2 ^ 64 +
    0b0000_0000_01000_000_1_000101_000 * 2 ^ 38) = some (.mv .fill ⟨0, false, 3, 2, 4, 6, 0, 0, 8, true, 5, 0⟩) := by decide
/-- FENCE with imm[0] is global. -/
theorem test_word_fence : decSync 0b000010_00000_00000_0000000000000001 = some (.sy .fenceGlobal ⟨0, 0, 1⟩) := by decide

/-! ## Witnesses: the cores -/

theorem wit_StepRunsFrontCommand : { State.reset with pending := [.detach .deviceKey, .heartbeatMiss] }.pending =
    .detach .deviceKey :: [.heartbeatMiss] := rfl
theorem wit_EmptyQueueTicks : State.reset.pending = [] ∧
    ¬(State.reset.get Reg.TIME.STATUS.state 0 = 4 ∨ State.reset.time.hold ≠ 0) := by decide +kernel
theorem wit_EmptyQueueTicks_held : { State.reset with time := { TimeUnit.zero with hold := 1 } }.time.hold ≠ 0 := by decide
theorem wit_WellFormedNeverStops : Instr.wf (.swap 7) = true ∧ Instr.wf (.swap 1024) = false := by decide
theorem wit_ExecLeavesTheQueue : exec (.checkpoint 1) State.reset = .next (after (exec (.checkpoint 1) State.reset)) := rfl
theorem wit_StepKeepsMemoryAndRegisterWidth : Mem.wf State.reset.mem = true ∧ (∀ x ∈ State.reset.regs, x.2 < 2 ^ 64) ∧
    step State.reset = .next (after (step State.reset)) := ⟨rfl, by decide, rfl⟩
theorem wit_SvnCommitIsPermanent : State.reset.get Reg.BOOT.SVN.svn 0 ≤ 63 ∧
    (State.reset.set Reg.BOOT.SVN.svn 0 63).get Reg.BOOT.SVN.svn 0 ≤ 63 := by decide +kernel

/-- Core 5 as it starts. -/
def S : State := ran Core.idle
theorem runs_S : Runs S 1 5 := runs_of (by decide +kernel)

theorem wit_EveryCoreOperationCompletes : coreOp (.add 5 1 2 3) = some (5, false, .scalar (.rr .add 1 2 3)) ∧
    Issues S 1 5 (.scalar (.rr .add 1 2 3)) := ⟨rfl, issues_of runs_S (by decide +kernel)⟩
theorem wit_EveryCoreOperationCompletes_halt : coreOp (.halt 5) = some (5, false, .scalar .halt) ∧
    Issues S 1 5 (.scalar .halt) := ⟨rfl, issues_of runs_S (by decide +kernel)⟩
theorem wit_OtherCoresStayAsTheyAre : coreOp (.add 5 1 2 3) = some (5, false, .scalar (.rr .add 1 2 3)) ∧
    Issues S 1 5 (.scalar (.rr .add 1 2 3)) ∧ (∀ rd ra imm, SlotOp.scalar (.rr .add 1 2 3) ≠ .scalar (.load .ldgW rd ra imm)) ∧
    exec (.add 5 1 2 3) S = .next (after (exec (.add 5 1 2 3) S)) ∧ 6 ≠ 5 :=
  ⟨rfl, issues_of runs_S (by decide +kernel), (fun _ _ _ h => by cases h), rfl, by decide⟩

theorem wit_ScalarRegisterResults : Runs S 1 5 ∧ Clean (S.core 5) [codeS 2, codeS 3] := ⟨runs_S, clean_of (by decide +kernel)⟩
theorem wit_ScalarImmediateResults : Runs S 1 5 ∧ Clean (S.core 5) [codeS 2] ∧ (0x801F#16).toNat / 2 ^ 14 = 2 :=
  ⟨runs_S, clean_of (by decide +kernel), by decide⟩

/-- s1 at the top of the near store, s2 at the top of the slice. -/
def kTop : Core := regs Core.idle [(1, 0x100000), (2, 0xC00000), (4, 0x41)]
theorem runs_top : Runs (ran kTop) 1 5 := runs_of (by decide +kernel)

theorem wit_OwnLoads : Runs (ran kTop) 1 5 ∧ Clean ((ran kTop).core 5) [codeS 1] ∧
    (let a := (((ran kTop).core 5).rs 1 + (0xFFFC#16).signExtend 32).toNat; a < 2 ^ 20 ∧ a % 4 = 0 ∧ a = 0xFFFFC) :=
  ⟨runs_top, clean_of (by decide +kernel), by decide +kernel⟩
theorem wit_OwnStores : Runs (ran kTop) 1 5 ∧ Clean ((ran kTop).core 5) [codeS 3, codeS 2] ∧
    (let a := (((ran kTop).core 5).rs 2 + (0xFFFC#16).signExtend 32).toNat; a < 0xC00000 ∧ a % 4 = 0 ∧ a = 0xBFFFFC) :=
  ⟨runs_top, clean_of (by decide +kernel), by decide +kernel⟩
theorem wit_WrittenBytesAndNoOthers : Mem.wf (State.reset.writeN 7 2 0x100).mem = true := by decide +kernel

/-- s2 and s3 hold the address of byte 8 of the own slice. -/
def kPair : Core := regs Core.idle [(2, 8)]
theorem wit_GlobalLoadsAndStores : Runs (ran kPair) 1 5 ∧ (2#5).toNat % 2 = 0 ∧ Clean ((ran kPair).core 5) [codeS 2, codeS 3] ∧
    (let a := (((ran kPair).core 5).rs 3 ++ ((ran kPair).core 5).rs 2 + (0#16).signExtend 64 : BitVec 64).toNat
     spaceOf a ≠ 4 ∧ (ran kPair).resolve (.part 1) a 4 = .ok (t0Addr 5 8) ∧ (ran kPair).resolve (.part 1) a 1 = .ok (t0Addr 5 8) ∧
     a % 4 = 0) :=
  ⟨runs_of (by decide +kernel), by decide, clean_of (by decide +kernel), by decide +kernel, by rfl, by rfl, by decide +kernel⟩
theorem wit_AccessExceptions : Runs (ran kTop) 1 5 ∧ Clean ((ran kTop).core 5) [codeS 1] ∧
    2 ^ 20 ≤ (((ran kTop).core 5).rs 1 + (0#16).signExtend 32).toNat ∧
    0xC00000 ≤ (((ran kTop).core 5).rs 2 + (0#16).signExtend 32).toNat ∧
    (((ran kTop).core 5).rs 0 + (2#16).signExtend 32).toNat % 4 ≠ 0 ∧ (((ran kTop).core 5).rs 0 + (1#16).signExtend 32).toNat % 2 ≠ 0 :=
  ⟨runs_top, clean_of (by decide +kernel), by decide +kernel, by decide +kernel, by decide +kernel, by decide +kernel⟩
theorem wit_AccessExceptions_poison :
    Map.find ((ran (Core.idle.mark (codeS 1) 0x40)).core 5).poison (codeS 1) = some 0x40#64 := by decide +kernel

theorem wit_RedirectionResults : Runs (ran kTop) 1 5 ∧ Clean ((ran kTop).core 5) [codeS 1, codeS 2] ∧
    ((ran kTop).core 5).spec.bundleMode = false ∧ (((ran kTop).core 5).rs 1 + (0#16).signExtend 32).toNat % 4 = 0 ∧
    (((ran kTop).core 5).rs 4 + (0#16).signExtend 32).toNat % 64 = 1 :=
  ⟨runs_top, clean_of (by decide +kernel), by decide +kernel, by decide +kernel, by decide +kernel⟩
theorem wit_SpecialRegisterReads : Runs S 1 5 ∧ (0x000#12).toNat = 0 ∧ BitVec.ofNat 32 (S.logical 1 5) = 0 := ⟨runs_S, by decide, by decide +kernel⟩

/-- s1 to s6 hold values at the edges of what MTS takes; seed 0 of partition 1 is valid. -/
def kMts : Core := regs Core.idle [(1, 64), (2, 65), (3, 7), (4, 0x20), (5, 1)]
def sMts : State := { (ran kMts) with regs := ((ran kMts).set Reg.RNG.SEED_STATUS.valid 1 1).regs }
theorem wit_SpecialRegisterWrites : Runs sMts 1 5 ∧ Clean (sMts.core 5) [codeS 1] ∧ (sMts.core 5).rs 1 = 64 ∧
    64 < ((sMts.core 5).rs 2).toNat ∧ 2 ≤ ((sMts.core 5).rs 3).toNat % 4 ∧ ((sMts.core 5).rs 5).toNat % 4 < 2 ∧
    ((sMts.core 5).rs 4).toNat < 64 ∧ (sMts.get Reg.RNG.SEED_STATUS.valid 1).testBit (((sMts.core 5).rs 4).toNat % 16) = true ∧
    (sMts.core 5).rs 4 ≠ (sMts.core 5).spec.rngCtl :=
  ⟨runs_of (by decide +kernel), clean_of (by decide +kernel), by decide +kernel⟩

/-- A handler at 0x40, in bundle mode at 0x81, and the core outside or inside it. -/
def kEvec (inTrap : Bool) : Core := spec (fun x => { x with evec := 0x40, epc := 0x80, inTrap := inTrap })
theorem wit_TrapEntry : Runs (ran (kEvec false)) 1 5 ∧ ((ran (kEvec false)).core 5).spec.evec ≠ 0 ∧
    ((ran (kEvec false)).core 5).spec.inTrap = false := ⟨runs_of (by decide +kernel), by decide +kernel, by decide +kernel⟩
theorem wit_TrapReturnAndRefusals : Runs (ran (kEvec true)) 1 5 ∧ ((ran (kEvec true)).core 5).spec.inTrap = true ∧
    ((ran (kEvec true)).core 5).spec.epc.toNat % 4 = 0 ∧ Runs S 1 5 ∧ (S.core 5).spec.inTrap = false ∧
    (S.core 5).spec.epc.toNat % 4 = 0 :=
  ⟨runs_of (by decide +kernel), by decide +kernel, by decide +kernel, runs_S, by decide +kernel, by decide +kernel⟩
theorem wit_TrapReturnAndRefusals_epc : ((spec (fun x => { x with epc := 0x81, inTrap := true })).spec.epc.toNat % 64 = 1) ∧
    ((spec (fun x => { x with epc := 0x82 })).spec.epc.toNat % 4 = 2) := by decide
theorem wit_ExceptionEndsTheTask : (S.core 5).task = some task ∧ (⟨0x05, 0x100000⟩ : Exn).code ≠ 0x0A ∧
    (⟨0x0B, 0⟩ : Exn).code = 0x0B ∧ (S.core 5).spec.evec = 0 := by decide +kernel
theorem wit_HaltEndsTheTask : Runs S 1 5 ∧ (S.core 5).sync.sems = [] ∧
    ({ Core.idle with sync := { SyncUnit.zero with sems := [3] } } : Core).sync.sems ≠ [] := ⟨runs_S, by decide +kernel, by decide⟩
theorem wit_LaneWrites : (3#6 ≠ 4#6) ∧ (1#3 ≠ 0#3) ∧ (2#5 ≠ 0#5) := by decide

/-- Vector fields: vd v2, va v4, vb v6, every lane. -/
def F : VFields := ⟨2, 4, 6, 8, 0, false, 2, 2, 0, 0⟩
theorem wit_VectorLaneResults : Runs S 1 5 ∧ Clean (S.core 5) [codeV F.va, codeV F.vb, codeV F.vc] ∧ F.func = 0 ∧
    ({ F with func := 1 } : VFields).func = 1 := ⟨runs_S, clean_of (by decide +kernel), rfl, rfl⟩
theorem wit_VectorPredicateResults : Runs S 1 5 ∧ Clean (S.core 5) [codeV F.va, codeV F.vb, codeS F.rs, codeS (F.rs + 1)] ∧
    F.rs.toNat % 2 = 0 ∧ F.func.toNat ≤ 4 := ⟨runs_S, clean_of (by decide +kernel), by decide, by decide⟩
theorem wit_VectorSelectAndPermuteResults : Runs S 1 5 ∧ Clean (S.core 5) [codeV F.va, codeV F.vb, codeS F.rs] :=
  ⟨runs_S, clean_of (by decide +kernel)⟩
theorem wit_VectorReductionResults : Runs S 1 5 ∧ Clean (S.core 5) [codeV F.va] ∧ (S.core 5).enabled F.psel F.pinv ≠ 0 ∧
    (S.core 5).enabled F.psel true = 0 ∧ reduceLanes (-1#64) (fun _ : Fin 64 => 1#32) (· + ·) = some 64#32 :=
  ⟨runs_S, clean_of (by decide +kernel), by decide +kernel, by decide +kernel, by decide +kernel⟩
theorem wit_VectorConversionResults : Runs S 1 5 ∧ Clean (S.core 5) [codeV F.va, codeV (F.va + 1), codeV F.vb,
    codeV (F.vb + 1), codeS F.rs] ∧ 1 ≤ F.fmt.toNat ∧ F.fmt.toNat ≤ 7 ∧ F.vd.toNat % 2 = 0 ∧ F.va.toNat % 2 = 0 ∧
    F.vb.toNat % 2 = 0 := ⟨runs_S, clean_of (by decide +kernel), by decide⟩
theorem wit_VectorMemoryResults : Runs (ran kTop) 1 5 ∧ Mem.wf (ran kTop).mem = true ∧ Clean ((ran kTop).core 5) [codeS 1] ∧
    (∀ i : Fin 64, ((((ran kTop).core 5).rs 1 + (0xFF00#16).signExtend 32).toNat + 4 * i.val) + 4 ≤ 2 ^ 20 ∧
      ((((ran kTop).core 5).rs 1 + (0xFF00#16).signExtend 32).toNat + 4 * i.val) % 4 = 0 ∧
      (ran kTop).poisoned (3 * 2 ^ 52 + 5 * 2 ^ 20 + ((((ran kTop).core 5).rs 1 + (0xFF00#16).signExtend 32).toNat + 4 * i.val)) 4 =
        false) := ⟨runs_top, by decide +kernel, clean_of (by decide +kernel), by decide +kernel⟩
theorem wit_TileRowAndRandomResults : Runs S 1 5 ∧ Clean (S.core 5) [codeA 1, codeV F.va, codeS F.rs] ∧
    (S.core 5).pendingTiles.contains (codeA 1) = false ∧ (S.core 5).looseMode = false ∧
    (spec (fun x => { x with rngCtl := 0x20 })).looseMode = true :=
  ⟨runs_S, clean_of (by decide +kernel), by decide +kernel, by decide +kernel, by decide +kernel⟩

/-- Two rows of MXFP8 from 0 in the own slice. -/
def M : MFields := ⟨1, true, 2, false, 1, 0, 0, 0, 0⟩
/-- A block of that format, two by two. -/
def kBlock : Core := { spec (fun x => { x with edgeRows := 2, edgeCols := 2 }) with block := some ⟨2, false, 2, 2, [], []⟩ }
theorem wit_MatrixSlotResults : Runs (ran kBlock) 1 5 ∧ ((ran kBlock).core 5).pendingTiles.contains (codeA M.ad) = false ∧
    (1 ≤ M.fmt.toNat ∧ M.fmt.toNat ≤ 7 ∧ M.fmt ≠ 1) ∧ Clean ((ran kBlock).core 5) [codeBlock, codeA M.ad, codeS M.rs, codeS M.rstr,
      codeS M.rsc] ∧ (∀ r ∈ matReads ((ran kBlock).core 5) .mldw M, r.1 + r.2 ≤ 0xC00000) ∧
    (∀ r ∈ matReads ((ran kBlock).core 5) .mpass M, r.1 + r.2 ≤ 0xC00000) ∧
    ((ran kBlock).core 5).block.map (fun b => rateGroup b.fmt) = some (rateGroup M.fmt.toNat) :=
  ⟨runs_of (by decide +kernel), by decide +kernel, by decide, clean_of (by decide +kernel), by decide +kernel, by decide +kernel,
    by decide +kernel⟩
/-- EXP of table version 1. -/
def G : SfFields := ⟨2, 4, 6, 8, 0, false, 0, 1⟩
theorem wit_SpecialFunctionResults : Runs S 1 5 ∧ Clean (S.core 5) [codeV G.va, codeV G.vb, codeV G.vc] ∧
    fidListed G.fid.toNat = true ∧ verHeld G.tver.toNat = true ∧ (S.core 5).enabled G.psel G.pinv ≠ 0 ∧
    verHeld (({ G with tver := 5 } : SfFields).tver.toNat / 4) = true :=
  ⟨runs_S, clean_of (by decide +kernel), by decide +kernel, by decide +kernel, by decide +kernel, by decide +kernel⟩

/-! ## Witnesses: moves, sync, bundles -/

/-- One row of 8 bytes from byte 0x40 of the own slice to byte 0x80 of it, the shape pair in s4, an arrival flag 63. -/
def kMove : Core := regs Core.idle [(2, 0x40), (4, 0x10008), (6, 0x80)]
def V : MvFields := ⟨0, false, 7, 2, 6, 4, 0, 0, 0, true, 63, 0⟩
theorem wit_MovesEnterTheQueue : (Instr.xferRows 5 V, MvOp.rows).2 = .rows ∧ Issues (ran kMove) 1 5 (.mv .rows V) ∧
    (field (((ran kMove).core 5).rsPair V.rshp).toNat 22 16, field (((ran kMove).core 5).rsPair V.rshp).toNat 15 0) = (1, 8) :=
  ⟨rfl, issues_of (runs_of (by decide +kernel)) (by decide +kernel), by decide +kernel⟩
theorem wit_MovesEnterTheQueue_empty : Issues S 1 5 (.mv .fill V) ∧ field ((S.core 5).rsPair V.rshp).toNat 22 16 = 0 :=
  ⟨issues_of runs_S (by decide +kernel), by decide +kernel⟩

/-- A FILL of 8 bytes at byte 0x80 of logical core 0's slice, with flag 63. -/
def mFill : MoveRec :=
  { op := .fill, grp := 7, rows := 1, len := 8, sstr := 8, dstr := 8, src := 0, dst := 0x80, ssc := 0, dsc := 0,
    sfmt := 0, dfmt := 0, mask := -1, near := 0, cmp := 0, opnd := 0x01020304, tile := 0, data := Tile.zero, flag := some 63,
    round := 0, rcBase := 0, seed := 0, loose := false, freeBase := 0, colBlocked := false }
def withMove (m : MoveRec) : State := ran { Core.idle with sync := { SyncUnit.zero with moves := [m] } }
theorem wit_MoveCompletions : 5 < 1024 ∧ (withMove mFill).partOf 5 = some 1 ∧ ((withMove mFill).core 5).sync.moves[0]? = some mFill ∧
    Mem.wf (withMove mFill).mem = true ∧ (∀ n, mFill.flag = some n → n < 64) ∧
    (∀ r ∈ mFill.srcRanges, (withMove mFill).poisoned ((withMove mFill).physOf 1 r.1) r.2 = false) ∧ mFill.rows = 1 ∧
    mFill.mask.getLsbD 0 = true ∧ mFill.op = .fill ∧ mFill.len % 4 = 0 :=
  ⟨by decide, by decide +kernel, rfl, by decide +kernel, (fun n h => by cases h; decide), by decide +kernel, rfl, by decide +kernel, rfl, rfl⟩
/-- ATOM ADD64 on that word. -/
def mAtom : MoveRec := { mFill with op := .atom 1, flag := none, near := 0xFFFF8 }
theorem wit_MoveCompletions_atom : mAtom.op = .atom 1 ∧ (withMove mAtom).physOf 1 mAtom.dst.toNat + 8 ≤ 3 * 2 ^ 52 ∧
    mAtom.near < 2 ^ 20 ∧ (∀ r ∈ mAtom.srcRanges, (withMove mAtom).poisoned ((withMove mAtom).physOf 1 r.1) r.2 = false) :=
  ⟨rfl, by decide +kernel, by decide, by decide +kernel⟩

/-- A sync slot: rd s2, rs s4, the imm. -/
def Y (imm : BitVec 16) : SyFields := ⟨2, 4, imm⟩
/-- A message of core 0 on channel 9. -/
def msg : Msg := ⟨0, 9, 0xAB⟩
/-- Core 5 with s4 = 1, one message, semaphore 1 held and flag 63 LANDED. -/
def kSync : Core :=
  { regs Core.idle [(4, 1)] with
    sync := { SyncUnit.zero with rxq := [msg], sems := [1], flags := SyncUnit.zero.flags.set! 63 .landed } }
theorem runs_sync : Runs (ran kSync) 1 5 := runs_of (by decide +kernel)
theorem wit_SyncResults : Issues (ran kSync) 1 5 (.sy .mwait (Y 0)) ∧ Issues (ran kSync) 1 5 (.sy .waitarr (Y 63)) ∧
    Issues (ran kSync) 1 5 (.sy .semrel (Y 0)) ∧ (ran kSync).sem 1 1 < 0xFFFF ∧ Issues (ran kSync) 1 5 (.sy .bar (Y 0)) ∧
    ((ran kSync).core 5).atBarrier 0 = false ∧ Issues S 1 5 (.sy .send (Y 9)) :=
  ⟨issues_of runs_sync (by decide +kernel), issues_of runs_sync (by decide +kernel), issues_of runs_sync (by decide +kernel),
    by decide +kernel, issues_of runs_sync (by decide +kernel), by decide +kernel, issues_of runs_S (by decide +kernel)⟩
theorem wit_SyncResults_recv : kSync.sync.rxq.find? (recvMatch (Y 9)) = some msg ∧ Issues (ran kSync) 1 5 (.sy .recv (Y 9)) :=
  ⟨by decide +kernel, issues_of runs_sync (by decide +kernel)⟩
/-- Semaphore 1 of partition 1 holds 1. -/
def sSem : State := (ran (regs Core.idle [(4, 1)])).setSem 1 1 1
theorem wit_SyncResults_semacq : Issues sSem 1 5 (.sy .semacq (Y 0)) ∧ sSem.sem 1 1 = 1 :=
  ⟨issues_of (runs_of (by decide +kernel)) (by decide +kernel), by decide +kernel⟩
theorem wit_SyncWaits : Runs S 1 5 ∧ SyOp.recv.illegal (Y 9) = false ∧ syCheck S 1 (S.core 5) .recv (Y 9) = none ∧
    syErr (S.core 5) .recv (Y 9) = none ∧ syStall S 1 (S.core 5) .recv (Y 9) = some .recv :=
  ⟨runs_S, by decide +kernel, by decide +kernel, by decide +kernel, by decide +kernel⟩
/-- Two logical cores, s4 = 2: the first to arrive waits. -/
def sBar : State := (ran (regs Core.idle [(4, 2)])).onSched 1 (fun x => { x with cores := [5, 6] })
theorem wit_SyncWaits_bar : Runs sBar 1 5 ∧ syCheck sBar 1 (sBar.core 5) .bar (Y 0) = none ∧
    syStall sBar 1 (sBar.core 5) .bar (Y 0) = some (.barrier 0) ∧ (sBar.core 5).atBarrier 0 = false :=
  ⟨runs_of (by decide +kernel), by decide +kernel, by decide +kernel, by decide +kernel⟩

/-- Bundle mode at 0. -/
def kB : Core := spec (fun x => { x with bundleMode := true })
theorem runs_B : Runs (ran kB) 1 5 := runs_of (by decide +kernel)
/-- ADDI s1, s0, 7 in scalar slot 0 and ADDI `rd`, s0, 9 in slot 1, slot_valid bits 29 and 28, and other header bits. -/
def addis (rd header : Nat) : BitVec 512 := BitVec.ofNat 512 ((0b000100 * 2 ^ 26 + rd * 2 ^ 21 + 9) * 2 ^ 64 +
  (0b000100 * 2 ^ 26 + 1 * 2 ^ 21 + 7) * 2 ^ 32 + 2 ^ 29 + 2 ^ 28 + header)
theorem wit_BundlesTakeEffectTogether : Runs (ran kB) 1 5 ∧ ((ran kB).core 5).spec.bundleMode = true ∧
    (let w := addis 2 (2 ^ 30); let k := (ran kB).core 5
     let slots := ((decSlots w.toNat).filter (fun x => w.getLsbD (29 - x.1))).filterMap (fun x => (x.2.bind id).map (fun o => (x.1, o)))
     w.extractLsb' 496 16 = 0 ∧ k.cheapHere (w.extractLsb' 0 32) = false ∧ slots.length = 2 ∧
     (∀ x ∈ (decSlots w.toNat).filter (fun x => w.getLsbD (29 - x.1)), x.2 ≠ none) ∧
     (∀ x ∈ slots, slotIllegal k x.1 x.2 = false ∧ fetchOf k x.2 = none) ∧ conflict (slots.map Prod.snd) = false ∧
     resourceStall k (slots.map Prod.snd) = false ∧ (∀ x ∈ slots, slotCheck (ran kB) 1 5 k x.2 = none) ∧
     waitOf (ran kB) 1 k (slots.map Prod.snd) = none ∧ ∀ x ∈ slots, x.2 ≠ .scalar .halt) :=
  ⟨runs_B, by decide +kernel, by decide +kernel⟩
theorem wit_BundlesTakeEffectTogether_conflict : (let w := addis 1 0
    let slots := ((decSlots w.toNat).filter (fun x => w.getLsbD (29 - x.1))).filterMap (fun x => (x.2.bind id).map (fun o => (x.1, o)))
    conflict (slots.map Prod.snd) = true) ∧ ((ran kB).core 5).sync.moves = [] := by decide +kernel
/-- A message on its way to logical core 0. -/
def sFlight : State := S.onSched 1 (fun x => { x with flights := [⟨0, msg⟩] })
theorem wit_MessagesAndTheWatchdog : 1 < 1024 ∧ (sFlight.part 1).sched.flights[0]? = some ⟨0, msg⟩ ∧ sFlight.physical 1 0 = some 5 ∧
    sFlight.get Reg.PARTITION.STATE.power 1 ≠ 1 ∧ S.partOf 5 = some 1 ∧ (S.core 5).standsArmed = false ∧
    (∀ m ∈ (S.core 5).sync.moves, m.slow = false) := by decide +kernel
/-- A ROWS move whose source is T1. -/
def mSlow : MoveRec := { mFill with op := .rows, src := BitVec.ofNat 64 (2 ^ 52) }
theorem wit_MessagesAndTheWatchdog_slow : mSlow.slow = true ∧ ((withMove mSlow).core 5).sync.moves = [mSlow] ∧
    ((withMove mSlow).core 5).standsArmed = false ∧ ((withMove mSlow).core 5).sync.stall ≠ some .drain ∧
    (∀ n, mSlow.flag = some n → n < 64) :=
  ⟨by decide +kernel, rfl, by decide +kernel, by decide +kernel, (fun n h => by cases h; decide)⟩
/-- HALT in scalar slot 0. -/
def wHalt : BitVec 512 := BitVec.ofNat 512 ((0b110000 * 2 ^ 26 + 4 * 2 ^ 12) * 2 ^ 32 + 2 ^ 29)
theorem wit_IllegalBundles : Runs (ran kB) 1 5 ∧ ((ran kB).core 5).spec.bundleMode = true ∧ ((ran kB).core 5).preempt = none ∧
    ((ran kB).core 5).sync.moves = [] ∧ (decSlots wHalt.toNat).filter (fun x => wHalt.getLsbD (29 - x.1)) = [(0, some (some (.scalar .halt)))] ∧
    ScalarOp.halt.control = true ∧ fetchOf ((ran kB).core 5) (.scalar .halt) = none :=
  ⟨runs_B, by decide +kernel, by decide +kernel, by decide +kernel, by decide +kernel, by decide, by decide +kernel⟩
/-- Bundle mode with semaphore 3 held. -/
def kHeld : Core := { kB with sync := { SyncUnit.zero with sems := [3] } }
theorem wit_CheapPointWithASemaphoreHeld : Runs (ran kHeld) 1 5 ∧ ((ran kHeld).core 5).spec.bundleMode = true ∧
    ((ran kHeld).core 5).spec.inTrap = false ∧ ((ran kHeld).core 5).spec.px8 = false ∧ ((ran kHeld).core 5).sync.moves = [] ∧
    (addis 2 (2 ^ 31)).getLsbD 31 = true ∧ ((ran kHeld).core 5).sync.sems ≠ [] ∧ (addis 2 (2 ^ 31)).extractLsb' 496 16 = 0 :=
  ⟨runs_of (by decide +kernel), by decide +kernel⟩

/-! ## Witnesses: the window, power, boot, partitions, tests, collectives, the dispatcher -/

/-- Partition 1 with core 5, and no task. -/
def L : State := owns 0
/-- One register set. -/
def L1 (f : Fld) (inst v : Nat) : State := L.set f inst v
/-- Change the partition. -/
def L2 (f : Part → Part) : State := L.onPart 1 f
/-- A plan entry of an action, due at once. -/
def due (action : Nat) : PlanEntry := ⟨leBytes 8 0 ++ leBytes 4 (action * 2 ^ 24) ++ leBytes 20 0, 3⟩

theorem wit_RegisterWindow : 0x02801000 % 0x1000 = 0 ∧ L.reach .deviceKey 0x02801000 = true ∧
    L.get Reg.PAGE.LOCK.lock 0x2801 = 0 ∧ L.reach (.tenantKey 2) 0x02801000 = false ∧
    (L1 Reg.PAGE.LOCK.lock 0x2801 1).get Reg.PAGE.LOCK.lock 0x2801 = 1 ∧ isCoreCode (.coreCode 5) = true ∧
    isCoreCode .deviceKey = false ∧ S.reach (.coreCode 5) 0x02801000 = true := by decide +kernel
theorem wit_FaultsOfAPage : 0x02C01128 < 2 ^ 32 ∧ 0x51 < 256 ∧ L.get Reg.PAGE.FAULT.valid 0x2C01 = 0 ∧
    L.get Reg.PAGE.CTRL.fault_event 0x2C01 = 0 ∧ (L1 Reg.PAGE.FAULT.valid 0x2C01 1).get Reg.PAGE.FAULT.valid 0x2C01 = 1 := by
  decide +kernel
theorem wit_PowerStates : L.reach .deviceKey (0x02800120 + 1 * 0x1000) = true ∧ L.life 1 = 2 ∧
    (∀ c ∈ (L.part 1).sched.cores, (L.core c).task.isSome = false) ∧ (L.red 1).isOpen = false ∧ (L.gen 1).steps = [] ∧
    (L.gen 1).reqs = [] ∧ (S.core 5).task.isSome = true ∧ 5 ∈ (S.part 1).sched.cores ∧ L.get Reg.PARTITION.STATE.power 1 = 0 ∧
    (L.part 1).sched.stepHeads = [] ∧ (∀ q, q < 16 → L.queueHead 1 q = none) := by decide +kernel
theorem wit_PowerStates_plan : (let t := (L2 (fun k => { k with plan := [due 2] })).set Reg.PARTITION.STATE.power 1 2
    t.life 1 = 2 ∧ t.get Reg.PARTITION.STATE.power 1 = 2 ∧ t.deep = false ∧
    ∃ e ∈ (t.part 1).plan, peTime e.bytes ≤ t.clock.ftime.toNat + 26844) := by decide +kernel
theorem wit_PowerStates_deep : State.reset.deep = false ∧ State.reset.deepBusy = false ∧ L.deepBusy = true ∧
    (State.reset.set Reg.GOV.STATE.deep 0 2).deep = true := by decide +kernel

theorem wit_GovernorAndRails : ({ State.reset with gov := { Gov.zero with rise := some ⟨15, false, false⟩ } }.gov.rise = some ⟨15, false, false⟩) ∧
    State.reset.pmbFailing = false ∧ State.reset.gov.trip = false ∧ 105 ≤ 105 ∧
    { State.reset with gov := { Gov.zero with trip := true } }.gov.trip = true ∧
    (∀ i, i < 5 → State.reset.get Reg.GOV.DIE_TEMP.temps 0 / 2 ^ (8 * i) % 256 ≤ 95) ∧ State.reset.pins.thermtripLow = false ∧
    State.reset.get Reg.BOOT.STATUS.state 0 ≠ 4 := by decide +kernel
theorem wit_TimeAndSeeds : 37 < 38 ∧ (State.reset.set Reg.PORT.STATUS.state 37 2).portUp 37 = true ∧ 36 ≤ 37 ∧
    (State.reset.set Reg.TIME.STATUS.state 0 3).get Reg.TIME.STATUS.state 0 = 3 ∧ S.timeInUse = true ∧ State.reset.timeInUse = false ∧
    (State.reset.set Reg.TIME.STATUS.state 0 4).get Reg.TIME.STATUS.state 0 = 4 ∧
    L.reach .deviceKey (0x03800140 + 8 * 15 + 1 * 0x1000) = true ∧ L.seedNamed 1 15 = false ∧
    ((L1 Reg.RNG.SEED_STATUS.expanding 1 0x8000).get Reg.RNG.SEED_STATUS.expanding 1).testBit 15 = true := by decide +kernel
theorem wit_TimeAndSeeds_named : S.seedNamed 1 0 = true := by decide +kernel

/-- A boot queue pair on host port 3, which is up; T1 has trained; the boot listens. -/
def sBoot : State :=
  { ((State.reset.set Reg.HPORT.STATUS.state 3 2).set Reg.DEVICE.T1.t1_bytes 0 (2 ^ 39)).set Reg.BOOT.STATUS.state 0 1 with
    host := { HostIf.zero with qps := [(0, ⟨3, none, true, 0, false, .connected, 0, none, none, 0⟩)] } }
theorem wit_BootToRunningFirmware : State.reset.pins.resetLow = true ∧ pairLost (2 ^ 64 - 1) = false ∧
    pairLost (2 ^ 64 - 4) = true ∧ sBoot.hportUp 3 = true ∧ (sBoot.bootQp 3).isSome = true ∧ sBoot.boot.bridgeFailed = false ∧
    sBoot.get Reg.DEVICE.T1.t1_bytes 0 ≠ 0 ∧ sBoot.get Reg.BOOT.STATUS.state 0 = 1 := by decide +kernel
theorem wit_BootToRunningFirmware_on : (let t := L.set Reg.BOOT.STATUS.state 0 4
    t.get Reg.BOOT.STATUS.state 0 = 4 ∧ t.deep = false ∧ (∀ k ∈ t.parts, t.life k.1 = 2) ∧ t.get Reg.ATTEST.STATUS.state 1023 ≠ 1) ∧
    Map.find ({ Boot.zero with latched := [(1023, [])] } : Boot).latched 1023 = some [] ∧
    (State.reset.set Reg.ATTEST.STATUS.state 1023 1).get Reg.ATTEST.STATUS.state 1023 = 1 := by decide +kernel

/-- A FREE partition 2 whose registers ask for a learner on core 7, with no memory. -/
def sCreate : State :=
  ((L.set Reg.PARTITION.CFG.role 2 1).set Reg.PARTITION.CFG.lcores 2 1).set ⟨Reg.PARTITION.CORE_SET.reg.reg, 63, 0⟩ 2 0x80
theorem wit_PartitionLife : L.life 1 = 2 ∧ (L.part 1).sched.resetting = none ∧ sCreate.life 2 = 0 ∧
    sCreate.setOf Reg.PARTITION.CORE_SET.reg 2 = [7] ∧ sCreate.createInvalid 2 [7] [] = false ∧ sCreate.sliceOwner 7 = none ∧
    sCreate.placeAllot 1 (sCreate.get Reg.PARTITION.ALLOT.t1_mib 2) = some 0 ∧
    sCreate.placeAllot 2 (sCreate.get Reg.PARTITION.ALLOT.t2_mib 2) = some 0 ∧ sCreate.createInvalid 2 [] [] = true ∧
    (sCreate.sliceOwner 5).isSome = true := by decide +kernel
theorem wit_PartitionLife_reset : ((L2 (fun k => { k with sched := { k.sched with resetting := some ⟨1, true⟩ } })).part 1).sched.resetting =
    some ⟨1, true⟩ ∧ L.boot.warm = false := by decide +kernel

theorem wit_LoopsTestsAndChecks : State.reset.get Reg.PAGE.LOCK.lock (0x01800130 / 0x1000 + 37) = 0 ∧ (4#64).toNat % 8 = 4 ∧
    State.reset.loopBusy false 37 none = false ∧ (State.reset.set Reg.PORT.LOOP.depth 37 4).get Reg.PORT.LOOP.depth 37 ≠ 0 ∧
    (State.reset.set Reg.PORT.LOOP.state 37 1).get Reg.PORT.LOOP.state 37 = 1 ∧ 255 % 256 ≠ 0 ∧
    State.reset.get Reg.PORT.LOOP.retiming 37 = 0 ∧ State.reset.get Reg.PORT.LOOP.depth 37 = 0 ∧
    (State.reset.set Reg.PORT.LOOP.allow_far 37 1).get Reg.PORT.LOOP.allow_far 37 = 1 ∧
    (State.reset.set Reg.DEVICE.TEST_STATUS.state 0 1).get Reg.DEVICE.TEST_STATUS.state 0 = 1 ∧ State.reset.pins.resetLow = true ∧
    { State.reset with pins := ⟨false, false⟩ }.pins.resetLow = false ∧ L.life 1 ≠ 0 := by decide +kernel
/-- A core with a chain that awaits its verdict. -/
def sOwl : State := ran { Core.idle with verdicts := [⟨9, 1, 0, false⟩] }
theorem wit_LoopsTestsAndChecks_owl : sOwl.partOf 5 = some 1 ∧
    (sOwl.core 5).verdicts.find? (fun y => y.number == 9) = some ⟨9, 1, 0, false⟩ ∧ sOwl.life 1 = 2 ∧
    sOwl.get Reg.PAGE.LOCK.lock (0x05C0 * 16 + 1) = 0 := by decide +kernel

/-- A group of this device and device 7, four early packets, a deadline of one unit. -/
def grp : CollGroup := ⟨leBytes 2 2 ++ leBytes 2 0 ++ leBytes 2 4 ++ leBytes 2 0x10 ++ leBytes 24 0, [0, 7], none⟩
/-- A collective of that group that has no chunk left. -/
def coll : Coll := ⟨0, List.replicate 64 0, [], [], [], 0⟩
def sColl (colls : List Coll) : State :=
  (L2 (fun k => { k with bulk := { k.bulk with groups := [(0, grp)], colls := colls } })).set Reg.FAB.GROUP_CFG.groups 1 1
theorem wit_CollectivesAndHare : (let t := { (sColl [coll]) with cores := [(5, { Core.idle with
      sync := { SyncUnit.zero with flags := SyncUnit.zero.flags.set! 0 .armed } })] }
    t.coll 1 0 = some coll ∧ t.collGroup 1 (guidonGroup 0) = some grp ∧ coll.state = 0 ∧ t.physical 1 (cdCore coll.desc) = some 5 ∧
    cdProgress coll.desc + 8 ≤ 2 ^ 20 ∧ (t.core 5).sync.flags.toList.getD (cdFlag coll.desc) .idle = .armed ∧
    (outChunks grp coll.desc).all coll.chunkDone = true ∧ grp.deadline ≠ 0) := by decide +kernel
/-- A packet of device 7 for group 0 of partition 1. -/
def pkt : Packet :=
  { dst := 0, src := 7, core := 0, vc := 0, cls := 0, tenant := 1, subch := 0, reserved := 0, tag := 0, pennant := 0, seq := 0,
    length := 0, poison := 0, last := false, ackReq := false, arg := 0, blocks := [] }
theorem wit_CollectivesAndHare_data : (sColl []).fabLive 1 = true ∧ pkt.tenant = (sColl []).owner 1 ∧
    (sColl []).collGroup 1 (guidonGroup pkt.tag) = some grp ∧ grp.others.find? (fun i => grp.devices[i]? == some pkt.src) = some 1 ∧
    (sColl []).coll 1 pkt.tag = none ∧ startedSeq grp (guidonSeq pkt.tag) = false ∧
    (sColl []).pooled 1 (guidonGroup pkt.tag) < grp.early ∧ (L2 (fun k => { k with plan := [due 5] })).dueAction 1 5 = some (due 5) := by
  decide +kernel
/-- The block of a HARE_GO: MSG in the op byte. -/
def sHare (w : Nat) : State := S.writeN (nearAddr 5 0) 4 w
theorem wit_CollectivesAndHare_hare : (sHare 0x0A).partOf 5 = some 1 ∧
    (sHare 0x0A).reach (.coreCode 5) (regOff Reg.FAB.HARE_GO.reg 1) = true ∧ field 0 19 0 + 96 ≤ 2 ^ 20 ∧
    ((sHare 0x0A).core 5).sync.flags.toList.getD 0 .idle = .idle ∧ (sHare 0x0A).readN (nearAddr 5 0) 4 % 256 = 0x0A ∧
    (sHare 0x00030002).readN (nearAddr 5 0) 4 % 256 ≠ 0x0A ∧
    (sHare 0x00030002).combineOf (field ((sHare 0x00030002).readN (nearAddr 5 0) 4) 31 16) = none := by decide +kernel
theorem wit_CollectivesAndHare_tables : L.reach .deviceKey (regOff Reg.FAB.GROUP_CFG.reg 1) = true ∧ isCoreCode .deviceKey = false ∧
    L.get Reg.PAGE.LOCK.lock (0x0540 * 16 + 1) = 0 ∧ (L.bulk 1).colls = [] ∧
    L.reach .deviceKey (regOff Reg.FAB.COMBINE_CMD.cmd 1) = true ∧ (L.combineBytes 1 0).isSome = true := by decide +kernel
/-- Slot 0 of the experience table names ring 2 of device 9. -/
def sExp : State := (S.writeN (t0Addr 5 0) 8 (2 ^ 63 + 2 * 2 ^ 32 + 9)).writeN (nearAddr 5 0) 4 (2 ^ 31)
theorem wit_CollectivesAndHare_exp : (sExp.expSource 1 0).isSome = true ∧ sExp.readN (nearAddr 5 0) 4 / 2 ^ 30 = 2 ∧
    sExp.reach (.coreCode 5) (regOff Reg.FAB.EXP_GO.reg 1) = true := by decide +kernel
theorem wit_CollectivesAndHare_ops : (let o : ExpOp := ⟨5, 1, 0, true, [⟨0, 7, 0, 0, 16, 0⟩], []⟩
    let t := L2 (fun k => { k with bulk := { k.bulk with exps := [(4, o)] } })
    Map.find (t.bulk 1).exps 4 = some o ∧ pkt.tenant = t.owner 1 ∧
    t.expAsked 1 (fun y z => y.read && (z.device == pkt.src && z.ring == pkt.tag)) = some (4, o, ⟨0, 7, 0, 0, 16, 0⟩)) ∧
    ({ pkt with tenant := 2 } : Packet).tenant ≠ L.owner 1 := by decide +kernel

/-! ## Witnesses: the dispatcher, links, the host ports -/

/-- The head of queue 3 lies at the base of T1: any core, phase 1, seed slot 0, which is valid. -/
def sHead (ctl : Nat) : State :=
  (((L.setB Reg.SCHED.QUEUE_CFG.enable 1 3 1).setB Reg.SCHED.QUEUE_ADDR.queue_addr 1 3 (2 ^ 52)).writeN (2 ^ 52 + 20) 4 ctl).set
    Reg.RNG.SEED_STATUS.valid 1 1
def sQ : State := sHead (2 ^ 21 + 1)
/-- Its descriptor. -/
def dQ : List Byte := (sQ.queueHead 1 3).getD []
/-- Core 5 of it, with semaphores and a request. -/
def sAsk (x : Preempt) (sems : List Nat) : State :=
  ran { Core.idle with spec := { Special.zero with bundleMode := true }, sync := { SyncUnit.zero with sems := sems }, preempt := some x }

theorem wit_DispatcherAndPlan : L.reach .deviceKey (0x02C00148 + 1 * 0x1000) = true ∧ State.reset.dispatching 1 = false ∧
    sQ.dispatching 1 = true ∧ sQ.nextStepHead 1 = none ∧ sQ.nextQueue 1 = some 3 ∧ sQ.queueHead 1 3 = some dQ ∧
    sQ.headCheck 1 dQ = .good ∧ sQ.startCoreOf 1 dQ (sQ.queuePrio 1 (some 3)) = some 5 ∧
    (sHead (2 ^ 21 + 3)).headCheck 1 (((sHead (2 ^ 21 + 3)).queueHead 1 3).getD []) = .drop 0x15 ∧
    (sHead (2 ^ 21 + 3)).nextQueue 1 = some 3 := by decide +kernel
theorem wit_DispatcherAndPlan_step : (let t := sQ.onSched 1 (fun x => { x with stepHeads := [dQ] })
    t.nextStepHead 1 = some dQ ∧ t.headCheck 1 dQ = .good ∧ t.startCoreOf 1 dQ 0 = some 5) := by decide +kernel
theorem wit_DispatcherAndPlan_preempt : (let t := (((sQ.setB Reg.SCHED.QUEUE_CFG.preempts 1 3 1).setB Reg.SCHED.QUEUE_CFG.preemptible 1 4 1).setB
      Reg.SCHED.QUEUE_CFG.priority 1 3 1).onCore 5 (fun k => { k with task := some { task with queue := some 4 } })
    t.dispatching 1 = true ∧ t.getBit Reg.PARTITION.CFG.px8 1 = false ∧ t.getB Reg.SCHED.QUEUE_CFG.preempts 1 3 ≠ 0 ∧
    t.queueHead 1 3 = some dQ ∧ t.headCheck 1 dQ = .good ∧ t.mayComplete 1 dQ = true ∧
    t.startCoreOf 1 dQ (t.queuePrio 1 (some 3)) = none ∧ (∀ a ∈ (t.part 1).sched.cores, (t.core a).preempt = none) ∧
    t.victim 1 (((t.part 1).sched.cores.filter (fun a => t.preemptable 1 a (t.queuePrio 1 (some 3)))).filter
      (fun a => dAny dQ || t.physical 1 (dCore dQ) == some a)) = some 5) := by decide +kernel
theorem wit_DispatcherAndPlan_save : (let t := sAsk ⟨some 3, false⟩ []
    t.partOf 5 = some 1 ∧ (t.core 5).preempt = some ⟨some 3, false⟩ ∧ (t.core 5).task = some task ∧
    freeSlot (t.core 5) (t.saveDepth 1) = some 0 ∧ (t.core 5).cheapHere 0x80000000 = true ∧ (t.core 5).sync.sems = []) ∧
    ((sAsk ⟨none, true⟩ [3]).core 5).preempt = some ⟨none, true⟩ ∧ ((sAsk ⟨some 3, true⟩ [3]).core 5).sync.sems ≠ [] := by
  decide +kernel
theorem wit_DispatcherAndPlan_resume : (let w : Saved := ⟨0, { task with queue := some 3 }, [], [], [], []⟩
    let t := L.onCore 5 (fun k => { k with saved := [w] })
    t.partOf 5 = some 1 ∧ (t.core 5).saved = [w] ∧ (t.core 5).task = none ∧ t.dispatching 1 = true ∧ (t.part 1).sched.stepHeads = [] ∧
    ∀ a, a < 16 → t.queueHead 1 a = none) := by decide +kernel
theorem wit_DispatcherAndPlan_suspend : L.schedState 1 = 0 ∧ (L1 Reg.SCHED.STATE.state 1 1).schedState 1 = 1 ∧
    (L1 Reg.SCHED.STATE.state 1 2).schedState 1 = 2 ∧ (L1 Reg.SCHED.STATE.state 1 2).restoreStatus 1 ≠ 0 ∧
    L.anyTask 1 = false ∧ L.stepsInFlight 1 = false ∧ (L.part 1).sched.retiring = [] ∧ S.getBit Reg.PARTITION.CFG.px8 1 = false ∧
    (S.core 5).task = some task ∧ (S.core 5).preempt = none ∧ spec (fun f => { f with px8 := true }) ≠ Core.idle := by decide +kernel
/-- The head of a PX8 image at the base of T1, for one core and no save slots. -/
def sHeadOnly : State :=
  (((L.set Reg.SCHED.CTX_ADDR.ctx_addr 1 (2 ^ 52)).set Reg.PARTITION.CFG.px8 1 1).set Reg.SCHED.STATE.state 1 2).writeBytes (2 ^ 52)
    (leBytes 4 1 ++ leBytes 4 1 ++ leBytes 4 1 ++ leBytes 4 64)
/-- A head with its digest after it. -/
def digested (u : State) (a : Nat) : State := u.writeBytes (a + 0x198) (imageDigest (u.readBytes a 0x198) [])
theorem image_of (u : State) (p a : Nat) (hw : Mem.wf u.mem = true) (ha : u.get Reg.SCHED.CTX_ADDR.ctx_addr p = a)
    (hx : u.getBit Reg.PARTITION.CFG.px8 p = true)
    (hr : (bit (recN (u.readBytes a 0x198) 4 4) 0 && (recN (u.readBytes a 0x198) 8 4 == 1) &&
      (recN (u.readBytes a 0x198) 0 4 == 1) && (recN (u.readBytes a 0x198) 0xC 4 == 64) &&
      (field (recN (u.readBytes a 0x198) 4 4) 7 4 == 0) && t1Ok a (0x400 + 0) &&
      (1 ≤ (((u.part p).sched.cores ++ (u.part p).sched.spares).filter (fun c => !(u.retired c))).length)) = true) :
    (digested u a).restoreStatus p = 0 := by
  have hl : (imageDigest (u.readBytes a 0x198) []).length = 8 := shake256_length _ _
  have hh : (digested u a).readBytes a 0x198 = u.readBytes a 0x198 := Mem.readBytes_writeBytes_out _ _ _ _ _ (by omega)
  have hd : (digested u a).readBytes (a + 0x198) 8 = imageDigest (u.readBytes a 0x198) [] := by
    have := Mem.readBytes_writeBytes_in u.mem (a + 0x198) (imageDigest (u.readBytes a 0x198) []) hw
    rwa [hl] at this
  have ha' : (digested u a).get Reg.SCHED.CTX_ADDR.ctx_addr p = a := ha
  have hx' : (digested u a).getBit Reg.PARTITION.CFG.px8 p = true := hx
  simp only [Bool.and_eq_true, beq_iff_eq, decide_eq_true_eq] at hr
  obtain ⟨⟨⟨⟨⟨⟨h1, h2⟩, h3⟩, h4⟩, h5⟩, h6⟩, h7⟩ := hr
  have h7' : 1 ≤ ((((digested u a).part p).sched.cores ++ ((digested u a).part p).sched.spares).filter
    (fun c => !((digested u a).retired c))).length := h7
  simp only [State.restoreStatus, ha', hh, hd, hx', h1, h2, h3, h4, h5]
  rw [if_neg (by simp [h6]), if_neg (by omega), if_neg (by omega)]
theorem wit_DispatcherAndPlan_image : (digested sHeadOnly (2 ^ 52)).restoreStatus 1 = 0 :=
  image_of _ _ _ (by decide +kernel) (by decide +kernel) (by decide +kernel) (by decide +kernel)
theorem wit_DispatcherAndPlan_registers : L.reach .deviceKey (0x02C00130 + 1 * 0x1000) = true ∧ L.semHeld 1 3 = false ∧
    ({ L with cores := [(5, { Core.idle with task := some task, sync := { SyncUnit.zero with sems := [3] } })] } : State).semHeld 1 3 = true ∧
    L.retired 5 = false ∧ (∀ k ∈ L.parts, 5 ∉ k.2.sched.spares) ∧ L.partOf 5 = some 1 ∧ L.partOf 6 = none ∧
    (L.set ⟨Reg.DEVICE.RETIRED.reg.reg, 63, 0⟩ 0 0x20).retired 5 = true ∧ L.live 1 = true ∧ L.boot.stopped = false ∧
    L.cqRoom (L.owner 1) = true ∧ (let t := L2 (fun k => { k with plan := [due 2] })
      t.dueAction 1 2 = some (due 2) ∧ (t.part 1).sched.learnPhase = false ∧ t.stepsInFlight 1 = false) := by decide +kernel

/-- Port 3 up, with a link. -/
def sPort (l : Link) : State := (State.reset.set Reg.PORT.STATUS.state 3 2).onFab (fun f => { f with links := [(3, l)] })
/-- A packet for device 9. -/
def pktOut : Packet := { pkt with dst := 9, vc := 3 }
theorem wit_LinksRoutesAndPackets : State.reset.portUp 3 = false ∧ (sPort Link.zero).portUp 3 = true ∧
    ((sPort Link.zero).link 3).fails = 0 ∧ ((sPort { Link.zero with fails := 8 }).link 3).fails = 8 ∧ (0 ||| 0xF0) % 16 = 0 ∧
    (0x10 ||| 1) / 16 % 16 ≠ 0 ∧ (2 ||| 1) / 16 % 16 = 0 ∧ packetBad 3 { pkt with reserved := 1 } = true ∧ packetBad 3 pktOut = false ∧
    pktOut.dst ≠ (sPort Link.zero).deviceId ∧ pktOut.vc ≠ 1 ∧
    ((sPort Link.zero).onFab (fun f => { f with routes := [(9, 0x83)] })).route 9 = some 3 ∧ packetBad 36 { pkt with vc := 7 } = false ∧
    pkt.dst = State.reset.deviceId := by decide +kernel
theorem wit_LinksRoutesAndPackets_train : (let t := State.reset.set Reg.PORT.CFG.enable 3 1
    t.portState 3 ≤ 1 ∧ t.deep = false ∧ t.getBit Reg.PORT.CFG.enable 3 = true ∧ t.get Reg.PORT.LOOP.depth 3 = 0 ∧
    t.getBit Reg.PORT.LOOP.retiming 3 = false) ∧ (sPort Link.zero).portState 3 ≠ 0 ∧ 0x0F % 16 = 15 ∧ 0xF1 / 16 % 16 = 15 := by
  decide +kernel
theorem wit_LinksRoutesAndPackets_bridge : (let t := State.reset.set Reg.DEVICE.BRIDGE_MASK.channels 0 2
    (t.get Reg.DEVICE.BRIDGE_MASK.channels 0).testBit (8 * 0 + 1) = true ∧
    (t.get Reg.DEVICE.BRIDGE_MASK.channels 0).testBit (8 * 0 + (1 : Nat).xor 1) = false) := by decide +kernel
theorem wit_LinksRoutesAndPackets_routes : State.reset.reach .deviceKey 0x1D0 = true ∧ State.reset.reach .deviceKey 0x1F0 = true ∧
    routeEntryOk false 1 = true ∧ routeEntryOk true 0x80 = false ∧
    (State.reset.onFab (fun f => { f with shadow := [(9, 2 ^ 16)] })).fab.shadow = [(9, 2 ^ 16)] ∧ routeEntryOk false (2 ^ 16) = false := by
  decide +kernel
/-- Combine group 2 of partition 1, a tree with a parent, and a part for it. -/
def sTree (ops : List HareOp) : State :=
  S.onFab (fun f => { f with groups := [(2, ⟨1, .tree (some 4) 8⟩)], ops := ops })
def pktPart : Packet :=
  { pkt with vc := 1, tenant := (sTree []).owner 1, tag := 7, length := 64, arg := 2 * 2 ^ 48 + 1 * 2 ^ 40, blocks := [List.replicate 256 0] }
theorem wit_LinksRoutesAndPackets_hare : (sTree []).fab.held = [] ∧ (sTree []).fab.formed = [] ∧ S.combineOf 2 = none ∧
    (sTree []).combineOf 2 = some ⟨1, .tree (some 4) 8⟩ ∧ (pktPayload pktPart).length = 64 ∧ opFits 1 (.tree (some 4) 8) = true ∧
    (sTree []).hareOp 2 7 1 = none ∧ (sTree []).hareFull 2 1 = false ∧
    (let x : HareOp := ⟨2, 7, 1, 1, some (.code 5 0 0, []), 0, [], true, none⟩
     let t := (sTree [x]).onCore 5 (fun k => { k with sync := { SyncUnit.zero with flags := SyncUnit.zero.flags.set! 0 .armed } })
     t.fab.ops.find? (fun y => y.tag == 7 && t.takesResult (t.owner 1) y.group y.pid) = some x ∧
     (t.core 5).sync.flags.toList.getD 0 .idle = .armed) := by decide +kernel

/-- Host port 3 up, and a host domain. -/
def sHost (h : HostIf) : State := { State.reset.set Reg.HPORT.STATUS.state 3 2 with host := h }
/-- A queue pair of tenant 1 on it, bound to partition 1. -/
def qp1 : Qp := ⟨3, some 1, false, 1, true, .connected, 400000, none, none, 0⟩
def sQp (k : Qp) : State := sHost { HostIf.zero with qps := [(4095, k)] }
/-- Tenant 1 holds a key, with a quota of one pair. -/
def sKey : State :=
  { (L.set Reg.HPORT.STATUS.state 3 2).set Reg.HOST.QPS.qp_quota 1 1 with
    tenants := [(1, { Tenant.zero with key := some 0x00400007 })] }
/-- The private data: its key, partition 1, no binding. -/
def priv1 : DWord := BitVec.ofNat 64 (0x00400007 * 2 ^ 32 + 1 * 2 ^ 22)
def frame : HostFrame := ⟨.udp 4791, 1, 4352, 7, 1⟩
theorem wit_HostPortsAndFrames : State.reset.hportUp 3 = false ∧ (sHost HostIf.zero).hportUp 3 = true ∧ frameTaken frame = true ∧
    frameTaken { frame with ipBytes := 4353 } = false ∧
    (let t := (sHost HostIf.zero).set Reg.HPORT.PFC.enabled 3 0x80
     (t.get Reg.HPORT.PFC.enabled 3).testBit 7 = true ∧ 8 * 3 + 7 ∉ t.host.xoff ∧ t.xoffBytes 3 < 2 ^ 20 + 2 ^ 19 + 1 ∧
     0 ≤ t.xoffBytes 3) ∧
    ((sHost HostIf.zero).set Reg.HPORT.IPV4.ipv4 3 9).ownV4 3 9 = true ∧ (sHost HostIf.zero).ownV4 3 0 = false ∧
    (sHost HostIf.zero).ownV6 3 9 = false ∧ (sHost HostIf.zero).ownV6 3 (0xFE80 * 2 ^ 112 + eui64 0) = true ∧
    ((sHost HostIf.zero).set Reg.HPORT.PTP.mode 3 1).getBit Reg.HPORT.PTP.mode 3 = true := by decide +kernel
theorem wit_HostPortsAndFrames_pairs : sKey.freeQp = some 0 ∧ priv1 ≠ 0 ∧ sKey.isDeviceKey 0x00400007 = false ∧
    sKey.keyTenant 0x00400007 = some 1 ∧ sKey.life 1 ≠ 0 ∧ sKey.owner 1 = 1 ∧ sKey.qpsOf 1 < sKey.get Reg.HOST.QPS.qp_quota 1 ∧
    sBoot.responderOpen = false ∧ { sBoot with pins := ⟨false, false⟩ }.responderOpen = true ∧ State.reset.keyTenant 1 = none ∧
    (sQp qp1).qp 4095 = some qp1 ∧ (sQp qp1).qp 0 = none ∧ qp1.rnr < 7 ∧ 7 ≤ { qp1 with rnr := 7 }.rnr ∧
    (let t := ((sQp qp1).set Reg.HOST.CQ_CFG.cq_log2 1 8).set Reg.HOST.CQ_CFG.cq_qp 1 4095
     t.get Reg.HOST.CQ_CFG.cq_log2 1 ≠ 0 ∧ t.get Reg.HOST.CQ_CFG.cq_qp 1 = 4095 ∧ t.get Reg.HOST.STATUS.cq_lost 1 = 0) ∧
    (sQp { qp1 with cutAt := some 0 }).timer < 0 + usTicks 50 := by decide +kernel
theorem wit_HostPortsAndFrames_rings : L.reach .deviceKey (0x02000110 + 1 * 0x1000) = true ∧ (L.tenant 1).eqUnreported = 0 ∧
    L.reach .deviceKey (0x02000128 + 1 * 0x1000) = true ∧
    (let t := { L.set Reg.HOST.EQ_CFG.eq_log2 1 8 with tenants := [(1, { Tenant.zero with eqUnreported := 2 })] }
     (t.tenant 1).eqUnreported ≠ 0 ∧ t.get Reg.HOST.EQ_CFG.eq_log2 1 ≠ 0 ∧ t.getBit Reg.HOST.STATUS.eq_lost 1 = false ∧
     t.eqRoom 1 = true) := by decide +kernel

/-- Tenant 1's pair, connected, with the key of `sKey`. -/
def sRd (k : Qp) : State := { sKey with host := { HostIf.zero with qps := [(4095, k)] } }
theorem wit_RdmaRequests : (sRd qp1).qp 4095 = some qp1 ∧ (sRd qp1).hportUp 3 = true ∧ (sRd qp1).qp 0 = none ∧
    (sRd { qp1 with cnpAt := none }).hportUp 3 = true ∧ (sRd qp1).keyWho qp1 0 = none ∧
    (sRd qp1).keyWho qp1 0x00400007 = some (.tenant 1) ∧ (sRd qp1).deep = false := by decide +kernel
theorem wit_RdmaRequests_check : spaceOf (2 ^ 63) ≠ 4 ∧ spaceOf (2 ^ 63) ≠ 5 ∧ (sRd qp1).resolve (.tenant 1) (2 ^ 63) 8 = .error 5 :=
  ⟨by decide +kernel, by decide +kernel, by rfl⟩
theorem wit_RdmaRequests_boot : sBoot.qp 0 = some ⟨3, none, true, 0, false, .connected, 0, none, none, 0⟩ ∧
    sBoot.stagingOpen = true ∧ spaceOf (2 ^ 52 + 0x7FFC000000) = 1 := by decide +kernel
/-- A device pair, with the device key. -/
def sDev : State := { sKey with host := { HostIf.zero with qps := [(4095, { qp1 with tenant := none })], deviceKey := some 7 } }
theorem wit_RdmaRequests_device : sDev.keyWho qp1 7 = some .device ∧ sDev.poisoned 8 8 = false ∧ spaceOf (2 ^ 52) = 1 ∧ spaceOf 8 = 0 ∧
    (let a := 0x0040000002801100
     spaceOf a = 4 ∧ wellPlaced a = true ∧ a % 8 = 0 ∧ a % 0x1000 ≠ 0 ∧ sDev.windowCheck .deviceKey (a % 2 ^ 32) = none ∧
     a ≠ 0x0040000000000000 + Reg.BOOT.GO.reg.reg ∧ winReadOk a 0xF00 = true) := by decide +kernel
theorem wit_RdmaRequests_bytes : sDev.resolve .device (2 ^ 52) 8 = .ok (2 ^ 52) ∧ sDev.resolve .device 8 8 = .ok 8 := ⟨by rfl, by rfl⟩
/-- Partition 1 has a SEND-fed command ring of 16 entries at the base of T1. -/
def sRing : State :=
  (((((sRd qp1).setB Reg.HOST.CMD_CFG.enable 1 1 1).setB Reg.HOST.CMD_CFG.feed 1 1 1).setB Reg.HOST.CMD_ADDR.cmd_addr 1 1 (2 ^ 52)).set
    Reg.PARTITION.T1_BASE.t1_base 1 (2 ^ 52)).set Reg.PARTITION.ALLOT.t1_mib 1 1
theorem wit_RdmaRequests_send : sRing.live 1 = true ∧ sRing.cmdEnabled 1 = true ∧ sRing.cmdSendFed 1 = true ∧ sRing.owner 1 = 1 ∧
    sRing.cmdRingOk 1 = true ∧ sRing.cmdProducer 1 - sRing.cmdHead 1 + 16 ≤ 2 ^ sRing.cmdLog 1 ∧
    (let t := { sRing with host := { sRing.host with producers := [(1, 1)] } }
     2 ^ t.cmdLog 1 < t.cmdProducer 1 - t.cmdHead 1 + 16) := by decide +kernel

/-! ## Witnesses: weights and the learner step -/

/-- Partition 1 in a role, with region 0 over the low part of T1, slot 0 of one chunk, its buffers in it. -/
def sSlot (role b0 p0 b1 p1 : Nat) : State :=
  ((((owns role).onPart 1 (fun k => { k with tiers := { k.tiers with regions := [(0, ⟨2 ^ 52, 2 ^ 20, 1, .resident, 0, 0, 0⟩)] } })).setB
    Reg.PUB.SHARD_LEN.shard_len 1 0 4096).setBuf 1 0 0 b0 p0).setBuf 1 0 1 b1 p1
def withSlot (s : State) (w : WSlot) : State := s.onWslot 1 0 (fun _ => w)
/-- A record for version 7 of slot 0. -/
def recd : List Byte := leBytes 4 7 ++ List.replicate 60 0
theorem wit_PublishingAndCommit_load : (let t := sSlot 0 0 0 3 1
    t.reach .deviceKey (0x05800148 + 1 * 0x1000) = true ∧ t.slotSel 1 = 0 ∧ t.bufIn 1 0 0 = some 0 ∧ slotOf 7 = 0 ∧ versionOf 7 ≠ 0 ∧
    versionOf (t.bufPennant 1 0 0) < versionOf 7 ∧ versionOf (t.bufPennant 1 0 1) < versionOf 7 ∧ t.regionHolds 1 0 0 = true ∧
    (sSlot 0 2 2 3 1).bufIn 1 0 0 = none ∧ (t.wslot 1 0).fill = none ∧ t.slotInUse 1 0 = false ∧ (t.wslot 1 0).pending = none ∧
    (let u := withSlot (sSlot 0 1 7 3 1) { WSlot.zero with fill := some ⟨0, false, 0, 0, 0, 0⟩ }
     (u.wslot 1 0).fill = some ⟨0, false, 0, 0, 0, 0⟩ ∧ u.regionHolds 1 0 0 = true ∧ u.role 1 = 0 ∧ (u.wslot 1 0).pending = none) ∧
    ((sSlot 1 1 7 3 1).onRed 1 (fun r => { r with isOpen := true })).slotInUse 1 0 = true) := by decide +kernel
/-- The digest that a load must name: whatever the shard's is, LOAD_DIGEST can hold it. -/
theorem wit_PublishingAndCommit_digest (s : State) (d : DWord) :
    (s.set Reg.PUB.LOAD_DIGEST.digest 1 d.toNat).get Reg.PUB.LOAD_DIGEST.digest 1 = d.toNat := by
  have := State.getB_setB_same s Reg.PUB.LOAD_DIGEST.digest 1 0 d.toNat (by decide)
  rw [show (Reg.PUB.LOAD_DIGEST.digest).hi + 1 - (Reg.PUB.LOAD_DIGEST.digest).lo = 64 from rfl, Nat.mod_eq_of_lt d.isLt] at this
  exact this
theorem wit_PublishingAndCommit_record : (let t := sSlot 0 0 0 3 1
    t.pubLive 1 = true ∧ recd.length = 64 ∧ t.shardLen 1 (slotOf (prPennant recd)) ≠ 0 ∧ t.role 1 = 0 ∧
    prGroup recd = t.getB Reg.PUB.SLOT_CFG.publish_group 1 (slotOf (prPennant recd)) ∧ t.topVersion 1 0 < versionOf (prPennant recd) ∧
    t.bufIn 1 0 0 = some 0 ∧ (sSlot 0 2 2 3 1).bufIn 1 0 0 = none ∧ versionOf (prPennant recd) ≤ (sSlot 0 0 0 3 7).topVersion 1 0) := by
  decide +kernel
/-- A relay packet for slot 0 from device 7, and slot 0 filling by relay from it: its edge list lies at T1 offset 2^19. -/
def sRelay (f : Fill) (more : List Byte) : State :=
  (withSlot ((sSlot 0 1 7 3 1).setB Reg.PUB.EDGE_ADDR.edge_addr 1 0 (2 ^ 52 + 2 ^ 19)) { WSlot.zero with fill := some f }).writeBytes
    (2 ^ 52 + 2 ^ 19) (leBytes 4 (0xC0000000 + 2 * 2 ^ 16 + 7) ++ more)
def pktRelay (chunk : Nat) : Packet :=
  { pkt with vc := 4, tenant := 1, pennant := 7, tag := 0, length := 2048, arg := chunk, blocks := List.replicate 8 (List.replicate 256 0) }
def fill0 : Fill := ⟨0, true, 0, 0, 2048, 0⟩
theorem wit_PublishingAndCommit_relay : (let t := sRelay fill0 []
    t.pubLive 1 = true ∧ (pktRelay 0).tenant = t.owner 1 ∧ pkt.tenant + 1 ≠ t.owner 1 ∧ (t.wslot 1 (slotOf 7)).fill = some fill0 ∧
    (t.holder 1 0 fill0).map Prod.snd = some 7 ∧ 7 = t.bufPennant 1 0 0 ∧ 0 = t.getB Reg.PUB.SLOT_CFG.shard 1 0 ∧
    (pktPayload (pktRelay 0)).length = 2048 ∧ 2048 + 2048 ≤ min 262144 (t.shardLen 1 0 - 262144 * 0) ∧ 0 < t.shardChunks 1 0 ∧
    t.regionHolds 1 0 0 = true ∧ t.shardChunks 1 0 ≤ 1 ∧ field (pktRelay 0xFFFFFFFE).arg 31 0 = 0xFFFFFFFE ∧ fill0.fails < 2) := by
  decide +kernel
theorem wit_PublishingAndCommit_ready : (let t := withSlot (sSlot 0 2 7 3 1) { WSlot.zero with ready := [(7, ⟨true, none⟩)] }
    ((t.wslot 1 (0 % 256)).ready.filter (fun y => y.2.own && y.2.formed.isNone)).getLast? = some (7, ⟨true, none⟩)) ∧
    (sSlot 0 4 1 3 7).bufIn 1 0 4 = some 0 ∧ (sSlot 0 4 1 3 7).bufRead 1 0 0 = false ∧
    ((sSlot 0 4 1 3 7).onGen 1 (fun g => { g with steps := [⟨1, 1, 0, [], [], []⟩] })).bufRead 1 0 0 = true ∧
    (L.setB Reg.PUB.SLOT_CFG.leader 1 3 1).getB Reg.PUB.SLOT_CFG.leader 1 (3 % 256) = 1 := by decide +kernel

/-- A learner whose slot 0 is ACTIVE in buffer 0 at pennant 6, with a step open. -/
def sLearn (b1 : Nat) (r : Red) (u : Upd) : State :=
  { sSlot 1 3 6 b1 7 with parts := [(1, { (sSlot 1 3 6 b1 7).part 1 with red := r, upd := u })] }
theorem red_sLearn (b1 : Nat) (r : Red) (u : Upd) : (sLearn b1 r u).red 1 = r := rfl
theorem upd_sLearn (b1 : Nat) (r : Red) (u : Upd) : (sLearn b1 r u).upd 1 = u := rfl
/-- Every bucket that a number can name has ended. -/
def allDone : Map Bucket := (List.range 65536).map (fun b => (b, { Bucket.zero with state := .complete }))
theorem getD_ranged {α : Type} (x d : α) (n : Nat) : ∀ (k i : Nat), k ≤ i → i < k + n →
    Map.getD ((List.range' k n).map (fun b => (b, x))) i d = x := by
  induction n with
  | zero => intro k i h1 h2; omega
  | succ n ih =>
    intro k i h1 h2
    rw [List.range'_succ, List.map_cons, Map.getD, Map.find]
    by_cases h : i = k
    · rw [if_pos h]; rfl
    · rw [if_neg h]; exact ih (k + 1) i (by omega) (by omega)
theorem getD_allDone (i : Nat) (h : i < 65536) : (Map.getD allDone i Bucket.zero).state = .complete := by
  rw [allDone, List.range_eq_range', getD_ranged _ _ _ 0 i (Nat.zero_le i) (by omega)]
theorem redPasses_of (s : State) (h : (s.red 1).isOpen = true) (hb : (s.red 1).buckets = allDone) : s.redPasses 1 = true := by
  rw [State.redPasses, h, Bool.true_and, State.allComplete, List.all_eq_true]
  intro b hb'
  have : b < 65536 := by
    have := Nat.mod_lt (Config.bucketCount (s.get Reg.RED.BUCKET_TABLE.bucket_addr 1)) (show 65536 > 0 by decide)
    simp only [upTo, List.mem_range, State.bucketCount] at hb'
    omega
  rw [State.bucket, hb, getD_allDone b this]
  rfl
/-- The step of `sLearn` with every bucket complete. -/
def redDone : Red := { Red.zero with isOpen := true, buckets := allDone }
theorem wit_PublishingAndCommit_commit : (let t := sLearn 2 redDone { Upd.zero with ran := true, complete := true }
    t.passBit 1 = some true ∧ t.committing 1 = some (0, 1, 7) ∧ t.bufState 1 0 1 = 2 ∧ t.bufPennant 1 0 1 = 7) := by
  have hp : (sLearn 2 redDone { Upd.zero with ran := true, complete := true }).redPasses 1 = true :=
    redPasses_of _ (by rw [red_sLearn, redDone]) (by rw [red_sLearn, redDone])
  have hc : (sLearn 2 redDone { Upd.zero with ran := true, complete := true }).committing 1 = some (0, 1, 7) := by decide +kernel
  have ho : ((sLearn 2 redDone { Upd.zero with ran := true, complete := true }).ownFailure 1).isSome = false := by decide +kernel
  have hb : (sLearn 2 redDone { Upd.zero with ran := true, complete := true }).stepBlocked 1 = false := by decide +kernel
  have hv : (sLearn 2 redDone { Upd.zero with ran := true, complete := true }).verdictsPending 1 = false := by decide +kernel
  have hd : (sLearn 2 redDone { Upd.zero with ran := true, complete := true }).digestStep 1 = false := by decide +kernel
  have hl : (sLearn 2 redDone { Upd.zero with ran := true, complete := true }).getB Reg.PUB.SLOT_CFG.leader 1 0 = 0 := by decide +kernel
  have hr : ((sLearn 2 redDone { Upd.zero with ran := true, complete := true }).red 1).isOpen = true := by
    rw [red_sLearn, redDone]
  have hu : ((sLearn 2 redDone { Upd.zero with ran := true, complete := true }).upd 1).complete = true := by
    rw [upd_sLearn]
  refine ⟨?_, hc, by decide +kernel, by decide +kernel⟩
  simp [State.passBit, hp, hc, ho, hb, hv, hd, hl, hr, hu]
theorem wit_PublishingAndCommit_fails : (let t := (sLearn 2 { Red.zero with isOpen := true } Upd.zero).onPart 1 (fun k =>
      { k with checks := { Checks.zero with fail := some 1 } })
    t.passBit 1 = some false ∧ t.ownFailure 1 = some 1) ∧ L.passBit 1 = none := by decide +kernel
theorem wit_PublishingAndCommit_generate : (let t := (sLearn 0 Red.zero Upd.zero).onPart 1 (fun k => { k with plan := [due 1] })
    t.dueAction 1 1 = some (due 1) ∧ t.learning 1 = true ∧ (t.red 1).isOpen = false) := by decide +kernel

/-! ### A bucket: its table lies in T0, its run map wherever in a blank T1 -/

theorem readBytes_blank (m : Mem) (n : Nat) : ∀ a, (∀ i, Mem.read m (a + i) = 0) → leNat (Mem.readBytes m a n) = 0 := by
  induction n with
  | zero => intros; rfl
  | succ n ih =>
    intro a h
    rw [Mem.readBytes, leNat, show Mem.read m a = 0 from h 0, ih (a + 1) (fun i => by
      have := h (i + 1); rwa [show a + (i + 1) = a + 1 + i by omega] at this)]
    rfl
theorem find_low (m : Mem) (a : Nat) (h : m.all (fun e => decide (e.1 < 2 ^ 52)) = true) (ha : 2 ^ 52 ≤ a) : Mem.read m a = 0 := by
  induction m with
  | nil => rfl
  | cons x m ih =>
    rw [List.all_cons, Bool.and_eq_true, decide_eq_true_eq] at h
    have := ih h.2
    simp only [Mem.read, Map.getD, Map.find] at *
    rw [if_neg (by omega)]
    exact this
/-- Region 0 over all of T1. -/
def wholeT1 : Region := ⟨2 ^ 52, 2 ^ 39, 1, .resident, 0, 0, 0⟩
theorem resolve_T1 (s : State) (x : Nat) (hx : x < 2 ^ 36) (hr : (s.part 1).tiers.regions = [(0, wholeT1)])
    (he : s.parts.all (fun k => (s.expRingSpan k.1).2 == 0) = true) :
    s.resolve (.part 1) (t1Addr (8 * x)) 8 = .ok (t1Addr (8 * x)) := by
  have h1 : spaceOf (t1Addr (8 * x)) = 1 := by
    simp only [spaceOf, field, t1Addr, Nat.shiftRight_eq_div_pow]; omega
  have h2 : wellPlaced (t1Addr (8 * x)) = true := by
    simp only [wellPlaced, h1, mbzFrom, Bool.and_eq_true, beq_iff_eq]
    simp only [field, t1Addr, Nat.shiftRight_eq_div_pow]; omega
  have h3 : field (t1Addr (8 * x)) 38 0 = 8 * x := by
    simp only [field, t1Addr, Nat.shiftRight_eq_div_pow]; omega
  have h4 : s.touchesExpRing (t1Addr (8 * x)) 8 = false := by
    rw [State.touchesExpRing, List.any_eq_false]
    intro k hk
    have := List.all_eq_true.mp he k hk
    simp only [beq_iff_eq] at this
    simp [this]
  have h5 : s.inRegions (.part 1) (t1Addr (8 * x)) 8 = true := by
    have a1 : 2 ^ 52 ≤ t1Addr (8 * x) := by simp [t1Addr]
    have a2 : t1Addr (8 * x) < 2 ^ 52 + 2 ^ 39 := by simp only [t1Addr]; omega
    have a3 : min 8 (2 ^ 52 + 2 ^ 39 - t1Addr (8 * x)) = 8 := by simp only [t1Addr]; omega
    simp only [State.inRegions, hr, List.length_cons, List.length_nil, regionsCover, List.find?_cons, wholeT1, a1, a2]
    simp only [decide_true, Bool.and_true, a3]
    simp
  simp [State.resolve, h1, h2, h3, h4, h5]
  omega
theorem runOf_blank (s : State) (d : BucketDef) (hd : d.first = 0) (hr : (s.part 1).tiers.regions = [(0, wholeT1)])
    (he : s.parts.all (fun k => (s.expRingSpan k.1).2 == 0) = true)
    (hm : s.mem.all (fun e => decide (e.1 < 2 ^ 52)) = true) : s.runOf 1 d 0 = some ⟨0, 0, 0, 0⟩ := by
  have hx := Nat.mod_lt (Config.runMap (s.get Reg.RED.BUCKET_TABLE.bucket_addr 1)) (show 2 ^ 36 > 0 by decide)
  simp only [State.runOf, hd, Nat.add_zero, Nat.mul_zero]
  rw [resolve_T1 s _ hx hr he]
  have : s.readN (t1Addr (8 * (Config.runMap (s.get Reg.RED.BUCKET_TABLE.bucket_addr 1) % 2 ^ 36))) 8 = 0 :=
    readBytes_blank _ _ _ (fun i => find_low _ _ hm (by simp [t1Addr]; omega))
  simp only [this]
  simp [field]
/-- Bucket 0 has one run, of logical core 0: its entry lies at 0x40 of the core's slice. -/
def sBk (r : Red) (u : Upd) : State :=
  (({ sSlot 1 3 6 0 0 with parts := [(1, { (sSlot 1 3 6 0 0).part 1 with red := r, upd := u, tiers := ⟨[(0, wholeT1)], [], 0⟩ })] }).set
    Reg.RED.BUCKET_TABLE.bucket_addr 1 0x40).writeBytes (t0Addr 5 0x40) (leBytes 2 1 ++ leBytes 2 1)
def def0 : BucketDef := ⟨1, 1, 0, 0⟩
/-- A step with bucket 0 as `k`. -/
def redOpen (k : Bucket) : Red := { Red.zero with isOpen := true, buckets := [(0, k)] }
theorem runsOf_sBk (s : State) (hr : (s.part 1).tiers.regions = [(0, wholeT1)])
    (h : (s.parts.all (fun k => (s.expRingSpan k.1).2 == 0) && s.mem.all (fun e => decide (e.1 < 2 ^ 52))) = true) :
    s.runsOf 1 def0 = [⟨0, 0, 0, 0⟩] := by
  rw [Bool.and_eq_true] at h
  simp only [State.runsOf, upTo, show List.range def0.runs = [0] from rfl, List.filterMap_cons, List.filterMap_nil,
    runOf_blank s def0 rfl hr h.1 h.2]
theorem mapValid_of (s : State) (hr : s.runsOf 1 def0 = [⟨0, 0, 0, 0⟩])
    (h : ((s.stagePhys 1 ⟨0, 0, 0, 0⟩).isSome && (s.resultPhys 1 def0 ⟨0, 0, 0, 0⟩).isSome && s.members 1 == 1) = true) :
    s.mapValid 1 def0 = true := by
  simp only [Bool.and_eq_true, beq_iff_eq] at h
  rw [State.mapValid, hr, h.2]
  simp [h.1.1, h.1.2, holders, show def0.runs = 1 from rfl, show def0.parts = 1 from rfl]
  decide
theorem wit_ReductionAndUpdate_close : (let t := sBk (redOpen Bucket.zero) Upd.zero
    t.partOf 5 = some 1 ∧ t.reach (.coreCode 5) (regOff Reg.RED.CLOSE.reg 1) = true ∧ t.bucketDef 1 0 = some def0 ∧
    (t.red 1).isOpen = true ∧ t.logical 1 5 = 0 ∧ (t.bucket 1 0).closes = [] ∧
    (t.core 5).sync.flags.toList.getD 0 .idle = .idle ∧ (t.bucket 1 0).state = .running) ∧
    0 < (sBk (redOpen Bucket.zero) Upd.zero).bucketCount 1 := ⟨by decide +kernel, by simp only [State.bucketCount]; omega⟩
theorem wit_ReductionAndUpdate_map : 0 ∈ holders ((sBk (redOpen Bucket.zero) Upd.zero).runsOf 1 def0) ∧
    (sBk (redOpen Bucket.zero) Upd.zero).mapValid 1 def0 = true :=
  have hr := runsOf_sBk (sBk (redOpen Bucket.zero) Upd.zero) rfl (by decide +kernel)
  ⟨by rw [hr]; decide, mapValid_of _ hr (by decide +kernel)⟩
/-- The bucket closed with exponent 5 and agreed. -/
def bk5 : Bucket := { Bucket.zero with closes := [⟨0, 3, some 5⟩], entered := some 5, shared := some 5 }
theorem wit_ReductionAndUpdate_steps : (let t := sBk (redOpen bk5) Upd.zero
    let o := sBk { Red.zero with want := some 1 } Upd.zero
    t.reach (.coreCode 5) (regOff Reg.RED.OPEN.reg 1) = true ∧ (o.red 1).want = some 1 ∧ o.live 1 = true ∧ o.learning 1 = true ∧
    (o.red 1).isOpen = false ∧ (o.red 1).noisy = false ∧ ((sBk (redOpen { bk5 with shared := none }) Upd.zero).bucket 1 0).shared = none ∧
    (t.bucket 1 0).entered = some 5 ∧ t.reach (.coreCode 5) (regOff Reg.RED.STAGED.reg 1) = true ∧ (t.bucket 1 0).shared = some 5 ∧
    expSpecial 5 = false ∧ (t.bucket 1 0).state ≠ .failed ∧ 0 ∉ (t.bucket 1 0).staged ∧ (∃ c ∈ (t.bucket 1 0).closes, c.lcore = 0) ∧
    t.poison = [] ∧ t.reach (.coreCode 5) (regOff Reg.RED.NOTIFY.reg 1) = true ∧ t.physical 1 0 = some 5 ∧ o.bucketDef 1 0 = some def0 ∧
    (t.bucket 1 0).counted < 2 * def0.runs ∧ ({ Red.zero with noisy := true }).noisy = true ∧
    (let w := sBk (redOpen { bk5 with counted := 2 }) Upd.zero
     ¬(w.bucket 1 0).counted < 2 * def0.runs ∧ (∃ c ∈ (w.bucket 1 0).closes, c.lcore ∉ (w.bucket 1 0).staged)) ∧
    (let w := sBk (redOpen { bk5 with summed := true }) Upd.zero
     (w.bucket 1 0).summed = true ∧ (w.bucket 1 0).agreed = none ∧ (w.bucket 1 0).state = .running)) := by decide +kernel
/-- One half-run for run 0 of bucket 0 of step 0. -/
def pktRun : Packet := { pkt with vc := 2, tag := 0, tenant := 1, length := 2048, blocks := List.replicate 8 (List.replicate 256 0) }
theorem wit_ReductionAndUpdate_arrival : (let t := sBk (redOpen bk5) Upd.zero
    t.reach .firmware (regOff Reg.RED.STATUS.reg 1) = true ∧ pktRun.tenant = t.owner 1 ∧ t.bucketDef 1 (0 % 65536) = some def0 ∧
    (t.red 1).isOpen = true ∧ 0 / 65536 = t.step16 1 ∧ (t.bucket 1 0).state = .running ∧ t.owns 1 def0 (field pktRun.arg 47 32) = true ∧
    (pktPayload pktRun).length = 2048 ∧ (t.resultPhys 1 def0 ⟨0, 0, 0, 0⟩).isSome = true ∧
    (let w := sBk (redOpen { bk5 with unacked := [1], counted := 1 }) Upd.zero
     1 ∈ (w.bucket 1 0).unacked ∧ (w.red 1).isOpen = true ∧ 2 * def0.runs ≤ (w.bucket 1 0).counted + 1 ∧
     (w.set Reg.RED.GROUP_CFG.check_log2 1 1 |>.onRed 1 (fun r => { r with step := 1 })).checked 1 0 = false)) := by decide +kernel
theorem wit_ReductionAndUpdate_norm : (sLearn 0 redDone Upd.zero).redPasses 1 = true ∧ ((sLearn 0 redDone Upd.zero).red 1).norm = none :=
  ⟨redPasses_of _ (by rw [red_sLearn, redDone]) (by rw [red_sLearn, redDone]), by rw [red_sLearn, redDone]; rfl⟩
/-- With the norm formed. -/
def redNorm : Red := { redDone with norm := some 0x3F800000 }
theorem wit_ReductionAndUpdate_update : (sLearn 1 redNorm { Upd.zero with landed := [(0, 1)] }).redPasses 1 = true ∧
    ((sLearn 1 redNorm Upd.zero).red 1).norm = some 0x3F800000 :=
  ⟨redPasses_of _ (by rw [red_sLearn, redNorm, redDone]) (by rw [red_sLearn, redNorm, redDone]), by rw [red_sLearn, redNorm]⟩
theorem wit_ReductionAndUpdate_buffers : (let t := sLearn 1 Red.zero { Upd.zero with landed := [(0, 1)] }
    t.readBuf 1 = some (0, 0) ∧ (t.upd 1).cause = none ∧ (t.upd 1).ran = false ∧ (t.upd 1).landed ≠ [] ∧ t.bufState 1 0 1 = 1 ∧
    (t.upd 1).heldFrom = none ∧ clipFactor 0x3F800000 (BitVec.ofNat 32 (t.latched 1 Reg.UPD.CLIP.clip_norm)) ≠ none ∧
    clipFactor 0x7F800000 (BitVec.ofNat 32 (t.latched 1 Reg.UPD.CLIP.clip_norm)) = none ∧ (sLearn 0 Red.zero Upd.zero).bufState 1 0 1 = 0 ∧
    ¬((sLearn 0 Red.zero Upd.zero).bufState 1 0 1 ≠ 0)) := by decide +kernel
theorem wit_ReductionAndUpdate_gathered : (let t := sLearn 1 Red.zero { Upd.zero with ran := true }
    t.readBuf 1 = some (0, 0) ∧ (t.upd 1).ran = true ∧ (t.upd 1).cause = none ∧ (t.upd 1).complete = false ∧ t.bufState 1 0 1 = 1) ∧
    (sLearn 1 Red.zero { Upd.zero with ran := true }).gathered 1 = true := by
  refine ⟨by decide +kernel, ?_⟩
  rw [State.gathered, show (sLearn 1 Red.zero { Upd.zero with ran := true }).members 1 = 1 by decide +kernel]
  simp
theorem foldl_ge {α : Type} (f : α → Nat) (l : List α) : ∀ n : Nat, n ≤ l.foldl (fun n b => n + f b) n := by
  induction l with
  | nil => intro n; exact Nat.le_refl n
  | cons x l ih => intro n; exact Nat.le_trans (Nat.le_add_right n (f x)) (ih (n + f x))
/-- The other half of a group of two that has sent nothing. -/
def sAlone : State :=
  ((sBk Red.zero { Upd.zero with ran := true }).set Reg.RED.GROUP_CFG.members 1 2).writeBytes (t0Addr 5 0x42) (leBytes 2 2)
theorem runs_count (s : State) (d : BucketDef) (h : s.bucketDef 1 0 = some d) (hd : d.runs / s.members 1 = 1) : 1 ≤ s.runsPerMember 1 := by
  rw [State.runsPerMember, State.bucketCount, upTo, Nat.add_comm 1, List.range_succ_eq_map, List.foldl_cons, h]
  simp only [hd]
  exact foldl_ge (fun b => match s.bucketDef 1 b with
    | some d => d.runs / s.members 1
    | none => 0) _ 1
theorem wit_ReductionAndUpdate_alone : (sAlone.upd 1).ran = true ∧ (sAlone.upd 1).cause = none ∧ sAlone.gathered 1 = false := by
  have hm : sAlone.members 1 = 2 := by decide +kernel
  have hc := runs_count sAlone ⟨2, 1, 0, 0⟩ (by decide +kernel) (by rw [hm]; rfl)
  refine ⟨by decide +kernel, by decide +kernel, ?_⟩
  rw [State.gathered, hm, show (sAlone.upd 1).landed.length = 0 by decide +kernel]
  simp
  omega
/-- A run's part of another member: 32 pieces and their scales, into block 0 of buffer 1. -/
def pktGather (n : Nat) : Packet := { pkt with vc := 3, tenant := 1, length := n, blocks := [List.replicate n 0] }
def sGather : State :=
  sBk { Red.zero with isOpen := true } { Upd.zero with latch := [(Reg.UPD.WBASE1.wbase1.reg, 2 ^ 52)] }
theorem wit_ReductionAndUpdate_gather : (let t := sGather
    let k := pktGather (32 * pieceBytes (t.wFmt 1) + 16)
    t.reach .firmware (regOff Reg.UPD.STATUS.reg 1) = true ∧ k.tenant = t.owner 1 ∧ t.readBuf 1 = some (0, 0) ∧ (t.red 1).isOpen = true ∧
    k.tag / 65536 = t.step16 1 ∧ t.bufState 1 0 1 = 0 ∧ (pktPayload k).length = 32 * pieceBytes (t.wFmt 1) + 16 ∧
    t.updPlace 1 (t.wBase 1 1) (field k.arg 39 0) 4224 = some (2 ^ 52)) := by decide +kernel

/-! ## Witnesses: requests and decode steps -/

/-- Request 7: streamer of 64 entries, prompt of 4 tokens at T1 offset 2^19, one new token, slot 0, group 0. -/
def blk : List Byte :=
  leBytes 8 7 ++ leBytes 8 0 ++ leBytes 4 0 ++ leBytes 4 6 ++ leBytes 8 (2 ^ 52 + 2 ^ 19) ++ leBytes 4 4 ++ leBytes 4 1 ++ leBytes 4 0 ++
  leBytes 4 0x3F800000 ++ leBytes 4 0 ++ leBytes 4 0 ++ leBytes 8 0 ++ leBytes 32 0
/-- A generator with slot 0 ACTIVE, seed 0, and room for requests in group 0. -/
def sGen (f : Gen → Gen) : State :=
  (((sSlot 0 3 6 0 0).setB Reg.KV.GROUP_CFG.max_requests 1 0 4).set Reg.RNG.SEED_STATUS.valid 1 1).onGen 1 f
def req7 (f : Req → Req) : Req := f (Req.queued blk 0)
def rq (st : ReqState) : Req := req7 (fun q => { q with state := st })
/-- One step in flight with row 7 not yet committed. -/
def step3 : StepRec := ⟨3, 6, 0, [⟨0, 7, 4, false⟩], [], []⟩
theorem wit_RequestsAndDecodeSteps : (let t := sGen id
    t.live 1 = true ∧ t.boot.stopped = false ∧ t.cqRoom (t.owner 1) = true ∧ t.role 1 ≠ 1 ∧ t.requestStatus 1 ((blk ++ leBytes 96 0).take 96) = 0 ∧
    t.requestStatus 1 (leBytes 96 0) ≠ 0 ∧ (t.set Reg.HOST.CQ_CFG.cq_log2 1 8).get Reg.HOST.CQ_CFG.cq_log2 (t.owner 1) ≠ 0) ∧
    (let t := sGen (fun g => { g with reqs := [rq .queued] })
     t.req 1 7 = some (rq .queued) ∧ (rq .queued).status = none ∧ (rq .queued).lost = false) ∧
    (let q := req7 (fun q => { q with state := .running, len := 18 })
     let t := sGen (fun g => { g with reqs := [q], tables := [(0, [(0, .frame 5)])] })
     t.req 1 7 = some q ∧ q.newTokens ≠ 0 ∧ q.group = 0 ∧ 16 ≤ q.committed ∧ Map.find (t.kvGroup 1 0).handles 63 = none ∧
     t.prefixFrames 1 q 16 = some [5] ∧
     Map.has ((sGen (fun g => { g with groups := [(0, { KvGroup.zero with handles := [(63, ⟨[5], 16, none⟩)] })] })).kvGroup 1 0).handles 63 = true) := by
  decide +kernel
theorem wit_RequestsAndDecodeSteps_swap : (let t := (sSlot 0 3 6 2 7).onPart 1 (fun k => { k with plan := [due 3] })
    let u := t.onGen 1 (fun g => { g with steps := [step3] })
    u.dueAction 1 3 = some (due 3) ∧ u.generating 1 = true ∧ (u.gen 1).steps ≠ [] ∧ u.holds 1 7 = some 2 ∧ u.holds 1 (pePennant (due 3).bytes) = none) := by
  decide +kernel
theorem wit_RequestsAndDecodeSteps_launch : (let q := rq .prefill
    let t := sGen (fun g => { g with reqs := [q], hold := some .ring, filled := true })
    t.launches 1 = true ∧ State.reset.launches 1 = false ∧ (sGen id).launches 1 = true ∧ ((sGen id).gen 1).hold = none ∧
    (t.gen 1).hold = some .ring ∧ t.stepRows 1 = some (0, [q]) ∧
    ((t.set Reg.PARTITION.CFG.exp_log2 1 10).ringSpace 1 [q]).1 = true ∧ (t.set Reg.PARTITION.CFG.exp_log2 1 10).stepRows 1 = some (0, [q]) ∧
    (sGen (fun g => { g with hold := some .fill })).launches 1 = true ∧ 9 ∉ [step3].map (fun y => y.seq) ∧
    t.kvMismatch 1 [(0, 1, 0)] = some 0 ∧ t.kvMismatch 1 [] = none) := by decide +kernel
theorem wit_RequestsAndDecodeSteps_commit : (let q := req7 (fun q => { q with state := .running, step := some 3 })
    let t := sGen (fun g => { g with reqs := [q], steps := [step3] })
    (t.gen 1).steps = [step3] ∧ step3.rows.find? (fun y => !y.done) = some ⟨0, 7, 4, false⟩ ∧ t.req 1 (7 : DWord).toNat = some q ∧
    q.status = none ∧ q.step = some 3 ∧ q.guesses = [] ∧
    (let w := req7 (fun q => { q with state := .prefill, step := some 3, prefilled := 2 }); w.prefilled + 1 < rqPromptLen w.block) ∧
    (t.gen 1).steps.find? (fun y => y.seq == 3) = some step3 ∧ (t.gen 1).steps.find? (fun y => y.seq == 4) = none) := by decide +kernel
theorem wit_RequestsAndDecodeSteps_rings : (let t := (sGen (fun g => { g with hold := some .spill })).set Reg.SCHED.STATE.state 1 1
    (t.gen 1).hold = some .spill ∧ t.launches 1 = false) ∧ (L.gen 1).ringLost = false ∧ L.stepLog 1 = 0 ∧
    (L.set Reg.REQ.STEP_RING_CFG.step_log2 1 1).stepLog 1 ≠ 0 ∧ L.reach .deviceKey (0x04400118 + 1 * 0x1000) = true ∧
    L.get Reg.PAGE.LOCK.lock (0x0440 * 16 + 1) = 0 ∧ (L.gen 1).reqs = [] ∧ ((sGen (fun g => { g with reqs := [rq .queued] })).gen 1).reqs ≠ [] ∧
    L.expRingBytes 1 ≠ 0 ∧ (L.gen 1).hold ≠ some .ring ∧
    (let q := req7 (fun q => { q with state := .prefill, landing := true })
     let t := sGen (fun g => { g with reqs := [q] })
     t.req 1 7 = some q ∧ q.status = none ∧ q.state ≠ .queued ∧ q.landing = true ∧ t.kvTable 1 q.group q.member = []) := by decide +kernel

/-! ## Witnesses: tiers, setts, the twin -/

/-- List 0 at the base of T1, its first descriptor of an op and first word. -/
def sList (x : TierList) (rs : Map Region) (bs : List Byte) : State :=
  ((owns 1).onPart 1 (fun k => { k with tiers := ⟨(1, ⟨2 ^ 52, 2 ^ 20, 1, .resident, 0, 0, 0⟩) :: rs, [(0, x)], 1⟩ })).writeBytes (2 ^ 52) bs
def list0 : TierList := ⟨2 ^ 52, 0, false, none, [], []⟩
/-- The bytes of a descriptor. -/
def desc0 (src dst len w20 w24 : Nat) : List Byte := leBytes 8 src ++ leBytes 8 dst ++ leBytes 4 len ++ leBytes 4 w20 ++ leBytes 4 w24 ++ leBytes 4 0
def dStream : List Byte := desc0 (2 ^ 52 + 2 ^ 16) 0x40 64 0 (2 ^ 28 + 3 * 2 ^ 18 + 2 ^ 17)
def dMove : List Byte := desc0 (2 ^ 63 + 4 * 2 ^ 48) (2 ^ 52 + 2 ^ 20) 0 0 (2 * 2 ^ 28 + 2 ^ 24)
def dGate : List Byte := desc0 0 0 0 0 (3 * 2 ^ 28 + 3 * 2 ^ 18)
def dEnd : List Byte := desc0 0 0 0 0 0
/-- Region 4, 4 KiB at T2. -/
def reg4 (st : RegionState) : Region := ⟨2 * 2 ^ 52, 4096, 0, st, 64, 2 ^ 52 + 2 ^ 20, 1⟩
theorem wit_TiersAndSett_lists : (let t := sList list0 [] dStream
    t.reach .deviceKey (regOff Reg.TIER.LIST_GO.go 1) = true ∧ (t.part 1).tiers.lists.length < 16 ∧
    16 ≤ (L2 (fun k => { k with tiers := ⟨[], (upTo 16).map (fun i => (i, list0)), 16⟩ }) |>.part 1).tiers.lists.length ∧
    t.tlist 1 0 = some list0 ∧ t.tlist 1 1 = none ∧ t.descError 1 list0 dStream = none ∧ bOp dStream = 1 ∧ bCores dStream = 1 ∧
    t.streamSlice 1 (bAfv dStream) (bFirst dStream) = some 5 ∧
    t.descError 1 { list0 with busy := some 0 } dStream = some 0x42 ∧ t.physical 1 0 = some 5 ∧
    [(0, 0, 3)].find? (fun z => z.1 == 0 && z.2.1 == 0) = some (0, 0, 3) ∧
    (sList list0 [(4, reg4 .resident)] dGate).descError 1 list0 dGate = none ∧ bOp dGate = 3 ∧ bCores dGate = 1 ∧ bOp dEnd = 0 ∧
    t.descError 1 list0 dEnd = none ∧ bOp dMove = 2) := by decide +kernel
theorem wit_TiersAndSett_reads : (sList list0 [] dStream).readDesc 1 (2 ^ 52) 0 = .ok dStream ∧
    (sList list0 [] dStream).descSource 1 (bSrc dStream) (bLen dStream) = .ok (2 ^ 52 + 2 ^ 16) ∧
    (sList list0 [(4, reg4 .resident)] dMove).readDesc 1 (2 ^ 52) 0 = .ok dMove ∧
    (sList list0 [] dGate).readDesc 1 (2 ^ 52) 0 = .ok dGate ∧ (sList list0 [] dEnd).readDesc 1 (2 ^ 52) 0 = .ok dEnd :=
  ⟨by rfl, by rfl, by rfl, by rfl, by rfl⟩
/-- Partition 1 with 2 MiB of T1 and 1 MiB of T2, and regions. -/
def sTier (rs : Map Region) : State :=
  (((((owns 1).onPart 1 (fun k => { k with tiers := ⟨rs, [], 0⟩ })).set Reg.PARTITION.ALLOT.t1_mib 1 2).set Reg.PARTITION.ALLOT.t2_mib 1 1).set
    Reg.PARTITION.T1_BASE.t1_base 1 (2 ^ 52)).set Reg.PARTITION.T2_BASE.t2_base 1 (2 * 2 ^ 52)
theorem wit_TiersAndSett_move : (let t := (sTier [(4, reg4 .resident)])
    t.descError 1 list0 dMove = none ∧ t.region 1 (refRegion (bSrc dMove)) = some (reg4 .resident) ∧
    (sTier [(4, reg4 .moving)]).region 1 4 = some (reg4 .moving) ∧ (sTier [(4, reg4 .migrating)]).region 1 4 = some (reg4 .migrating)) := by
  decide +kernel
theorem wit_TiersAndSett_migrate : (let y : Region := ⟨2 ^ 52, 2 ^ 19, 0, .resident, 0, 0, 0⟩
    let t := (((sTier [(4, y)]).set Reg.TIER.MIGRATE.enable 1 1).set Reg.TIER.T1_USE.allot_mib 1 1).set Reg.TIER.MIGRATE.high_pct 1 20
    let u := t.set Reg.TIER.MIGRATE.low_pct 1 10
    u.migrates 1 = true ∧ L.migrates 1 = false ∧ u.get Reg.TIER.MIGRATE.high_pct 1 * u.t1Allot 1 < 100 * u.t1Use 1 ∧ u.evictable 1 = [(4, y)] ∧
    u.get Reg.TIER.MIGRATE.low_pct 1 * u.t1Allot 1 / 100 < u.t1UseAfter 1 ∧ u.freePlace 1 2 y.len = some (2 * 2 ^ 52) ∧
    (let z := reg4 .resident
     let w := ((sTier [(4, z)]).set Reg.TIER.MIGRATE.enable 1 1).set Reg.TIER.T1_USE.allot_mib 1 2
     z.hint = 0 ∧ spaceOf z.base = 2 ∧ w.get Reg.TIER.MIGRATE.promote_uses 1 ≤ z.use ∧
     100 * (w.t1UseAfter 1 + z.len) ≤ w.get Reg.TIER.MIGRATE.low_pct 1 * w.t1Allot 1 ∧ (w.freePlace 1 1 z.len).isSome = true)) := by
  decide +kernel
theorem wit_TiersAndSett_regions : (let t := (sTier []).setB Reg.TIER.REGION_BASE.base 1 0 (2 ^ 52) |>.setB Reg.TIER.REGION_LEN.length 1 0 4096
    t.reach .deviceKey (regOff Reg.TIER.REGION_CTRL.cmd 1) = true ∧ t.region 1 0 = none ∧ t.regionFits 1 0 (2 ^ 52) 4096 = true ∧
    hintFits 1 (2 ^ 52) = true ∧ hintFits 15 (2 ^ 52) = false ∧ (sTier [(0, reg4 .resident)]).region 1 0 = some (reg4 .resident) ∧
    (sTier [(0, reg4 .resident)]).listNames 1 0 = false ∧ spaceOf (2 ^ 52) = 1 ∧ t1Ok (2 ^ 52) 1 = true ∧ t.parts ≠ [] ∧
    (∀ u ∈ (sList list0 [] []).parts, ∀ z ∈ u.2.tiers.regions, u.1 = 1 ∧ z = (1, ⟨2 ^ 52, 2 ^ 20, 1, .resident, 0, 0, 0⟩))) := by decide +kernel

/-- A sett of 4 granules per core and 2 of T1 per stack, one stack. -/
def sSett (x : Sett) : State :=
  ((((S.set Reg.PARTITION.CFG.role 1 1).set Reg.SETT.T0_AREA.t0_len 1 8192).set Reg.SETT.SPILL_LEN.spill_len 1 4096).set Reg.SETT.POLICY.lead 1 1).onPart 1
    (fun k => { k with setts := [(0, x)] })
def fr (st : FrameState) (place : Option Nat) (w : Option SettWait) : SettFrame := ⟨0, 2, st, place, 0, 0, w⟩
def opv (n : Nat) : Word := BitVec.ofNat 32 (n * 2 ^ 28 + 5 * 2 ^ 22 + 2)
theorem wit_TiersAndSett_ops : (let t := sSett Sett.zero
    t.partOf 5 = some 1 ∧ t.reach (.coreCode 5) (regOff Reg.SETT.OP.op 1) = true ∧ field (opv 1).toNat 31 28 = 1 ∧
    field (opv 1).toNat 18 13 = 0 ∧ field (opv 1).toNat 21 19 < 2 ^ t.settLog 1 ∧ 1 ≤ field (opv 1).toNat 12 0 ∧
    field (opv 1).toNat 12 0 ≤ t.settArea 1 ∧ granules ((t.sett 1 0).stackOf 0) + 2 ≤ t.stackRoom 1 ∧
    (t.core 5).sync.flags.toList.getD 5 .idle = .idle ∧ t.logical 1 5 = 0 ∧ ((t.sett 1 0).stackOf 0) = [] ∧
    t.stackRoom 1 < granules ((sSett { Sett.zero with frames := [fr .pushed (some 0) none] }).sett 1 0 |>.stackOf 0) + 2 ∧
    (((sSett { Sett.zero with frames := [fr .reserved (some 0) none] }).sett 1 0).stackOf 0).find? (fun z => z.state == .reserved) =
      some (fr .reserved (some 0) none) ∧
    ((sSett { Sett.zero with frames := [fr .pushed (some 0) none] }).sett 1 0).newestPushed 0 = some (fr .pushed (some 0) none) ∧
    ((sSett { Sett.zero with frames := [fr .pushed none none] }).sett 1 0).newestPushed 0 = some (fr .pushed none none) ∧
    ((((sSett { Sett.zero with frames := [fr .fetched (some 0) none] }).sett 1 0).stackOf 0).filter
      (fun z => z.state == .fetched && z.wait.isNone)).getLast? = some (fr .fetched (some 0) none)) := by decide +kernel
theorem wit_TiersAndSett_engine : (let w : SettWait := ⟨5, 0, 0⟩
    let t := (sSett { Sett.zero with frames := [fr .reserved none (some w)] }).onCore 5 (fun k =>
      { k with sync := { SyncUnit.zero with flags := SyncUnit.zero.flags.set! 5 .armed } })
    t.physical 1 0 = some 5 ∧ (t.sett 1 0).firstWait = some (fr .reserved none (some w), w) ∧ (t.sett 1 0).findPlace (t.settArea 1) 2 = some 0 ∧
    (t.sett 1 0).residentsIn 0 2 = [] ∧ (t.core 5).sync.flags.toList.getD 5 .idle = .armed ∧
    (sSett Sett.zero |>.sett 1 0).firstWait = none ∧ ((sSett Sett.zero).set Reg.SETT.POLICY.lead 1 2 |>.sett 1 0).residentsIn 0 2 = [] ∧
    ((sSett { Sett.zero with frames := [fr .pushed (some 0) none] }).sett 1 0).residentsIn 0 2 = [fr .pushed (some 0) none] ∧
    (let u := sSett { Sett.zero with frames := [fr .pushed none none], draining := [0] }
     (u.sett 1 0).fillNext = some (fr .pushed none none) ∧ (u.sett 1 0).residentsIn 0 (u.get Reg.SETT.POLICY.lead 1) = [] ∧
     (u.sett 1 0).occupied + 2 * u.get Reg.SETT.POLICY.lead 1 + 2 ≤ u.settArea 1 ∧ (u.sett 1 0).clear (u.settArea 1) 0 2 = true)) := by
  decide +kernel

/-- A pairing state, with device 9 of serial 7 named. -/
def sTwin (st : Nat) (t : Twin) : State :=
  { ((State.reset.set Reg.TWIN_LINK.STATUS.state 0 st).set Reg.TWIN_LINK.CFG.twin_device 0 9).set Reg.TWIN_LINK.TWIN_SERIAL.serial 0 7 with
    twin := t }
def beat (st device : Nat) : Heartbeat := ⟨5, 1, st, device, 7, 0⟩
def met9 : Twin := { Twin.zero with peer := some (9, 7) }
theorem wit_TwinAndCheckpoints_pairing : State.reset.reach .deviceKey Reg.TWIN_LINK.CMD.reg.reg = true ∧
    L.reach (.coreCode 5) Reg.TWIN_LINK.CMD.reg.reg = false ∧ State.reset.pairing = 0 ∧ (sTwin 1 Twin.zero).pairing = 1 ∧
    (let t := ((sTwin 2 met9).set Reg.PORT.STATUS.state 36 2).set Reg.PORT.STATUS.state 37 3
     t.pairing ≠ 0 ∧ t.portUp 36 = true ∧ t.portUp 37 = true) ∧ (sTwin 1 Twin.zero).namedTwin (beat 1 9) = true ∧
    (sTwin 0 Twin.zero).namedTwin (beat 1 9) = true ∧ (sTwin 1 Twin.zero).namedTwin (beat 1 8) = false ∧ (beat 2 9).state = 2 ∧
    (sTwin 2 met9).pairing = 2 ∧ (sTwin 2 met9).twin.peer = some ((beat 4 9).device, (beat 4 9).serial) ∧
    (sTwin 2 met9).twin.peer ≠ some ((beat 4 8).device, (beat 4 8).serial) ∧ (sTwin 3 met9).pairing = 3 ∧
    ((sTwin 3 { Twin.zero with peer := some (4, 4) }).set Reg.TWIN_LINK.CFG.adopt 0 1).get Reg.TWIN_LINK.CFG.adopt 0 = 1 ∧
    (sTwin 3 met9).get Reg.TWIN_LINK.CFG.adopt 0 = 0 ∧ (sTwin 3 { Twin.zero with peer := some (4, 4) }).namedTwin (beat 1 9) = true ∧
    (∀ y, (some (4, 4) : Option (Nat × DWord)) = some y → y.2 ≠ (beat 1 9).serial) ∧ (sTwin 2 { met9 with hold := true }).twin.hold = true := by
  decide +kernel
/-- A mixed partition in its learn phase with a CHECKPOINT entry due, in a pairing state. -/
def sCk (st : Nat) : State :=
  ((((sSlot 2 3 6 0 0).set Reg.CKPT.CFG.enable 1 1).set Reg.TWIN_LINK.STATUS.state 0 st).set Reg.TWIN_LINK.STORE_CFG.slot_len 0 8192).onPart 1
    (fun k => { k with plan := [due 4], sched := { k.sched with learnPhase := true } })
theorem wit_TwinAndCheckpoints_entry : (let t := sCk 2
    let s0 := t.dropEntry 1 (due 4)
    L.dueAction 1 4 = none ∧ t.dueAction 1 4 = some (due 4) ∧ t.role 1 = 2 ∧ t.learning 1 = true ∧ (t.red 1).isOpen = false ∧
    s0.getBit Reg.CKPT.CFG.enable 1 = true ∧ s0.ckptState 1 = 0 ∧ s0.pairing = 2 ∧ s0.channelTaken 1 = false ∧ s0.readBuf 1 = some (0, 0) ∧
    0x1000 + s0.weightLen 1 0 + s0.stateLen 1 ≤ s0.slotLen ∧ s0.hostBlock 1 (s0.ckpt 1).step = some (t0Addr 5 0) ∧
    s0.poisoned (t0Addr 5 0) 128 = false ∧ (sCk 3).pairing ≠ 2 ∧
    (s0.set Reg.TWIN_LINK.STORE_CFG.slot_len 0 8191).slotLen < 0x1000 + s0.weightLen 1 0 + s0.stateLen 1 ∧
    (s0.set Reg.CKPT.STATUS.state 1 1).ckptState 1 ≠ 0 ∧ (s0.set Reg.CKPT.CFG.enable 1 0).getBit Reg.CKPT.CFG.enable 1 = false) := by
  decide +kernel
/-- The twin is in a warm reset: a checkpoint waits (R457). -/
theorem wit_TwinAndCheckpoints_hold : (let t := (sCk 2).onTwin (fun _ => { met9 with hold := true })
    let s0 := t.dropEntry 1 (due 4)
    t.dueAction 1 4 = some (due 4) ∧ t.role 1 = 2 ∧ t.learning 1 = true ∧ (t.red 1).isOpen = false ∧ s0.getBit Reg.CKPT.CFG.enable 1 = true ∧
    s0.ckptState 1 = 0 ∧ s0.pairing = 2 ∧ s0.channelTaken 1 = false ∧ s0.readBuf 1 = some (0, 0) ∧
    0x1000 + s0.weightLen 1 0 + s0.stateLen 1 ≤ s0.slotLen ∧ s0.hostBlock 1 (s0.ckpt 1).step = some (t0Addr 5 0) ∧
    s0.poisoned (t0Addr 5 0) 128 = false ∧ s0.twin.hold = true ∧ ((sCk 2).dropEntry 1 (due 4)).twin.hold = false ∧
    (let u := (t.dropEntry 1 (due 4)).ckptTrigger 1 1
     u.pairing = 2 ∧ u.twin.peer = some ((beat 2 9).device, (beat 2 9).serial) ∧ (u.ckpt 1).job.map (fun j => j.phase) = some 3)) := by
  decide +kernel
/-- The core above a slice that failed the self-test of a cold boot (R484). -/
theorem test_t0_retires : ((State.reset.t0Retire [5, 70]).retired 70) = true ∧ ((State.reset.t0Retire [5, 70]).retired 69) = false := by
  decide +kernel
/-- A device whose store has one channel at the base of T1, and its writers. -/
def sStore (w : Map Writing) : State :=
  ((sTwin 2 { met9 with writers := w }).set Reg.TWIN_LINK.STORE_CFG.channels 0 1 |>.set Reg.TWIN_LINK.STORE_CFG.slot_len 0 8192).set
    Reg.TWIN_LINK.STORE_BASE.store_base 0 (2 ^ 52)
theorem wit_TwinAndCheckpoints_store : State.reset.storeOpen = false ∧ (sStore []).storeOpen = true ∧
    (sStore []).storeSlot 0 0 = some (2 ^ 52) ∧ (sStore []).storeSlot 0 1 = some (2 ^ 52 + 8192) ∧ (sStore []).pairing = 2 ∧
    Map.find (sStore []).twin.writers 0 = none ∧ Map.find (sStore [(0, ⟨1, 4, 0x100⟩)]).twin.writers 0 = some ⟨1, 4, 0x100⟩ ∧
    0x100 + 7936 ≤ (sStore []).slotLen ∧ (sStore []).slotLen < 0x100 + 7937 := by decide +kernel
/-- A checkpoint at a phase, and a restore in a state. -/
def job (phase : Nat) : CkptJob := ⟨1, 3, 0, 0, 6, 0, 2 ^ 52, [], phase⟩
def sJob (phase : Nat) : State := (sCk 2).onPart 1 (fun k => { k with ckpt := { Ckpt.zero with job := some (job phase) } })
def sRest (st : Nat) (x : Restore) : State :=
  ((sCk 2).set Reg.CKPT.STATUS.state 1 st).onPart 1 (fun k => { k with ckpt := { Ckpt.zero with restore := some x } })
theorem wit_TwinAndCheckpoints_jobs : ((sJob 0).ckpt 1).job = some (job 0) ∧ ((sJob 2).ckpt 1).job = some (job 2) ∧
    ((sJob 1).ckptSections 1 (job 1)).map Prod.snd = some false ∧ (sCk 2).reach .deviceKey (regOff Reg.CKPT.CMD.reg 1) = true ∧
    (sCk 2).holdsTask 1 = false ∧ (sCk 2).buffersRead 1 = false ∧ (sCk 2).ckptState 1 = 0 ∧
    { S with regs := (sCk 2).regs }.holdsTask 1 = true ∧ (sRest 2 ⟨⟨-1, 0⟩, ⟨-1, 0⟩, none⟩).ckptState 1 = 2 := by decide +kernel
theorem wit_TwinAndCheckpoints_poison : (let t := (sJob 0).poisonRange (2 ^ 52) 1
    (t.ckptSections 1 (job 0)).map Prod.snd = some true) := by decide +kernel
theorem wit_TwinAndCheckpoints_restore : (let x : Restore := ⟨⟨4, 6⟩, ⟨3, 6⟩, none⟩
    let t := (sRest 3 x).set Reg.CKPT.RESTORE_VERSION.version 1 7
    t.ckptState 1 = 3 ∧ (t.ckpt 1).restore = some x ∧
    chooseSlot ((restoreLanes x.a.step x.b.step).zipIdx.map (fun y => combine64 0x02 y.1 ((([] : List DWord).map BitVec.toNat).getD y.2 y.1))) =
      some (0, 4) ∧ versionOf 6 < t.get Reg.CKPT.RESTORE_VERSION.version 1 ∧
    (sRest 3 x).get Reg.CKPT.RESTORE_VERSION.version 1 ≤ versionOf 6 ∧
    chooseSlot ((restoreLanes (-1) (-1)).zipIdx.map (fun y => combine64 0x02 y.1 ((([] : List DWord).map BitVec.toNat).getD y.2 y.1))) = none) := by
  decide +kernel
/-- What a pull has read of the chosen slot: a section of 4 KiB of weights, no state. -/
def pulled : List Byte := leBytes 32 0 ++ leBytes 8 4096 ++ leBytes 8 0 ++ List.replicate 8144 0
theorem wit_TwinAndCheckpoints_pull : (let t := (sRest 4 ⟨⟨4, 6⟩, ⟨3, 6⟩, some (0, 4)⟩).set Reg.UPD.SBASE0.sbase0 1 (2 ^ 52)
    t.ckptState 1 = 4 ∧ 0x1000 + bytesN pulled 32 8 + bytesN pulled 40 8 ≤ pulled.length ∧ bytesN pulled 32 8 = t.weightLen 1 (slotOf 6) ∧
    t.regionHolds 1 0 0 = true ∧ t.updPlace 1 (t.sBaseNow 1 0) 0 (bytesN pulled 40 8) = some (2 ^ 52) ∧
    (t.hostBlock 1 4).isSome = true ∧ (leBytes 32 0).length < 0x1000) := by decide +kernel

end Sys2Proof.Tests
end

section
/-! PROOFS. The scope of the commands: when exec answers, what every step keeps, what holds after reset. -/

namespace Sys2Proof.Machine

/-! ## A command answers exactly where its unit exists -/

/-- Run a command under the bound check of the unit it names (R2, R346, R332, R371, Table 18.1). -/
def onUnit : Target → Res → Res
  | .device, r => r
  | .core c, r => onCoreId c r
  | .part p, r => onPid p r
  | .tenant t, r => onTid t r
  | .port p, r => onPort p r
  | .hostPort p, r => onHport p r
  | .qp q, r => onQp q r

theorem onUnit_of_exists {u : Target} (r : Res) (h : u.exists? = true) : onUnit u r = r := by
  have hb : u.number < u.bound := of_decide_eq_true h
  cases u with
  | device => rfl
  | core _ | part _ | tenant _ | port _ | hostPort _ | qp _ => exact if_pos hb

theorem onUnit_of_not_exists {u : Target} (r : Res) (h : u.exists? = false) : onUnit u r = .fault (targetFault u) := by
  have hb : ¬ u.number < u.bound := of_decide_eq_false h
  cases u with
  | device => exact absurd Nat.one_pos hb
  | core _ | part _ | tenant _ | port _ | hostPort _ | qp _ => exact if_neg hb

/-- Every arm of exec is a next state under the bound check of the command's unit. The unit of a hare message and of a loop
command depends on their operands. -/
theorem exec_eq_onUnit (i : Instr) (s : State) : ∃ t, exec i s = onUnit i.target (.next t) := by
  cases i with
  | hareMsgReceive msg => cases msg <;> exact ⟨_, rfl⟩
  | loopStart _ host _ _ _ | loopStop _ host _ _ | loopEnd host _ _ => cases host <;> exact ⟨_, rfl⟩
  | _ => exact ⟨_, rfl⟩

/-- Settles O4: a bound check answers what it is given where the unit exists, and the unit's fault where it does not. -/
theorem wellFormedNeverStops : Obligations.WellFormedNeverStops := by
  intro i s
  obtain ⟨t, ht⟩ := exec_eq_onUnit i s
  constructor
  · intro hwf
    exact ⟨t, ht.trans (onUnit_of_exists _ hwf)⟩
  · intro hwf
    exact ht.trans (onUnit_of_not_exists _ hwf)

/-! ## What every step keeps -/

/-- A row of a core is its operation under the bound check of the core. -/
theorem exec_eq_onCoreId {i : Instr} {c : Nat} {rom : Bool} {o : SlotOp} (hi : coreOp i = some (c, rom, o)) (s : State) :
    exec i s = onCoreId c (.next (s.runOne c rom o)) := by
  cases i <;> cases hi <;> rfl

/-- No command undoes what `Keeps` names: one law for the rows of a core, and one law each for the other commands. -/
theorem keeps_exec {z : State} (i : Instr) (s : State) (h : Keeps z s) : KeepsR z (exec i s) := by
  cases hi : coreOp i with
  | some x =>
    rw [exec_eq_onCoreId hi]
    exact keeps_onCoreId _ _ (keeps_State_runOne _ _ _ _ h).next
  | none =>
    cases i with
    | coldBoot channels t1 => exact keeps_execColdBoot channels t1 s h
    | bootGo port len => exact keeps_execBootGo port len s h
    | imageVerified sigOk => exact keeps_execImageVerified sigOk s h
    | bootKeysDerived setup => exact keeps_execBootKeysDerived setup s h
    | commitSvn r => exact keeps_execCommitSvn r s h
    | quote r tenant => exact keeps_execQuote r tenant s h
    | quoteDone tenant => exact keeps_execQuoteDone tenant s h
    | warmReset r => exact keeps_execWarmReset r s h
    | commitRoutes r => exact keeps_execCommitRoutes r s h
    | routeDataWrite r v => exact keeps_execRouteDataWrite r v s h
    | registerWrite r off wide v => exact keeps_execRegisterWrite r off wide v s h
    | lockSet r page => exact keeps_execLockSet r page s h
    | faultClear r page => exact keeps_execFaultClear r page s h
    | eventStatusClear r page bits raisedNow => exact keeps_execEventStatusClear r page bits raisedNow s h
    | create r pid => exact keeps_execCreate r pid s h
    | destroy r pid => exact keeps_execDestroy r pid s h
    | reset r pid => exact keeps_execReset r pid s h
    | tenantReset r pid => exact keeps_execTenantReset r pid s h
    | keyRoll r pid => exact keeps_execKeyRoll r pid s h
    | parkRequest r pid => exact keeps_execParkRequest r pid s h
    | wakeRequest r pid => exact keeps_execWakeRequest r pid s h
    | parkPlanWake pid => exact keeps_execParkPlanWake pid s h
    | idleEntry pid => exact keeps_execIdleEntry pid s h
    | enterDeep r => exact keeps_execEnterDeep r s h
    | exitDeep r => exact keeps_execExitDeep r s h
    | governorTick j powerW temps => exact keeps_execGovernorTick j powerW temps s h
    | vcoreSettled readMv timedOut => exact keeps_execVcoreSettled readMv timedOut s h
    | thermalTrip die temp => exact keeps_execThermalTrip die temp s h
    | thermalTripRelease => exact keeps_execThermalTripRelease s h
    | thermalShutdown => exact keeps_execThermalShutdown s h
    | railFault rail => exact keeps_execRailFault rail s h
    | pmbusPoll rail mv ma stageC statusWord ok => exact keeps_execPmbusPoll rail mv ma stageC statusWord ok s h
    | pmbusAlert segment rail statusWord => exact keeps_execPmbusAlert segment rail statusWord s h
    | timeWordSend => exact keeps_execTimeWordSend s h
    | timeWord port w => exact keeps_execTimeWord port w s h
    | holdoverExpiry => exact keeps_execHoldoverExpiry s h
    | forceStep r => exact keeps_execForceStep r s h
    | roleGenerate pid => exact keeps_execRoleGenerate pid s h
    | roleLearn pid => exact keeps_execRoleLearn pid s h
    | swap pid => exact keeps_execSwap pid s h
    | checkpoint pid => exact keeps_execCheckpoint pid s h
    | launch pid => exact keeps_execLaunch pid s h
    | plan pid cmdId entry => exact keeps_execPlan pid cmdId entry s h
    | request pid cmdId block => exact keeps_execRequest pid cmdId block s h
    | cancel pid cmdId reqId => exact keeps_execCancel pid cmdId reqId s h
    | prefixCreate pid cmdId reqId n handle group => exact keeps_execPrefixCreate pid cmdId reqId n handle group s h
    | prefixRelease pid cmdId handle group => exact keeps_execPrefixRelease pid cmdId handle group s h
    | nop pid cmdId => exact keeps_execNop pid cmdId s h
    | decodeStepLaunch pid => exact keeps_execDecodeStepLaunch pid s h
    | fillHoldExpiry pid => exact keeps_execFillHoldExpiry pid s h
    | joinDuringHold pid => exact keeps_execJoinDuringHold pid s h
    | stepLaunchMessage pid msg => exact keeps_execStepLaunchMessage pid msg s h
    | slotCommit pid seq slot res => exact keeps_execSlotCommit pid seq slot res s h
    | stepAbort pid seq => exact keeps_execStepAbort pid seq s h
    | streamLost pid reqId => exact keeps_execStreamLost pid reqId s h
    | stepRingLost pid => exact keeps_execStepRingLost pid s h
    | stepRingRestart r pid cfg v => exact keeps_execStepRingRestart r pid cfg v s h
    | spillReadDone pid => exact keeps_execSpillReadDone pid s h
    | resumePagesLanded pid reqId ok => exact keeps_execResumePagesLanded pid reqId ok s h
    | expHeaderWrite pid off v => exact keeps_execExpHeaderWrite pid off v s h
    | learnerCommit pid othersAnd => exact keeps_execLearnerCommit pid othersAnd s h
    | publicationRecord pid rec => exact keeps_execPublicationRecord pid rec s h
    | relayChunkPacket pid pkt => exact keeps_execRelayChunkPacket pid pkt s h
    | relayDigestPacket pid pkt => exact keeps_execRelayDigestPacket pid pkt s h
    | relayRestartPacket pid pkt => exact keeps_execRelayRestartPacket pid pkt s h
    | relayStall pid slot => exact keeps_execRelayStall pid slot s h
    | readinessResult pid slot ready formed => exact keeps_execReadinessResult pid slot ready formed s h
    | bufferDrained pid slot => exact keeps_execBufferDrained pid slot s h
    | loadBegin r pid pennant => exact keeps_execLoadBegin r pid pennant s h
    | loadEnd r pid pennant => exact keeps_execLoadEnd r pid pennant s h
    | unload r pid pennant => exact keeps_execUnload r pid pennant s h
    | listGo r pid => exact keeps_execListGo r pid s h
    | stream pid list => exact keeps_execStream pid list s h
    | streamLanded pid list desc core => exact keeps_execStreamLanded pid list desc core s h
    | moveRegion pid list => exact keeps_execMoveRegion pid list s h
    | moveRegionDone pid region => exact keeps_execMoveRegionDone pid region s h
    | gate pid list => exact keeps_execGate pid list s h
    | endList pid list => exact keeps_execEndList pid list s h
    | migrationEpoch pid => exact keeps_execMigrationEpoch pid s h
    | migrationEvict pid => exact keeps_execMigrationEvict pid s h
    | migrationPromote pid => exact keeps_execMigrationPromote pid s h
    | regionHintWrite r pid hint => exact keeps_execRegionHintWrite r pid hint s h
    | regionDefine r pid hint => exact keeps_execRegionDefine r pid hint s h
    | regionDelete r pid => exact keeps_execRegionDelete r pid s h
    | tierWatchdogExpiry core => exact keeps_execTierWatchdogExpiry core s h
    | t1UeRetry addr failsAgain => exact keeps_execT1UeRetry addr failsAgain s h
    | rngSeedWrite r pid slot seed => exact keeps_execRngSeedWrite r pid slot seed s h
    | seedExpansionDone pid slot => exact keeps_execSeedExpansionDone pid slot s h
    | reserve core val => exact keeps_execReserve core val s h
    | push core val => exact keeps_execPush core val s h
    | fetch core val => exact keeps_execFetch core val s h
    | release core val => exact keeps_execRelease core val s h
    | clear core val => exact keeps_execClear core val s h
    | settPlacement pid lcore => exact keeps_execSettPlacement pid lcore s h
    | settLeadSpill pid lcore => exact keeps_execSettLeadSpill pid lcore s h
    | settFill pid lcore => exact keeps_execSettFill pid lcore s h
    | redOpen core val => exact keeps_execRedOpen core val s h
    | stepOpenDone pid => exact keeps_execStepOpenDone pid s h
    | redClose core val => exact keeps_execRedClose core val s h
    | exponentAgreed pid bucket othersMax => exact keeps_execExponentAgreed pid bucket othersMax s h
    | redStaged core val => exact keeps_execRedStaged core val s h
    | redNotify core val => exact keeps_execRedNotify core val s h
    | raccArrival pid pkt => exact keeps_execRaccArrival pid pkt s h
    | raccAcknowledged pid bucket halfRun => exact keeps_execRaccAcknowledged pid bucket halfRun s h
    | checksumResult pid bucket othersSum => exact keeps_execChecksumResult pid bucket othersSum s h
    | bucketDeadline pid bucket => exact keeps_execBucketDeadline pid bucket s h
    | agreeTimeout pid bucket => exact keeps_execAgreeTimeout pid bucket s h
    | quiescenceDone pid => exact keeps_execQuiescenceDone pid s h
    | normResult pid othersLanes => exact keeps_execNormResult pid othersLanes s h
    | updateStart pid => exact keeps_execUpdateStart pid s h
    | weightGather pid pkt => exact keeps_execWeightGather pid pkt s h
    | updateStaged pid => exact keeps_execUpdateStaged pid s h
    | gatherTimeout pid => exact keeps_execGatherTimeout pid s h
    | packetReceive port pkt => exact keeps_execPacketReceive port pkt s h
    | linkCrcError port => exact keeps_execLinkCrcError port s h
    | bridgeFlitError bridge channel replays => exact keeps_execBridgeFlitError bridge channel replays s h
    | subcreditReceive pid pkt => exact keeps_execSubcreditReceive pid pkt s h
    | ackReceive pid pkt => exact keeps_execAckReceive pid pkt s h
    | hareGo core val => exact keeps_execHareGo core val s h
    | harePartReceive port pkt => exact keeps_execHarePartReceive port pkt s h
    | hareResult pkt => exact keeps_execHareResult pkt s h
    | hareMsgReceive msg => exact keeps_execHareMsgReceive msg s h
    | combineLoad r pid count => exact keeps_execCombineLoad r pid count s h
    | combineRemove r pid count => exact keeps_execCombineRemove r pid count s h
    | groupTableLoad r pid val => exact keeps_execGroupTableLoad r pid val s h
    | collGo r pid guidon => exact keeps_execCollGo r pid guidon s h
    | collDataReceive pid pkt => exact keeps_execCollDataReceive pid pkt s h
    | collectiveChunkDone pid guidon => exact keeps_execCollectiveChunkDone pid guidon s h
    | collectiveDeadline pid guidon => exact keeps_execCollectiveDeadline pid guidon s h
    | expGoRead core val => exact keeps_execExpGoRead core val s h
    | expGoCredit core val => exact keeps_execExpGoCredit core val s h
    | expReadServe pkt => exact keeps_execExpReadServe pkt s h
    | expCreditReceive pkt => exact keeps_execExpCreditReceive pkt s h
    | expResponse pid pkt => exact keeps_execExpResponse pid pkt s h
    | expOpTimeout pid op => exact keeps_execExpOpTimeout pid op s h
    | laneFailure port lanes => exact keeps_execLaneFailure port lanes s h
    | portTrainRetry port lanes => exact keeps_execPortTrainRetry port lanes s h
    | linkReset port => exact keeps_execLinkReset port s h
    | hostFrameReceive port f => exact keeps_execHostFrameReceive port f s h
    | arpRequest port target sender => exact keeps_execArpRequest port target sender s h
    | neighbourSolicitation port target sender => exact keeps_execNeighbourSolicitation port target sender s h
    | echoRequest port v6 dst src data => exact keeps_execEchoRequest port v6 dst src data s h
    | lldpReceive port chassis => exact keeps_execLldpReceive port chassis s h
    | lldpTransmit port => exact keeps_execLldpTransmit port s h
    | pfcFrame port enable pause => exact keeps_execPfcFrame port enable pause s h
    | ptpMessage port sync fabricAt ptpTicks => exact keeps_execPtpMessage port sync fabricAt ptpTicks s h
    | cnpReceive qp => exact keeps_execCnpReceive qp s h
    | rateRecovery qp => exact keeps_execRateRecovery qp s h
    | cmReq port priv => exact keeps_execCmReq port priv s h
    | cmRtu qp => exact keeps_execCmRtu qp s h
    | cmDreq qp => exact keeps_execCmDreq qp s h
    | rdmaWrite qp addr rkey data ce => exact keeps_execRdmaWrite qp addr rkey data ce s h
    | rdmaRead qp addr rkey len ce => exact keeps_execRdmaRead qp addr rkey len ce s h
    | commandRingSend qp data ce => exact keeps_execCommandRingSend qp data ce s h
    | rnrNak qp => exact keeps_execRnrNak qp s h
    | qpError qp => exact keeps_execQpError qp s h
    | cqRingRestart r tenant v => exact keeps_execCqRingRestart r tenant v s h
    | eqRingRestart r tenant v => exact keeps_execEqRingRestart r tenant v s h
    | eventsLost tenant => exact keeps_execEventsLost tenant s h
    | taskStart pid queue => exact keeps_execTaskStart pid queue s h
    | preemptRequest pid queue => exact keeps_execPreemptRequest pid queue s h
    | cheapPointSave core header => exact keeps_execCheapPointSave core header s h
    | preemptGraceExpiry core => exact keeps_execPreemptGraceExpiry core s h
    | fullSave core => exact keeps_execFullSave core s h
    | preemptWithdraw core => exact keeps_execPreemptWithdraw core s h
    | contextResume core => exact keeps_execContextResume core s h
    | suspend r pid => exact keeps_execSuspend r pid s h
    | suspendImageDone pid => exact keeps_execSuspendImageDone pid s h
    | preemptSlow core => exact keeps_execPreemptSlow core s h
    | restore r pid => exact keeps_execRestore r pid s h
    | semInitWrite r pid v => exact keeps_execSemInitWrite r pid v s h
    | coreRetire core => exact keeps_execCoreRetire core s h
    | owlVerdict core n agree => exact keeps_execOwlVerdict core n agree s h
    | owlLate core n => exact keeps_execOwlLate core n s h
    | digestResult pid othersLanes => exact keeps_execDigestResult pid othersLanes s h
    | faultRingRestart r pid cfg v => exact keeps_execFaultRingRestart r pid cfg v s h
    | pair r => exact keeps_execPair r s h
    | detach r => exact keeps_execDetach r s h
    | heartbeatSend fwCount => exact keeps_execHeartbeatSend fwCount s h
    | heartbeatReceive port hb => exact keeps_execHeartbeatReceive port hb s h
    | heartbeatMiss => exact keeps_execHeartbeatMiss s h
    | resetHoldExpiry => exact keeps_execResetHoldExpiry s h
    | ckptDataReceive m => exact keeps_execCkptDataReceive m s h
    | ckptManifest m => exact keeps_execCkptManifest m s h
    | ckptRestore r pid => exact keeps_execCkptRestore r pid s h
    | restoreAgreement pid othersLanes => exact keeps_execRestoreAgreement pid othersLanes s h
    | restoreAgreeTimeout pid => exact keeps_execRestoreAgreeTimeout pid s h
    | restorePullDone pid data => exact keeps_execRestorePullDone pid data s h
    | t0SelfTest r => exact keeps_execT0SelfTest r s h
    | t1ControllerLoop r => exact keeps_execT1ControllerLoop r s h
    | t1PhyLoop r => exact keeps_execT1PhyLoop r s h
    | deviceTestDone t1Fail t0Failed => exact keeps_execDeviceTestDone t1Fail t0Failed s h
    | loopStart r host port via v => exact keeps_execLoopStart r host port via v s h
    | loopStop r host port v => exact keeps_execLoopStop r host port v s h
    | loopEnd host port c => exact keeps_execLoopEnd host port c s h
    | farLoopRequest port lanes => exact keeps_execFarLoopRequest port lanes s h
    | retimingTimeout port => exact keeps_execRetimingTimeout port s h
    | farLoopNoAnswer port => exact keeps_execFarLoopNoAnswer port s h
    | bypass => exact keeps_execBypass s h
    | idcode => exact keeps_execIdcode s h
    | samplePreload preload => exact keeps_execSamplePreload preload s h
    | extest => exact keeps_execExtest s h
    | clamp => exact keeps_execClamp s h
    | highz => exact keeps_execHighz s h
    | bundle core rom w => exact keeps_execBundle core rom w s h
    | moveComplete core idx ue => exact keeps_execMoveComplete core idx ue s h
    | messageReceive pid idx => exact keeps_execMessageReceive pid idx s h
    | coldReset => exact keeps_execColdReset s h
    | partitionResetDone pid => exact keeps_execPartitionResetDone pid s h
    | regionMigrationDone pid region => exact keeps_execRegionMigrationDone pid region s h
    | linkControlWord port w => exact keeps_execLinkControlWord port w s h
    | _ => cases hi

/-- A step undoes nothing but the place of the command that it takes from the queue. -/
theorem step_keeps {s t : State} (h : step s = .next t) : Keeps { s with pending := s.pending.tail } t := by
  unfold step at h
  split at h
  next hp =>
    have hs : ({ s with pending := s.pending.tail } : State) = s :=
      congrArg (fun l => { s with pending := l }) (by rw [hp]; rfl)
    cases h
    rw [hs]
    exact keeps_State_tick s (Keeps.refl s)
  next c rest hp =>
    rw [hp]
    exact keeps_exec c _ (Keeps.refl _) t h

/-- Settles O6: a step keeps both by `Keeps`, whose laws say so of every operation of the device. -/
theorem stepKeepsMemoryAndRegisterWidth : Obligations.StepKeepsMemoryAndRegisterWidth := by
  intro s t hmem hregs hstep
  have hk := step_keeps hstep
  exact ⟨hk.mem hmem, hk.regs hregs⟩

/-! ## After reset -/

/-- The PARTITION pages end with number 1,023 (R459): the page that number 1,024 would have is the SCHED page of partition 0, where
the offset of PARTITION.STATE holds QUEUE_CFG, which is 0x704 after a cold reset. -/
theorem State.life_reset_1024 : State.reset.life 1024 = 4 := by decide

/-- Refutes O3: it claims a life of 0 of every number, and 1,024, the number of no partition, reads as life 4. -/
theorem not_resetLeaves : ¬ Obligations.ResetLeaves := by
  rintro ⟨-, -, -, -, -, -, -, hpart, -⟩
  obtain ⟨-, hlife⟩ := hpart 1024
  rw [State.life_reset_1024] at hlife
  omega

/-- Settles O7: no register is written, and no fuse of min_svn is blown. -/
theorem resetMeetsTheInvariant : Obligations.ResetMeetsTheInvariant := by
  refine ⟨State.reset_mem_wf, ?_, Nat.zero_le 63⟩
  intro x hx
  cases hx

end Sys2Proof.Machine
end

section
/-! PROOFS. SETT.OP and the reserved bits [18:13] of its value (R16, R259): the refutation of O59. -/

namespace Sys2Proof.Machine

/-! ## What a SETT.OP of op 5 does, whatever its reserved bits hold -/

/-- A SETT.OP of op 5 is CLEAR on every stack that exists: no other bit of the value has a part in it (Table 12.3). -/
theorem State.settOp_eq_settClear (s : State) (p l c val : Nat) (hop : field val 31 28 = 5)
    (hstack : field val 21 19 < 2 ^ s.settLog p) : s.settOp p l c val = s.settClear p l c := by
  simp [State.settOp, hop, Nat.not_le.mpr hstack]

/-- A core that reaches SETT.OP of its partition clears the sett of its logical core. -/
theorem exec_clear_eq {s : State} {p c : Nat} {v : Word} (hc : c < 1024) (hpart : s.partOf c = some p)
    (hreach : s.reach (.coreCode c) (regOff Reg.SETT.OP.op p) = true) (hop : field v.toNat 31 28 = 5)
    (hstack : field v.toNat 21 19 < 2 ^ s.settLog p) :
    exec (.clear c v) s = .next (s.settClear p (s.logical p c) c) := by
  have hrun : s.settCommand c 5 v = s.settClear p (s.logical p c) c := by
    simp [State.settCommand, State.coreStore, hop, hpart, hreach, State.settOp_eq_settClear s p _ c _ hop hstack]
  calc exec (.clear c v) s = .next (s.settCommand c 5 v) := if_pos hc
    _ = .next (s.settClear p (s.logical p c) c) := by rw [hrun]

/-- Returning flags to IDLE writes no register of any page. -/
theorem State.regs_foldl_disarmOn (c : Nat) (ws : List SettWait) (s : State) :
    (ws.foldl (fun t w => t.disarmOn c w.flag) s).regs = s.regs := by
  induction ws generalizing s with
  | nil => rfl
  | cons w ws ih => exact ih (s.disarmOn c w.flag)

/-- CLEAR records no fault: it writes no register of any page. -/
theorem State.settClear_regs (s : State) (p l c : Nat) : (s.settClear p l c).regs = s.regs :=
  State.regs_foldl_disarmOn c _ _

/-! ## The clause that fails, and where -/

/-- The claim of O59 about a CLEAR with a reserved bit set. -/
theorem clear_faults_of_tiersAndSett (h : Obligations.TiersAndSett) (s : State) {p c : Nat} {v : Word} (hp : p < 1024)
    (hc : c < 1024) (hpart : s.partOf c = some p) (hreach : s.reach (.coreCode c) (regOff Reg.SETT.OP.op p) = true)
    (hop : field v.toNat 31 28 = 5) (hreserved : field v.toNat 18 13 ≠ 0) :
    exec (.clear c v) s = .next (s.regFault (regOff Reg.SETT.OP.op p) 0x49) := by
  obtain ⟨-, -, -, -, -, -, -, -, -, -, -, -, -, -, -, -, -, -, hops, -⟩ :=
    h s .firmware p 0 0 0 0 0 0 c 0 0 0 0 ⟨0, 0, false, none, [], []⟩ [] ⟨0, 0, 0, .free, 0, 0, 0⟩
      ⟨0, 0, .reserved, none, 0, 0, none⟩ ⟨0, 0, 0⟩ v (0, 0, 0) hp hc
  exact (hops (5, .clear c v) (by simp)).2 ⟨hpart, hreach⟩ hop (.inl hreserved)

/-- Partition 1, a LIVE learner whose logical core 0 is core 5, on a device that is otherwise as reset leaves it. -/
def learnerOfCore5 : State :=
  ((State.reset.set Reg.PARTITION.STATE.life 1 2).set Reg.PARTITION.CFG.role 1 1).onSched 1 (fun d => { d with cores := [5] })

/-- CLEAR of stack 0 with bit 13, the lowest reserved bit, set. -/
def clearWithBit13 : Word := 0x50002000

theorem learnerOfCore5_partOf : learnerOfCore5.partOf 5 = some 1 := by decide

theorem learnerOfCore5_reach : learnerOfCore5.reach (.coreCode 5) (regOff Reg.SETT.OP.op 1) = true := by decide

/-- A fault at SETT.OP would be written in the page's FAULT register. -/
theorem learnerOfCore5_fault_regs :
    (learnerOfCore5.regFault (regOff Reg.SETT.OP.op 1) 0x49).regs ≠ learnerOfCore5.regs := by decide

/-- Refutes O59: a write ignores the reserved bits [18:13] of SETT.OP (R16), where the statement has every operation refused with
SETT_OP_INVALID when one of them is set. A CLEAR with bit 13 set clears the sett and records no fault. -/
theorem not_tiersAndSett : ¬ Obligations.TiersAndSett := by
  intro h
  have hfault := clear_faults_of_tiersAndSett h learnerOfCore5 (v := clearWithBit13) (by decide) (by decide)
    learnerOfCore5_partOf learnerOfCore5_reach (by decide) (by decide)
  have hclear := exec_clear_eq (v := clearWithBit13) (by decide) learnerOfCore5_partOf learnerOfCore5_reach (by decide) (by decide)
  injection hfault.symm.trans hclear with hsame
  apply learnerOfCore5_fault_regs
  rw [hsame, State.settClear_regs]

end Sys2Proof.Machine
end

section
/-! PROOFS. A waiting HARE_RESULT (R319, R320) and the entry of a digest (R403): the refutation of O57. -/

namespace Sys2Proof.Machine

/-! ## The entry of an engine's value, where a result of its tag waits -/

/-- After a group's combine states of a key are replaced by one, that one is found. -/
theorem State.hareOp_setHareOp (s : State) {g tag op : Nat} {x : HareOp} (hx : x.is g tag op = true) :
    (s.setHareOp g tag op [x]).hareOp g tag op = some x := by
  have hnone : (s.fab.ops.filter (fun y => !(y.is g tag op))).find? (fun y => y.is g tag op) = none := by
    simp
  simp [State.hareOp, State.setHareOp, State.onFab, List.find?_append, hnone, hx]

/-- The root of a tree group whose children's parts have not come enters its value and waits: it takes a result of the tag
that waits here, whichever group that is for. -/
theorem State.hareEnter_root_waits {s : State} {p g tag op ch : Nat} {u : HareUser} {v : List Byte}
    (hgroup : s.combineOf g = some ⟨p, .tree none ch⟩) (hop : opFits op (.tree none ch) = true)
    (hfree : s.hareOp g tag op = none)
    (hparts : takeParts 0 (if op = 9 then [] else (maskPorts ch).map (fun i => (codePort i, 0))) [] = none) :
    s.hareEnter p g tag op u v =
      (s.setHareOp g tag op [{ HareOp.fresh g tag op p with own := some (u, v) }]).takeWaiting (s.owner p) tag := by
  have hentered := s.hareOp_setHareOp (x := { HareOp.fresh g tag op p with own := some (u, v) }) (g := g) (tag := tag) (op := op)
    (by simp [HareOp.is, HareOp.fresh])
  have hgroup' (l : List HareOp) : (s.setHareOp g tag op l).combineOf g = some ⟨p, .tree none ch⟩ := hgroup
  have hruns : (s.setHareOp g tag op [{ HareOp.fresh g tag op p with own := some (u, v) }]).hareRun g tag op 5 =
      s.setHareOp g tag op [{ HareOp.fresh g tag op p with own := some (u, v) }] := by
    rw [State.hareRun, hentered, hgroup']
    simp only [HareOp.fresh] at hparts ⊢
    simp [hparts]
  simp only [State.hareEnter, hgroup, hop, hfree]
  simp only [Option.getD_none, ne_eq, not_true_eq_false, Bool.not_true, Bool.false_eq_true, or_self, if_false,
    show (HareOp.fresh g tag op p).own.isSome = false from rfl, hruns]

/-- Landing an armed flag of a running task writes no memory (R362: a saved context's would be in its record). -/
theorem State.landOn_mem_of_armed (s : State) (p : Nat) {c n : Nat}
    (h : (s.core c).sync.flags.toList.getD n .idle = .armed) : (s.landOn p c n).mem = s.mem := by
  rw [State.landOn, if_pos h, State.onCore_mem]

/-- A waiting result that ends an operation of code, on a device with no children in that operation's tree, writes value and
formed_time into the block (R320). -/
theorem State.takeWaiting_mem_of_code {s : State} {tenant tag c n block : Nat} {k : Packet} {x : HareOp} {v : List Byte}
    {parent : Option Nat} (hk : s.fab.results.find? (fun k => k.tag == tag && k.tenant == tenant) = some k)
    (hx : s.fab.ops.find? (fun x => x.tag == k.tag && s.takesResult k.tenant x.group x.pid) = some x)
    (htree : s.treeOf x.group = some (parent, 0)) (hown : x.own = some (.code c n block, v))
    (harmed : (s.core c).sync.flags.toList.getD n .idle = .armed) :
    (s.takeWaiting tenant tag).mem =
      Mem.writeBytes (Mem.writeBytes s.mem (nearAddr c (block + 16)) (pktPayload k)) (nearAddr c (block + 80)) (leBytes 8 k.arg) := by
  have hx' : (s.onFab (fun f => { f with results := f.results.erase k })).fab.ops.find? (fun x => x.tag == k.tag &&
      (s.onFab (fun f => { f with results := f.results.erase k })).takesResult k.tenant x.group x.pid) = some x := hx
  have htree' : (s.onFab (fun f => { f with results := f.results.erase k })).treeOf x.group = some (parent, 0) := htree
  have hleaf (t : State) (time : Nat) (w : List Byte) : t.resultDown x.pid x.tag time 0 w = t := by
    have hnone : maskPorts 0 = [] := by decide
    simp [State.resultDown, hnone]
  simp only [State.takeWaiting, hk, State.hareResultIn, hx', htree', hown, Option.map_some, Option.getD_some, hleaf,
    State.hareFinish]
  rw [State.landOn_mem_of_armed _ _ (by exact harmed)]
  rfl

/-! ## The entry of a staged buffer's digest -/

/-- Reporting a shard digest touches neither fabric, memory nor cores, and leaves the owner. -/
theorem State.reportDigest_frame (s : State) (p n : Nat) (d : DWord) :
    (s.reportDigest p n d).fab = s.fab ∧ (s.reportDigest p n d).mem = s.mem ∧ (s.reportDigest p n d).cores = s.cores ∧
      (s.reportDigest p n d).owner p = s.owner p := by
  unfold State.reportDigest
  dsimp only
  split
  · exact ⟨rfl, rfl, rfl, rfl⟩
  · split <;> exact ⟨rfl, rfl, rfl, rfl⟩

/-- A buffer's state register is not the one that names the owner of a partition. -/
theorem State.setBuf_owner (s : State) (p n b st q : Nat) : (s.setBuf p n b st q).owner p = s.owner p := by
  have hkey (hi lo : Nat) : regKey Reg.PARTITION.CFG.tenant p 0 ≠ regKey ⟨bufReg b, hi, lo⟩ p n := by
    simp only [regKey, bufReg, Reg.PARTITION.CFG.tenant, Reg.PUB.BUF0_STATE.state]
    omega
  rw [State.owner, State.get, State.setBuf, State.getB_setB_ne _ _ _ _ _ _ _ _ (.inl (hkey 63 32)),
    State.getB_setB_ne _ _ _ _ _ _ _ _ (.inl (hkey 2 0)), ← State.get, ← State.owner]

/-- UPD.STATUS is not the register that names the owner of a partition. -/
theorem State.set_updState_owner (s : State) (p v : Nat) : (s.set Reg.UPD.STATUS.state p v).owner p = s.owner p := by
  have hkey : regKey Reg.PARTITION.CFG.tenant p 0 ≠ regKey Reg.UPD.STATUS.state p 0 := by
    simp only [regKey, Reg.UPD.STATUS.state, Reg.PARTITION.CFG.tenant]
    omega
  exact State.get_set_ne _ _ _ _ _ _ (.inl hkey)

/-- The update sequencer's own state is no page register, so the owner stays. -/
theorem State.onUpd_owner (s : State) (p q : Nat) (f : Upd → Upd) : (s.onUpd p f).owner q = s.owner q := rfl

/-- On a digest step UPDATE_STAGED ends with the entry of the digest into the group's MAX (R403). -/
theorem State.updateStaged_of_digestStep {s : State} {p n b : Nat} (hread : s.readBuf p = some (n, b))
    (hran : (s.upd p).ran = true) (hcause : (s.upd p).cause = none) (hopen : (s.upd p).complete = false)
    (hgathered : s.gathered p = true) (hfilling : s.bufState p n (1 - b) = 1) (hdigest : s.digestStep p = true) :
    ∃ u v, s.updateStaged p = State.hareEnter u p (s.get Reg.CHECK.DIGEST.combine_group p) (s.red p).step 0x02 .digest v ∧
      u.fab = s.fab ∧ u.mem = s.mem ∧ u.cores = s.cores ∧ u.owner p = s.owner p := by
  let s1 := (s.setBuf p n (1 - b) 2 (s.bufPennant p n (1 - b))).onUpd p (fun u => { u with complete := true })
  let s2 := s1.set Reg.UPD.STATUS.state p 4
  let d := s1.shardDigest p n (1 - b)
  have howner : s2.owner p = s.owner p := by
    rw [State.set_updState_owner, State.onUpd_owner, State.setBuf_owner]
  obtain ⟨hfab, hmem, hcores, hreport⟩ := s2.reportDigest_frame p n d
  exact ⟨s2.reportDigest p n d, laneBytes 8 (digestLanes d),
    by simp [State.updateStaged, hread, hran, hcause, hopen, hgathered, hfilling, hdigest, s1, s2, d],
    hfab, hmem, hcores, hreport.trans howner⟩

/-! ## The clause that fails, and where -/

/-- The claim of O57 about UPDATE_STAGED of a whole buffer: memory stays as it is. -/
theorem updateStaged_mem_of_reductionAndUpdate (h : Obligations.ReductionAndUpdate) {s : State} {p n b : Nat} (hp : p < 1024)
    (hread : s.readBuf p = some (n, b)) (hran : (s.upd p).ran = true) (hcause : (s.upd p).cause = none)
    (hopen : (s.upd p).complete = false) (hgathered : s.gathered p = true) (hfilling : s.bufState p n (1 - b) = 1) :
    (s.updateStaged p).mem = s.mem := by
  obtain ⟨-, -, -, -, -, -, -, -, -, -, -, -, -, -, hstaged, -⟩ :=
    h s p 0 0 0 0 (mkPacket 0 0 0 0 0 0 0 []) 0 0 [] ⟨0, 0, 0, 0⟩ 0 hp (by decide)
  obtain ⟨t, hexec, -, -, -, hmem⟩ := hstaged n b hread hran hcause hopen hgathered hfilling
  have hnext : exec (.updateStaged p) s = .next (s.updateStaged p) := if_pos hp
  injection hnext.symm.trans hexec with ht
  rw [ht, hmem]

/-- A group of one member has no run of another owner to wait for. -/
theorem State.gathered_of_one_member {s : State} {p : Nat} (h : s.members p = 1) : s.gathered p = true := by
  simp [State.gathered, h]

/-- Code's SUM with tag 0 on combine group 1, entered by core 5 with its block at near-store offset 0 and its flag 0. -/
def codeSum : HareOp := { HareOp.fresh 1 0 0x01 1 with own := some (.code 5 0 0, List.replicate 64 0) }

/-- A result of tag 0, formed at fabric time 1. -/
def resultOfTag0 : Packet := mkPacket 0 1 1 0 0 0 1 (List.replicate 64 0)

/-- Partition 1 is the root of group 0, its digest group, and still waits for the child on port 0; in group 1 it has a parent.
The result waits (R319) since the parent was group 0's: a COMBINE_LOAD has moved it while code's SUM was in progress. -/
def fabricWithWaitingResult : Fabric :=
  { Fabric.zero with groups := [(0, ⟨1, .tree none 1⟩), (1, ⟨1, .tree (some 0) 0⟩)], ops := [codeSum], results := [resultOfTag0] }

/-- Partition 1 learns alone in its group: buffer 0 of slot 0 is ACTIVE, the write buffer holds every run of a check replay's
step, and core 5 waits for its SUM. -/
def replayWithWaitingResult : State :=
  { (State.reset.setBuf 1 0 0 3 6).setBuf 1 0 1 1 7 with
    parts := [(1, { Part.zero with upd := { Upd.zero with ran := true }, checks := { Checks.zero with replay := true } })]
    cores := [(5, { Core.idle with sync := { SyncUnit.zero with flags := SyncUnit.zero.flags.set! 0 .armed } })]
    fab := fabricWithWaitingResult }

theorem replayWithWaitingResult_readBuf : replayWithWaitingResult.readBuf 1 = some (0, 0) := by decide +kernel

theorem replayWithWaitingResult_filling : replayWithWaitingResult.bufState 1 0 1 = 1 := by decide +kernel

theorem replayWithWaitingResult_gathered : replayWithWaitingResult.gathered 1 = true :=
  State.gathered_of_one_member (by decide +kernel)

/-- Whatever an engine enters under another key, the waiting result ends code's SUM: its formed_time lands in code's block. -/
theorem takeWaiting_fabricWithWaitingResult {u : State} {x : HareOp} (hfab : u.fab = fabricWithWaitingResult)
    (howner : u.owner 1 = 0) (harmed : (u.core 5).sync.flags.toList.getD 0 .idle = .armed) :
    ((u.setHareOp 0 0 0x02 [x]).takeWaiting 0 0).mem =
      Mem.writeBytes (Mem.writeBytes u.mem (nearAddr 5 16) (pktPayload resultOfTag0)) (nearAddr 5 80) (leBytes 8 1) := by
  have htree : (u.setHareOp 0 0 0x02 [x]).treeOf 1 = some (some 0, 0) := by
    change u.treeOf 1 = some (some 0, 0)
    rw [State.treeOf, State.combineOf, hfab]
    rfl
  have htakes : (u.setHareOp 0 0 0x02 [x]).takesResult 0 1 1 = true := by
    rw [State.takesResult, htree, show (u.setHareOp 0 0 0x02 [x]).owner 1 = 0 from howner]
    rfl
  have hops : (u.setHareOp 0 0 0x02 [x]).fab.ops = [codeSum, x] := by
    change u.fab.ops.filter _ ++ [x] = _
    rw [hfab]
    rfl
  have hresults : (u.setHareOp 0 0 0x02 [x]).fab.results = [resultOfTag0] := by
    change u.fab.results = _
    rw [hfab]
    rfl
  apply State.takeWaiting_mem_of_code (k := resultOfTag0) (x := codeSum) _ _ htree rfl harmed
  · rw [hresults]
    rfl
  · rw [hops]
    exact List.find?_cons_of_pos (Bool.and_eq_true_iff.mpr ⟨rfl, htakes⟩)

/-- Entering the digest ends code's SUM, and its block is written. -/
theorem replayWithWaitingResult_mem :
    (replayWithWaitingResult.updateStaged 1).mem ≠ replayWithWaitingResult.mem := by
  obtain ⟨u, v, hentry, hfab, hmem, hcores, howner⟩ := State.updateStaged_of_digestStep replayWithWaitingResult_readBuf rfl rfl rfl
    replayWithWaitingResult_gathered replayWithWaitingResult_filling rfl
  have hgroup : replayWithWaitingResult.get Reg.CHECK.DIGEST.combine_group 1 = 0 := by decide +kernel
  have howner' : u.owner 1 = 0 := howner.trans (by decide +kernel)
  have hwaits : (replayWithWaitingResult.updateStaged 1).mem =
      ((u.setHareOp 0 0 0x02 [{ HareOp.fresh 0 0 0x02 1 with own := some (.digest, v) }]).takeWaiting 0 0).mem := by
    rw [hentry, hgroup, show (replayWithWaitingResult.red 1).step = 0 from rfl,
      State.hareEnter_root_waits (ch := 1) (by rw [State.combineOf, hfab]; rfl) (by decide)
        (by rw [State.hareOp, hfab]; rfl) (by decide), howner']
  rw [hwaits, takeWaiting_fabricWithWaitingResult hfab howner' (by rw [State.core, hcores]; decide), hmem]
  decide +kernel

/-- Refutes O57: it claims that UPDATE_STAGED leaves memory as it is. On a digest step the digest enters its group with the step
as its tag (R403), and a HARE_RESULT of that tag that waits here is matched by tag and tenant alone (log entry 46). It may end
code's operation of another group, whose result and formed_time are then written into code's block (R320). -/
theorem not_reductionAndUpdate : ¬ Obligations.ReductionAndUpdate := by
  intro h
  exact replayWithWaitingResult_mem (updateStaged_mem_of_reductionAndUpdate h (by decide) replayWithWaitingResult_readBuf rfl rfl rfl
    replayWithWaitingResult_gathered replayWithWaitingResult_filling)

end Sys2Proof.Machine
end

section
/-! PROOFS. A waiting HARE_RESULT (R319, R320) and the entry of a spread combine: the refutation of O51. -/

namespace Sys2Proof.Machine

/-! ## What sending a part of a combine leaves unchanged -/

/-- Only what sending changes differs: the free counter, the sequence numbers, the links, what has left. -/
structure SameButSent (s t : State) : Prop where
  mem : t.mem = s.mem
  cores : t.cores = s.cores
  regs : t.regs = s.regs
  groups : t.fab.groups = s.fab.groups
  ops : t.fab.ops = s.fab.ops
  results : t.fab.results = s.fab.results

theorem SameButSent.refl (s : State) : SameButSent s s := ⟨rfl, rfl, rfl, rfl, rfl, rfl⟩

theorem SameButSent.trans {s t u : State} (h : SameButSent s t) (h' : SameButSent t u) : SameButSent s u :=
  ⟨h'.mem.trans h.mem, h'.cores.trans h.cores, h'.regs.trans h.regs, h'.groups.trans h.groups, h'.ops.trans h.ops,
    h'.results.trans h.results⟩

theorem SameButSent.combineOf {s t : State} (h : SameButSent s t) (g : Nat) : t.combineOf g = s.combineOf g := by
  rw [State.combineOf, h.groups, ← State.combineOf]

theorem SameButSent.hareOp {s t : State} (h : SameButSent s t) (g tag op : Nat) : t.hareOp g tag op = s.hareOp g tag op := by
  rw [State.hareOp, h.ops, ← State.hareOp]

/-- A partition's owner stands in a page register. -/
theorem State.owner_of_regs {s t : State} (h : t.regs = s.regs) (p : Nat) : t.owner p = s.owner p := by
  simp [State.owner, State.get, State.getB, State.regAt, h]

theorem State.sendBy_sameButSent (s : State) (port : Nat) (k : Packet) : SameButSent s (s.sendBy port k) := by
  unfold State.sendBy
  dsimp only
  split <;> exact ⟨rfl, rfl, rfl, rfl, rfl, rfl⟩

theorem State.hareSend_sameButSent (s : State) (port cls pid tag arg : Nat) (bs : List Byte) :
    SameButSent s (s.hareSend port cls pid tag arg bs) :=
  SameButSent.trans (t := s.drawFree.2) ⟨rfl, rfl, rfl, rfl, rfl, rfl⟩ (State.sendBy_sameButSent _ _ _)

theorem State.ringSend_sameButSent (s : State) (x : HareOp) (r : Ring) (v : List Byte) :
    SameButSent s (s.ringSend x r v) := by
  have hcopy (t : State) (port n : Nat) : SameButSent t
      (if n = 0 then t else t.hareSend port 0 x.pid x.tag (partArg x.group x.op x.ring (n - 1)) v) := by
    split
    · exact .refl t
    · exact t.hareSend_sameButSent ..
  exact (hcopy s r.plus _).trans (hcopy _ r.minus _)

/-! ## The entry of code's value into a spread combine -/

/-- In a ring of two devices or more there is another device's copy to wait for (R318). -/
theorem takeParts_nil_of_ring {r : Ring} (hlen : 2 ≤ r.len) (ring : Nat) : takeParts ring (ringWants r) [] = none := by
  obtain ⟨n, hn⟩ : ∃ n, r.len / 2 = n + 1 := ⟨r.len / 2 - 1, by omega⟩
  simp [ringWants, ringHops, hn, upTo, List.range_succ_eq_map, takeParts]

/-- The first local value of a key that goes round a ring is sent and waits: the entry then takes a result of the tag that waits
here, whichever group that is for. -/
theorem State.hareEnter_spread_waits {s : State} {p g tag op : Nat} {r : Ring} {rs : List Ring} {u : HareUser} {v : List Byte}
    (hgroup : s.combineOf g = some ⟨p, .spread (r :: rs)⟩) (hlen : 2 ≤ r.len) (hop : opFits op (.spread (r :: rs)) = true)
    (hfree : s.hareOp g tag op = none) :
    ∃ w, SameButSent (s.setHareOp g tag op [{ HareOp.fresh g tag op p with own := some (u, v) }]) w ∧
      s.hareEnter p g tag op u v = w.takeWaiting (s.owner p) tag := by
  let x : HareOp := { HareOp.fresh g tag op p with own := some (u, v) }
  let w := (s.setHareOp g tag op [x]).ringSend x r v
  have hw : SameButSent (s.setHareOp g tag op [x]) w := State.ringSend_sameButSent _ x r v
  have hentered : w.hareOp g tag op = some x :=
    (hw.hareOp g tag op).trans (s.hareOp_setHareOp (by simp [x, HareOp.is, HareOp.fresh]))
  have hwgroup : w.combineOf g = some ⟨p, .spread (r :: rs)⟩ := (hw.combineOf g).trans hgroup
  have hruns : w.hareRun g tag op 5 = w := by
    rw [State.hareRun, hentered, hwgroup]
    simp [x, HareOp.fresh, takeParts_nil_of_ring hlen]
  refine ⟨w, hw, ?_⟩
  simp only [State.hareEnter, hgroup, hop, hfree]
  simp only [Option.getD_none, ne_eq, not_true_eq_false, Bool.not_true, Bool.false_eq_true, or_self, if_false,
    show (HareOp.fresh g tag op p).own.isSome = false from rfl]
  exact congrArg (fun t => t.takeWaiting (s.owner p) tag) hruns

/-- HARE_GO of a combine of the partition's, with an op that fits and no operation of the key begun, arms the flag and enters
the 64 bytes of the block (R320). -/
theorem State.hareGo_eq_hareEnter {s t : State} {p c val w tag : Nat} {mode : CombineMode}
    (hblock : field val 19 0 + 96 ≤ 2 ^ 20) (harm : s.armOn c (field val 25 20) = some t)
    (hword : s.readN (nearAddr c (field val 19 0)) 4 = w) (htag : s.readN (nearAddr c (field val 19 0 + 4)) 4 = tag)
    (hop : field w 7 0 ≠ 0x0A) (hgroup : s.combineOf (field w 31 16) = some ⟨p, mode⟩)
    (hfits : opFits (field w 7 0) mode = true) (hfree : s.hareOp (field w 31 16) tag (field w 7 0) = none) :
    s.hareGo p c val = t.hareEnter p (field w 31 16) tag (field w 7 0) (.code c (field val 25 20) (field val 19 0))
      (s.readBytes (nearAddr c (field val 19 0 + 16)) 64) := by
  rw [State.hareGo, if_neg (Nat.not_lt.mpr hblock)]
  simp [harm, hword, htag, hop, hgroup, hfits, hfree]

/-- A core that reaches HARE_GO of its partition runs it. -/
theorem exec_hareGo_eq {s : State} {p c : Nat} {v : Word} (hc : c < 1024) (hpart : s.partOf c = some p)
    (hreach : s.reach (.coreCode c) (regOff Reg.FAB.HARE_GO.reg p) = true) :
    exec (.hareGo c v) s = .next (s.hareGo p c v.toNat) := by
  have hrun : s.coreStore c Reg.FAB.HARE_GO.reg (fun q _ => s.hareGo q c v.toNat) = s.hareGo p c v.toNat := by
    simp [State.coreStore, hpart, hreach]
  calc exec (.hareGo c v) s = .next (s.coreStore c Reg.FAB.HARE_GO.reg (fun q _ => s.hareGo q c v.toNat)) := if_pos hc
    _ = .next (s.hareGo p c v.toNat) := by rw [hrun]

/-! ## The clause that fails, and where -/

/-- The claim of O51 about HARE_GO of a spread combine: memory stays as it is. -/
theorem hareGo_mem_of_collectivesAndHare (h : Obligations.CollectivesAndHare) {s : State} {p c w tag : Nat} {v : Word}
    {ring : Ring} {rings : List Ring} (hp : p < 1024) (hc : c < 1024) (hpart : s.partOf c = some p)
    (hreach : s.reach (.coreCode c) (regOff Reg.FAB.HARE_GO.reg p) = true) (hblock : field v.toNat 19 0 + 96 ≤ 2 ^ 20)
    (hidle : (s.core c).sync.flags.toList.getD (field v.toNat 25 20) .idle = .idle)
    (hword : s.readN (nearAddr c (field v.toNat 19 0)) 4 = w) (htag : s.readN (nearAddr c (field v.toNat 19 0 + 4)) 4 = tag)
    (hgroup : s.combineOf (field w 31 16) = some ⟨p, .spread (ring :: rings)⟩) (hlen : 2 ≤ ring.len) (hlo : 1 ≤ w % 256)
    (hhi : w % 256 ≤ 7) (hfree : s.hareOp (field w 31 16) tag (w % 256) = none) :
    (s.hareGo p c v.toNat).mem = s.mem := by
  subst hword htag
  obtain ⟨-, -, -, -, -, hgo, -⟩ := h s .firmware p c 0 v 0 (mkPacket 0 0 0 0 0 0 0 []) 0 0 0 ⟨[], [], none⟩ ⟨0, [], [], [], [], 0⟩
    ⟨0, 0, 0, false, [], []⟩ ⟨0, 0, 0, 0, 0, 0⟩ (fun _ => []) hp hc
  obtain ⟨-, -, hspread⟩ := hgo ⟨hpart, hreach⟩ hblock hidle
  obtain ⟨t, hexec, -, hmem, -⟩ := hspread ring rings hgroup hlen hlo hhi hfree
  injection (exec_hareGo_eq hc hpart hreach).symm.trans hexec with ht
  rw [ht, hmem]

/-- A ring of two devices: a device sends one copy, out of port 0 (R318). -/
def ringOfTwo : Ring := ⟨0, 1, 2, 0⟩

/-- Group 0 of partition 1 goes round a ring of two; in group 1, where code's SUM of tag 0 is in progress, the partition has a
parent. A result of tag 0 waits (R319): it came while group 0 was the one with a parent, and a COMBINE_LOAD has since given the
groups these entries. -/
def fabricWithRingAndResult : Fabric :=
  { Fabric.zero with
    groups := [(0, ⟨1, .spread [ringOfTwo]⟩), (1, ⟨1, .tree (some 0) 0⟩)]
    ops := [codeSum]
    results := [resultOfTag0] }

/-- Core 5 of the LIVE partition 1 waits with flag 0 for its SUM in group 1. Its block at near-store offset 128 asks for a SUM of
tag 0 in group 0. -/
def coreAtSecondSum : State :=
  { learnerOfCore5 with
    cores := [(5, { Core.idle with sync := { SyncUnit.zero with flags := SyncUnit.zero.flags.set! 0 .armed } })]
    mem := [(nearAddr 5 128, 1)]
    fab := fabricWithRingAndResult }

/-- HARE_GO with flag 1 and the block at offset 128. -/
def goOfBlock128 : Word := 0x00100080

theorem coreAtSecondSum_partOf : coreAtSecondSum.partOf 5 = some 1 := by decide

theorem coreAtSecondSum_reach : coreAtSecondSum.reach (.coreCode 5) (regOff Reg.FAB.HARE_GO.reg 1) = true := by decide +kernel

theorem coreAtSecondSum_owner : coreAtSecondSum.owner 1 = 0 := by decide +kernel

/-- The block's first word: op SUM of group 0. -/
theorem coreAtSecondSum_word : coreAtSecondSum.readN (nearAddr 5 128) 4 = 1 := by decide +kernel

theorem coreAtSecondSum_tag : coreAtSecondSum.readN (nearAddr 5 132) 4 = 0 := by decide +kernel

/-- The core after its flag 1 is armed. -/
def armedAtSecondSum : State :=
  coreAtSecondSum.onCore 5 (fun k => { k with sync := { k.sync with flags := k.sync.flags.set! 1 .armed } })

theorem coreAtSecondSum_arm : coreAtSecondSum.armOn 5 1 = some armedAtSecondSum := if_pos (by decide)

theorem armedAtSecondSum_owner : armedAtSecondSum.owner 1 = 0 :=
  (State.owner_of_regs (s := coreAtSecondSum) (State.onCore_regs _ _ _) 1).trans coreAtSecondSum_owner

/-- Entering the value into group 0 takes the waiting result for code's SUM in group 1: formed_time lands in that SUM's block. -/
theorem coreAtSecondSum_hareGo_mem : (coreAtSecondSum.hareGo 1 5 goOfBlock128.toNat).mem =
    Mem.writeBytes (Mem.writeBytes coreAtSecondSum.mem (nearAddr 5 16) (pktPayload resultOfTag0)) (nearAddr 5 80) (leBytes 8 1) := by
  obtain ⟨u, hu, hentry⟩ := State.hareEnter_spread_waits (s := armedAtSecondSum) (p := 1) (g := 0) (tag := 0) (op := 1)
    (r := ringOfTwo) (rs := []) (u := .code 5 1 128) (v := coreAtSecondSum.readBytes (nearAddr 5 144) 64)
    rfl (by decide) (by decide) rfl
  have hgo : coreAtSecondSum.hareGo 1 5 goOfBlock128.toNat = u.takeWaiting 0 0 := by
    rw [State.hareGo_eq_hareEnter (mode := .spread [ringOfTwo]) (by decide) coreAtSecondSum_arm coreAtSecondSum_word
      coreAtSecondSum_tag (by decide) rfl (by decide) rfl]
    exact armedAtSecondSum_owner ▸ hentry
  have howner : u.owner 1 = 0 := (State.owner_of_regs (hu.regs.trans (State.onFab_regs _ _)) 1).trans armedAtSecondSum_owner
  have htree : u.treeOf 1 = some (some 0, 0) := by
    rw [State.treeOf, hu.combineOf]
    rfl
  have htakes : u.takesResult 0 1 1 = true := by
    rw [State.takesResult, htree, howner]
    rfl
  rw [hgo, State.takeWaiting_mem_of_code (k := resultOfTag0) (x := codeSum) _ _ htree rfl _, hu.mem]
  · rfl
  · rw [hu.results]
    rfl
  · rw [hu.ops]
    exact List.find?_cons_of_pos (Bool.and_eq_true_iff.mpr ⟨rfl, htakes⟩)
  · rw [State.core, hu.cores]
    decide

/-- Refutes O51: it claims that HARE_GO of a spread combine leaves memory as it is. A HARE_RESULT of the same tag that waits here is
matched by tag and tenant alone (log entry 46), so the entry may end code's operation of another group, whose result and
formed_time are then written into its block (R320). -/
theorem not_collectivesAndHare : ¬ Obligations.CollectivesAndHare := by
  intro h
  have hsame := hareGo_mem_of_collectivesAndHare h (v := goOfBlock128) (ring := ringOfTwo) (rings := []) (by decide) (by decide)
    coreAtSecondSum_partOf coreAtSecondSum_reach (by decide) (by decide) coreAtSecondSum_word coreAtSecondSum_tag rfl (by decide)
    (by decide) (by decide) rfl
  rw [coreAtSecondSum_hareGo_mem] at hsame
  revert hsame
  decide +kernel

end Sys2Proof.Machine
end

section
/-! PROOFS. A waiting HARE_RESULT (R319, R320) and the entry into a restore's agreement (R425): the refutation of O60. -/

namespace Sys2Proof.Machine

/-! ## The entry into the agreement -/

/-- A partition that scans notes what the scan found, and then agrees. -/
def State.beforeAgreement (s : State) (p : Nat) (a b : SlotScan) : State :=
  (s.onCkpt p (fun c => { c with restore := some ⟨a, b, none⟩ })).set Reg.CKPT.STATUS.state p 3

/-- The result of a scan ends with the entry of the two steps into the MAX of the restore group, with the version as its tag
(R425). -/
theorem State.scanned_eq_hareEnter {s : State} {p : Nat} {a b : SlotScan} (hscan : s.ckptState p = 2) :
    s.scanned p a b = (s.beforeAgreement p a b).hareEnter p (s.get Reg.CKPT.CFG.combine_group p)
      (s.get Reg.CKPT.RESTORE_VERSION.version p) 0x02 .restore (laneBytes 8 (restoreLanes a.step b.step)) :=
  if_neg (fun hne => hne hscan)

/-- CKPT.STATUS is not the register that names the owner of a partition. -/
theorem State.beforeAgreement_owner (s : State) (p q : Nat) (a b : SlotScan) :
    (s.beforeAgreement p a b).owner q = s.owner q := by
  have hkey : regKey Reg.PARTITION.CFG.tenant q 0 ≠ regKey Reg.CKPT.STATUS.state p 0 := by
    simp only [regKey, Reg.CKPT.STATUS.state, Reg.PARTITION.CFG.tenant]
    omega
  exact (State.get_set_ne _ _ _ _ _ _ (.inl hkey)).trans (State.owner_of_regs (State.onCkpt_regs _ _ _) q)

/-! ## The clause that fails, and where -/

/-- The claim of O60 about the result of a scan: memory stays as it is. -/
theorem scanned_mem_of_twinAndCheckpoints (h : Obligations.TwinAndCheckpoints) {s : State} {p : Nat} {a b : SlotScan}
    (hp : p < 1024) (hscan : s.ckptState p = 2) : (s.scanned p a b).mem = s.mem := by
  obtain ⟨-, -, -, -, -, -, -, -, -, -, -, -, -, -, -, -, hscanned, -⟩ :=
    h s .firmware p 0 0 0 0 0 0 0 0 0 0 ⟨0, 0, 0, 0, 0, 0⟩ ⟨[], 0⟩ ⟨0, 0, 0, 0, 0, 0, 0, [], 0⟩ [] [] 0 ⟨0, 0, 0⟩ a b
      ⟨a, b, none⟩ [] hp
  obtain ⟨t, hexec, hmem, -⟩ := hscanned hscan
  have hnext : exec (.ckptDataReceive (.scanned p a b)) s = .next (s.scanned p a b) := rfl
  injection hnext.symm.trans hexec with ht
  rw [ht, hmem]

/-- The LIVE partition 1 scans its channel for a restore, its restore group is group 0, and core 5 waits for its SUM in group 1. -/
def scanWithWaitingResult : State :=
  { learnerOfCore5.set Reg.CKPT.STATUS.state 1 2 with
    cores := [(5, { Core.idle with sync := { SyncUnit.zero with flags := SyncUnit.zero.flags.set! 0 .armed } })]
    fab := fabricWithWaitingResult }

theorem scanWithWaitingResult_scans : scanWithWaitingResult.ckptState 1 = 2 := by decide +kernel

/-- A scan finds step 4 in slot A and step 3 in slot B: entering them ends code's SUM, and its block is written. -/
theorem scanWithWaitingResult_mem :
    (scanWithWaitingResult.scanned 1 ⟨4, 6⟩ ⟨3, 6⟩).mem ≠ scanWithWaitingResult.mem := by
  let u := scanWithWaitingResult.beforeAgreement 1 ⟨4, 6⟩ ⟨3, 6⟩
  have hgroup : scanWithWaitingResult.get Reg.CKPT.CFG.combine_group 1 = 0 := by decide +kernel
  have hversion : scanWithWaitingResult.get Reg.CKPT.RESTORE_VERSION.version 1 = 0 := by decide +kernel
  have howner : u.owner 1 = 0 := (State.beforeAgreement_owner _ _ _ _ _).trans (by decide +kernel)
  have hwaits : (scanWithWaitingResult.scanned 1 ⟨4, 6⟩ ⟨3, 6⟩).mem = ((u.setHareOp 0 0 0x02
      [{ HareOp.fresh 0 0 0x02 1 with own := some (.restore, laneBytes 8 (restoreLanes 4 3)) }]).takeWaiting 0 0).mem := by
    rw [State.scanned_eq_hareEnter scanWithWaitingResult_scans, hgroup, hversion,
      State.hareEnter_root_waits (ch := 1) rfl (by decide) rfl (by decide)]
    exact congrArg (fun k => (State.takeWaiting _ k 0).mem) howner
  rw [hwaits, takeWaiting_fabricWithWaitingResult rfl howner (by decide)]
  decide +kernel

/-- Refutes O60: it claims that the result of a scan leaves memory as it is. The two steps enter the restore group with the
version as their tag (R425), and a HARE_RESULT of that tag that waits here is matched by tag and tenant alone (log entry 46). It
may end code's operation of another group, whose result and formed_time are then written into code's block (R320). -/
theorem not_twinAndCheckpoints : ¬ Obligations.TwinAndCheckpoints := by
  intro h
  exact scanWithWaitingResult_mem (scanned_mem_of_twinAndCheckpoints h (by decide) scanWithWaitingResult_scans)

end Sys2Proof.Machine
end
